-- ==== Sys2Proof/Word.lean ====
section
/-!
DEFINITION. The plainest data of the model: bytes, and the sizes of time.

All register values of the object dictionary are natural numbers below 256 ^ size, least-significant
byte first (R6). Byte strings that travel in messages are lists of `Byte`.
-/

namespace Sys2Proof

/-- One byte of a message, of a flash cell or of a buffer. -/
abbrev Byte := BitVec 8

/-- One nanosecond in the unit of the model's clocks, 2^-32 ns (R25 holds the increment with a
32-bit fraction of a nanosecond). -/
abbrev nsUnit : Nat := 4294967296

/-- One FCLK cycle, nominally 0.625 ns (R25), in units of 2^-32 ns. -/
abbrev fclkUnit : Nat := 2684354560

/-- One REFCLK0 cycle, 10 ns (R35), in units of 2^-32 ns. -/
abbrev refclkUnit : Nat := 42949672960

/-- One XT32 tick, 30 517.578 125 ns (R35), in units of 2^-32 ns. -/
abbrev xt32Unit : Nat := 131072000000000

end Sys2Proof
end

