-- ==== Sys2Proof/Syntax.lean ====
section
/-!
DEFINITION. The commands of the block: one constructor of `Instr` for each row of
spec/opcode_table.json, with the operands that the outside world brings.

The table gives its rows no bit fields, so operands are the data the spec's own words name: a port,
a lane, a dictionary request, a frame, the readings of a sample, the verdict of a cryptographic
check that lies outside the model.
-/

namespace Sys2Proof

/-- A dictionary request as carried by a transport: the header of *Message format* and its payload.
`op` is the OPCODE byte, `len` the LENGTH field. -/
structure Req where
  ver : Nat
  op : Nat
  tag : Nat
  flags : Nat
  index : Nat
  sub : Nat
  stage : Nat
  inst : Nat
  len : Nat
  payload : List Byte
  mtag : Nat := 0      -- MCTP tag of the message that carried it
  deriving DecidableEq, Repr

/-- One MCTP packet of a message: first and last marks, the MCTP message tag, its bytes, and the EID that sent it (R44, R45). -/
structure MctpPacket where
  som : Bool
  eom : Bool
  tag : Nat
  bytes : List Byte
  src : Nat := 0
  deriving DecidableEq, Repr

/-- A Drudar frame: a body of 256 bytes and the trailer fields of R98. -/
structure Frame where
  body : List Byte
  ftype : Nat
  stomp : Bool
  keySlot : Nat
  ackValid : Bool
  seq : Nat
  ack : Nat
  crClass : Nat
  crTotal : Nat
  len : Nat
  fclass : Nat
  crc : Nat
  deriving DecidableEq, Repr

/-- The end of an equalization: whether it met its targets, and the lane skew then measured, in 0.1 ns (R72, R73). -/
structure EqResult where
  ok : Bool
  skew : Nat
  deriving DecidableEq, Repr

/-- What the end of Recovery measured: the formed lanes that did not lock again, and the skew in 0.1 ns (R72, R79). -/
structure Relock where
  unlocked : List Nat
  skew : Nat
  deriving DecidableEq, Repr

/-- A width change that has ended on a port, with the skew measured in its Recovery, in 0.1 ns (R72). -/
structure NewWidth where
  port : Nat
  skew : Nat
  deriving DecidableEq, Repr

/-- Alignment markers received, one for each lane (R96), and what the decoder of the codewords before them reports: the positions of
the symbols it corrected, and the codewords it could not correct (R95). -/
structure MarkersIn where
  markers : List Nat
  corrected : List Nat
  uncorrectable : Nat
  deriving DecidableEq, Repr

/-- What Configuration learned from the link partner of a CXL-mode port (R67, R70, R71, R73, R75).
`lanes` marks the formed lanes, port lane 0 in bit 0, that respond; `skew` is in units of 0.1 ns; `reversed` tells that the board
wires the lanes in reversed order. -/
structure CfgResult where
  lanes : Nat
  invert : Nat
  skew : Nat
  flit256 : Bool
  flit68 : Bool
  flitMode : Bool
  maxRate : Nat
  l0p : Bool
  bypass : Bool
  mem : Bool
  cache : Bool
  backInv : Bool
  reversed : Bool := false
  deriving DecidableEq, Repr

/-- What enumeration found behind a downstream port: the capacity of a single-logical device, or the
allocation of each logical device of a multi-logical one (R125). -/
structure EnumResult where
  found : Bool
  single : Nat
  lds : List (Nat × Nat)
  deriving DecidableEq, Repr

/-- The channel on which a message arrives, in the order of CLASS_MAP (*CXL channels and default
classes*), and the Drudar and port-based-routing forms. -/
inductive Chan where
  | ioPosted | ioNonPosted | ioCpl | memReq | memRwD | memBiRsp | memNdr | memDrs | memBisnp
  | cacheD2HReq | cacheH2DReq | cacheRsp
  | druReq | druRsp | druSnoop
  | pbrReq
  deriving DecidableEq, Repr

/-- The memory operation a request asks for: the CXL.mem opcodes by which R198 classifies requests,
the CXL.io operations, and the Drudar request codes 1-9. -/
inductive MemOp where
  | memRdS | memRdData | memRdA | memRdNoOp | memRdI | memInvA | memWrPtl | memWrI | memWrS | memWrA
  | clnEvct | otherRead | otherWrite
  | ioRead | ioWrite | ioConfig | ioMessage | atomic
  | dru (code : Nat)
  | d2h (p2p : Bool)
  deriving DecidableEq, Repr

/-- The first flit of a message at an ingress port, as stage 2 parses it (R11, R114, R128). -/
structure MsgIn where
  chan : Chan
  op : MemOp
  addr : Nat          -- host physical address; device address when routed by fabric ID; bus number in [15:8] when routed by ID
  srcFid : Nat
  dstFid : Nat
  byFid : Bool        -- the destination is a fabric ID
  tag : Nat           -- the requester's tag
  bytes : Nat         -- bytes the request names
  len : Nat           -- length in cells from the header
  cls : Nat           -- FCLASS of a Drudar DATA frame
  rcnt : Nat          -- RCNT of a Drudar request (R215)
  poison : Bool
  stomp : Bool        -- arrives stomped from a Drudar peer (R150)
  whole : Bool        -- a write of the whole 64-byte line
  p2pPart : Nat       -- target partition of a device's peer-to-peer request; 64 none (R2)
  data : List Byte
  deriving DecidableEq, Repr

/-- A completion that returns to the GT9: the tracking entry it names, and what it carries. -/
structure CplIn where
  isTrk : Bool
  entry : Nat
  chan : Chan         -- the CXL channel it arrives on
  write : Bool
  poison : Bool
  error : Bool
  len : Nat
  data : List Byte
  deriving DecidableEq, Repr

/-- The electrical readings of one channel sample of 1 µs (R268, R289): millivolts, milliamperes,
the gate-to-source state of each feed, and the level of SEAT_N. -/
structure Reading where
  vinA : Nat
  vinB : Nat
  shA : Int           -- voltage across feed A's shunt, nV, negative for reverse (R289)
  shB : Int
  srcA : Nat
  srcB : Nat
  vout : Nat
  enhA : Bool         -- feed A's gate is at 9 V or more above its source (R275)
  enhB : Bool
  seatN : Bool        -- level of SEAT_N_Sn: true high
  deriving DecidableEq, Repr

/-- One finished background scan of a lane, as a Quartz engine measures it (R86): eye heights in mV
and widths in mUI, one per eye. -/
structure EyeScan where
  lane : Nat
  eyes : List (Nat × Nat)
  deriving DecidableEq, Repr

/-- A lane margining command of a link partner (R88). -/
inductive MarginCmd where
  | normal
  | report
  | timing (left : Bool) (steps : Nat)
  | voltage (down : Bool) (steps : Nat)
  deriving DecidableEq, Repr

/-- A FM API Physical Port Control operation (R139). -/
inductive PortOp where
  | assertPerst | deassertPerst | reset
  deriving DecidableEq, Repr

/-- A host's write to the configuration space of a vPPB (R121). -/
inductive VppbReg where
  | busNumbers | memoryWindow | hdmDecoder
  deriving DecidableEq, Repr

/-- What Talus measured in a margin window (R353, R354, R364): a pair that is gated gives none. -/
structure TalusMeas where
  ro : List (Option (Nat × Nat))      -- pairs 0..: counts of the stressed and of the reference oscillator over one gate
  sram : List Nat             -- probes 0..: steps of 5 mV down from VDD_CORE that a March test passed
  ce : List (Nat × Nat × Nat × Bool)   -- stack, unit, corrected errors, an uncorrectable error
  deriving DecidableEq, Repr

/-- What the recovery flash holds, as the boot ROM reads it (R397, R336). -/
structure RecImage where
  headerOk : Bool
  svn : Nat
  version : Nat
  crypto : Bool
  deriving DecidableEq, Repr

/-- A wake source of R300. -/
inductive WakeSrc where
  | interrupt | transport | partner (p : Nat)
  deriving DecidableEq, Repr

/-- The keys of one slot that IDE key management sets: a 256-bit key and a 32-bit salt per direction (R107, R341). -/
structure IdeKeys where
  txKey : Nat
  txSalt : Nat
  rxKey : Nat
  rxSalt : Nat
  deriving DecidableEq, Repr

/-- The keys that one vendor-defined request places, and the slot of the port that takes them (R107). -/
structure SlotKeys where
  slot : Nat
  keys : IdeKeys
  deriving DecidableEq, Repr

/-- A source to deliver (R314), and whether the Ridge core it names executes its wait instruction now (R320). -/
structure Delivery where
  src : Nat
  waits : Bool
  deriving DecidableEq, Repr

/-- The dictionary endpoint or mailbox on which an SPDM request arrives (R339). -/
inductive SpdmVia where
  | mctp (ep : Nat)
  | doe (part : Nat)
  | peer (port : Nat)
  deriving DecidableEq, Repr

/-- Commands: one constructor per row of spec/opcode_table.json, in the table's order. -/
inductive Instr where
  -- fabric time (R25 to R40, R106, R409, R410)
  | fabricTimeAdvance (n : Nat)
  | ppsEdge
  | timeRefLost
  | timeFreqUpdate (edges : Nat)
  | slewEnd
  | timeFlitTx (p : Nat)
  | timeFlitRx (p : Nat) (f : Frame) (tagOk : Bool)
  | timeSourceSwitch
  | timeHoldover
  | timeUnsync
  | ptmRequest (p : Nat) (turn : Nat)
  | timePpsOutStart
  | timePpsOutEnd
  | schedFire
  | firmwareEventStart
  | schedTimeWrite (ep slot value : Nat)
  -- the object dictionary (R41 to R64, R411 to R414)
  | mctpPacketRx (ep : Nat) (pkt : MctpPacket)
  | msgReassemblyTimeout (ep tag : Nat)
  | i3cEntdaa (addr : Nat)
  | tenantMailboxCommand (p opcode : Nat) (bytes : List Byte)
  | read (ep : Nat) (r : Req)
  | write (ep : Nat) (r : Req)
  | blockRead (ep : Nat) (r : Req)
  | blockWrite (ep : Nat) (r : Req)
  | readInstances (ep : Nat) (r : Req)
  | stageOpen (ep : Nat) (r : Req)
  | stageCommit (ep : Nat) (r : Req)
  | stageDiscard (ep : Nat) (r : Req)
  | stageIdleDiscard (st : Nat)
  | lopAbort (ep : Nat) (r : Req)
  | lopExpire (h : Nat)
  | subscribe (ep : Nat) (r : Req)
  | unsubscribe (ep : Nat) (r : Req)
  | evtFetch (ep : Nat) (r : Req)
  | opcodeUnknownRequest (ep : Nat) (r : Req)
  | eventSend (ep : Nat)
  | epochDrainEnd (h : Nat)
  -- lanes and CXL-mode links (R65 to R89)
  | ladderStart (p : Nat)
  | receiverDetect (p : Nat)
  | rungEqDone (p : Nat) (r : EqResult)
  | configurationEnd (p : Nat) (c : CfgResult)
  | trainTimeout (p : Nat)
  | trainBackoffEnd (p : Nat)
  | linkLayerInit (p : Nat)
  | enumerationDone (p : Nat) (e : EnumResult)
  | aspmL1Request (p : Nat)
  | laneLockLost (lane : Nat) (uncorrectable : Bool)
  | recoveryEnd (p : Nat) (ok : Bool) (r : Relock)
  | laneFailWindowEnd (lane : Nat)
  | widthChangeDone (w : NewWidth)
  | widenAttempt (p : Nat)
  | lanePrbsModeWrite (ep lane value : Nat)
  | laneClearWrite (ep lane value : Nat)
  | quartzRound (q : Nat) (margins : List (Nat × MarginCmd)) (scan : Option EyeScan)
  | quartzPrivSlot (lane f0 f1 : Nat) (doubled : Bool) (f2 : Nat)
  | marginCommand (lane : Nat) (c : MarginCmd)
  -- Drudar mode (R90 to R109)
  | druSignalDetect (p mask : Nat)
  | trainingWordRx (p lane word : Nat)
  | druSyncTimeout (p : Nat)
  | druEqTimeout (p : Nat)
  | druFecLock (p : Nat) (skews : List Nat)
  | initTx (p : Nat)
  | initRx (p : Nat) (f : Frame)
  | dataFrameRx (p : Nat) (f : Frame)
  | mgmtFrameRx (p : Nat) (f : Frame)
  | idleFrameRx (p : Nat) (f : Frame)
  | macFrameRx (p : Nat) (f : Frame) (tagOk : Bool)
  | macFrameTx (p : Nat)
  | nakRx (p : Nat) (f : Frame)
  | druReplayTimeout (p : Nat)
  | retrainRx (p : Nat) (f : Frame)
  | retrainStart (p cause : Nat)
  | druRetrainDone (p : Nat)
  | druRetrainTimeout (p : Nat)
  | alignmentMarkerTx (p : Nat)
  | alignmentMarkerRx (p : Nat) (m : MarkersIn)
  | druMarkersLost (p : Nat)
  | druLaneLost (p lane cause : Nat)
  | dropRx (p : Nat) (f : Frame)
  | addRx (p : Nat) (f : Frame)
  | dropAddResend (p : Nat)
  | druLaneRestoreAttempt (p lane : Nat) (clean : Bool)
  -- switching core, routing and binding (R110 to R164)
  | messageIngress (p : Nat) (m : MsgIn)
  | cellIngress (p cls : Nat) (last stomp : Bool)
  | tagReadDone (line : Nat) (lost : Bool)
  | completionRx (p : Nat) (c : CplIn)
  | rttEntryGrant (p : Nat)
  | rttTimeout (entry : Nat)
  | routeHoldRelease (p k : Nat)
  | egressDecision (p : Nat) (eccBad : Bool)
  | msgTailTimeout (p cls : Nat)
  | multicastEnqueue
  | portDlDown (p cause : Nat)
  | flushDone (p : Nat)
  | portFlushExit (p : Nat)
  | hgRebalanceWrite (ep g value : Nat)
  | hostConfigWrite (p k : Nat) (reg : VppbReg) (value : Nat)
  | pendingBindEffect (v : Nat)
  | unbindWalkEnd (w : Nat)
  | identifySwitchDevice (ep : Nat)
  | getPhysicalPortState (ep : Nat) (ports : List Nat)
  | physicalPortControl (ep p : Nat) (o : PortOp)
  | getVirtualCxlSwitchInfo (ep : Nat) (parts : List Nat)
  | bindVppb (ep part k port ldid : Nat)
  | unbindVppb (ep part k : Nat)
  | getLdInfo (ep port : Nat) (payload response : List Byte)
  | getLdAllocations (ep port : Nat) (payload response : List Byte)
  | setLdAllocations (ep port : Nat) (payload response : List Byte) (allocs : List (Nat × Nat))
  | tunnelManagementCommand (ep port : Nat) (payload response : List Byte)
  | fmApiUnsupported (ep opcode : Nat)
  -- egress scheduling (R165 to R184)
  | gateEntryChange (p : Nat)
  | didtGclWarnStart
  | didtGclWarnEnd
  | histSample
  | histClearWrite (ep p value : Nat)
  -- coherence (R185 to R231)
  | cohRdS (slice slot : Nat)
  | cohRdO (slice slot : Nat)
  | cohUpg (slice slot : Nat)
  | cohRdNc (slice slot : Nat)
  | cohWrNc (slice slot : Nat)
  | cohWbI (slice slot : Nat)
  | cohWbS (slice slot : Nat)
  | cohWbO (slice slot : Nat)
  | cohEvc (slice slot : Nat)
  | birspi (p biid bitag : Nat)
  | birsps (p biid bitag : Nat)
  | birspe (p biid bitag : Nat)
  | dirSetReadDone (slice set : Nat) (corrected lost : List Nat)
  | memReadDataReturn (slice trk : Nat) (poison : Bool) (data : List Byte)
  | memWriteCompletion (slice trk : Nat)
  | homeTimeout (slice entry : Nat)
  | rsvExpired (slice reg : Nat)
  | holdTimeout (p k : Nat)
  | walkerSetVisit (slice : Nat)
  | deviceBisnp (p ld addr snp : Nat)
  | dirLookupWrite (ep value : Nat)
  | dirSetClearWrite (ep value : Nat)
  | agtReviveWrite (ep a value : Nat)
  -- live region move (R232 to R249)
  | moveStart (ep c value : Nat)
  | granuleCopy (c : Nat) (searchBad clearBad setNow : Bool)
  | movePassEnd (c : Nat)
  | moveFreezeLimit (c : Nat)
  | moveCommitPoint (c : Nat)
  | redirectFlashWritten
  | moveUndoDone (c : Nat)
  -- access control and the debug master (R250 to R265, R348)
  | flTagFillWrite (ep value : Nat)
  | flTagProbeWrite (ep value : Nat)
  | dmGoRead (ep : Nat)
  | dmGoWrite (ep : Nat)
  | dmAccessEnd (k l m : Unit)
  -- slot power (R266 to R292)
  | channelSample (ch n : Nat) (r : Reading)
  | feedWindowExit (ch feed : Nat)
  | insertionTimerDone (ch feed : Nat)
  | seatConfirmed (ch : Nat)
  | rampStart (ch : Nat)
  | powerGoodSet (ch : Nat)
  | perstRelease (ch : Nat)
  | gateTimeout (ch feed : Nat)
  | fastTrip (ch feed : Nat)
  | breakerTrip (ch : Nat)
  | outputUvTrip (ch : Nat)
  | retryTimerEnd (ch : Nat)
  | retriesReset (ch : Nat)
  | slotLinkLost (d : Nat)
  | slotLinkRestored (d : Nat)
  | feedLost (ch feed : Nat)
  | feedRestored (ch feed : Nat)
  | shareLimit (ch : Nat)
  | seatOpen (ch : Nat)
  | faultCancelled (ch : Nat)
  | fetShort (ch feed : Nat)
  | perstWaitEnd (ch : Nat)
  | chEnableWrite (ep ch value : Nat)
  | chFaultClearWrite (ep ch value : Nat)
  | chMeasClearWrite (ep ch value : Nat)
  | slotThresholdWrite (ep obj inst value : Nat)
  | feedMeasUpdate (f : Nat)
  | bayWake (ch : Nat)
  -- power modes (R293 to R309)
  | pmEnterWrite (ep value : Nat)
  | pmQuiesceDone
  | pmPortL1 (p : Nat)
  | pmCommitPoint
  | pmQuiesceTimeout
  | pmL1Timeout (p : Nat)
  | pmUndoDone
  | trimEntryDone
  | serviceDrainDone
  | wakeStart (src : WakeSrc)
  | wakeTimer
  | vrSettled
  | pllLocked
  | rampChainClosed
  | hbmReady
  | wakeTrafficReady
  | didtWakeRelease
  | avsVoltageWrite (mv : Nat) (confirmed : Bool)
  | avsWriteTimeout
  | avsPoll (mv amps : Nat)
  -- interrupts (R310 to R324)
  | intDeliver (d : Delivery)
  | intClaim (t : Nat)
  | intComplete (t src : Nat)
  | intCauseClrWrite (ep src value : Nat)
  | intEnableWrite (ep src value : Nat)
  | intGlobalEnWrite (ep value : Nat)
  | intRoutingWrite (ep obj inst value : Nat)
  | intWakeEnWrite (ep src value : Nat)
  | doorbellSet (core : Nat) (level : Bool)
  -- performance counters (R325 to R333)
  | counterTick
  | cntOverflow (i : Nat)
  | captureClose (k : Nat)
  | smpReleaseWrite (ep k value : Nat)
  | cntConfigWrite (ep obj inst value : Nat)
  | cntValueWrite (ep i value : Nat)
  | cntOvfClrWrite (ep k value : Nat)
  -- security and debug (R334 to R352)
  | lcNonceRead (ep : Nat)
  | lcRequestWrite (ep value : Nat) (vendorOk ownerOk : Bool)
  | fwChunkWrite (ep : Nat) (bytes : List Byte)
  | fwUpdateWrite (ep value : Nat)
  | fwVerifyDone (keyOk sigOk bodyOk flashOk : Bool)
  | fwConfirmWrite (ep value : Nat)
  | fwConfirmTimeout
  | spdmGetVersion (via : SpdmVia)
  | spdmGetCapabilities (via : SpdmVia)
  | spdmNegotiateAlgorithms (via : SpdmVia)
  | spdmGetDigests (via : SpdmVia)
  | spdmGetCertificate (via : SpdmVia) (slot offset length : Nat)
  | spdmChallenge (via : SpdmVia) (slot : Nat)
  | spdmGetMeasurements (via : SpdmVia) (index : Nat)
  | spdmKeyExchange (via : SpdmVia)
  | spdmFinish (session : Nat) (ok : Bool)
  | spdmHeartbeat (session : Nat)
  | spdmKeyUpdate (session : Nat)
  | spdmEndSession (session : Nat)
  | spdmVendorDefinedRequest (session port : Nat) (k : SlotKeys)
  | ideRekey (p : Nat)
  | ideIntegrityFail (p : Nat) (io : Bool)
  | dbgChallengeRead (ep : Nat)
  | dbgResponseWrite (ep : Nat) (bytes : List Byte) (vendorOk ownerOk : Bool)
  | dbgDropWrite (ep value : Nat)
  | dbgAllowWrite (ep value : Nat)
  | dbgIdleTimeout
  | ridgeHaltWrite (ep value : Nat)
  | tapInstructionLoad (ir : Nat)
  -- ageing (R353 to R369)
  | talusWindowNowWrite (ep value : Nat)
  | talusMeasureDone (m : TalusMeas)
  | talusCommitPoint
  | hbmUnitRetired
  | talusApplyDone
  | talusRecordDone
  | feedRdsSample
  | talusCeilResetWrite (ep p value : Nat)
  | fetRebaseWrite (ep f value : Nat)
  -- profiles, boot and reset (R370 to R388)
  | profStoreWrite (ep p value : Nat)
  | profChunkWrite (ep : Nat) (bytes : List Byte)
  | profFlashStepDone (ok : Bool)
  | profStoreCommit
  | resetNowWrite (ep value : Nat)
  | resetNowDelayEnd
  | rstNAssert
  | powerOn
  | supplyUndervoltage
  | watchdogExpiry (core : Nat)
  | resetRelease (psel : Nat)
  | bootImageVerified (cryptoA cryptoB : Bool) (recovery : Option RecImage)
  | profileValidate
  | hbmTrainingDone
  | profileApplied
  | wedgeCheck
  | wedgeResetDelayEnd
  -- rows added at the table's end
  | timeRefRestored
  | holdTimeAdvance (n : Nat)
  | xt32Tick (n : Nat)
  | linkLayerRetry (p seq : Nat)
  | partnerRecoveryEntry (p : Nat)
  | prbsPatternLock (lane : Nat)
  | prbsPatternLockLost (lane : Nat)
  | dbgMailbox (bytes : List Byte)
  | vddAonLoss
  deriving DecidableEq, Repr

end Sys2Proof
end

