-- ==== Sys2Proof/Decode.lean ====
section
/-!
DEFINITION. The command a word of spec/opcode_table.json spells. The table gives no row of this block any bits, so no word
spells a command.
-/

namespace Sys2Proof

/-- No row of the opcode table has a bit pattern. -/
def decodeTableWord (_nbits _w : Nat) : Option Instr := none

end Sys2Proof
end

