-- ==== Sys2Proof/Config.lean ====
section
/-!
DEFINITION. What an implementation fixes and the free values: constants with no body, of which
nothing can be proved.

Each is named in the assumption log. A statement that mentions one holds whatever it is.
-/

namespace Sys2Proof.Config

/-- A fresh unstated value: applied to the counter `freeCtr` of the state, which advances at each
use (nonces, challenges, random session identifiers, values the spec leaves open). -/
opaque freeNat : Nat → Nat

/-- SILICON_REV, a constant of the part whose value the dictionary table leaves open. -/
opaque siliconRev : Nat

/-- IANA_ENT, the enterprise number. -/
opaque ianaEnt : Nat

/-- SERIAL, the unique serial of the device. -/
opaque serial : Nat

/-- VCORE_BASE, the first margin plan's core voltage of the part in mV. -/
opaque vcoreBase : Nat

/-- RO_PPM_PER_MV, the ring-oscillator sensitivity of the part. -/
opaque roPpmPerMv : Nat

/-- Whether the increment of the fabric-time counter, held with a 32-bit fraction (R25), rounds the
exact value of R409 up: the spec states no rounding. -/
opaque incrementRoundsUp : Int → Nat → Bool

/-- SHA-384 over a byte string, for the hashes the device computes itself. -/
opaque sha384 : List Byte → Nat

/-- The verdict of the vendor's or owner's ECDSA P-384 signature over a message, where a request that
is not one of the dedicated commands carries the signature itself. -/
opaque signatureOk : Nat → List Byte → List Byte → Bool

/-- The bytes of a certificate chain, a measurement block or another SPDM structure whose contents
the spec leaves to DMTF SPDM. -/
opaque spdmBytes : Nat → Nat → List Byte

/-- The CXL FM API return code that stands for a dictionary abort: the spec names no code but Unsupported. -/
opaque fmApiCode : Nat → Nat

end Sys2Proof.Config
end

