-- ==== Sys2Proof/Machine/Tbl.lean ====
section
/-!
DEFINITION. Sparse tables in one canonical form: every addressed store of the block (registers by
object and instance, flash by address, directory by set and way, queues by port and class) is one.

A table lists (key, value) pairs with strictly rising keys and no entry equal to what an unlisted key
reads as, so equal stores are equal lists. A key is a pair of natural numbers in lexicographic order.
-/

namespace Sys2Proof.Machine

/-- A table key: usually (unit, sub-unit) or (object, instance). -/
abbrev Key := Nat × Nat

/-- A sparse table of `α`. -/
abbrev Tbl (α : Type) := List (Key × α)

/-- Lexicographic order of keys. -/
def Key.lt (a b : Key) : Bool := a.1 < b.1 || (a.1 == b.1 && a.2 < b.2)

/-- What key `k` reads as: its entry, and `d` where none is listed. -/
def Tbl.get {α : Type} (t : Tbl α) (d : α) (k : Key) : α :=
  match t with
  | [] => d
  | e :: r => if e.1 = k then e.2 else Tbl.get r d k

/-- The table without key `k`. -/
def Tbl.erase {α : Type} (t : Tbl α) (k : Key) : Tbl α := t.filter (fun e => !(decide (e.1 = k)))

/-- Put an entry in its place by key. -/
def Tbl.insert {α : Type} (e : Key × α) (t : Tbl α) : Tbl α :=
  match t with
  | [] => [e]
  | h :: r => if Key.lt h.1 e.1 then h :: Tbl.insert e r else e :: h :: r

/-- Write `v` at key `k`; writing what an unlisted key reads as removes the entry. -/
def Tbl.set {α : Type} [DecidableEq α] (t : Tbl α) (d : α) (k : Key) (v : α) : Tbl α :=
  if v = d then Tbl.erase t k else Tbl.insert (k, v) (Tbl.erase t k)

/-- Keys strictly rising. -/
def Tbl.rising {α : Type} : Tbl α → Bool
  | [] => true
  | [_] => true
  | a :: b :: r => Key.lt a.1 b.1 && Tbl.rising (b :: r)

/-- The canonical form, for a table whose unlisted keys read as `d k`. -/
def Tbl.wf {α : Type} [DecidableEq α] (d : Key → α) (t : Tbl α) : Bool :=
  Tbl.rising t && t.all (fun e => !(decide (e.2 = d e.1)))

/-- The keys with first part `a`, in rising order of the second. -/
def Tbl.row {α : Type} (t : Tbl α) (a : Nat) : List (Nat × α) :=
  t.filterMap (fun e => if e.1.1 = a then some (e.1.2, e.2) else none)

end Sys2Proof.Machine
end

