-- ==== Sys2Proof/Machine/Objects.lean ====
section
/-!
DEFINITION. The object dictionary as data: one row per object of the chapters' *Objects of* tables
(R6, R41, R42), with its type, access right, privilege list, P flag, instances, range and default.

An object is named by index * 256 + subindex. The ranges are those of the Meaning column.
-/

namespace Sys2Proof.Machine

/-- The dictionary data types (R6); a size in bytes where the type leaves it open. -/
inductive DType where
  | bool | uint (n : Nat) | int (n : Nat) | bits (n : Nat) | time | energy | str
  | blob (n : Nat) | blobVar (lo hi : Nat)
  deriving DecidableEq, Repr

/-- Access rights. -/
inductive Access where
  | const | ro | rw | wo | rws
  deriving DecidableEq, Repr

/-- The values an object accepts on write, as its table states them. -/
inductive VRange where
  | any
  | range (lo hi : Nat)
  | srange (lo hi : Int)
  | mask (m : Nat)
  | orNone (hi none : Nat)
  | mult (m : Nat)
  | elems (w lo hi : Nat)
  | elemsOrNone (w hi none : Nat)
  | oneOf (l : List Nat)
  | zeroOr (lo hi : Nat)
  | special
  deriving DecidableEq, Repr

/-- One row of the dictionary. `priv` has bit 0 for FM, 1 for BMC, 2 for TEN, 3 for DBG. -/
structure ObjRow where
  id : Nat
  ty : DType
  acc : Access
  priv : Nat
  prof : Bool
  lo : Nat
  cnt : Nat
  rng : VRange
  dflt : Nat
  deriving DecidableEq, Repr

namespace Obj

/-- 0x1000.01 -/
abbrev VENDOR : Nat := 0x100001
/-- 0x1000.02 -/
abbrev PART : Nat := 0x100002
/-- 0x1000.03 -/
abbrev SILICON_REV : Nat := 0x100003
/-- 0x1000.04 -/
abbrev IANA_ENT : Nat := 0x100004
/-- 0x1000.05 -/
abbrev SERIAL : Nat := 0x100005
/-- 0x1000.06 -/
abbrev FW_VERSION : Nat := 0x100006
/-- 0x1000.07 -/
abbrev DICT_VERSION : Nat := 0x100007
/-- 0x1010.01 -/
abbrev I3C_STATIC_ADDR : Nat := 0x101001
/-- 0x1010.02 -/
abbrev MCTP_EID_I3C : Nat := 0x101002
/-- 0x1010.03 -/
abbrev FM_INBAND_EN : Nat := 0x101003
/-- 0x1010.04 -/
abbrev MCTP_EID_INBAND : Nat := 0x101004
/-- 0x1010.05 -/
abbrev TEN_MAILBOX_EN : Nat := 0x101005
/-- 0x1100.01 -/
abbrev LOP_KIND : Nat := 0x110001
/-- 0x1100.02 -/
abbrev LOP_STATE : Nat := 0x110002
/-- 0x1100.03 -/
abbrev LOP_PROGRESS : Nat := 0x110003
/-- 0x1100.04 -/
abbrev LOP_RESULT : Nat := 0x110004
/-- 0x1100.05 -/
abbrev LOP_OWNER : Nat := 0x110005
/-- 0x1100.06 -/
abbrev LOP_START_TIME : Nat := 0x110006
/-- 0x1100.07 -/
abbrev LOP_COMMIT_TIME : Nat := 0x110007
/-- 0x1200.01 -/
abbrev STAGE_STATE : Nat := 0x120001
/-- 0x1200.02 -/
abbrev STAGE_OWNER : Nat := 0x120002
/-- 0x1200.03 -/
abbrev STAGE_COUNT : Nat := 0x120003
/-- 0x1200.04 -/
abbrev STAGE_LOP : Nat := 0x120004
/-- 0x1300.01 -/
abbrev EVT_DROPPED : Nat := 0x130001
/-- 0x1400.01 -/
abbrev PROFILE_NEXT : Nat := 0x140001
/-- 0x1400.02 -/
abbrev PROFILE_ACTIVE : Nat := 0x140002
/-- 0x1400.03 -/
abbrev PROFILE_BANK : Nat := 0x140003
/-- 0x1400.04 -/
abbrev PROFILE_PSEL : Nat := 0x140004
/-- 0x1400.05 -/
abbrev PROFILE_RESULT : Nat := 0x140005
/-- 0x1410.01 -/
abbrev PROF_SEQ : Nat := 0x141001
/-- 0x1410.02 -/
abbrev PROF_HASH : Nat := 0x141002
/-- 0x1410.03 -/
abbrev PROF_SRC : Nat := 0x141003
/-- 0x1410.04 -/
abbrev PROF_STORE : Nat := 0x141004
/-- 0x1410.05 -/
abbrev PROF_CREATED : Nat := 0x141005
/-- 0x1420.01 -/
abbrev PROF_CHUNK_OFF : Nat := 0x142001
/-- 0x1420.02 -/
abbrev PROF_CHUNK : Nat := 0x142002
/-- 0x1500.01 -/
abbrev RESET_NOW : Nat := 0x150001
/-- 0x1500.02 -/
abbrev RST_CAUSE : Nat := 0x150002
/-- 0x1500.03 -/
abbrev RST_WDT_CORE : Nat := 0x150003
/-- 0x1500.04 -/
abbrev RST_COUNT : Nat := 0x150004
/-- 0x1500.05 -/
abbrev RST_PREV_TIME : Nat := 0x150005
/-- 0x1500.06 -/
abbrev BOOT_TIMES : Nat := 0x150006
/-- 0x1510.01 -/
abbrev WEDGE_AUTO_RESET : Nat := 0x151001
/-- 0x1510.02 -/
abbrev WEDGE_STATUS : Nat := 0x151002
/-- 0x2000.01 -/
abbrev LC_BIFURC : Nat := 0x200001
/-- 0x2000.02 -/
abbrev LC_STATE_CL : Nat := 0x200002
/-- 0x2010.01 -/
abbrev PORT_ENABLE : Nat := 0x201001
/-- 0x2010.02 -/
abbrev PORT_MODE : Nat := 0x201002
/-- 0x2010.03 -/
abbrev PORT_ROLE : Nat := 0x201003
/-- 0x2010.04 -/
abbrev PORT_SPEED_MAX : Nat := 0x201004
/-- 0x2010.05 -/
abbrev PORT_FLIT : Nat := 0x201005
/-- 0x2010.06 -/
abbrev PORT_CLOCKING : Nat := 0x201006
/-- 0x2010.07 -/
abbrev PORT_L0P_EN : Nat := 0x201007
/-- 0x2010.08 -/
abbrev PORT_AUTO_WIDEN : Nat := 0x201008
/-- 0x2010.09 -/
abbrev PORT_EQ_BYPASS : Nat := 0x201009
/-- 0x2010.0A -/
abbrev PORT_TRAIN_TRIES : Nat := 0x20100A
/-- 0x2010.0B -/
abbrev LANE_FAIL_WINDOW : Nat := 0x20100B
/-- 0x2020.01 -/
abbrev PORT_STATE : Nat := 0x202001
/-- 0x2020.02 -/
abbrev PORT_SPEED : Nat := 0x202002
/-- 0x2020.03 -/
abbrev PORT_WIDTH : Nat := 0x202003
/-- 0x2020.04 -/
abbrev PORT_ACTIVE_WIDTH : Nat := 0x202004
/-- 0x2020.05 -/
abbrev PORT_FLIT_ACTIVE : Nat := 0x202005
/-- 0x2020.06 -/
abbrev PORT_PROTOCOLS : Nat := 0x202006
/-- 0x2020.07 -/
abbrev PORT_RECOVERY_CNT : Nat := 0x202007
/-- 0x2020.08 -/
abbrev PORT_CEILING : Nat := 0x202008
/-- 0x2020.09 -/
abbrev PORT_FALLBACK : Nat := 0x202009
/-- 0x2020.0A -/
abbrev PORT_SKEW : Nat := 0x20200A
/-- 0x2020.0B -/
abbrev PORT_REVERSED : Nat := 0x20200B
/-- 0x2100.01 -/
abbrev LANE_PRIV : Nat := 0x210001
/-- 0x2100.02 -/
abbrev LANE_POLARITY : Nat := 0x210002
/-- 0x2100.03 -/
abbrev LANE_STATE : Nat := 0x210003
/-- 0x2100.04 -/
abbrev LANE_ERR_PAIR : Nat := 0x210004
/-- 0x2100.05 -/
abbrev LANE_CLEAR : Nat := 0x210005
/-- 0x2100.06 -/
abbrev LANE_PRBS_MODE : Nat := 0x210006
/-- 0x2100.07 -/
abbrev LANE_FOM : Nat := 0x210007
/-- 0x2100.08 -/
abbrev LANE_EYE_H : Nat := 0x210008
/-- 0x2100.09 -/
abbrev LANE_EYE_W : Nat := 0x210009
/-- 0x2100.0A -/
abbrev LANE_EYE_TIME : Nat := 0x21000A
/-- 0x2100.0B -/
abbrev LANE_FOM_TARGET : Nat := 0x21000B
/-- 0x2100.0C -/
abbrev FOM_HYST : Nat := 0x21000C
/-- 0x2110.01 -/
abbrev QZ_LOAD : Nat := 0x211001
/-- 0x2110.02 -/
abbrev QZ_SWEEP_TIME : Nat := 0x211002
/-- 0x2200.01 -/
abbrev DRU_SPEED_MAX : Nat := 0x220001
/-- 0x2200.02 -/
abbrev DRU_MIN_WIDTH : Nat := 0x220002
/-- 0x2200.03 -/
abbrev DRU_EQ_FOM_MIN : Nat := 0x220003
/-- 0x2200.04 -/
abbrev DRU_IDE_MODE : Nat := 0x220004
/-- 0x2200.05 -/
abbrev DRU_REPLAY_TIMEOUT : Nat := 0x220005
/-- 0x2200.06 -/
abbrev DRU_TIME_ASYM : Nat := 0x220006
/-- 0x2210.01 -/
abbrev DRU_RX_CREDITS : Nat := 0x221001
/-- 0x2210.02 -/
abbrev DRU_TX_CREDITS : Nat := 0x221002
/-- 0x2220.01 -/
abbrev DRU_PEER_ID : Nat := 0x222001
/-- 0x2220.02 -/
abbrev DRU_PEER_KIND : Nat := 0x222002
/-- 0x2220.03 -/
abbrev DRU_RX_MASK : Nat := 0x222003
/-- 0x2220.04 -/
abbrev DRU_TX_MASK : Nat := 0x222004
/-- 0x2220.05 -/
abbrev DRU_TX_WIDTH : Nat := 0x222005
/-- 0x2220.06 -/
abbrev DRU_REPLAY_CNT : Nat := 0x222006
/-- 0x2220.07 -/
abbrev DRU_CRC_ERR : Nat := 0x222007
/-- 0x2220.08 -/
abbrev DRU_FEC_UNCORR : Nat := 0x222008
/-- 0x2220.09 -/
abbrev DRU_RESTRIPE_CNT : Nat := 0x222009
/-- 0x2220.0A -/
abbrev DRU_IDE_STATE : Nat := 0x22200A
/-- 0x3000.01 -/
abbrev BUF_CELLS : Nat := 0x300001
/-- 0x3000.02 -/
abbrev BUF_FREE : Nat := 0x300002
/-- 0x3000.03 -/
abbrev BUF_SHARED_SIZE : Nat := 0x300003
/-- 0x3000.04 -/
abbrev BUF_SHARED_USED : Nat := 0x300004
/-- 0x3000.05 -/
abbrev BUF_RSV_SYS : Nat := 0x300005
/-- 0x3000.06 -/
abbrev DESC_FREE : Nat := 0x300006
/-- 0x3000.07 -/
abbrev RTT_FREE : Nat := 0x300007
/-- 0x3000.08 -/
abbrev RTT_PORT_MIN : Nat := 0x300008
/-- 0x3000.09 -/
abbrev RTT_PORT_MAX : Nat := 0x300009
/-- 0x3000.0A -/
abbrev MSG_TAIL_TIMEOUT : Nat := 0x30000A
/-- 0x3000.0B -/
abbrev BUF_ECC_CORR : Nat := 0x30000B
/-- 0x3000.0C -/
abbrev BUF_ECC_UNCORR : Nat := 0x30000C
/-- 0x3000.0D -/
abbrev RTT_STOP_MASK : Nat := 0x30000D
/-- 0x3010.01 -/
abbrev PORT_CT_EN : Nat := 0x301001
/-- 0x3010.02 -/
abbrev IN_GRANT : Nat := 0x301002
/-- 0x3010.03 -/
abbrev IN_SH_MAX : Nat := 0x301003
/-- 0x3010.04 -/
abbrev IN_SH_PORT_MAX : Nat := 0x301004
/-- 0x3010.05 -/
abbrev Q_MAX : Nat := 0x301005
/-- 0x3010.06 -/
abbrev CLASS_MAP : Nat := 0x301006
/-- 0x3010.07 -/
abbrev MGMT_GRANT : Nat := 0x301007
/-- 0x3020.01 -/
abbrev Q_DEPTH : Nat := 0x302001
/-- 0x3020.02 -/
abbrev IN_HELD : Nat := 0x302002
/-- 0x3020.03 -/
abbrev IN_SHARED : Nat := 0x302003
/-- 0x3020.04 -/
abbrev RTT_USED : Nat := 0x302004
/-- 0x3020.05 -/
abbrev PORT_CELL_RATE : Nat := 0x302005
/-- 0x3020.06 -/
abbrev FLUSH_CNT : Nat := 0x302006
/-- 0x3020.07 -/
abbrev SYNTH_CNT : Nat := 0x302007
/-- 0x3020.08 -/
abbrev STOMP_CNT : Nat := 0x302008
/-- 0x3020.09 -/
abbrev CT_UNDERRUN : Nat := 0x302009
/-- 0x3020.0A -/
abbrev SNF_CNT : Nat := 0x30200A
/-- 0x3100.01 -/
abbrev ROUTE_ENTRY : Nat := 0x310001
/-- 0x3100.02 -/
abbrev FID_BASE : Nat := 0x310002
/-- 0x3100.03 -/
abbrev PBR_FID_BASE : Nat := 0x310003
/-- 0x3100.04 -/
abbrev ROUTE_MOVE_HOLD : Nat := 0x310004
/-- 0x3200.01 -/
abbrev HG_COUNT : Nat := 0x320001
/-- 0x3200.02 -/
abbrev HG_MEMBERS : Nat := 0x320002
/-- 0x3200.03 -/
abbrev HG_LIVE : Nat := 0x320003
/-- 0x3200.04 -/
abbrev HG_BUCKETS : Nat := 0x320004
/-- 0x3200.05 -/
abbrev HG_REBALANCE : Nat := 0x320005
/-- 0x3300.01 -/
abbrev PART_ENABLE : Nat := 0x330001
/-- 0x3300.02 -/
abbrev PART_HOST_PORT : Nat := 0x330002
/-- 0x3300.03 -/
abbrev PART_FID : Nat := 0x330003
/-- 0x3300.04 -/
abbrev PART_STATE : Nat := 0x330004
/-- 0x3400.01 -/
abbrev VPPB_LD : Nat := 0x340001
/-- 0x3400.02 -/
abbrev VPPB_STATE : Nat := 0x340002
/-- 0x3400.03 -/
abbrev VPPB_LEASE_END : Nat := 0x340003
/-- 0x3500.01 -/
abbrev LD_PORT : Nat := 0x350001
/-- 0x3500.02 -/
abbrev LD_LDID : Nat := 0x350002
/-- 0x3500.03 -/
abbrev LD_FID : Nat := 0x350003
/-- 0x3500.04 -/
abbrev LD_POOL_BASE : Nat := 0x350004
/-- 0x3500.05 -/
abbrev LD_SHARED : Nat := 0x350005
/-- 0x3500.06 -/
abbrev LD_SIZE : Nat := 0x350006
/-- 0x3500.07 -/
abbrev LD_STATE : Nat := 0x350007
/-- 0x3500.08 -/
abbrev LD_REMOTE_SIZE : Nat := 0x350008
/-- 0x3600.01 -/
abbrev WIN_PART : Nat := 0x360001
/-- 0x3600.02 -/
abbrev WIN_HPA_BASE : Nat := 0x360002
/-- 0x3600.03 -/
abbrev WIN_SIZE : Nat := 0x360003
/-- 0x3600.04 -/
abbrev WIN_WAYS : Nat := 0x360004
/-- 0x3600.05 -/
abbrev WIN_GRAN : Nat := 0x360005
/-- 0x3600.06 -/
abbrev WIN_TARGETS : Nat := 0x360006
/-- 0x3600.07 -/
abbrev WIN_DPA_BASE : Nat := 0x360007
/-- 0x3600.08 -/
abbrev WIN_ATTR : Nat := 0x360008
/-- 0x3600.09 -/
abbrev WIN_STATE : Nat := 0x360009
/-- 0x3700.01 -/
abbrev ROUTE_EPOCH : Nat := 0x370001
/-- 0x3700.02 -/
abbrev BIND_EPOCH : Nat := 0x370002
/-- 0x3700.03 -/
abbrev ROUTE_DRAIN : Nat := 0x370003
/-- 0x3700.04 -/
abbrev BIND_DRAIN : Nat := 0x370004
/-- 0x3700.05 -/
abbrev DECODE_MISS_CNT : Nat := 0x370005
/-- 0x3700.06 -/
abbrev ROUTE_MISS_CNT : Nat := 0x370006
/-- 0x4000.01 -/
abbrev GCL_ENABLE : Nat := 0x400001
/-- 0x4000.02 -/
abbrev GCL_BASE_TIME : Nat := 0x400002
/-- 0x4000.03 -/
abbrev GCL_CYCLE : Nat := 0x400003
/-- 0x4000.04 -/
abbrev GCL_LEN : Nat := 0x400004
/-- 0x4000.05 -/
abbrev GCL_STATE : Nat := 0x400005
/-- 0x4000.06 -/
abbrev GCL_OPER_BASE : Nat := 0x400006
/-- 0x4000.07 -/
abbrev GCL_OPER_CYCLE : Nat := 0x400007
/-- 0x4000.08 -/
abbrev GCL_OPER_LEN : Nat := 0x400008
/-- 0x4000.09 -/
abbrev GCL_SWAP_TIME : Nat := 0x400009
/-- 0x4000.0A -/
abbrev GCL_SWAP_N : Nat := 0x40000A
/-- 0x4000.0B -/
abbrev GCL_OVERRUN : Nat := 0x40000B
/-- 0x4000.0C -/
abbrev GCL_HELD : Nat := 0x40000C
/-- 0x4010.01 -/
abbrev GCL_ENTRY : Nat := 0x401001
/-- 0x4010.02 -/
abbrev GCL_OPER_ENTRY : Nat := 0x401002
/-- 0x4020.01 -/
abbrev CBS_IDLE_SLOPE : Nat := 0x402001
/-- 0x4020.02 -/
abbrev CBS_HI_CELLS : Nat := 0x402002
/-- 0x4020.03 -/
abbrev CBS_CREDIT : Nat := 0x402003
/-- 0x4020.04 -/
abbrev CBS_SLOPE_OPER : Nat := 0x402004
/-- 0x4030.01 -/
abbrev WFQ_WEIGHT : Nat := 0x403001
/-- 0x4030.02 -/
abbrev WFQ_VTIME : Nat := 0x403002
/-- 0x4040.01 -/
abbrev HIST_DEPTH : Nat := 0x404001
/-- 0x4040.02 -/
abbrev HIST_SOJOURN : Nat := 0x404002
/-- 0x4040.03 -/
abbrev Q_DEPTH_MAX : Nat := 0x404003
/-- 0x4040.04 -/
abbrev Q_SOJOURN_MAX : Nat := 0x404004
/-- 0x4040.05 -/
abbrev HIST_PERIOD : Nat := 0x404005
/-- 0x4040.06 -/
abbrev HIST_CLEAR : Nat := 0x404006
/-- 0x4050.01 -/
abbrev DIDT_GCL_LEAD : Nat := 0x405001
/-- 0x4050.02 -/
abbrev DIDT_GCL_CNT : Nat := 0x405002
/-- 0x4050.03 -/
abbrev DIDT_LATE_CNT : Nat := 0x405003
/-- 0x5000.01 -/
abbrev DIR_ENTRIES : Nat := 0x500001
/-- 0x5000.02 -/
abbrev DIR_VALID : Nat := 0x500002
/-- 0x5010.01 -/
abbrev CAIRN_SLICES : Nat := 0x501001
/-- 0x5010.02 -/
abbrev DIR_TIMEOUT : Nat := 0x501002
/-- 0x5010.03 -/
abbrev DIR_LOOKUP : Nat := 0x501003
/-- 0x5010.04 -/
abbrev DIR_LOOKUP_RESULT : Nat := 0x501004
/-- 0x5010.05 -/
abbrev DIR_SET_CLEAR : Nat := 0x501005
/-- 0x5020.01 -/
abbrev WHEEL_SLOT : Nat := 0x502001
/-- 0x5030.01 -/
abbrev AGT_KIND : Nat := 0x503001
/-- 0x5030.02 -/
abbrev AGT_REF : Nat := 0x503002
/-- 0x5040.01 -/
abbrev DIR_HIT : Nat := 0x504001
/-- 0x5040.02 -/
abbrev DIR_MISS : Nat := 0x504002
/-- 0x5040.03 -/
abbrev DIR_BISNP : Nat := 0x504003
/-- 0x5040.04 -/
abbrev DIR_STRAY : Nat := 0x504004
/-- 0x5040.05 -/
abbrev DIR_ECC_CORR : Nat := 0x504005
/-- 0x5040.06 -/
abbrev DIR_ECC_UNCORR : Nat := 0x504006
/-- 0x5050.01 -/
abbrev DEV_BI_DROP : Nat := 0x505001
/-- 0x5060.01 -/
abbrev NAK_RETRY_DELAY : Nat := 0x506001
/-- 0x5060.02 -/
abbrev NAK_RSV_COUNT : Nat := 0x506002
/-- 0x5060.03 -/
abbrev RSV_TIMEOUT : Nat := 0x506003
/-- 0x5060.04 -/
abbrev TRK_WB_RSV : Nat := 0x506004
/-- 0x5070.01 -/
abbrev TRK_USED : Nat := 0x507001
/-- 0x5070.02 -/
abbrev TRK_MAX_USED : Nat := 0x507002
/-- 0x5070.03 -/
abbrev NAK_CNT : Nat := 0x507003
/-- 0x5070.04 -/
abbrev RSV_CNT : Nat := 0x507004
/-- 0x5070.05 -/
abbrev RSV_EXPIRED_CNT : Nat := 0x507005
/-- 0x5070.06 -/
abbrev EVICT_CNT : Nat := 0x507006
/-- 0x5070.07 -/
abbrev EVICT_USED : Nat := 0x507007
/-- 0x5070.08 -/
abbrev HOME_TIMEOUT_CNT : Nat := 0x507008
/-- 0x5070.09 -/
abbrev WALK_POS : Nat := 0x507009
/-- 0x5080.01 -/
abbrev AGT_STATE : Nat := 0x508001
/-- 0x5080.02 -/
abbrev AGT_REVIVE : Nat := 0x508002
/-- 0x5080.03 -/
abbrev AGT_DOWN_TIME : Nat := 0x508003
/-- 0x5090.01 -/
abbrev HOLD_USED : Nat := 0x509001
/-- 0x5090.02 -/
abbrev HOLD_FULL_CNT : Nat := 0x509002
/-- 0x5090.03 -/
abbrev HOLD_ENTRY : Nat := 0x509003
/-- 0x5090.04 -/
abbrev HOLD_TIMEOUT_CNT : Nat := 0x509004
/-- 0x6000.01 -/
abbrev FL_SLOT : Nat := 0x600001
/-- 0x6010.01 -/
abbrev PART_KEY : Nat := 0x601001
/-- 0x6010.02 -/
abbrev PORT_KEY : Nat := 0x601002
/-- 0x6010.03 -/
abbrev DBG_KEY : Nat := 0x601003
/-- 0x6100.01 -/
abbrev RGN_BASE : Nat := 0x610001
/-- 0x6100.02 -/
abbrev RGN_SIZE : Nat := 0x610002
/-- 0x6100.03 -/
abbrev RGN_SUBDIS : Nat := 0x610003
/-- 0x6100.04 -/
abbrev RGN_READ : Nat := 0x610004
/-- 0x6100.05 -/
abbrev RGN_WRITE : Nat := 0x610005
/-- 0x6100.06 -/
abbrev RGN_ATTR : Nat := 0x610006
/-- 0x6200.01 -/
abbrev FL_EPOCH : Nat := 0x620001
/-- 0x6200.02 -/
abbrev FL_DRAIN : Nat := 0x620002
/-- 0x6200.03 -/
abbrev FL_DENY_CNT : Nat := 0x620003
/-- 0x6200.04 -/
abbrev FL_OVERLAP : Nat := 0x620004
/-- 0x6200.05 -/
abbrev FL_TAG_HIT : Nat := 0x620005
/-- 0x6200.06 -/
abbrev FL_TAG_MISS : Nat := 0x620006
/-- 0x6200.07 -/
abbrev FL_LOCK_LOG_CNT : Nat := 0x620007
/-- 0x6300.01 -/
abbrev FL_TAG_BASE : Nat := 0x630001
/-- 0x6300.02 -/
abbrev FL_TAG_COUNT : Nat := 0x630002
/-- 0x6300.03 -/
abbrev FL_TAG_VALUE : Nat := 0x630003
/-- 0x6300.04 -/
abbrev FL_TAG_FILL : Nat := 0x630004
/-- 0x6300.05 -/
abbrev FL_TAG_PROBE : Nat := 0x630005
/-- 0x6300.06 -/
abbrev FL_TAG_PROBE_RESULT : Nat := 0x630006
/-- 0x6400.01 -/
abbrev TI_BASE : Nat := 0x640001
/-- 0x6400.02 -/
abbrev TI_COUNT : Nat := 0x640002
/-- 0x6400.03 -/
abbrev TI_VALUE : Nat := 0x640003
/-- 0x7000.01 -/
abbrev SPD_LINK : Nat := 0x700001
/-- 0x7000.02 -/
abbrev SPD_LINK_LOSS_CNT : Nat := 0x700002
/-- 0x7100.01 -/
abbrev CH_ENABLE : Nat := 0x710001
/-- 0x7100.02 -/
abbrev CH_START_MODE : Nat := 0x710002
/-- 0x7100.03 -/
abbrev CH_FEEDS : Nat := 0x710003
/-- 0x7100.04 -/
abbrev CH_INS_DELAY : Nat := 0x710004
/-- 0x7100.05 -/
abbrev CH_SEAT_CONFIRM : Nat := 0x710005
/-- 0x7100.06 -/
abbrev CH_SEAT_OPEN_FILT : Nat := 0x710006
/-- 0x7100.07 -/
abbrev CH_UV_MV : Nat := 0x710007
/-- 0x7100.08 -/
abbrev CH_OV_MV : Nat := 0x710008
/-- 0x7100.09 -/
abbrev CH_UV_FILT : Nat := 0x710009
/-- 0x7100.0A -/
abbrev CH_PG_MV : Nat := 0x71000A
/-- 0x7100.0B -/
abbrev CH_GATE_UA : Nat := 0x71000B
/-- 0x7100.0C -/
abbrev CH_GATE_TIMEOUT : Nat := 0x71000C
/-- 0x7100.0D -/
abbrev CH_SHARE : Nat := 0x71000D
/-- 0x7100.0E -/
abbrev CH_PORT : Nat := 0x71000E
/-- 0x7101.01 -/
abbrev CH_CB_MA : Nat := 0x710101
/-- 0x7101.02 -/
abbrev CH_FT_MA : Nat := 0x710102
/-- 0x7101.03 -/
abbrev CH_CB_TIME : Nat := 0x710103
/-- 0x7101.04 -/
abbrev CH_RETRY_MS : Nat := 0x710104
/-- 0x7101.05 -/
abbrev CH_RETRY_MAX : Nat := 0x710105
/-- 0x7101.06 -/
abbrev CH_REV_MA : Nat := 0x710106
/-- 0x7104.01 -/
abbrev CH_STATE : Nat := 0x710401
/-- 0x7104.02 -/
abbrev CH_PG : Nat := 0x710402
/-- 0x7104.03 -/
abbrev CH_CAUSE : Nat := 0x710403
/-- 0x7104.04 -/
abbrev CH_TRIPS : Nat := 0x710404
/-- 0x7104.05 -/
abbrev CH_RETRIES : Nat := 0x710405
/-- 0x7104.06 -/
abbrev CH_VOUT : Nat := 0x710406
/-- 0x7104.07 -/
abbrev CH_SEAT : Nat := 0x710407
/-- 0x7104.08 -/
abbrev CH_OFF_LEFT : Nat := 0x710408
/-- 0x7105.01 -/
abbrev CH_FAULT_CLEAR : Nat := 0x710501
/-- 0x7105.02 -/
abbrev CH_MEAS_CLEAR : Nat := 0x710502
/-- 0x7110.01 -/
abbrev FEED_RSHUNT : Nat := 0x711001
/-- 0x7110.02 -/
abbrev FEED_STATE : Nat := 0x711002
/-- 0x7120.01 -/
abbrev FEED_VIN : Nat := 0x712001
/-- 0x7120.02 -/
abbrev FEED_I : Nat := 0x712002
/-- 0x7120.03 -/
abbrev FEED_VSRC : Nat := 0x712003
/-- 0x7120.04 -/
abbrev FEED_P : Nat := 0x712004
/-- 0x7120.05 -/
abbrev FEED_E : Nat := 0x712005
/-- 0x7120.06 -/
abbrev FEED_RDS : Nat := 0x712006
/-- 0x7120.07 -/
abbrev FEED_IPEAK : Nat := 0x712007
/-- 0x8000.01 -/
abbrev INT_GLOBAL_EN : Nat := 0x800001
/-- 0x8000.02 -/
abbrev INT_WAKE_TRANSPORT : Nat := 0x800002
/-- 0x8010.01 -/
abbrev INT_ENABLE : Nat := 0x801001
/-- 0x8010.02 -/
abbrev INT_PRIO : Nat := 0x801002
/-- 0x8010.03 -/
abbrev INT_TARGET : Nat := 0x801003
/-- 0x8010.04 -/
abbrev INT_CAUSE : Nat := 0x801004
/-- 0x8010.05 -/
abbrev INT_CAUSE_EN : Nat := 0x801005
/-- 0x8010.06 -/
abbrev INT_CAUSE_CLR : Nat := 0x801006
/-- 0x8010.07 -/
abbrev INT_STATE : Nat := 0x801007
/-- 0x8010.08 -/
abbrev INT_WAKE_EN : Nat := 0x801008
/-- 0x8100.01 -/
abbrev INT_CLAIM : Nat := 0x810001
/-- 0x8100.02 -/
abbrev INT_COMPLETE : Nat := 0x810002
/-- 0x8100.03 -/
abbrev INT_TGT_EN : Nat := 0x810003
/-- 0x8100.04 -/
abbrev INT_TGT_THRESH : Nat := 0x810004
/-- 0x8100.05 -/
abbrev INT_TGT_WAKEABLE : Nat := 0x810005
/-- 0x8100.06 -/
abbrev INT_TGT_FALLBACK : Nat := 0x810006
/-- 0x8100.07 -/
abbrev INT_TGT_STATE : Nat := 0x810007
/-- 0x8100.08 -/
abbrev INT_FALLBACK_CNT : Nat := 0x810008
/-- 0x9000.01 -/
abbrev CNT_CTL : Nat := 0x900001
/-- 0x9000.02 -/
abbrev CNT_CYCLES : Nat := 0x900002
/-- 0x9000.03 -/
abbrev CNT_SMP_MASK : Nat := 0x900003
/-- 0x9000.04 -/
abbrev CNT_OVF : Nat := 0x900004
/-- 0x9000.05 -/
abbrev CNT_OVF_CLR : Nat := 0x900005
/-- 0x9000.06 -/
abbrev SMP_RECORD : Nat := 0x900006
/-- 0x9000.07 -/
abbrev SMP_RELEASE : Nat := 0x900007
/-- 0x9000.08 -/
abbrev SMP_LOST : Nat := 0x900008
/-- 0x9000.09 -/
abbrev CNT_SNAPSHOT : Nat := 0x900009
/-- 0x9100.01 -/
abbrev CNT_EVT : Nat := 0x910001
/-- 0x9100.02 -/
abbrev CNT_MODE : Nat := 0x910002
/-- 0x9100.03 -/
abbrev CNT_PORT : Nat := 0x910003
/-- 0x9100.04 -/
abbrev CNT_AUX : Nat := 0x910004
/-- 0x9100.05 -/
abbrev CNT_THRESH : Nat := 0x910005
/-- 0x9100.06 -/
abbrev CNT_VALUE : Nat := 0x910006
/-- 0xA000.01 -/
abbrev PM_MODE : Nat := 0xA00001
/-- 0xA000.02 -/
abbrev PM_PREV_MODE : Nat := 0xA00002
/-- 0xA000.03 -/
abbrev PM_LAST_WAKE : Nat := 0xA00003
/-- 0xA000.04 -/
abbrev PM_WAKE_US : Nat := 0xA00004
/-- 0xA000.05 -/
abbrev PM_GATED_LC : Nat := 0xA00005
/-- 0xA000.06 -/
abbrev PM_GATED_SLICES : Nat := 0xA00006
/-- 0xA010.01 -/
abbrev PM_TARGET : Nat := 0xA01001
/-- 0xA010.02 -/
abbrev PM_ENTER : Nat := 0xA01002
/-- 0xA010.03 -/
abbrev PM_ENTER_TIME : Nat := 0xA01003
/-- 0xA010.04 -/
abbrev PM_TRIM_LC : Nat := 0xA01004
/-- 0xA010.05 -/
abbrev PM_WAKE_AFTER : Nat := 0xA01005
/-- 0xA010.06 -/
abbrev PM_QUIESCE_MAX : Nat := 0xA01006
/-- 0xA010.07 -/
abbrev PM_L1_TIMEOUT : Nat := 0xA01007
/-- 0xA020.01 -/
abbrev PM_DIDT_SLEW : Nat := 0xA02001
/-- 0xA020.02 -/
abbrev PM_DIDT_STEP : Nat := 0xA02002
/-- 0xA020.03 -/
abbrev PM_DIDT_LEAD : Nat := 0xA02003
/-- 0xA030.01 -/
abbrev PM_VCORE_PLAN : Nat := 0xA03001
/-- 0xA030.02 -/
abbrev PM_SENT_MV : Nat := 0xA03002
/-- 0xA030.03 -/
abbrev AVS_VREAD_MV : Nat := 0xA03003
/-- 0xA030.04 -/
abbrev AVS_IREAD : Nat := 0xA03004
/-- 0xA030.05 -/
abbrev AVS_ERR_CNT : Nat := 0xA03005
/-- 0xB000.01 -/
abbrev LC_STATE : Nat := 0xB00001
/-- 0xB000.02 -/
abbrev LC_PENDING : Nat := 0xB00002
/-- 0xB000.03 -/
abbrev LC_TARGET : Nat := 0xB00003
/-- 0xB000.04 -/
abbrev LC_AUTH : Nat := 0xB00004
/-- 0xB000.05 -/
abbrev LC_REQUEST : Nat := 0xB00005
/-- 0xB000.06 -/
abbrev LC_OWNER_HASH : Nat := 0xB00006
/-- 0xB000.07 -/
abbrev LC_NONCE : Nat := 0xB00007
/-- 0xB010.01 -/
abbrev FW_ACTIVE : Nat := 0xB01001
/-- 0xB010.02 -/
abbrev FW_BOOT_PTR : Nat := 0xB01002
/-- 0xB010.03 -/
abbrev FW_SVN : Nat := 0xB01003
/-- 0xB010.04 -/
abbrev FW_CONFIRMED : Nat := 0xB01004
/-- 0xB010.05 -/
abbrev FW_CHUNK_OFF : Nat := 0xB01005
/-- 0xB010.06 -/
abbrev FW_CHUNK : Nat := 0xB01006
/-- 0xB010.07 -/
abbrev FW_UPDATE : Nat := 0xB01007
/-- 0xB010.08 -/
abbrev FW_CONFIRM : Nat := 0xB01008
/-- 0xB010.09 -/
abbrev FW_CONFIRM_WINDOW : Nat := 0xB01009
/-- 0xB020.01 -/
abbrev SPDM_SESSIONS : Nat := 0xB02001
/-- 0xB030.01 -/
abbrev PORT_IDE_MODE : Nat := 0xB03001
/-- 0xB030.02 -/
abbrev PORT_IDE_STATE : Nat := 0xB03002
/-- 0xB030.03 -/
abbrev IDE_REKEY_S : Nat := 0xB03003
/-- 0xB100.01 -/
abbrev DBG_LEVEL : Nat := 0xB10001
/-- 0xB100.02 -/
abbrev DBG_CHALLENGE : Nat := 0xB10002
/-- 0xB100.03 -/
abbrev DBG_RESPONSE : Nat := 0xB10003
/-- 0xB100.04 -/
abbrev DBG_DROP : Nat := 0xB10004
/-- 0xB100.05 -/
abbrev DBG_ALLOW : Nat := 0xB10005
/-- 0xB100.06 -/
abbrev DBG_IDLE_S : Nat := 0xB10006
/-- 0xB100.07 -/
abbrev DBG_AUTH_FAILS : Nat := 0xB10007
/-- 0xB110.01 -/
abbrev DM_ADDR : Nat := 0xB11001
/-- 0xB110.02 -/
abbrev DM_LEN : Nat := 0xB11002
/-- 0xB110.03 -/
abbrev DM_DATA : Nat := 0xB11003
/-- 0xB110.04 -/
abbrev DM_GO : Nat := 0xB11004
/-- 0xB110.05 -/
abbrev DM_STATUS : Nat := 0xB11005
/-- 0xB120.01 -/
abbrev RIDGE_HALT : Nat := 0xB12001
/-- 0xC000.01 -/
abbrev TALUS_STATE : Nat := 0xC00001
/-- 0xC000.02 -/
abbrev TALUS_WINDOW_NUM : Nat := 0xC00002
/-- 0xC000.03 -/
abbrev TALUS_LAST_TIME : Nat := 0xC00003
/-- 0xC000.04 -/
abbrev TALUS_HIST_USED : Nat := 0xC00004
/-- 0xC010.01 -/
abbrev TALUS_PERIOD : Nat := 0xC01001
/-- 0xC010.02 -/
abbrev TALUS_FIRST : Nat := 0xC01002
/-- 0xC010.03 -/
abbrev TALUS_WINDOW_NOW : Nat := 0xC01003
/-- 0xC010.04 -/
abbrev TALUS_VSTEP_MAX : Nat := 0xC01004
/-- 0xC010.05 -/
abbrev TALUS_SRAM_GUARD : Nat := 0xC01005
/-- 0xC010.06 -/
abbrev TALUS_FOM_FLOOR : Nat := 0xC01006
/-- 0xC010.07 -/
abbrev TALUS_RETRAIN_EN : Nat := 0xC01007
/-- 0xC010.08 -/
abbrev TALUS_HBM_CE_LIMIT : Nat := 0xC01008
/-- 0xC010.09 -/
abbrev TALUS_RDS_WARN : Nat := 0xC01009
/-- 0xC010.0A -/
abbrev TALUS_RDS_CRIT : Nat := 0xC0100A
/-- 0xC020.01 -/
abbrev VCORE_BASE : Nat := 0xC02001
/-- 0xC020.02 -/
abbrev VCORE_MAX : Nat := 0xC02002
/-- 0xC020.03 -/
abbrev RO_PPM_PER_MV : Nat := 0xC02003
/-- 0xC020.04 -/
abbrev VCORE_REQUIRED : Nat := 0xC02004
/-- 0xC030.01 -/
abbrev RO_DEG : Nat := 0xC03001
/-- 0xC040.01 -/
abbrev SRAM_VMIN : Nat := 0xC04001
/-- 0xC050.01 -/
abbrev LANE_FOM_HIST : Nat := 0xC05001
/-- 0xC050.02 -/
abbrev TALUS_FOM_PIN : Nat := 0xC05002
/-- 0xC050.03 -/
abbrev TALUS_CEIL_RESET : Nat := 0xC05003
/-- 0xC060.01 -/
abbrev HBM_RETIRED : Nat := 0xC06001
/-- 0xC060.02 -/
abbrev HBM_CE_WINDOW : Nat := 0xC06002
/-- 0xC070.01 -/
abbrev FET_RDS_BASE : Nat := 0xC07001
/-- 0xC070.02 -/
abbrev FET_RDS_DRIFT : Nat := 0xC07002
/-- 0xC070.03 -/
abbrev FET_REBASE : Nat := 0xC07003
/-- 0xD000.01 -/
abbrev MOVE_FREEZE_MAX : Nat := 0xD00001
/-- 0xD000.02 -/
abbrev MOVE_CUTOVER_DIRTY : Nat := 0xD00002
/-- 0xD000.03 -/
abbrev MOVE_PASS_MAX : Nat := 0xD00003
/-- 0xD000.04 -/
abbrev MOVE_RATE_USED : Nat := 0xD00004
/-- 0xD000.05 -/
abbrev MOVE_DST_REFUSED : Nat := 0xD00005
/-- 0xD100.01 -/
abbrev MOVE_SRC : Nat := 0xD10001
/-- 0xD100.02 -/
abbrev MOVE_DST : Nat := 0xD10002
/-- 0xD100.03 -/
abbrev MOVE_SIZE : Nat := 0xD10003
/-- 0xD100.04 -/
abbrev MOVE_CUTOVER_TIME : Nat := 0xD10004
/-- 0xD100.05 -/
abbrev MOVE_RATE_MAX : Nat := 0xD10005
/-- 0xD100.06 -/
abbrev MOVE_START : Nat := 0xD10006
/-- 0xD100.07 -/
abbrev MOVE_PHASE : Nat := 0xD10007
/-- 0xD100.08 -/
abbrev MOVE_PASS : Nat := 0xD10008
/-- 0xD100.09 -/
abbrev MOVE_DIRTY : Nat := 0xD10009
/-- 0xD100.0A -/
abbrev MOVE_COPIED : Nat := 0xD1000A
/-- 0xD100.0B -/
abbrev MOVE_HANDLE : Nat := 0xD1000B
/-- 0xD100.0C -/
abbrev MOVE_FREEZES : Nat := 0xD1000C
/-- 0xD100.0D -/
abbrev MOVE_RDR : Nat := 0xD1000D
/-- 0xD200.01 -/
abbrev RDR_SRC : Nat := 0xD20001
/-- 0xD200.02 -/
abbrev RDR_DST : Nat := 0xD20002
/-- 0xD200.03 -/
abbrev RDR_SIZE : Nat := 0xD20003
/-- 0xD200.04 -/
abbrev RDR_STATE : Nat := 0xD20004
/-- 0xD200.05 -/
abbrev RDR_RELEASE : Nat := 0xD20005
/-- 0xD200.06 -/
abbrev RDR_COMMIT_TIME : Nat := 0xD20006
/-- 0xE000.01 -/
abbrev TIME_NOW : Nat := 0xE00001
/-- 0xE000.02 -/
abbrev TIME_STATUS : Nat := 0xE00002
/-- 0xE000.03 -/
abbrev TIME_UNC : Nat := 0xE00003
/-- 0xE000.04 -/
abbrev TIME_SLEEP_TICKS : Nat := 0xE00004
/-- 0xE000.05 -/
abbrev TIME_RATE_ADJ : Nat := 0xE00005
/-- 0xE010.01 -/
abbrev TIME_ROLE : Nat := 0xE01001
/-- 0xE010.02 -/
abbrev TIME_UPSTREAM : Nat := 0xE01002
/-- 0xE010.03 -/
abbrev TIME_BACKUP : Nat := 0xE01003
/-- 0xE010.04 -/
abbrev TIME_REF_SEL : Nat := 0xE01004
/-- 0xE010.05 -/
abbrev TIME_STEP_LIMIT : Nat := 0xE01005
/-- 0xE010.06 -/
abbrev TIME_UNC_LIMIT : Nat := 0xE01006
/-- 0xE010.07 -/
abbrev TIME_HOLDOVER_RATE : Nat := 0xE01007
/-- 0xE010.08 -/
abbrev TIME_XT32_PPM : Nat := 0xE01008
/-- 0xE010.09 -/
abbrev TIME_MONO : Nat := 0xE01009
/-- 0xE010.0A -/
abbrev TIME_PPS_OUT_ADJ : Nat := 0xE0100A
/-- 0xE010.0B -/
abbrev TIME_SECONDS_NEXT : Nat := 0xE0100B
/-- 0xE020.01 -/
abbrev TIME_PORT_SERVE : Nat := 0xE02001
/-- 0xE100.01 -/
abbrev SCHED_TIME : Nat := 0xE10001
/-- 0xE100.02 -/
abbrev SCHED_KIND : Nat := 0xE10002
/-- 0xE100.03 -/
abbrev SCHED_POLICY : Nat := 0xE10003
/-- 0xE100.04 -/
abbrev SCHED_PERIOD : Nat := 0xE10004
/-- 0xE100.05 -/
abbrev SCHED_STATE : Nat := 0xE10005
/-- 0xE100.06 -/
abbrev SCHED_MISSED : Nat := 0xE10006

end Obj

/-- Rows VENDOR to RST_COUNT of the dictionary. -/
def objRows0 : List ObjRow := [
  ⟨Obj.VENDOR, .str, .const, 15, false, 0, 1, .any, 0⟩,
  ⟨Obj.PART, .str, .const, 15, false, 0, 1, .any, 0⟩,
  ⟨Obj.SILICON_REV, (.uint 2), .const, 15, false, 0, 1, .any, 0⟩,
  ⟨Obj.IANA_ENT, (.uint 4), .const, 11, false, 0, 1, .any, 0⟩,
  ⟨Obj.SERIAL, (.blob 16), .const, 11, false, 0, 1, .any, 0⟩,
  ⟨Obj.FW_VERSION, (.uint 4), .ro, 15, false, 0, 1, .any, 0⟩,
  ⟨Obj.DICT_VERSION, (.uint 2), .const, 15, false, 0, 1, .any, 256⟩,
  ⟨Obj.I3C_STATIC_ADDR, (.uint 1), .rws, 2, true, 0, 1, (.range 8 119), 76⟩,
  ⟨Obj.MCTP_EID_I3C, (.uint 1), .ro, 10, false, 0, 1, .any, 0⟩,
  ⟨Obj.FM_INBAND_EN, .bool, .rws, 3, true, 0, 256, .any, 0⟩,
  ⟨Obj.MCTP_EID_INBAND, (.uint 1), .ro, 3, false, 0, 1, .any, 0⟩,
  ⟨Obj.TEN_MAILBOX_EN, .bool, .rws, 3, true, 0, 256, .any, 1⟩,
  ⟨Obj.LOP_KIND, (.uint 1), .ro, 7, false, 0, 64, .any, 0⟩,
  ⟨Obj.LOP_STATE, (.uint 1), .ro, 7, false, 0, 64, .any, 0⟩,
  ⟨Obj.LOP_PROGRESS, (.uint 2), .ro, 7, false, 0, 64, .any, 0⟩,
  ⟨Obj.LOP_RESULT, (.uint 4), .ro, 7, false, 0, 64, .any, 0⟩,
  ⟨Obj.LOP_OWNER, (.uint 2), .ro, 3, false, 0, 64, .any, 65535⟩,
  ⟨Obj.LOP_START_TIME, .time, .ro, 7, false, 0, 64, .any, 0⟩,
  ⟨Obj.LOP_COMMIT_TIME, .time, .ro, 7, false, 0, 64, .any, 0⟩,
  ⟨Obj.STAGE_STATE, (.uint 1), .ro, 7, false, 1, 16, .any, 0⟩,
  ⟨Obj.STAGE_OWNER, (.uint 2), .ro, 7, false, 1, 16, .any, 65535⟩,
  ⟨Obj.STAGE_COUNT, (.uint 2), .ro, 7, false, 1, 16, .any, 0⟩,
  ⟨Obj.STAGE_LOP, (.uint 2), .ro, 7, false, 1, 16, .any, 65535⟩,
  ⟨Obj.EVT_DROPPED, (.uint 4), .ro, 7, false, 0, 322, .any, 0⟩,
  ⟨Obj.PROFILE_NEXT, (.uint 1), .rw, 3, false, 0, 1, (.orNone 3 255), 255⟩,
  ⟨Obj.PROFILE_ACTIVE, (.uint 1), .ro, 11, false, 0, 1, .any, 0⟩,
  ⟨Obj.PROFILE_BANK, (.uint 1), .ro, 11, false, 0, 1, .any, 0⟩,
  ⟨Obj.PROFILE_PSEL, (.uint 1), .ro, 11, false, 0, 1, .any, 0⟩,
  ⟨Obj.PROFILE_RESULT, (.uint 4), .ro, 3, false, 0, 1, .any, 0⟩,
  ⟨Obj.PROF_SEQ, (.blob 8), .ro, 3, false, 0, 4, .any, 0⟩,
  ⟨Obj.PROF_HASH, (.blob 48), .ro, 11, false, 0, 4, .any, 0⟩,
  ⟨Obj.PROF_SRC, (.uint 1), .rw, 3, false, 0, 4, (.range 0 1), 0⟩,
  ⟨Obj.PROF_STORE, .bool, .wo, 3, false, 0, 4, .any, 0⟩,
  ⟨Obj.PROF_CREATED, .time, .ro, 3, false, 0, 4, .any, 0⟩,
  ⟨Obj.PROF_CHUNK_OFF, (.uint 4), .rw, 3, false, 0, 1, .any, 0⟩,
  ⟨Obj.PROF_CHUNK, (.blobVar 1 960), .wo, 3, false, 0, 1, .any, 0⟩,
  ⟨Obj.RESET_NOW, .bool, .wo, 3, false, 0, 1, .any, 0⟩,
  ⟨Obj.RST_CAUSE, (.uint 1), .ro, 11, false, 0, 1, .any, 0⟩,
  ⟨Obj.RST_WDT_CORE, (.uint 1), .ro, 11, false, 0, 1, .any, 255⟩,
  ⟨Obj.RST_COUNT, (.uint 4), .ro, 3, false, 0, 1, .any, 0⟩]

/-- Rows RST_PREV_TIME to FOM_HYST of the dictionary. -/
def objRows1 : List ObjRow := [
  ⟨Obj.RST_PREV_TIME, .time, .ro, 3, false, 0, 1, .any, 0⟩,
  ⟨Obj.BOOT_TIMES, (.blob 8), .ro, 3, false, 0, 1, .any, 0⟩,
  ⟨Obj.WEDGE_AUTO_RESET, .bool, .rw, 3, true, 0, 1, .any, 0⟩,
  ⟨Obj.WEDGE_STATUS, (.bits 4), .ro, 3, false, 0, 1, .any, 0⟩,
  ⟨Obj.LC_BIFURC, (.uint 1), .rws, 3, true, 0, 32, (.range 0 3), 0⟩,
  ⟨Obj.LC_STATE_CL, (.uint 1), .ro, 3, false, 0, 32, .any, 1⟩,
  ⟨Obj.PORT_ENABLE, .bool, .rws, 3, true, 0, 256, .any, 0⟩,
  ⟨Obj.PORT_MODE, (.uint 1), .rws, 3, true, 0, 256, (.range 0 1), 0⟩,
  ⟨Obj.PORT_ROLE, (.uint 1), .rws, 3, true, 0, 256, (.range 0 2), 0⟩,
  ⟨Obj.PORT_SPEED_MAX, (.uint 1), .rws, 3, true, 0, 256, (.range 1 6), 6⟩,
  ⟨Obj.PORT_FLIT, (.uint 1), .rws, 3, true, 0, 256, (.range 0 2), 0⟩,
  ⟨Obj.PORT_CLOCKING, (.uint 1), .rws, 3, true, 0, 256, (.range 0 1), 0⟩,
  ⟨Obj.PORT_L0P_EN, .bool, .rws, 3, true, 0, 256, .any, 1⟩,
  ⟨Obj.PORT_AUTO_WIDEN, .bool, .rw, 3, true, 0, 256, .any, 1⟩,
  ⟨Obj.PORT_EQ_BYPASS, .bool, .rws, 3, true, 0, 256, .any, 0⟩,
  ⟨Obj.PORT_TRAIN_TRIES, (.uint 1), .rw, 3, true, 0, 256, (.range 1 255), 8⟩,
  ⟨Obj.LANE_FAIL_WINDOW, (.uint 4), .rw, 3, true, 0, 256, (.range 10 60000), 1000⟩,
  ⟨Obj.PORT_STATE, (.uint 1), .ro, 7, false, 0, 256, .any, 0⟩,
  ⟨Obj.PORT_SPEED, (.uint 1), .ro, 7, false, 0, 256, .any, 0⟩,
  ⟨Obj.PORT_WIDTH, (.uint 1), .ro, 7, false, 0, 256, .any, 0⟩,
  ⟨Obj.PORT_ACTIVE_WIDTH, (.uint 1), .ro, 7, false, 0, 256, .any, 0⟩,
  ⟨Obj.PORT_FLIT_ACTIVE, (.uint 1), .ro, 7, false, 0, 256, .any, 0⟩,
  ⟨Obj.PORT_PROTOCOLS, (.bits 4), .ro, 7, false, 0, 256, .any, 0⟩,
  ⟨Obj.PORT_RECOVERY_CNT, (.uint 4), .ro, 3, false, 0, 256, .any, 0⟩,
  ⟨Obj.PORT_CEILING, (.uint 1), .ro, 3, false, 0, 256, .any, 6⟩,
  ⟨Obj.PORT_FALLBACK, (.uint 1), .ro, 3, false, 0, 256, .any, 0⟩,
  ⟨Obj.PORT_SKEW, (.uint 2), .ro, 3, false, 0, 256, .any, 0⟩,
  ⟨Obj.PORT_REVERSED, .bool, .ro, 3, false, 0, 256, .any, 0⟩,
  ⟨Obj.LANE_PRIV, .bool, .rws, 3, true, 0, 512, .any, 0⟩,
  ⟨Obj.LANE_POLARITY, .bool, .ro, 3, false, 0, 512, .any, 0⟩,
  ⟨Obj.LANE_STATE, (.uint 1), .ro, 3, false, 0, 512, .any, 0⟩,
  ⟨Obj.LANE_ERR_PAIR, (.blob 16), .ro, 11, false, 0, 512, .any, 0⟩,
  ⟨Obj.LANE_CLEAR, .bool, .wo, 11, false, 0, 512, .any, 0⟩,
  ⟨Obj.LANE_PRBS_MODE, (.uint 1), .rw, 11, false, 0, 512, (.range 0 6), 0⟩,
  ⟨Obj.LANE_FOM, (.uint 2), .ro, 3, false, 0, 512, .any, 0⟩,
  ⟨Obj.LANE_EYE_H, (.uint 2), .ro, 3, false, 0, 512, .any, 0⟩,
  ⟨Obj.LANE_EYE_W, (.uint 2), .ro, 3, false, 0, 512, .any, 0⟩,
  ⟨Obj.LANE_EYE_TIME, .time, .ro, 3, false, 0, 512, .any, 0⟩,
  ⟨Obj.LANE_FOM_TARGET, (.uint 2), .rw, 3, true, 0, 512, .any, 300⟩,
  ⟨Obj.FOM_HYST, (.uint 2), .rw, 3, true, 0, 1, (.range 0 1000), 4⟩]

/-- Rows QZ_LOAD to MGMT_GRANT of the dictionary. -/
def objRows2 : List ObjRow := [
  ⟨Obj.QZ_LOAD, (.uint 1), .ro, 3, false, 0, 8, .any, 0⟩,
  ⟨Obj.QZ_SWEEP_TIME, (.uint 4), .ro, 3, false, 0, 8, .any, 0⟩,
  ⟨Obj.DRU_SPEED_MAX, (.uint 1), .rws, 3, true, 0, 256, (.range 7 9), 9⟩,
  ⟨Obj.DRU_MIN_WIDTH, (.uint 1), .rws, 3, true, 0, 256, (.range 1 16), 1⟩,
  ⟨Obj.DRU_EQ_FOM_MIN, (.uint 2), .rw, 3, true, 0, 256, (.range 0 65535), 100⟩,
  ⟨Obj.DRU_IDE_MODE, (.uint 1), .rws, 3, true, 0, 256, (.range 0 2), 0⟩,
  ⟨Obj.DRU_REPLAY_TIMEOUT, (.uint 4), .rw, 3, true, 0, 256, (.range 500 100000), 2000⟩,
  ⟨Obj.DRU_TIME_ASYM, (.int 4), .rw, 3, true, 0, 256, (.srange (-100000) 100000), 0⟩,
  ⟨Obj.DRU_RX_CREDITS, (.blob 18), .ro, 3, false, 0, 256, .any, 0⟩,
  ⟨Obj.DRU_TX_CREDITS, (.blob 18), .ro, 3, false, 0, 256, .any, 0⟩,
  ⟨Obj.DRU_PEER_ID, (.uint 2), .ro, 3, false, 0, 256, .any, 0⟩,
  ⟨Obj.DRU_PEER_KIND, (.uint 1), .ro, 3, false, 0, 256, .any, 0⟩,
  ⟨Obj.DRU_RX_MASK, (.bits 4), .ro, 3, false, 0, 256, .any, 0⟩,
  ⟨Obj.DRU_TX_MASK, (.bits 4), .ro, 3, false, 0, 256, .any, 0⟩,
  ⟨Obj.DRU_TX_WIDTH, (.uint 1), .ro, 3, false, 0, 256, .any, 0⟩,
  ⟨Obj.DRU_REPLAY_CNT, (.uint 4), .ro, 3, false, 0, 256, .any, 0⟩,
  ⟨Obj.DRU_CRC_ERR, (.uint 4), .ro, 3, false, 0, 256, .any, 0⟩,
  ⟨Obj.DRU_FEC_UNCORR, (.uint 8), .ro, 3, false, 0, 256, .any, 0⟩,
  ⟨Obj.DRU_RESTRIPE_CNT, (.uint 4), .ro, 3, false, 0, 256, .any, 0⟩,
  ⟨Obj.DRU_IDE_STATE, (.uint 1), .ro, 3, false, 0, 256, .any, 0⟩,
  ⟨Obj.BUF_CELLS, (.uint 4), .const, 3, false, 0, 1, .any, 393216⟩,
  ⟨Obj.BUF_FREE, (.uint 4), .ro, 3, false, 0, 1, .any, 0⟩,
  ⟨Obj.BUF_SHARED_SIZE, (.uint 4), .ro, 3, false, 0, 1, .any, 0⟩,
  ⟨Obj.BUF_SHARED_USED, (.uint 4), .ro, 3, false, 0, 1, .any, 0⟩,
  ⟨Obj.BUF_RSV_SYS, (.uint 4), .rws, 3, true, 0, 1, (.range 2048 32768), 8192⟩,
  ⟨Obj.DESC_FREE, (.uint 4), .ro, 3, false, 0, 1, .any, 0⟩,
  ⟨Obj.RTT_FREE, (.uint 4), .ro, 3, false, 0, 1, .any, 0⟩,
  ⟨Obj.RTT_PORT_MIN, (.uint 2), .rws, 3, true, 0, 1, (.range 0 512), 64⟩,
  ⟨Obj.RTT_PORT_MAX, (.uint 4), .rws, 3, true, 0, 1, (.range 0 65536), 8192⟩,
  ⟨Obj.MSG_TAIL_TIMEOUT, (.uint 4), .rw, 3, true, 0, 1, (.range 1000 1000000), 10000⟩,
  ⟨Obj.BUF_ECC_CORR, (.uint 8), .ro, 3, false, 0, 1, .any, 0⟩,
  ⟨Obj.BUF_ECC_UNCORR, (.uint 4), .ro, 3, false, 0, 1, .any, 0⟩,
  ⟨Obj.RTT_STOP_MASK, (.bits 4), .rws, 3, true, 0, 1, (.mask 255), 63⟩,
  ⟨Obj.PORT_CT_EN, .bool, .rws, 3, true, 0, 256, .any, 1⟩,
  ⟨Obj.IN_GRANT, (.blob 16), .rws, 3, true, 0, 256, (.elems 2 16 2048), 332322210869490356576227212484673632⟩,
  ⟨Obj.IN_SH_MAX, (.blob 32), .rws, 3, true, 0, 256, .any, 441711766297440117252344995652019902579485283079869180056811831063232512⟩,
  ⟨Obj.IN_SH_PORT_MAX, (.uint 4), .rws, 3, true, 0, 256, .any, 32768⟩,
  ⟨Obj.Q_MAX, (.blob 32), .rws, 3, true, 0, 256, .any, 220855883148720058626172497826009951289742641539934590028405915531616256⟩,
  ⟨Obj.CLASS_MAP, (.blob 12), .rws, 3, true, 0, 256, (.elems 1 0 7), 1865386836326070961255612673⟩,
  ⟨Obj.MGMT_GRANT, (.uint 2), .rws, 3, true, 0, 256, (.range 4 256), 16⟩]

/-- Rows Q_DEPTH to WIN_TARGETS of the dictionary. -/
def objRows3 : List ObjRow := [
  ⟨Obj.Q_DEPTH, (.blob 32), .ro, 7, false, 0, 256, .any, 0⟩,
  ⟨Obj.IN_HELD, (.blob 32), .ro, 3, false, 0, 256, .any, 0⟩,
  ⟨Obj.IN_SHARED, (.blob 32), .ro, 3, false, 0, 256, .any, 0⟩,
  ⟨Obj.RTT_USED, (.uint 4), .ro, 3, false, 0, 256, .any, 0⟩,
  ⟨Obj.PORT_CELL_RATE, (.uint 4), .ro, 3, false, 0, 256, .any, 0⟩,
  ⟨Obj.FLUSH_CNT, (.uint 4), .ro, 3, false, 0, 256, .any, 0⟩,
  ⟨Obj.SYNTH_CNT, (.uint 4), .ro, 7, false, 0, 256, .any, 0⟩,
  ⟨Obj.STOMP_CNT, (.uint 4), .ro, 3, false, 0, 256, .any, 0⟩,
  ⟨Obj.CT_UNDERRUN, (.uint 4), .ro, 3, false, 0, 256, .any, 0⟩,
  ⟨Obj.SNF_CNT, (.uint 8), .ro, 3, false, 0, 256, .any, 0⟩,
  ⟨Obj.ROUTE_ENTRY, (.uint 4), .rws, 3, true, 0, 65536, .special, 0⟩,
  ⟨Obj.FID_BASE, (.uint 2), .rws, 3, true, 0, 1, (.mult 32), 65504⟩,
  ⟨Obj.PBR_FID_BASE, (.uint 2), .rws, 3, true, 0, 1, (.mult 4096), 0⟩,
  ⟨Obj.ROUTE_MOVE_HOLD, (.uint 4), .rw, 3, true, 0, 1, (.range 0 1000000), 2000⟩,
  ⟨Obj.HG_COUNT, (.uint 1), .rws, 3, true, 0, 1024, (.range 0 16), 0⟩,
  ⟨Obj.HG_MEMBERS, (.blob 16), .rws, 3, true, 0, 1024, .any, 340282366920938463463374607431768211455⟩,
  ⟨Obj.HG_LIVE, (.bits 4), .ro, 3, false, 0, 1024, .any, 0⟩,
  ⟨Obj.HG_BUCKETS, (.blob 64), .ro, 3, false, 0, 1024, .any, 0⟩,
  ⟨Obj.HG_REBALANCE, .bool, .wo, 3, false, 0, 1024, .any, 0⟩,
  ⟨Obj.PART_ENABLE, .bool, .rws, 3, true, 0, 64, .any, 0⟩,
  ⟨Obj.PART_HOST_PORT, (.uint 2), .rws, 3, true, 0, 64, (.orNone 255 65535), 65535⟩,
  ⟨Obj.PART_FID, (.uint 2), .rws, 3, true, 0, 64, .any, 65535⟩,
  ⟨Obj.PART_STATE, (.uint 1), .ro, 7, false, 0, 64, .any, 0⟩,
  ⟨Obj.VPPB_LD, (.uint 2), .rws, 3, true, 0, 4096, (.orNone 4095 65535), 65535⟩,
  ⟨Obj.VPPB_STATE, (.uint 1), .ro, 7, false, 0, 4096, .any, 0⟩,
  ⟨Obj.VPPB_LEASE_END, .time, .rws, 3, true, 0, 4096, .any, 0⟩,
  ⟨Obj.LD_PORT, (.uint 2), .rws, 3, true, 0, 4096, (.orNone 255 65535), 65535⟩,
  ⟨Obj.LD_LDID, (.uint 2), .rws, 3, true, 0, 4096, (.orNone 15 65535), 65535⟩,
  ⟨Obj.LD_FID, (.uint 2), .rws, 3, true, 0, 4096, .any, 65535⟩,
  ⟨Obj.LD_POOL_BASE, (.uint 8), .rws, 3, true, 0, 4096, .any, 0⟩,
  ⟨Obj.LD_SHARED, .bool, .rws, 3, true, 0, 4096, .any, 0⟩,
  ⟨Obj.LD_SIZE, (.uint 8), .ro, 7, false, 0, 4096, .any, 0⟩,
  ⟨Obj.LD_STATE, (.uint 1), .ro, 7, false, 0, 4096, .any, 0⟩,
  ⟨Obj.LD_REMOTE_SIZE, (.uint 8), .rws, 3, true, 0, 4096, .any, 0⟩,
  ⟨Obj.WIN_PART, (.uint 1), .rws, 3, true, 0, 4096, (.orNone 63 255), 255⟩,
  ⟨Obj.WIN_HPA_BASE, (.uint 8), .rws, 3, true, 0, 4096, .any, 0⟩,
  ⟨Obj.WIN_SIZE, (.uint 8), .rws, 3, true, 0, 4096, .any, 0⟩,
  ⟨Obj.WIN_WAYS, (.uint 1), .rws, 3, true, 0, 4096, (.range 0 4), 0⟩,
  ⟨Obj.WIN_GRAN, (.uint 1), .rws, 3, true, 0, 4096, (.range 0 6), 0⟩,
  ⟨Obj.WIN_TARGETS, (.blob 32), .rws, 3, true, 0, 4096, (.elemsOrNone 2 4095 65535), 115792089237316195423570985008687907853269984665640564039457584007913129639935⟩]

/-- Rows WIN_DPA_BASE to DIR_VALID of the dictionary. -/
def objRows4 : List ObjRow := [
  ⟨Obj.WIN_DPA_BASE, (.uint 8), .rws, 3, true, 0, 4096, .any, 0⟩,
  ⟨Obj.WIN_ATTR, (.bits 4), .rws, 3, true, 0, 4096, (.mask 3), 0⟩,
  ⟨Obj.WIN_STATE, (.uint 1), .ro, 7, false, 0, 4096, .any, 0⟩,
  ⟨Obj.ROUTE_EPOCH, (.uint 4), .ro, 3, false, 0, 1, .any, 0⟩,
  ⟨Obj.BIND_EPOCH, (.uint 4), .ro, 3, false, 0, 1, .any, 0⟩,
  ⟨Obj.ROUTE_DRAIN, (.uint 4), .ro, 3, false, 0, 1, .any, 0⟩,
  ⟨Obj.BIND_DRAIN, (.uint 4), .ro, 3, false, 0, 1, .any, 0⟩,
  ⟨Obj.DECODE_MISS_CNT, (.uint 4), .ro, 7, false, 0, 256, .any, 0⟩,
  ⟨Obj.ROUTE_MISS_CNT, (.uint 4), .ro, 3, false, 0, 256, .any, 0⟩,
  ⟨Obj.GCL_ENABLE, .bool, .rws, 3, true, 0, 256, .any, 0⟩,
  ⟨Obj.GCL_BASE_TIME, .time, .rws, 3, true, 0, 256, .any, 0⟩,
  ⟨Obj.GCL_CYCLE, (.uint 4), .rws, 3, true, 0, 256, (.range 1000 1000000000), 1000000⟩,
  ⟨Obj.GCL_LEN, (.uint 1), .rws, 3, true, 0, 256, (.range 1 128), 1⟩,
  ⟨Obj.GCL_STATE, (.uint 1), .ro, 3, false, 0, 256, .any, 0⟩,
  ⟨Obj.GCL_OPER_BASE, .time, .ro, 3, false, 0, 256, .any, 0⟩,
  ⟨Obj.GCL_OPER_CYCLE, (.uint 4), .ro, 3, false, 0, 256, .any, 0⟩,
  ⟨Obj.GCL_OPER_LEN, (.uint 1), .ro, 3, false, 0, 256, .any, 0⟩,
  ⟨Obj.GCL_SWAP_TIME, .time, .ro, 3, false, 0, 256, .any, 0⟩,
  ⟨Obj.GCL_SWAP_N, (.uint 4), .ro, 3, false, 0, 256, .any, 0⟩,
  ⟨Obj.GCL_OVERRUN, (.uint 4), .ro, 3, false, 0, 256, .any, 0⟩,
  ⟨Obj.GCL_HELD, (.uint 8), .ro, 3, false, 0, 256, .any, 0⟩,
  ⟨Obj.GCL_ENTRY, (.uint 8), .rws, 3, true, 0, 32768, .any, 0⟩,
  ⟨Obj.GCL_OPER_ENTRY, (.uint 8), .ro, 3, false, 0, 32768, .any, 0⟩,
  ⟨Obj.CBS_IDLE_SLOPE, (.blob 32), .rws, 3, true, 0, 256, .any, 0⟩,
  ⟨Obj.CBS_HI_CELLS, (.blob 16), .rws, 3, true, 0, 256, (.elems 2 17 2048), 176540786988813729423281248991838242⟩,
  ⟨Obj.CBS_CREDIT, (.blob 64), .ro, 3, false, 0, 256, .any, 0⟩,
  ⟨Obj.CBS_SLOPE_OPER, (.blob 32), .ro, 3, false, 0, 256, .any, 0⟩,
  ⟨Obj.WFQ_WEIGHT, (.blob 6), .rws, 3, true, 0, 256, (.elems 1 1 255), 8830993829896⟩,
  ⟨Obj.WFQ_VTIME, (.uint 8), .ro, 3, false, 0, 256, .any, 0⟩,
  ⟨Obj.HIST_DEPTH, (.blob 64), .ro, 7, false, 0, 2048, .any, 0⟩,
  ⟨Obj.HIST_SOJOURN, (.blob 64), .ro, 7, false, 0, 2048, .any, 0⟩,
  ⟨Obj.Q_DEPTH_MAX, (.uint 4), .ro, 7, false, 0, 2048, .any, 0⟩,
  ⟨Obj.Q_SOJOURN_MAX, (.uint 4), .ro, 7, false, 0, 2048, .any, 0⟩,
  ⟨Obj.HIST_PERIOD, (.uint 4), .rw, 3, true, 0, 1, (.range 100 1000000), 1000⟩,
  ⟨Obj.HIST_CLEAR, .bool, .wo, 3, false, 0, 256, .any, 0⟩,
  ⟨Obj.DIDT_GCL_LEAD, (.uint 4), .rw, 3, true, 0, 1, (.range 2000 20000), 2000⟩,
  ⟨Obj.DIDT_GCL_CNT, (.uint 4), .ro, 3, false, 0, 1, .any, 0⟩,
  ⟨Obj.DIDT_LATE_CNT, (.uint 4), .ro, 3, false, 0, 1, .any, 0⟩,
  ⟨Obj.DIR_ENTRIES, (.uint 4), .ro, 3, false, 0, 1, .any, 805306368⟩,
  ⟨Obj.DIR_VALID, (.uint 4), .ro, 3, false, 0, 1, .any, 0⟩]

/-- Rows CAIRN_SLICES to RGN_BASE of the dictionary. -/
def objRows5 : List ObjRow := [
  ⟨Obj.CAIRN_SLICES, (.uint 1), .rws, 3, true, 0, 1, (.oneOf [1, 2, 4, 8]), 8⟩,
  ⟨Obj.DIR_TIMEOUT, (.uint 4), .rw, 3, true, 0, 1, (.range 10 2000000), 40000⟩,
  ⟨Obj.DIR_LOOKUP, (.uint 8), .wo, 11, false, 0, 1, .any, 0⟩,
  ⟨Obj.DIR_LOOKUP_RESULT, (.blob 24), .ro, 11, false, 0, 1, .any, 0⟩,
  ⟨Obj.DIR_SET_CLEAR, (.uint 4), .wo, 3, false, 0, 1, (.mask 134217727), 0⟩,
  ⟨Obj.WHEEL_SLOT, (.uint 1), .rws, 3, true, 0, 512, (.orNone 35 255), 0⟩,
  ⟨Obj.AGT_KIND, (.uint 1), .rws, 3, true, 0, 64, (.range 0 2), 1⟩,
  ⟨Obj.AGT_REF, (.uint 2), .rws, 3, true, 0, 64, .any, 0⟩,
  ⟨Obj.DIR_HIT, (.uint 8), .ro, 3, false, 0, 8, .any, 0⟩,
  ⟨Obj.DIR_MISS, (.uint 8), .ro, 3, false, 0, 8, .any, 0⟩,
  ⟨Obj.DIR_BISNP, (.uint 8), .ro, 3, false, 0, 8, .any, 0⟩,
  ⟨Obj.DIR_STRAY, (.uint 4), .ro, 3, false, 0, 8, .any, 0⟩,
  ⟨Obj.DIR_ECC_CORR, (.uint 8), .ro, 3, false, 0, 8, .any, 0⟩,
  ⟨Obj.DIR_ECC_UNCORR, (.uint 4), .ro, 3, false, 0, 8, .any, 0⟩,
  ⟨Obj.DEV_BI_DROP, (.uint 4), .ro, 3, false, 0, 256, .any, 0⟩,
  ⟨Obj.NAK_RETRY_DELAY, (.uint 4), .rw, 3, true, 0, 1, (.range 20 10000), 100⟩,
  ⟨Obj.NAK_RSV_COUNT, (.uint 1), .const, 3, false, 0, 1, .any, 8⟩,
  ⟨Obj.RSV_TIMEOUT, (.uint 4), .rw, 3, true, 0, 1, (.range 100 100000), 1000⟩,
  ⟨Obj.TRK_WB_RSV, (.uint 2), .rws, 3, true, 0, 1, (.range 16 512), 64⟩,
  ⟨Obj.TRK_USED, (.uint 2), .ro, 3, false, 0, 8, .any, 0⟩,
  ⟨Obj.TRK_MAX_USED, (.uint 2), .ro, 3, false, 0, 8, .any, 0⟩,
  ⟨Obj.NAK_CNT, (.blob 48), .ro, 3, false, 0, 8, .any, 0⟩,
  ⟨Obj.RSV_CNT, (.uint 8), .ro, 3, false, 0, 8, .any, 0⟩,
  ⟨Obj.RSV_EXPIRED_CNT, (.uint 4), .ro, 3, false, 0, 8, .any, 0⟩,
  ⟨Obj.EVICT_CNT, (.uint 8), .ro, 3, false, 0, 8, .any, 0⟩,
  ⟨Obj.EVICT_USED, (.uint 1), .ro, 3, false, 0, 8, .any, 0⟩,
  ⟨Obj.HOME_TIMEOUT_CNT, (.uint 4), .ro, 3, false, 0, 8, .any, 0⟩,
  ⟨Obj.WALK_POS, (.uint 4), .ro, 3, false, 0, 8, .any, 0⟩,
  ⟨Obj.AGT_STATE, (.uint 1), .ro, 3, false, 0, 64, .any, 0⟩,
  ⟨Obj.AGT_REVIVE, .bool, .wo, 3, false, 0, 64, .any, 0⟩,
  ⟨Obj.AGT_DOWN_TIME, .time, .ro, 3, false, 0, 64, .any, 0⟩,
  ⟨Obj.HOLD_USED, (.uint 2), .ro, 3, false, 0, 256, .any, 0⟩,
  ⟨Obj.HOLD_FULL_CNT, (.uint 4), .ro, 3, false, 0, 256, .any, 0⟩,
  ⟨Obj.HOLD_ENTRY, (.uint 8), .ro, 11, false, 0, 65536, .any, 0⟩,
  ⟨Obj.HOLD_TIMEOUT_CNT, (.uint 4), .ro, 3, false, 0, 256, .any, 0⟩,
  ⟨Obj.FL_SLOT, (.blob 64), .rws, 3, true, 0, 256, .any, 279968092772225526319680285071055534765205687154331191862498637620473983897520118172609686658950889471⟩,
  ⟨Obj.PART_KEY, (.uint 1), .rws, 3, true, 0, 64, .any, 0⟩,
  ⟨Obj.PORT_KEY, (.uint 1), .rws, 3, true, 0, 256, .any, 0⟩,
  ⟨Obj.DBG_KEY, (.uint 1), .rws, 3, true, 0, 1, .any, 0⟩,
  ⟨Obj.RGN_BASE, (.uint 8), .rws, 3, true, 0, 1024, .any, 0⟩]

/-- Rows RGN_SIZE to CH_CB_TIME of the dictionary. -/
def objRows6 : List ObjRow := [
  ⟨Obj.RGN_SIZE, (.uint 8), .rws, 3, true, 0, 1024, .special, 32768⟩,
  ⟨Obj.RGN_SUBDIS, (.uint 1), .rws, 3, true, 0, 1024, .any, 0⟩,
  ⟨Obj.RGN_READ, (.blob 64), .rws, 3, true, 0, 1024, .any, 0⟩,
  ⟨Obj.RGN_WRITE, (.blob 64), .rws, 3, true, 0, 1024, .any, 0⟩,
  ⟨Obj.RGN_ATTR, (.bits 4), .rws, 3, true, 0, 1024, (.mask 3), 0⟩,
  ⟨Obj.FL_EPOCH, (.uint 4), .ro, 3, false, 0, 1, .any, 0⟩,
  ⟨Obj.FL_DRAIN, (.uint 4), .ro, 3, false, 0, 1, .any, 0⟩,
  ⟨Obj.FL_DENY_CNT, (.uint 4), .ro, 3, false, 0, 337, .any, 0⟩,
  ⟨Obj.FL_OVERLAP, (.blob 4), .ro, 3, false, 0, 1, .any, 4294967295⟩,
  ⟨Obj.FL_TAG_HIT, (.uint 8), .ro, 3, false, 0, 1, .any, 0⟩,
  ⟨Obj.FL_TAG_MISS, (.uint 8), .ro, 3, false, 0, 1, .any, 0⟩,
  ⟨Obj.FL_LOCK_LOG_CNT, (.uint 4), .ro, 11, false, 0, 1, .any, 0⟩,
  ⟨Obj.FL_TAG_BASE, (.uint 8), .rw, 3, false, 0, 1, (.mult 2097152), 0⟩,
  ⟨Obj.FL_TAG_COUNT, (.uint 4), .rw, 3, false, 0, 1, (.range 1 16777216), 1⟩,
  ⟨Obj.FL_TAG_VALUE, (.uint 1), .rw, 3, false, 0, 1, .any, 0⟩,
  ⟨Obj.FL_TAG_FILL, .bool, .wo, 3, false, 0, 1, .any, 0⟩,
  ⟨Obj.FL_TAG_PROBE, (.uint 8), .wo, 11, false, 0, 1, .any, 0⟩,
  ⟨Obj.FL_TAG_PROBE_RESULT, (.uint 2), .ro, 11, false, 0, 1, .any, 0⟩,
  ⟨Obj.TI_BASE, (.uint 8), .rw, 3, true, 0, 256, .any, 0⟩,
  ⟨Obj.TI_COUNT, (.uint 4), .rw, 3, true, 0, 256, .any, 0⟩,
  ⟨Obj.TI_VALUE, (.uint 1), .rw, 3, true, 0, 256, .any, 0⟩,
  ⟨Obj.SPD_LINK, (.uint 1), .ro, 3, false, 0, 2, .any, 0⟩,
  ⟨Obj.SPD_LINK_LOSS_CNT, (.uint 4), .ro, 3, false, 0, 2, .any, 0⟩,
  ⟨Obj.CH_ENABLE, .bool, .rw, 3, true, 0, 32, .any, 0⟩,
  ⟨Obj.CH_START_MODE, (.uint 1), .rw, 3, true, 0, 32, (.range 0 2), 1⟩,
  ⟨Obj.CH_FEEDS, (.bits 4), .rw, 3, true, 0, 32, (.mask 3), 3⟩,
  ⟨Obj.CH_INS_DELAY, (.uint 4), .rw, 3, true, 0, 32, (.range 10 10000), 100⟩,
  ⟨Obj.CH_SEAT_CONFIRM, (.uint 2), .rw, 3, true, 0, 32, (.range 5 1000), 20⟩,
  ⟨Obj.CH_SEAT_OPEN_FILT, (.uint 2), .rw, 3, true, 0, 32, (.range 10 10000), 100⟩,
  ⟨Obj.CH_UV_MV, (.uint 2), .rw, 3, true, 0, 32, (.range 6000 60000), 40000⟩,
  ⟨Obj.CH_OV_MV, (.uint 2), .rw, 3, true, 0, 32, (.range 6000 60000), 57000⟩,
  ⟨Obj.CH_UV_FILT, (.uint 2), .rw, 3, true, 0, 32, (.range 2 500), 100⟩,
  ⟨Obj.CH_PG_MV, (.uint 2), .rw, 3, true, 0, 32, (.range 5000 60000), 43200⟩,
  ⟨Obj.CH_GATE_UA, (.uint 1), .rw, 3, true, 0, 32, (.range 10 100), 20⟩,
  ⟨Obj.CH_GATE_TIMEOUT, (.uint 2), .rw, 3, true, 0, 32, (.range 1 1000), 100⟩,
  ⟨Obj.CH_SHARE, .bool, .rw, 3, true, 0, 32, .any, 1⟩,
  ⟨Obj.CH_PORT, (.uint 2), .rws, 3, true, 0, 32, (.orNone 255 65535), 65535⟩,
  ⟨Obj.CH_CB_MA, (.uint 4), .rw, 3, true, 0, 32, (.range 100 100000), 5000⟩,
  ⟨Obj.CH_FT_MA, (.uint 4), .rw, 3, true, 0, 32, (.range 200 200000), 15000⟩,
  ⟨Obj.CH_CB_TIME, (.uint 4), .rw, 3, true, 0, 32, (.range 50 200000), 5000⟩]

/-- Rows CH_RETRY_MS to INT_FALLBACK_CNT of the dictionary. -/
def objRows7 : List ObjRow := [
  ⟨Obj.CH_RETRY_MS, (.uint 4), .rw, 3, true, 0, 32, (.zeroOr 100 60000), 1000⟩,
  ⟨Obj.CH_RETRY_MAX, (.uint 1), .rw, 3, true, 0, 32, .any, 0⟩,
  ⟨Obj.CH_REV_MA, (.uint 4), .rw, 3, true, 0, 32, (.range 100 10000), 500⟩,
  ⟨Obj.CH_STATE, (.uint 1), .ro, 3, false, 0, 32, .any, 0⟩,
  ⟨Obj.CH_PG, .bool, .ro, 3, false, 0, 32, .any, 0⟩,
  ⟨Obj.CH_CAUSE, (.uint 1), .ro, 3, false, 0, 32, .any, 0⟩,
  ⟨Obj.CH_TRIPS, (.uint 4), .ro, 3, false, 0, 32, .any, 0⟩,
  ⟨Obj.CH_RETRIES, (.uint 1), .ro, 3, false, 0, 32, .any, 0⟩,
  ⟨Obj.CH_VOUT, (.uint 2), .ro, 3, false, 0, 32, .any, 0⟩,
  ⟨Obj.CH_SEAT, .bool, .ro, 3, false, 0, 32, .any, 0⟩,
  ⟨Obj.CH_OFF_LEFT, (.uint 4), .ro, 3, false, 0, 32, .any, 0⟩,
  ⟨Obj.CH_FAULT_CLEAR, .bool, .wo, 3, false, 0, 32, .any, 0⟩,
  ⟨Obj.CH_MEAS_CLEAR, .bool, .wo, 3, false, 0, 32, .any, 0⟩,
  ⟨Obj.FEED_RSHUNT, (.uint 4), .rw, 3, true, 0, 64, (.range 100 100000), 2000⟩,
  ⟨Obj.FEED_STATE, (.uint 1), .ro, 3, false, 0, 64, .any, 0⟩,
  ⟨Obj.FEED_VIN, (.uint 2), .ro, 3, false, 0, 64, .any, 0⟩,
  ⟨Obj.FEED_I, (.int 4), .ro, 3, false, 0, 64, .any, 0⟩,
  ⟨Obj.FEED_VSRC, (.uint 2), .ro, 3, false, 0, 64, .any, 0⟩,
  ⟨Obj.FEED_P, (.uint 4), .ro, 3, false, 0, 64, .any, 0⟩,
  ⟨Obj.FEED_E, .energy, .ro, 3, false, 0, 64, .any, 0⟩,
  ⟨Obj.FEED_RDS, (.uint 4), .ro, 3, false, 0, 64, .any, 0⟩,
  ⟨Obj.FEED_IPEAK, (.uint 4), .ro, 3, false, 0, 64, .any, 0⟩,
  ⟨Obj.INT_GLOBAL_EN, .bool, .rw, 3, true, 0, 1, .any, 1⟩,
  ⟨Obj.INT_WAKE_TRANSPORT, (.bits 4), .rw, 3, true, 0, 1, (.mask 3), 1⟩,
  ⟨Obj.INT_ENABLE, .bool, .rw, 3, true, 0, 1024, .any, 1⟩,
  ⟨Obj.INT_PRIO, (.uint 1), .rw, 3, true, 0, 1024, (.range 0 15), 8⟩,
  ⟨Obj.INT_TARGET, (.uint 1), .rw, 3, true, 0, 1024, (.range 0 5), 0⟩,
  ⟨Obj.INT_CAUSE, (.bits 8), .ro, 11, false, 0, 1024, .any, 0⟩,
  ⟨Obj.INT_CAUSE_EN, (.bits 8), .rw, 3, true, 0, 1024, .any, 18446744073709551615⟩,
  ⟨Obj.INT_CAUSE_CLR, (.bits 8), .wo, 3, false, 0, 1024, .any, 0⟩,
  ⟨Obj.INT_STATE, (.uint 1), .ro, 11, false, 0, 1024, .any, 0⟩,
  ⟨Obj.INT_WAKE_EN, .bool, .rw, 3, true, 0, 1024, .any, 0⟩,
  ⟨Obj.INT_CLAIM, (.uint 4), .ro, 3, false, 4, 2, .any, 0⟩,
  ⟨Obj.INT_COMPLETE, (.uint 2), .wo, 3, false, 4, 2, .any, 0⟩,
  ⟨Obj.INT_TGT_EN, .bool, .rw, 3, true, 0, 6, .any, 1⟩,
  ⟨Obj.INT_TGT_THRESH, (.uint 1), .rw, 3, true, 0, 6, (.range 0 15), 0⟩,
  ⟨Obj.INT_TGT_WAKEABLE, .bool, .rw, 3, true, 0, 4, .any, 1⟩,
  ⟨Obj.INT_TGT_FALLBACK, (.uint 1), .rw, 3, true, 0, 6, (.range 0 5), 4⟩,
  ⟨Obj.INT_TGT_STATE, (.uint 1), .ro, 11, false, 0, 6, .any, 0⟩,
  ⟨Obj.INT_FALLBACK_CNT, (.uint 4), .ro, 3, false, 0, 6, .any, 0⟩]

/-- Rows CNT_CTL to LC_AUTH of the dictionary. -/
def objRows8 : List ObjRow := [
  ⟨Obj.CNT_CTL, (.bits 4), .rw, 15, false, 0, 65, (.mask 7), 0⟩,
  ⟨Obj.CNT_CYCLES, (.uint 8), .rw, 15, false, 0, 65, .any, 0⟩,
  ⟨Obj.CNT_SMP_MASK, (.uint 1), .rw, 15, false, 0, 65, .any, 0⟩,
  ⟨Obj.CNT_OVF, (.uint 1), .ro, 15, false, 0, 65, .any, 0⟩,
  ⟨Obj.CNT_OVF_CLR, (.uint 1), .wo, 15, false, 0, 65, .any, 0⟩,
  ⟨Obj.SMP_RECORD, (.blob 88), .ro, 15, false, 0, 65, .any, 0⟩,
  ⟨Obj.SMP_RELEASE, .bool, .wo, 15, false, 0, 65, .any, 0⟩,
  ⟨Obj.SMP_LOST, (.uint 4), .ro, 15, false, 0, 65, .any, 0⟩,
  ⟨Obj.CNT_SNAPSHOT, (.blob 72), .ro, 15, false, 0, 65, .any, 0⟩,
  ⟨Obj.CNT_EVT, (.uint 2), .rw, 15, false, 0, 520, .special, 0⟩,
  ⟨Obj.CNT_MODE, (.uint 1), .rw, 15, false, 0, 520, (.range 0 2), 0⟩,
  ⟨Obj.CNT_PORT, (.uint 2), .rw, 15, false, 0, 520, .special, 65535⟩,
  ⟨Obj.CNT_AUX, (.uint 1), .rw, 15, false, 0, 520, .any, 255⟩,
  ⟨Obj.CNT_THRESH, (.uint 2), .rw, 15, false, 0, 520, (.range 0 16384), 0⟩,
  ⟨Obj.CNT_VALUE, (.uint 8), .rw, 15, false, 0, 520, (.range 0 281474976710655), 0⟩,
  ⟨Obj.PM_MODE, (.uint 1), .ro, 11, false, 0, 1, .any, 0⟩,
  ⟨Obj.PM_PREV_MODE, (.uint 1), .ro, 3, false, 0, 1, .any, 0⟩,
  ⟨Obj.PM_LAST_WAKE, (.bits 4), .ro, 3, false, 0, 1, .any, 0⟩,
  ⟨Obj.PM_WAKE_US, (.uint 4), .ro, 3, false, 0, 1, .any, 0⟩,
  ⟨Obj.PM_GATED_LC, (.bits 4), .ro, 3, false, 0, 1, .any, 0⟩,
  ⟨Obj.PM_GATED_SLICES, (.bits 4), .ro, 3, false, 0, 1, .any, 0⟩,
  ⟨Obj.PM_TARGET, (.uint 1), .rw, 3, false, 0, 1, (.range 1 5), 1⟩,
  ⟨Obj.PM_ENTER, .bool, .wo, 3, false, 0, 1, .any, 0⟩,
  ⟨Obj.PM_ENTER_TIME, .time, .rw, 3, false, 0, 1, .any, 0⟩,
  ⟨Obj.PM_TRIM_LC, (.bits 4), .rw, 3, true, 0, 1, .any, 0⟩,
  ⟨Obj.PM_WAKE_AFTER, (.uint 4), .rw, 3, false, 0, 1, .any, 0⟩,
  ⟨Obj.PM_QUIESCE_MAX, (.uint 4), .rw, 3, true, 0, 1, (.range 1 1000), 50⟩,
  ⟨Obj.PM_L1_TIMEOUT, (.uint 2), .rw, 3, true, 0, 1, (.range 1 100), 10⟩,
  ⟨Obj.PM_DIDT_SLEW, (.uint 2), .rw, 3, true, 0, 1, (.range 20 400), 100⟩,
  ⟨Obj.PM_DIDT_STEP, (.uint 2), .rw, 3, true, 0, 1, (.range 8 400), 32⟩,
  ⟨Obj.PM_DIDT_LEAD, (.uint 4), .rw, 3, true, 0, 1, (.range 2000 20000), 2000⟩,
  ⟨Obj.PM_VCORE_PLAN, (.uint 2), .ro, 3, false, 0, 1, .any, 750⟩,
  ⟨Obj.PM_SENT_MV, (.uint 2), .rw, 3, true, 0, 1, (.range 650 750), 650⟩,
  ⟨Obj.AVS_VREAD_MV, (.uint 2), .ro, 3, false, 0, 1, .any, 0⟩,
  ⟨Obj.AVS_IREAD, (.uint 2), .ro, 3, false, 0, 1, .any, 0⟩,
  ⟨Obj.AVS_ERR_CNT, (.uint 4), .ro, 3, false, 0, 1, .any, 0⟩,
  ⟨Obj.LC_STATE, (.uint 1), .ro, 15, false, 0, 1, .any, 0⟩,
  ⟨Obj.LC_PENDING, (.uint 1), .ro, 11, false, 0, 1, .any, 255⟩,
  ⟨Obj.LC_TARGET, (.uint 1), .rw, 2, false, 0, 1, .any, 255⟩,
  ⟨Obj.LC_AUTH, (.blobVar 0 192), .wo, 2, false, 0, 1, .any, 0⟩]

/-- Rows LC_REQUEST to TALUS_RETRAIN_EN of the dictionary. -/
def objRows9 : List ObjRow := [
  ⟨Obj.LC_REQUEST, .bool, .wo, 2, false, 0, 1, .any, 0⟩,
  ⟨Obj.LC_OWNER_HASH, (.blob 48), .rw, 2, false, 0, 1, .any, 0⟩,
  ⟨Obj.LC_NONCE, (.blob 32), .ro, 2, false, 0, 1, .any, 0⟩,
  ⟨Obj.FW_ACTIVE, (.uint 1), .ro, 11, false, 0, 1, .any, 0⟩,
  ⟨Obj.FW_BOOT_PTR, (.uint 1), .ro, 11, false, 0, 1, .any, 0⟩,
  ⟨Obj.FW_SVN, (.uint 1), .ro, 11, false, 0, 1, .any, 0⟩,
  ⟨Obj.FW_CONFIRMED, .bool, .ro, 3, false, 0, 1, .any, 1⟩,
  ⟨Obj.FW_CHUNK_OFF, (.uint 4), .rw, 3, false, 0, 1, .any, 0⟩,
  ⟨Obj.FW_CHUNK, (.blobVar 1 960), .wo, 3, false, 0, 1, .any, 0⟩,
  ⟨Obj.FW_UPDATE, .bool, .wo, 3, false, 0, 1, .any, 0⟩,
  ⟨Obj.FW_CONFIRM, .bool, .wo, 3, false, 0, 1, .any, 0⟩,
  ⟨Obj.FW_CONFIRM_WINDOW, (.uint 4), .rw, 3, true, 0, 1, (.range 60 86400), 600⟩,
  ⟨Obj.SPDM_SESSIONS, (.uint 1), .ro, 3, false, 0, 1, .any, 0⟩,
  ⟨Obj.PORT_IDE_MODE, (.uint 1), .rws, 3, true, 0, 256, (.range 0 2), 0⟩,
  ⟨Obj.PORT_IDE_STATE, (.uint 1), .ro, 7, false, 0, 256, .any, 0⟩,
  ⟨Obj.IDE_REKEY_S, (.uint 4), .rw, 3, true, 0, 1, (.range 60 86400), 3600⟩,
  ⟨Obj.DBG_LEVEL, (.uint 1), .ro, 11, false, 0, 1, .any, 0⟩,
  ⟨Obj.DBG_CHALLENGE, (.blob 48), .ro, 8, false, 0, 1, .any, 0⟩,
  ⟨Obj.DBG_RESPONSE, (.blob 194), .wo, 8, false, 0, 1, .any, 0⟩,
  ⟨Obj.DBG_DROP, (.uint 1), .wo, 8, false, 0, 1, .special, 0⟩,
  ⟨Obj.DBG_ALLOW, (.uint 1), .rw, 2, true, 0, 1, (.range 0 2), 2⟩,
  ⟨Obj.DBG_IDLE_S, (.uint 4), .rw, 2, true, 0, 1, (.range 10 86400), 600⟩,
  ⟨Obj.DBG_AUTH_FAILS, (.uint 4), .ro, 11, false, 0, 1, .any, 0⟩,
  ⟨Obj.DM_ADDR, (.uint 8), .rw, 8, false, 0, 1, (.mult 4), 0⟩,
  ⟨Obj.DM_LEN, (.uint 2), .rw, 8, false, 0, 1, .special, 4⟩,
  ⟨Obj.DM_DATA, (.blobVar 0 512), .rw, 8, false, 0, 1, .any, 0⟩,
  ⟨Obj.DM_GO, (.uint 1), .wo, 8, false, 0, 1, (.range 1 2), 0⟩,
  ⟨Obj.DM_STATUS, (.uint 4), .ro, 8, false, 0, 1, .any, 0⟩,
  ⟨Obj.RIDGE_HALT, (.bits 4), .rw, 8, false, 0, 1, (.mask 14), 0⟩,
  ⟨Obj.TALUS_STATE, (.uint 1), .ro, 11, false, 0, 1, .any, 0⟩,
  ⟨Obj.TALUS_WINDOW_NUM, (.uint 4), .ro, 3, false, 0, 1, .any, 0⟩,
  ⟨Obj.TALUS_LAST_TIME, .time, .ro, 3, false, 0, 1, .any, 0⟩,
  ⟨Obj.TALUS_HIST_USED, (.uint 2), .ro, 3, false, 0, 1, .any, 0⟩,
  ⟨Obj.TALUS_PERIOD, (.uint 8), .rw, 3, true, 0, 1, (.range 3600000000000 2419200000000000), 604800000000000⟩,
  ⟨Obj.TALUS_FIRST, .time, .rw, 3, true, 0, 1, .any, 0⟩,
  ⟨Obj.TALUS_WINDOW_NOW, .bool, .wo, 3, false, 0, 1, .any, 0⟩,
  ⟨Obj.TALUS_VSTEP_MAX, (.uint 1), .rw, 3, true, 0, 1, (.range 1 25), 10⟩,
  ⟨Obj.TALUS_SRAM_GUARD, (.uint 1), .rw, 3, true, 0, 1, (.range 20 100), 50⟩,
  ⟨Obj.TALUS_FOM_FLOOR, (.uint 2), .rw, 3, true, 0, 1, (.range 50 1000), 150⟩,
  ⟨Obj.TALUS_RETRAIN_EN, .bool, .rw, 3, true, 0, 1, .any, 0⟩]

/-- Rows TALUS_HBM_CE_LIMIT to RDR_RELEASE of the dictionary. -/
def objRows10 : List ObjRow := [
  ⟨Obj.TALUS_HBM_CE_LIMIT, (.uint 2), .rw, 3, true, 0, 1, (.range 1 1000), 16⟩,
  ⟨Obj.TALUS_RDS_WARN, (.uint 2), .rw, 3, true, 0, 1, (.range 110 400), 150⟩,
  ⟨Obj.TALUS_RDS_CRIT, (.uint 2), .rw, 3, true, 0, 1, .special, 200⟩,
  ⟨Obj.VCORE_BASE, (.uint 2), .const, 3, false, 0, 1, .any, 0⟩,
  ⟨Obj.VCORE_MAX, (.uint 2), .const, 3, false, 0, 1, .any, 774⟩,
  ⟨Obj.RO_PPM_PER_MV, (.uint 2), .const, 3, false, 0, 1, .any, 0⟩,
  ⟨Obj.VCORE_REQUIRED, (.uint 2), .ro, 3, false, 0, 1, .any, 0⟩,
  ⟨Obj.RO_DEG, (.uint 4), .ro, 3, false, 0, 64, .any, 0⟩,
  ⟨Obj.SRAM_VMIN, (.uint 2), .ro, 3, false, 0, 32, .any, 0⟩,
  ⟨Obj.LANE_FOM_HIST, (.blob 16), .ro, 3, false, 0, 512, .any, 0⟩,
  ⟨Obj.TALUS_FOM_PIN, .bool, .rw, 3, true, 0, 512, .any, 0⟩,
  ⟨Obj.TALUS_CEIL_RESET, .bool, .wo, 3, false, 0, 256, .any, 0⟩,
  ⟨Obj.HBM_RETIRED, (.uint 2), .ro, 3, false, 0, 2, .any, 0⟩,
  ⟨Obj.HBM_CE_WINDOW, (.uint 4), .ro, 3, false, 0, 2, .any, 0⟩,
  ⟨Obj.FET_RDS_BASE, (.uint 4), .ro, 3, false, 0, 64, .any, 0⟩,
  ⟨Obj.FET_RDS_DRIFT, (.uint 2), .ro, 3, false, 0, 64, .any, 0⟩,
  ⟨Obj.FET_REBASE, .bool, .wo, 3, false, 0, 64, .any, 0⟩,
  ⟨Obj.MOVE_FREEZE_MAX, (.uint 4), .rw, 3, true, 0, 1, (.range 10 1000), 100⟩,
  ⟨Obj.MOVE_CUTOVER_DIRTY, (.uint 4), .rw, 3, true, 0, 1, (.range 0 65536), 256⟩,
  ⟨Obj.MOVE_PASS_MAX, (.uint 1), .rw, 3, true, 0, 1, (.range 1 32), 8⟩,
  ⟨Obj.MOVE_RATE_USED, (.uint 4), .ro, 3, false, 0, 1, .any, 0⟩,
  ⟨Obj.MOVE_DST_REFUSED, (.uint 4), .ro, 3, false, 0, 1, .any, 0⟩,
  ⟨Obj.MOVE_SRC, (.uint 8), .rw, 3, false, 0, 16, .any, 0⟩,
  ⟨Obj.MOVE_DST, (.uint 8), .rw, 3, false, 0, 16, .any, 0⟩,
  ⟨Obj.MOVE_SIZE, (.uint 8), .rw, 3, false, 0, 16, .any, 0⟩,
  ⟨Obj.MOVE_CUTOVER_TIME, .time, .rw, 3, false, 0, 16, .any, 0⟩,
  ⟨Obj.MOVE_RATE_MAX, (.uint 2), .rw, 3, false, 0, 16, (.range 1 400), 400⟩,
  ⟨Obj.MOVE_START, .bool, .wo, 3, false, 0, 16, .any, 0⟩,
  ⟨Obj.MOVE_PHASE, (.uint 1), .ro, 3, false, 0, 16, .any, 0⟩,
  ⟨Obj.MOVE_PASS, (.uint 1), .ro, 3, false, 0, 16, .any, 0⟩,
  ⟨Obj.MOVE_DIRTY, (.uint 4), .ro, 3, false, 0, 16, .any, 0⟩,
  ⟨Obj.MOVE_COPIED, (.uint 8), .ro, 3, false, 0, 16, .any, 0⟩,
  ⟨Obj.MOVE_HANDLE, (.uint 2), .ro, 3, false, 0, 16, .any, 65535⟩,
  ⟨Obj.MOVE_FREEZES, (.uint 1), .ro, 3, false, 0, 16, .any, 0⟩,
  ⟨Obj.MOVE_RDR, (.uint 1), .ro, 3, false, 0, 16, .any, 255⟩,
  ⟨Obj.RDR_SRC, (.uint 8), .ro, 3, false, 0, 64, .any, 0⟩,
  ⟨Obj.RDR_DST, (.uint 8), .ro, 3, false, 0, 64, .any, 0⟩,
  ⟨Obj.RDR_SIZE, (.uint 8), .ro, 3, false, 0, 64, .any, 0⟩,
  ⟨Obj.RDR_STATE, (.uint 1), .ro, 3, false, 0, 64, .any, 0⟩,
  ⟨Obj.RDR_RELEASE, .bool, .rws, 3, false, 0, 64, .any, 0⟩]

/-- Rows RDR_COMMIT_TIME to SCHED_MISSED of the dictionary. -/
def objRows11 : List ObjRow := [
  ⟨Obj.RDR_COMMIT_TIME, .time, .ro, 3, false, 0, 64, .any, 0⟩,
  ⟨Obj.TIME_NOW, .time, .ro, 15, false, 0, 1, .any, 0⟩,
  ⟨Obj.TIME_STATUS, (.bits 4), .ro, 15, false, 0, 1, .any, 0⟩,
  ⟨Obj.TIME_UNC, (.uint 4), .ro, 15, false, 0, 1, .any, 0⟩,
  ⟨Obj.TIME_SLEEP_TICKS, (.uint 8), .ro, 3, false, 0, 1, .any, 0⟩,
  ⟨Obj.TIME_RATE_ADJ, (.int 4), .ro, 3, false, 0, 1, .any, 0⟩,
  ⟨Obj.TIME_ROLE, (.uint 1), .rws, 3, true, 0, 1, (.range 0 2), 0⟩,
  ⟨Obj.TIME_UPSTREAM, (.uint 2), .rws, 3, true, 0, 1, (.orNone 255 65535), 65535⟩,
  ⟨Obj.TIME_BACKUP, (.uint 2), .rws, 3, true, 0, 1, (.orNone 255 65535), 65535⟩,
  ⟨Obj.TIME_REF_SEL, (.uint 1), .rws, 3, true, 0, 1, (.range 0 1), 0⟩,
  ⟨Obj.TIME_STEP_LIMIT, (.uint 4), .rw, 3, true, 0, 1, (.range 100 1000000000), 1000⟩,
  ⟨Obj.TIME_UNC_LIMIT, (.uint 4), .rw, 3, true, 0, 1, (.range 20 4294967294), 1000⟩,
  ⟨Obj.TIME_HOLDOVER_RATE, (.uint 4), .rw, 3, true, 0, 1, (.range 1 100000), 50⟩,
  ⟨Obj.TIME_XT32_PPM, (.uint 2), .rw, 3, true, 0, 1, (.range 1 500), 50⟩,
  ⟨Obj.TIME_MONO, .bool, .rw, 3, true, 0, 1, .any, 1⟩,
  ⟨Obj.TIME_PPS_OUT_ADJ, (.int 4), .rw, 3, true, 0, 1, (.srange (-500000) 500000), 0⟩,
  ⟨Obj.TIME_SECONDS_NEXT, (.uint 8), .wo, 3, false, 0, 1, .any, 0⟩,
  ⟨Obj.TIME_PORT_SERVE, .bool, .rws, 3, true, 0, 256, .any, 1⟩,
  ⟨Obj.SCHED_TIME, .time, .rw, 3, false, 0, 512, .any, 0⟩,
  ⟨Obj.SCHED_KIND, (.uint 1), .ro, 3, false, 0, 512, .any, 0⟩,
  ⟨Obj.SCHED_POLICY, (.uint 1), .rw, 3, false, 0, 512, (.range 0 1), 0⟩,
  ⟨Obj.SCHED_PERIOD, (.uint 8), .rw, 3, false, 0, 512, .any, 0⟩,
  ⟨Obj.SCHED_STATE, (.uint 1), .ro, 3, false, 0, 512, .any, 0⟩,
  ⟨Obj.SCHED_MISSED, (.uint 4), .ro, 3, false, 0, 512, .any, 0⟩]

/-- The whole dictionary, by rising address. -/
def objRows : List ObjRow :=
  objRows0 ++ objRows1 ++ objRows2 ++ objRows3 ++ objRows4 ++ objRows5 ++ objRows6 ++ objRows7 ++ objRows8 ++ objRows9 ++ objRows10 ++ objRows11

/-- The row of an object, if the dictionary has it. -/
def objRow (o : Nat) : Option ObjRow := objRows.find? (fun r => r.id == o)

/-- The size in bytes of a value of fixed size; a STR or a variable BLOB has none. -/
def DType.size : DType → Nat
  | .bool => 1
  | .uint n => n
  | .int n => n
  | .bits n => n
  | .time => 10
  | .energy => 8
  | .str => 0
  | .blob n => n
  | .blobVar _ _ => 0

end Sys2Proof.Machine
end

