-- ==== Sys2Proof/Machine/State.lean ====
section
/-!
DEFINITION. The state of the block: everything the spec gives it, as plain data.

Dictionary objects whose value is a plain register live in `regs`, keyed by (object, instance).
Everything the chapters describe beyond the objects (links, queues, trackers, sequencers, timers)
lives in one record per subject. A time stamp is a value of `clk`; zero durations never occur.
-/

namespace Sys2Proof.Machine

/-- Power modes (R293); the numbers of PM_MODE. -/
inductive Mode where
  | boot | active | trim | hold | sentinel | service
  deriving DecidableEq, Repr

/-- An event record (R60) before it is laid out in bytes. `data` is the 96-bit DATA field. -/
structure EvtRec where
  code : Nat
  source : Nat
  sev : Nat
  dropped : Bool
  inst : Nat
  seq : Nat
  time : Nat
  data : Nat
  deriving DecidableEq, Repr

/-- A subscription filter (R61). -/
structure Filter where
  first : Nat
  last : Nat
  minSev : Nat
  deriving DecidableEq, Repr

/-- STAGE_STATE (R413). -/
inductive StageSt where
  | free | opened | sealed | committing
  deriving DecidableEq, Repr

/-- A stage: its owner, the values it holds, its handle, and when its owner last wrote to it (R51 to R56).
`slot` is the event slot of its commit, 512 for none; `present` are the LDs that it binds and that were present when the commit
was accepted (R134). -/
structure Stage where
  st : StageSt
  owner : Nat
  entries : Tbl Nat
  lop : Nat
  touched : Nat
  slot : Nat
  present : List Nat
  deriving DecidableEq, Repr

/-- LOP_STATE (*Long-operation state machine*). -/
inductive LopSt where
  | free | queued | running | committed | done | aborting | aborted | failed
  deriving DecidableEq, Repr

/-- A long-operation handle (R57). `arg` is what the kind runs on: a stage, a move channel, a profile, ...;
`subjects` are the epochs its commit touched (R55); `ended` is when it reached its end state, `since` when it started or reached its commit point. -/
structure Lop where
  kind : Nat
  st : LopSt
  progress : Nat
  result : Nat
  owner : Nat
  start : Nat
  commit : Nat
  arg : Nat
  slot : Nat
  subjects : List Nat
  ended : Nat
  since : Nat
  cause : Nat             -- failure cause as the kind's chapter numbers it, which no object shows; 0 none
  fm : Bool               -- started by a CXL FM API command, whose background completion reports the outcome (R139)
  deriving DecidableEq, Repr

/-- A message under reassembly (R45): its bytes so far, whether they passed 1 024, and when its first packet came. -/
structure Reasm where
  bytes : List Byte
  tooLong : Bool
  started : Nat
  deriving DecidableEq, Repr

/-- The dictionary service: transports, stages, handles, event delivery (R41 to R64). -/
structure DictSt where
  reasm : Tbl (Option Reasm)        -- by (endpoint, MCTP tag)
  inbox : Tbl (List (Nat × Req))    -- requests not yet answered, oldest first, with the clk at which each came
  late : Tbl (List (Nat × Req))     -- requests that wait in their transports from step 3 of a mode entry on (R295)
  stages : Tbl Stage                -- by stage number 1 to 16
  lops : Tbl Lop                    -- by handle 0 to 63
  filters : Tbl (Option Filter)     -- by (endpoint, filter number)
  queues : Tbl (List EvtRec)        -- undelivered records by endpoint, oldest first
  dropMark : Tbl Bool               -- records were dropped since the last delivered one
  seq : Nat                         -- SEQ of the next record
  limited : Tbl Nat                 -- when a rate-limited event was last raised, plus 1, by (code, instance)
  i3cAddr : Nat                     -- I3C dynamic address; 0 none yet
  peers : Tbl Nat                   -- EID that last sent a packet, by MCTP endpoint
  deriving DecidableEq, Repr

/-- States of the time state machine (R33), in the numbers of TIME_STATUS. -/
inductive TState where
  | freeRun | locking | locked | holdover | unsync
  deriving DecidableEq, Repr

/-- A scheduled-event slot (R37 to R39, R410). `time` is its next occurrence, `first` its first time;
`arg` is what it fires on (a stage, a vPPB, a move channel, a port). -/
structure Slot where
  kind : Nat
  state : Nat
  time : Nat
  first : Nat
  period : Nat
  policy : Nat
  missed : Nat
  arg : Nat
  due : Nat          -- clk of the FCLK cycle in which the counter reached `time`, plus 1; 0 not reached by counting
  deriving DecidableEq, Repr

/-- The time-flit dialog on one Drudar port (R106): the receive time of the peer's last flit and its t1,
our last transmit time, and the transmit and receive times of the last complete exchange. -/
structure FlitDlg where
  rxT : Nat          -- our receive time of the peer's last flit
  peerT1 : Nat       -- its transmit time
  txT : Nat          -- our last transmit time t3
  exT1 : Nat
  exT2 : Nat
  exT3 : Nat
  have3 : Bool       -- exT1 to exT3 are of one exchange
  lastTx : Nat       -- clk of our last time flit, plus 1; 0 never
  lastRx : Nat       -- clk of the last valid exchange, plus 1
  valid : Nat        -- consecutive valid exchanges
  unc : Nat          -- uncertainty of the source
  hops : Nat         -- hop count of the source
  txTid : Nat        -- TID of our last time flit
  rxTid : Nat        -- TID of the peer's last one
  deriving DecidableEq, Repr

/-- The preceding PTM dialog of a CXL-mode port (R31). -/
structure PtmDlg where
  valid : Bool
  arrival : Nat
  departure : Nat
  deriving DecidableEq, Repr

/-- Fabric time: the counter in 2^-32 ns, the loop, the state machine and the event slots (R25 to R40). -/
structure TimeSt where
  ctr : Nat
  y : Rat                 -- the loop's frequency estimate (R409)
  st : TState
  slew : Int              -- offset still to be removed, 2^-32 ns
  slewing : Bool
  refHeld : Bool          -- TIME_REF_IN lost: the increment is held (R29)
  refSeen : Bool          -- TIME_REF_IN present
  uncBase : Nat           -- TIME_UNC at entry to HOLDOVER or UNSYNC, ns (R34)
  uncSince : Nat          -- ctr-independent clk of that entry
  lockCount : Nat         -- consecutive good exchanges in LOCKING
  lastExch : Option Nat   -- clk of the previous exchange used
  noFreq : Bool           -- the next exchange leaves y unchanged
  edge : Option Nat       -- time assigned to the last edge, ns
  edgeClk : Nat           -- clk of the last edge
  edgeGap : Bool          -- edges may have gone unseen (HOLD, SENTINEL)
  secNext : Option Nat    -- TIME_SECONDS_NEXT, if written since the previous edge
  backup : Bool           -- the slave's source is TIME_BACKUP
  srcAt : Nat             -- clk when the ports of a slave's sources were last set
  flits : Tbl FlitDlg     -- by Drudar port
  ptm : Tbl PtmDlg        -- by CXL-mode port
  ppsOut : Bool
  ppsSec : Nat            -- the second of the last TIME_PPS_OUT pulse, plus 1; 0 none
  ppsAt : Nat             -- clk at which the pulse rose
  sleepTicks : Nat        -- XT32 ticks counted since the counter stopped
  freqClk : Nat           -- clk of the last TIME_FREQ_UPDATE
  slots : Tbl Slot
  deriving DecidableEq, Repr

/-- PORT_STATE of a formed port in a running cluster; NOT_FORMED and GATED are computed from the cluster. -/
inductive PortSt where
  | disabled | flushing | detect | training | l0 | recovery | l1 | trainFail
  deriving DecidableEq, Repr

/-- Where a training or recovering port stands: the CXL-mode LTSSM and the Drudar training state machine. -/
inductive Phase where
  | idle | detecting | polling | config | eq | linkInit | enumerating
  | sync | druEq | fecLock | init | up | retrain
  deriving DecidableEq, Repr

/-- A port's link beyond its objects (R65 to R109). Rates are codes of PORT_SPEED; times are `clk`. -/
structure Port where
  st : PortSt
  phase : Phase
  dlUp : Bool
  ladderWaits : Bool      -- the core that runs the ladder is halted (R13)
  rate : Nat              -- rung now trained
  partnerMax : Nat        -- partner's highest advertised rate; 0 not known
  partnerCeil : Nat       -- a Drudar peer's advertised ceiling
  eqTries : Nat           -- failed equalizations at this rung
  noRate : Nat            -- rate not attempted again (R74); 0 none
  leftDetect : Nat
  phaseAt : Nat           -- clk at which its Drudar phase began
  fails : Nat             -- consecutive training failures (R75)
  failedAt : Nat
  narrowedAt : Nat        -- clk of the last narrowing or failed widening, plus 1; 0 none
  widenTries : Nat
  widening : Bool
  changing : Bool         -- a width change is in progress (R81)
  wantWidth : Nat         -- the width it goes to
  byL0p : Bool
  bypass : Bool           -- equalization bypass agreed
  reversedNext : Bool
  perstReleased : Bool    -- BAY_PERST_N released, for a port with a channel (R15)
  flushAt : Nat           -- clk at which it was marked DL_Down
  flushDone : Bool
  flushCells : Nat
  flushSynth : Nat
  purge : Bool            -- a directory purge is required before it leaves FLUSHING (R162)
  l1Req : Bool            -- told to enter L1 (R295)
  fullWidth : Nat         -- width and order formed in the Configuration of this training (R82)
  fullRev : Bool
  oldWidth : Nat          -- width before the widening attempt
  lastRetrain : Nat       -- cause of the running RETRAIN
  spent : Bool            -- its training tries are used up (R75)
  respond : Nat           -- lanes that responded in Configuration, port lane 0 in bit 0 (R80)
  boardRev : Bool         -- the board wires its lanes in reversed order (R67)
  deriving DecidableEq, Repr

/-- A lane beyond its objects: loss and widening times, the PRBS checker, and the receiver settings that a
Quartz engine steps (R79, R83, R87). -/
structure Lane where
  lossAt : Nat            -- clk of the loss that made it SUSPECT, plus 1; 0 none
  restoring : Bool
  lossPend : Nat          -- it lost lock while the width was changing: the cause of LANE_SUSPECT plus 1; 0 not (R81)
  prbsLocked : Bool
  errs : Nat              -- error count (R84)
  bits : Nat              -- bits compared, in tenths of a bit times 2^-32
  countAt : Nat           -- clk to which both are counted
  param : Nat             -- next parameter in turn, 0 to 7
  codes : List Int        -- moves made from the settings found at equalization, per parameter
  dirs : List Int         -- direction last accepted, per parameter; 0 none
  below : Nat
  margining : Bool        -- adaptation suspended by a partner's margining (R88)
  droppedAt : Nat         -- Drudar: clk of the drop or failed restore, plus 1
  tries : Nat
  skew : Nat              -- stored skew, 0.1 ns
  peerLock : Bool         -- the peer's receiver reports this lane locked
  goodWords : Nat         -- consecutive good training words in SYNC
  lockAt : Nat            -- clk of its first lock in SYNC, plus 1
  eqDone : Bool
  deriving DecidableEq, Repr

/-- A sequenced frame in the replay buffer, with its IDE counter (R99, R100). -/
structure TxFrame where
  frame : Frame
  count : Nat
  deriving DecidableEq, Repr

/-- A Drudar link's sequence, replay, credit, stripe and IDE state (R95 to R108). -/
structure Dru where
  txSeq : Nat               -- SEQ of the next new sequenced frame
  rxExp : Nat               -- SEQ expected
  rxAny : Bool              -- a sequenced frame has been accepted
  nakSent : Bool            -- a NAK was sent in this discard run
  replay : List TxFrame     -- held frames, oldest first
  resend : Nat              -- frames at the end of `replay` still to be sent again
  ackAt : Nat               -- clk of the last acknowledgement or first held frame
  sameSeq : Nat             -- consecutive replays from one SEQ
  lastFrom : Nat            -- that SEQ, plus 1
  txCr : List Nat           -- credits held from the peer, classes 0 to 8
  grant : List Nat          -- credits granted to the peer
  crSeen : List Nat         -- last CR_TOTAL received per class
  crTotal : List Nat        -- running total of credits returned per class
  crDirty : List Bool       -- class total changed since last reported
  crPtr : Nat               -- class reported next
  initTx : Nat              -- clk of the last INIT sent, plus 1
  initRx : Bool
  amSeq : Nat
  amMiss : Nat              -- consecutive marker groups missed on every lane
  amAt : Nat                -- clk of the last marker group sent, plus 1; 0 none
  cwCount : Nat             -- codewords sent since then
  symPos : Nat              -- symbols sent since then
  lineBits : Nat            -- bits of the frame stream that no codeword holds yet, first bit least significant
  lineLen : Nat             -- how many they are
  dropMask : Nat            -- mask in the DROP or ADD being repeated; 0 none
  dropAdd : Bool            -- it is an ADD
  dropAt : Nat
  dropLane : Nat            -- the physical lane it drops or adds
  restripeTx : Bool         -- markers with RESTRIPE are due on transmit; the frame stream waits for them
  ideSlot : Nat             -- key slot in use for transmit
  ideNext : Nat             -- key slot to change to at the next MAC, 0 or 1
  macCov : List Frame       -- DATA and MGMT frames since the last MAC sent, as they were sent
  macAt : Nat               -- clk of the last of them
  held : List Frame         -- containment: frames waiting for their MAC
  flits : List Frame        -- accepted DATA frames whose flits the ingress has not taken yet, in order
  skid : List Nat           -- skid: numbers of the messages with cells forwarded since the last MAC
  deriving DecidableEq, Repr

/-- A Quartz engine (R86): its rounds, its slots and its background scan. -/
structure Quartz where
  lane : Nat                -- offset 0 to 63 of the lane being scanned
  step : Nat                -- 0 to 15
  sweepAt : Nat             -- clk of the start of the sweep
  slots : List Nat          -- privileged lanes that still get their slot in this round, ascending
  roundAt : Nat             -- clk of the start of the round, plus 1; 0 none yet
  freeAt : Nat              -- clk of the end of the last slot, or of the start of the round
  margins : List (Nat × MarginCmd)   -- margining commands of partners not yet served, oldest first
  deriving DecidableEq, Repr

/-- Lanes, links and Quartz engines. -/
structure LinkSt where
  ports : Tbl Port
  lanes : Tbl Lane
  dru : Tbl Dru
  qz : Tbl Quartz
  l0pOn : Tbl Bool          -- L0p negotiated, by port
  halted : Bool             -- every lane under a boundary-scan test instruction (R349)
  deriving DecidableEq, Repr

/-- What a message is to the switching core. -/
inductive MsgKind where
  | request | posted | completion | snoop | birsp
  deriving DecidableEq, Repr

/-- A message in the GT9, with the record that stage 2 made of it (R131). `part` 255 and `ld` 65535 are none;
`inPort` 255 with `internal` set is an internal requester. -/
structure Msg where
  uid : Nat             -- the model's own number of the message
  kind : MsgKind
  chan : Chan
  op : MemOp
  src : Nat
  dst : Nat
  rq : Nat
  part : Nat
  hpa : Nat
  home : Nat            -- pool address after HDM decode (home address)
  pool : Nat            -- pool address after redirect (R232)
  dpa : Nat
  ld : Nat
  win : Nat             -- the window that decoded it; 4096 none
  tag : Nat
  bytes : Nat
  len : Nat
  cls : Nat
  inPort : Nat
  internal : Bool
  egress : Nat
  bucket : Nat          -- group * 64 + bucket it was routed by; 65536 none
  eRoute : Nat          -- epochs recorded at stage 2
  eBind : Nat
  eFl : Nat
  coherent : Bool
  poison : Bool
  stomp : Bool
  whole : Bool
  status : Nat          -- Drudar completion status
  trk : Bool
  track : Nat           -- 131071 none
  skipLo : Nat          -- bytes refused at the start (R261)
  skipHi : Nat          -- bytes refused at the end
  rcnt : Nat
  ans : Nat             -- cause with which it is answered once it holds a tracking entry (R12); 0 it goes on
  born : Nat            -- clk at which it arrived
  ldid : Nat            -- LD-ID sent to a multi-logical device (R123); 0xFFFF none
  snp : Nat             -- BISnp: 1 BISnpInv, 2 BISnpData, 3 BISnpCur
  targets : List Nat    -- multicast: queue numbers
  data : List Byte
  deriving DecidableEq, Repr

/-- A buffer cell: the state word of R141 and whose credit it holds. -/
structure Cell where
  next : Nat
  refcnt : Nat
  stomp : Bool
  last : Bool
  eccBad : Bool
  shared : Bool
  sys : Bool
  port : Nat            -- ingress port whose reserve or shared charge it is
  cls : Nat
  unit : Nat            -- credit it holds: the CXL channel 0 to 11, or 16 + class on a Drudar port
  queue : Nat           -- output queue it counts in, 2048 none yet
  data : List Byte
  deriving DecidableEq, Repr

/-- A message descriptor (R142) with the message it describes; NEXT is its successor in the queue. -/
structure Desc where
  first : Nat
  lastCell : Nat
  len : Nat
  complete : Bool
  mcast : Bool
  ct : Bool
  started : Bool
  got : Nat             -- cells written
  sent : Nat
  ended : Bool          -- stomped after all held cells were sent: an empty stomped flit ends it
  enq : Nat             -- clk at which it was appended
  closed : Nat          -- fabric time at which its class's gate closed while it was being sent, plus 1; 0 not
  msg : Msg
  deriving DecidableEq, Repr

/-- A request tracking table entry (R131, R155). -/
structure Rtt where
  port : Nat            -- requester's port
  egress : Nat
  at_ : Nat
  orphan : Bool
  synth : Bool          -- on its port's synthesized list
  claimed : Bool        -- its completion has been chosen
  msg : Msg
  deriving DecidableEq, Repr

/-- A synthesized completion waiting on a port's list (R158): cause 1 ROUTE_MISS, 2 PORT_LOST, 3 TIMEOUT, 4 STOMP,
5 Flint's silent completion, 6 decode miss, 7 unsupported request, 8 BIRspI to a device. -/
structure Synth where
  cause : Nat
  trk : Bool
  track : Nat
  msg : Msg
  at_ : Nat             -- clk at which it was listed
  deriving DecidableEq, Repr

/-- The form of a synthesized or silent completion (R129, R158, R206, R261). -/
inductive Answer where
  /-- A CXL.io completion with status Unsupported Request. -/
  | ioUR
  /-- A CXL.io completion with status Completer Abort. -/
  | ioCA
  /-- A successful CXL.io completion with zero data. -/
  | ioData
  /-- CXL.mem MemData of zeros, with poison as marked. -/
  | memData (poison : Bool)
  /-- CXL.mem NDR Cmp. -/
  | cmp
  /-- CXL.mem NDR Cmp-E. -/
  | cmpE
  /-- CXL.cache H2D GO-Err. -/
  | goErr
  /-- A Drudar completion with a status; `data` with zeros for a read. -/
  | dru (status : Nat) (data : Bool)
  deriving DecidableEq, Repr

/-- A message whose cells are still arriving at an ingress (R150). -/
structure InMsg where
  uid : Nat
  msg : Msg
  got : Nat
  lastAt : Nat
  discard : Bool
  deriving DecidableEq, Repr

/-- The cells of a message that has no descriptor yet (it waits for stage 3, an entry, a hold or Cairn). -/
structure Chain where
  first : Nat
  lastCell : Nat
  got : Nat
  complete : Bool
  deriving DecidableEq, Repr

/-- Why a request waits in the ingress hold buffer (R132, R212, R240). -/
inductive HoldWhy where
  | route | nak | freeze
  deriving DecidableEq, Repr

/-- A hold-buffer entry (R212). -/
structure Held where
  why : HoldWhy
  msg : Msg
  cause : Nat
  slice : Nat
  since : Nat
  retryAt : Nat
  retries : Nat
  deriving DecidableEq, Repr

/-- A destination or bucket that a swap or rebalance moved (R132): key 0 for a fabric ID, 1 for group * 64 + bucket.
Messages numbered below `before` were routed before the move. -/
structure Moved where
  before : Nat
  ports : List Nat      -- where it sent before: one port, or one by bucket; [] a moved bucket
  drained : Nat         -- clk at which the last old message left, plus 1
  deriving DecidableEq, Repr

/-- A check that waits for a colour-tag line (R255, R258). -/
structure TagWait where
  port : Nat
  line : Nat
  at_ : Nat
  msg : Msg
  deriving DecidableEq, Repr

/-- One fill of the colour-tag table (R259): granules `base` to `base + count - 1`; value 256 marks a lost line (R258). -/
structure TagFill where
  base : Nat
  count : Nat
  value : Nat
  deriving DecidableEq, Repr

/-- The decode of one window (R127, R128). -/
structure WinCfg where
  part : Nat
  base : Nat
  size : Nat
  ways : Nat
  gran : Nat
  targets : List Nat
  dpa : Nat
  shared : Bool
  deriving DecidableEq, Repr

/-- An unbind walk (R136): the retiring window, its vPPB, its handle, and the sets each slice still has to visit. -/
structure Walk where
  win : Nat
  vppb : Nat
  ld : Nat
  part : Nat
  lop : Nat
  cfg : WinCfg          -- what the window decoded
  bases : List Nat      -- pool base of each target at the commit point
  left : List Nat       -- sets left per slice
  todo : List (Nat × Nat)  -- (slice, line): lines of visited sets that were BUSY or found no tracker
  snoops : Nat          -- back-invalidates unanswered
  deriving DecidableEq, Repr

/-- A binding or unbinding of a vPPB that a commit has made and whose handle has not ended (R135, R136). -/
structure Binding where
  vppb : Nat
  ld : Nat
  lop : Nat
  unbind : Bool
  walked : Bool
  since : Nat           -- clk of its commit point
  deriving DecidableEq, Repr

/-- Egress state of a port (R165 to R184). Credits are exact, in bits; `crAt` is the `clk` to which each is
computed; list entries are `GCL_ENTRY` words; `mgmt` holds MGMT frames waiting to be sent. -/
structure Egress where
  credit : List Rat
  crAt : List Nat
  vtime : Nat
  start : List Nat         -- WFQ start tags, classes 0 to 5
  finish : List Nat        -- WFQ finish tags
  active : List Bool
  cur : Nat                -- class whose message occupies the transmitter; 8 none
  under : Bool             -- an underrun of that message is running
  gclOn : Bool             -- a list runs
  oper : List Nat          -- the running list
  pendOn : Bool            -- a swap is armed
  pendList : List Nat      -- the list that it makes the running one
  pendBase : Nat           -- its base time B
  pendN : Nat              -- n of R170
  pendMissed : Bool
  pendSlot : Nat           -- its event slot; 512 none
  gateIdx : Nat            -- entry of the running list in force since the last gate change
  decided : List Bool      -- a decision has been taken since the class's gate opened
  heldUid : List Nat       -- by class: uid + 1 of the head message that GCL_HELD counted last
  nextAt : Nat             -- clk at which the transmitter is free
  mgmt : List (List Byte)
  sinceMgmt : Nat          -- frames sent since the last MGMT frame, at most 7
  deriving DecidableEq, Repr

/-- Routing, switching, Flint and egress state. -/
structure FabSt where
  cells : Tbl (Option Cell)
  descs : Tbl (Option Desc)
  queues : Tbl (List Nat)            -- descriptor numbers by (port, class), head first
  rtt : Tbl (Option Rtt)
  rttWait : Tbl (List Msg)           -- by port, in arrival order
  synth : Tbl (List Synth)           -- by port
  inMsgs : Tbl (Option InMsg)        -- by (port, class)
  chains : Tbl (Option Chain)        -- by (message number, 0)
  uid : Nat                          -- next message number
  owed : Tbl Nat                     -- credits withheld, by (port, credit unit)
  hold : Tbl (Option Held)           -- by (port, entry)
  moved : Tbl (Option Moved)
  tagWait : List TagWait             -- arrival order
  tagCache : Tbl Nat                 -- line plus 1, by (set, way)
  tagFills : List TagFill            -- newest first
  filling : Option (Nat × Nat)       -- the last FL_TAG_FILL: its endpoint, and the clk at which it ends
  flOld : Tbl (Option Nat)           -- previous values of access-control objects changed at the last swap
  denyHeld : Tbl Nat                 -- refusals held back per requester
  enumd : Tbl (Option EnumResult)    -- by port: what enumeration, or a later allocation, last found there (R125)
  walks : List Walk
  bindings : List Binding            -- oldest first
  vppbBus : Tbl Nat                  -- bus numbers and windows hosts programmed, by (64 n + k, register)
  mcast : List Msg                   -- multicast messages of Cairn waiting for a cell and descriptors
  sysWait : List Msg                 -- messages of internal requesters waiting for the system reserve
  egress : Tbl Egress
  histAt : Nat                       -- clk of the last depth sample
  deriving DecidableEq, Repr

/-- A directory entry (R190); ECC is not held, since the model's errors arrive with the command that finds them.
`state` 0 INVALID, 1 SHARED, 2 OWNED, 3 POISONED. -/
structure DirEntry where
  sharers : Nat
  tag : Nat
  state : Nat
  owner : Nat
  busy : Bool
  trk : Nat
  rsv : Bool
  rsvAgent : Nat
  rank : Nat
  pcause : Nat
  deriving DecidableEq, Repr

/-- A frame of a slice's directory cache (R191). -/
structure DirFrame where
  set : Nat
  used : Nat            -- use counter at its last use
  dirty : Bool
  deriving DecidableEq, Repr

/-- A request offered to a slice (R194, R212): waiting for admission, held after a NAK, or waiting for a set read. -/
structure CohReq where
  slice : Nat
  ty : Nat              -- 1 RD_S to 9 EVC (R198)
  msg : Msg
  cause : Nat           -- cause of the last NAK; 0 none
  wait : Nat            -- awaited event as in WAIT of R214; 4095 none
  ncnt : Nat
  readyAt : Nat         -- clk before which it is not ready; once admitted, the slot that admitted it, plus 1
  entry : Nat           -- hold entry 0 to 255, writeback slot 256 to 271; 511 none
  rsv : Nat             -- reservation register; 64 none
  since : Nat
  admitted : Bool       -- admitted, and waiting for its set to be read from HBM
  deriving DecidableEq, Repr

/-- A tracker (R199, R222): an open transaction. -/
structure Trk where
  ty : Nat
  msg : Msg
  line : Nat            -- home address of the line
  set : Nat
  way : Nat             -- 16 none
  agent : Nat           -- requester's agent; 64 none
  await : Nat           -- agents whose BIRsp is awaited, a bit set
  snp : Nat             -- 0 none, 1 BISnpInv, 2 BISnpData, 3 BISnpCur
  vec : Nat             -- sharers left by the responses so far
  own : Bool            -- a BIRspE kept the owner
  needMem : Bool        -- the memory access follows the responses
  memOut : Bool         -- a memory access is outstanding
  write : Bool          -- it is a write
  noData : Bool         -- Cmp-E: no memory access
  have_ : Bool          -- read data have come
  poison : Bool
  data : List Byte
  wbs : List Msg        -- accepted writebacks that await memory's completion
  lost : Bool           -- the owner was lost: ends poisoned
  asPoison : Bool       -- answered as in state POISONED; its line keeps its state (R193, R200, R228)
  at_ : Nat
  orphan : Bool
  deriving DecidableEq, Repr

/-- An eviction entry (R221). -/
structure Evict where
  line : Nat
  ld : Nat
  await : Nat
  owner : Nat           -- 64 none
  wbs : List Msg
  lost : Bool
  at_ : Nat
  deriving DecidableEq, Repr

/-- A reservation register (R216 to R218). `port` and `entry` name the holder; entry 511 is a Drudar peer's port;
`way` is a promised way, 16 none. -/
structure Rsv where
  line : Nat
  port : Nat
  entry : Nat
  way : Nat
  readyAt : Nat         -- clk at which the holder became ready, plus 1; 0 not ready
  deriving DecidableEq, Repr

/-- A purge job (R227 to R229). -/
structure Purge where
  agent : Nat
  dead : Bool
  left : List Nat
  poisoned : Nat
  at_ : Nat
  deriving DecidableEq, Repr

/-- Cairn (R185 to R231). Directory keys are (slice * 8388608 + set, way). -/
structure CohSt where
  dir : Tbl DirEntry
  frames : Tbl (Option DirFrame)      -- by (slice * 2048 + index, frame way)
  uses : Nat
  reqs : List CohReq                  -- in arrival order
  trk : Tbl (Option Trk)              -- by (slice, tracker)
  evict : Tbl (Option Evict)          -- by (slice, entry)
  rsv : Tbl (Option Rsv)              -- by (slice, register)
  turn : Tbl Nat                      -- unit served last, plus 1, by (slice, slot owner)
  reads : List (Nat × Nat)            -- (slice, set) reads outstanding
  slotAt : Tbl Nat                    -- by (slice, 0): slots gone by since clk 0, up to the last one served (R194)
  walkAt : Tbl Nat                    -- by (slice, 0): clk of WALKER's last admission, plus 1 (R195)
  walkWait : Tbl Nat                  -- by (slice, 0): set that WALKER reads from HBM, plus 1
  lookup : Option Nat                 -- pool address that DIR_LOOKUP waits to look up
  purges : List Purge
  fullAt : Tbl Bool                   -- the port's hold buffer is full (R223)
  deriving DecidableEq, Repr

/-- A region-mover channel beyond its objects (R235 to R244). -/
structure MoveCh where
  cursor : Nat            -- next granule of the pass
  pass0 : Bool            -- pass 0 has ended
  frozeAt : Nat
  lastFreeze : Nat        -- ns
  slot : Nat              -- event slot; 512 none
  fired : Bool            -- its event has fired
  running : Bool          -- a copy pass runs
  inflight : Nat          -- lines read or written and not yet settled
  first : Nat             -- its move's messages are numbered from here on
  nextAt : Nat            -- clk before which its rate admits no further granule
  late : Bool             -- the freeze follows a late convergence
  deriving DecidableEq, Repr

/-- The region mover, its bitmaps and the copies of the redirect table (R232 to R248). -/
structure MoveSt where
  ch : Tbl MoveCh
  bitmap : Tbl Bool               -- by (channel, granule)
  torRdr : Tbl (Option (Nat × Nat × Nat))     -- Tor's always-on copy of active redirects: source, destination, size
  torOk : Bool                    -- its CRC is good
  flashRdr : Tbl (Option (Nat × Nat × Nat))   -- the copy in flash
  deriving DecidableEq, Repr

/-- Delivery state of one interrupt source (R313 to R317). -/
structure IntSrc where
  pending : Bool
  delivered : Option Nat
  owner : Option Nat
  deriving DecidableEq, Repr

/-- The interrupt controller beyond its objects (R310 to R322). -/
structure IntSt where
  src : Tbl IntSrc
  doorbell : Tbl Bool         -- by Ridge core
  waits : Tbl Bool            -- the Ridge core executes its wait instruction outside a mode entry (R320)
  alertHeld : Bool            -- level of ALERT_N kept through HOLD and SENTINEL: true pulled low
  deriving DecidableEq, Repr

/-- One catalogued event of a cycle (*Event catalogue*): port 65535 none, aux bit, partition 255 none,
class, host physical and pool address for the sample record. -/
structure CntEvt where
  code : Nat
  port : Nat
  aux : Nat
  part : Nat
  cls : Nat
  hpa : Nat
  pool : Nat
  deriving DecidableEq, Repr

/-- An open capture of a counter set (R331, R332). -/
structure Capture where
  first : Nat          -- counter that opened it
  mask : Nat
  cycles : Nat
  events : Nat
  ctx : CntEvt
  deriving DecidableEq, Repr

/-- The counter sets beyond their objects (R325 to R333). -/
structure CntSt where
  evts : List CntEvt           -- occurrences since the last counter cycle, oldest first
  hist : Tbl Bool              -- v was non-zero in the previous cycle, by counter
  fresh : Tbl Bool             -- the counter was written in this cycle: its increments are discarded
  ovfNow : Tbl Nat             -- counters that overflowed in the last cycle and are not yet taken up, by set
  ctxNow : Tbl (Option CntEvt) -- the last event each counter counted, by counter
  cap : Tbl (Option Capture)   -- open capture, by set
  recValid : Tbl Bool          -- a record is valid, by set
  deriving DecidableEq, Repr

/-- What the block sends or drives that no later step of the model reads back, newest first in `State.out`. -/
inductive Output where
  /-- A dictionary message to an endpoint, in the packets of its transport (R44); a mailbox carries one whole. -/
  | message (ep : Nat) (packets : List (List Byte))
  | fmApi (ep code : Nat) (bytes : List Byte)
  | frame (p : Nat) (f : Frame)
  | ptm (p : Nat) (withData : Bool) (master delay : Nat)
  /-- A credit returned to the partner: the CXL channel 0 to 11, or 16 + class on a Drudar port (R147). -/
  | credit (p unit : Nat)
  /-- A flit of a message sent by an egress port; `stomp` marks its last flit (R151). -/
  | flit (p : Nat) (m : Msg) (n : Nat) (stomp : Bool)
  /-- A synthesized or silent completion and its form (R158, R261); port 0xFF an internal requester. -/
  | synth (p : Nat) (cause : Nat) (form : Answer) (m : Msg)
  /-- Credits granted to the partner of a CXL-mode port, by channel 0 to 11: message or header credits, and data credits (R145). -/
  | granted (p : Nat) (l : List (Nat × Nat))
  /-- The committed and locked HDM decoders of a partition's upstream vPPB, as its host now reads them: base, size, ways, granularity
  (R121). -/
  | decoders (part : Nat) (l : List (Nat × Nat × Nat × Nat))
  /-- An FM API command passed through to the device on a port (R139). -/
  | fmDevice (p code : Nat) (payload : List Byte)
  /-- An ASPM L1 request of a partner is refused (R69). -/
  | l1Refused (p : Nat)
  /-- Flits of the replay buffer are sent again from `seq` (R78). -/
  | resent (p seq : Nat)
  /-- Margining capabilities: timing steps, MaxTimingOffset, voltage steps, MaxVoltageOffset; independent left and right timing,
  up and down voltage, and error sampler; a sample reporting method of rate (R88). -/
  | marginCaps (lane timing maxTiming voltage maxVoltage : Nat) (leftRight upDown sampler rate : Bool)
  /-- A margining command served, with the error count found (R88). -/
  | margined (lane : Nat) (c : MarginCmd) (errors : Nat)
  /-- A group of alignment markers, by lane of the stripe, after `fill` fill symbols (R96). -/
  | markers (p fill : Nat) (l : List Nat)
  /-- The symbols of a codeword in the order in which they are dealt, each with its physical lane (R95). -/
  | codeword (p : Nat) (l : List (Nat × Nat))
  /-- A transmit lane that left the stripe goes on sending PRBS31 (R104). -/
  | prbs31 (lane : Nat)
  /-- The value that a core-local claim returns (R315). -/
  | claimed (t value : Nat)
  /-- An SPDM response: the request code it answers, or 0x7F an error, and what it carries (R339). -/
  | spdm (via : SpdmVia) (code : Nat) (bytes : List Byte)
  /-- A BIRspI that the GT9 answers a device with (R206). -/
  | birspi (p ld addr : Nat)
  /-- An uncorrectable internal error logged at a partition's upstream vPPB (R158). -/
  | internalError (part : Nat)
  /-- Presence or removal reported on a vPPB by CXL hot-plug (R135). -/
  | hotplug (vppb : Nat) (present : Bool)
  /-- The value that the TAP shifts out under IDCODE (R349). -/
  | idcode (value : Nat)
  deriving DecidableEq, Repr

/-- Where an entry to a mode stands (R295). -/
inductive PmStep where
  | idle | quiesce | links | cores
  deriving DecidableEq, Repr

/-- Power modes beyond their objects (R293 to R309) and DIDT_WARN_N (R180, R304). Blocks of the core-current ramp are
numbered 0 the clock tree, 1 and 2 HBM, 3 to 6 the core, 7 to 14 slices, 15 to 46 clusters. -/
structure PmSt where
  step : PmStep
  lop : Nat               -- handle of kind 6; 64 none
  target : Mode
  start : Nat
  prev : Mode             -- mode of entry
  commitAt : Nat
  cause : Nat             -- cause of the undo that runs (R308); 255 an abort; 0 none
  causePort : Nat
  undoing : Bool
  stop : Bool             -- credits of RTT_STOP_MASK withheld, internal requesters stopped
  l1At : Tbl Nat          -- by port: when told to enter L1, plus 1
  waking : Bool
  wakeAt : Nat
  vr : Bool
  pll : Bool
  lockAt : Nat
  ramp : List Nat         -- blocks still to be turned on, in ramp order
  rampAt : Nat            -- clk at which the running chain started
  rampEnd : Nat           -- clk at which the last ramp step ended
  hbm : Bool
  readyAt : Nat
  lowAt : Nat             -- clk at which a ramp or wake drove DIDT_WARN_N low, plus 1; 0 none holds it
  groups : List Nat       -- fabric times at which the announced gate-list groups release the pin
  grpLow : Nat             -- clk at which the groups in progress drove DIDT_WARN_N low, plus 1
  grpFrom : Nat           -- gate-list boundaries before this fabric time have been grouped
  avsTarget : Nat         -- voltage of the write under way, mV; 0 none
  avsTries : Nat
  avsAt : Nat
  avsSet : Nat            -- last voltage confirmed or given up, mV
  avsOff : Nat            -- clk since which the readback is off, plus 1
  avsFault : Bool
  avsRaised : Bool        -- AVS_FAULT raised for the readback that is off
  wdFrom : Nat            -- clk from which the watchdog runs again
  deriving DecidableEq, Repr

/-- The one-time fuses that software can change (R334 to R338): the four lifecycle words, the hash of the owner's debug
key, the identity secret (`none` before it is generated and once it is destroyed), and the security version counter. -/
structure Fuses where
  provisioned : Nat
  secured : Nat
  rma : Nat
  scrapped : Nat
  ownerHash : Nat
  identity : Option Nat
  svn : Nat
  deriving DecidableEq, Repr

/-- A key of one direction: the key, its salt, and the sequenced frames sent or accepted under it (R107). -/
structure KeyCtx where
  key : Nat
  salt : Nat
  count : Nat
  deriving DecidableEq, Repr

/-- IDE of one port (R107, R341): which key slots hold keys, the slot in use, when its keys came into use, and the keys by slot. -/
structure Ide where
  key0 : Bool
  key1 : Bool
  slot : Nat
  since : Nat
  tx : List KeyCtx
  rx : List KeyCtx
  deriving DecidableEq, Repr

/-- An SPDM session (R339): `ready` from FINISH on. -/
structure Session where
  id : Nat
  via : SpdmVia
  ready : Bool
  deriving DecidableEq, Repr

/-- A running access of the debug master (R348); `at_` is when it began, `uid` its message and `got` what came back: the poison mark and
the data. `held` is its message while a mode entry keeps the internal requesters from issuing (R295). -/
structure DmAccess where
  uid : Nat
  write : Bool
  got : Option (Bool × List Byte)
  parts : List (Nat × Nat)
  at_ : Nat
  held : Option Msg := none
  deriving DecidableEq, Repr

/-- Security and debug beyond their objects (R334 to R352). -/
structure SecSt where
  fuse : Fuses
  lcNonce : Option Nat        -- nonce read and not yet used
  lcAuth : List Byte          -- LC_AUTH as last written
  lcHash : Nat                -- LC_OWNER_HASH of the request in LC_PENDING
  dbgNonce : Option Nat
  dbgFails : Nat              -- consecutive failures
  dbgAt : Nat                 -- clk of the last debug request
  dbgTop : Nat                -- highest level since the last full reset
  images : Tbl Nat            -- firmware areas: bytes by (area, offset); an unlisted one is erased, 255
  fwAt : Nat                  -- clk of the first boot of an unconfirmed image, plus 1; 0 none
  fwDogs : Nat                -- watchdog resets of the unconfirmed image
  fwBack : Bool               -- the boot pointer was turned back (R338)
  sessions : List Session
  sessionId : Nat
  ide : Tbl Ide
  dm : Option DmAccess
  dmData : List Byte          -- DM_DATA
  tapIr : Nat                 -- instruction in the TAP
  alias_ : Nat                -- private alias key, which no object returns
  deriving DecidableEq, Repr

/-- CH_STATE (*Slot-channel state machine*). -/
inductive ChSt where
  | off | wait | ramp | on | perstWait | faultOff | latched | short
  deriving DecidableEq, Repr

/-- A feed of a slot channel (R266 to R290). Times are in samples of 1 µs. -/
structure Feed where
  vin : Nat             -- last sample: mV, mA, mV
  cur : Int
  src : Nat
  inWin : Bool
  outT : Nat            -- samples without a break outside the range
  exit : Nat            -- threshold crossed last: 6 under, 7 over, 0 none
  insT : Nat            -- insertion timer
  insDone : Bool
  gate : Bool
  enh : Bool            -- the gate has reached 9 V since it was turned on
  gateT : Nat           -- since the gate was turned on
  offT : Nat            -- since it was turned off
  revT : Nat            -- samples without a break of reverse current
  lost : Bool
  revLost : Bool        -- lost to reverse current: turns on again only after a full CH_INS_DELAY (R269)
  shorted : Bool
  n : Nat               -- samples since the last refresh, and their sums
  sumV : Nat
  sumI : Int
  sumS : Nat
  sumP : Int            -- nW
  energy : Int          -- pJ since clear
  rdsSum : Int
  rdsN : Nat
  rdsT : Nat
  rdsNew : Bool         -- FEED_RDS was updated since Talus last sampled it
  deriving DecidableEq, Repr

/-- A slot channel beyond its objects. Times are in samples of 1 µs. -/
structure SlotCh where
  st : ChSt
  vout : Nat
  seatLow : Nat         -- how long SEAT_N has been low, or high, without a break
  seatHigh : Nat
  seatOk : Bool         -- low for CH_SEAT_CONFIRM
  breaker : Nat
  uvT : Nat             -- samples without a break of VOUT below CH_PG_MV
  rampT : Nat
  pgT : Nat             -- since power-good was set, without a trip
  offLeft : Nat         -- minimum off-time still to run
  retryLeft : Nat
  waitT : Nat           -- in PERST_WAIT
  shareT : Nat          -- without a break out of the 5 % bound
  n : Nat
  sumV : Nat            -- VOUT since the last refresh
  deriving DecidableEq, Repr

/-- Slot power (R266 to R292). `link` tells that a die's serial link has had framing for 10 ms. -/
structure SlotSt where
  ch : Tbl SlotCh
  feed : Tbl Feed
  link : Tbl Bool
  deriving DecidableEq, Repr

/-- A margin plan (R358): the voltages, and the ceilings, targets and units that it changes. `lowest` gives the worst lane of
each lowered ceiling and its window-minimum figure of merit. -/
structure MarginPlan where
  vcore : Nat
  required : Nat
  ceilings : List (Nat × Nat)
  lowest : List (Nat × Nat)
  targets : List (Nat × Nat)
  retire : List (Nat × Nat)
  deriving DecidableEq, Repr

/-- What a committed plan leaves in force: Tor's copy, or that of a flash record (R358, R365, R367, R368). -/
structure PlanCopy where
  vcore : Nat
  ceilings : Tbl Nat
  targets : Tbl Nat
  remap : Tbl Nat
  deriving DecidableEq, Repr

/-- A window record (R367). -/
structure TalusRecord where
  num : Nat
  time : Nat
  plan : PlanCopy
  ro : List Nat
  sram : List Nat
  fom : Tbl Nat
  ce : List Nat
  rds : Tbl Nat
  deriving DecidableEq, Repr

/-- Talus beyond its objects (R353 to R368). -/
structure TalusSt where
  lop : Nat                    -- handle of the window; 64 none
  slot : Nat                   -- event slot of kind 5; 512 none
  fromSlot : Bool              -- the window was started by it
  plan : Option MarginPlan
  hist : Tbl (List (Nat × Nat))    -- by lane: window minima and the rate they were taken at, newest first
  low : Tbl Bool               -- by port: a lane below the floor at the ceiling rate, in the latest window
  rds : Tbl (List Nat)         -- FEED_RDS samples of the window, by feed
  rdsAt : Nat                  -- clk of the last sample
  remap : Tbl Nat              -- by (stack, unit): spare unit plus 1
  left : List (Nat × Nat)      -- units of the plan not yet retired
  done : Nat                   -- units retired in this window
  retrain : List Nat           -- ports still to be retrained
  tor : Option PlanCopy        -- Tor's plan copy; none before the first window, and once its CRC is bad
  flash : Option PlanCopy      -- the newest window record with a good CRC
  fomMin : Tbl Nat             -- by lane: the least LANE_FOM of the window under way, plus 1
  fomWin : Tbl Nat             -- the same of the window that was closed last (R355)
  rdsWin : Tbl (List Nat)      -- FEED_RDS samples of that window, by feed
  ring : List TalusRecord      -- the window records in flash, newest first (R367)
  deriving DecidableEq, Repr

/-- A profile bank in flash: its header fields and its record bytes (R372). -/
structure Bank where
  magic : Nat
  format : Nat
  profile : Nat
  source : Nat
  records : Nat
  created : Nat
  hash : Nat
  crc : Nat
  seq : Nat
  seqInv : Nat
  bytes : List Byte
  deriving DecidableEq, Repr

/-- Steps of a profile store (R375). -/
inductive StoreStep where
  | idle | capture | erase | program | verify | commit
  deriving DecidableEq, Repr

/-- Stored profiles beyond their objects (R370 to R377). `buffer` is the image buffer; an unlisted byte reads 255. -/
structure ProfSt where
  banks : Tbl (Option Bank)        -- by (profile, bank); none erased
  buffer : Tbl Nat
  step : StoreStep
  prof : Nat
  target : Nat                     -- the bank that is written
  lop : Nat
  cand : Option Bank
  changed : Bool                   -- a P-flagged object changed during the capture
  deriving DecidableEq, Repr

/-- Where a full reset and the boot stand (R379 to R384). -/
inductive BootStep where
  | inReset | rom | firmware | validated | trained | done
  deriving DecidableEq, Repr

/-- Reset, boot and wedges beyond their objects. -/
structure RstSt where
  step : BootStep
  aon : Bool                       -- VDD_AON is present
  since : Nat                      -- clk at which the reset started
  relAt : Nat                      -- clk of reset release
  chosen : Nat                     -- the profile chosen (R374)
  byNext : Bool                    -- it was chosen by PROFILE_NEXT
  bank : Nat                       -- the bank that passed validation; 255 none
  applied : Tbl Nat                -- values of the profile that has been validated, still to be applied
  lcOld : Nat                      -- lifecycle state before the change of this reset; 255 none
  hashApplied : Nat                -- HASH of the profile applied
  fwRun : Nat                      -- running image: SVN * 2^32 + VERSION
  nowAt : Nat                      -- clk of the answer to RESET_NOW, plus 1; 0 none
  wedgeAt : Nat                    -- clk at which FUNC_WEDGED was queued with WEDGE_AUTO_RESET 1, plus 1
  wedged : Tbl Bool                -- wedges raised, by (kind, number)
  wdAt : Nat                       -- clk of the last wedge check
  alertLow : Bool                  -- no valid image: ALERT_N low (R336)
  deriving DecidableEq, Repr

/-- Named causes for which a command stops the model. -/
inductive Fault where
  /-- Raised by a command that names a unit the GT9 does not have (a port above 255, a lane above 511, ...).
  Safe: the model stops where no hardware exists. -/
  | absent (unit : Nat)
  deriving DecidableEq, Repr

/-- Named causes for which the model gives a command no meaning. -/
inductive Refusal where
  /-- Raised by an arm of `exec` that has no meaning yet. Safe. -/
  | notModelled (mnemonic : String)
  deriving DecidableEq, Repr

structure State where
  pending : List Instr
  mode : Mode
  clk : Nat
  freeCtr : Nat
  regs : Tbl Nat
  out : List Output
  time : TimeSt
  dict : DictSt
  intc : IntSt
  cnt : CntSt
  link : LinkSt
  fab : FabSt
  coh : CohSt
  move : MoveSt
  pm : PmSt
  sec : SecSt
  slotp : SlotSt
  talus : TalusSt
  prof : ProfSt
  rst : RstSt
  deriving DecidableEq, Repr

namespace State

/-- Fabric time at reset (R27, R33): FREE_RUN, counter 0. -/
def timeReset : TimeSt :=
  { ctr := 0, y := 0, st := .freeRun, slew := 0, slewing := false, refHeld := false, refSeen := false, uncBase := 0, uncSince := 0,
    lockCount := 0, lastExch := none, noFreq := false, edge := none, edgeClk := 0, edgeGap := false, secNext := none, backup := false,
    srcAt := 0, flits := [], ptm := [], ppsOut := false, ppsSec := 0, ppsAt := 0, sleepTicks := 0, freqClk := 0, slots := [] }

/-- Links, routing, switching, Flint and egress at reset: nothing queued, tracked or held. -/
def fabReset : FabSt :=
  { cells := [], descs := [], queues := [], rtt := [], rttWait := [], synth := [], inMsgs := [], chains := [], uid := 0, owed := [],
    hold := [], moved := [], tagWait := [], tagCache := [], tagFills := [], filling := none, flOld := [], denyHeld := [], enumd := [], walks := [],
    bindings := [], vppbBus := [], mcast := [], sysWait := [], egress := [], histAt := 0 }

/-- Cairn at reset: every directory way INVALID. -/
def cohReset : CohSt :=
  { dir := [], frames := [], uses := 0, reqs := [], trk := [], evict := [], rsv := [], turn := [], reads := [], slotAt := [], walkAt := [], walkWait := [], lookup := none,
    purges := [], fullAt := [] }

/-- Power modes at reset: no entry and no wake; the regulator starts at 750 mV (R402). -/
def pmReset : PmSt :=
  { step := .idle, lop := 64, target := .boot, start := 0, prev := .boot, commitAt := 0, cause := 0, causePort := 0xFFFF, undoing := false,
    stop := false, l1At := [], waking := false, wakeAt := 0, vr := false, pll := false, lockAt := 0, ramp := [], rampAt := 0, rampEnd := 0,
    hbm := false, readyAt := 0, lowAt := 0, groups := [], grpLow := 0, grpFrom := 0, avsTarget := 0, avsTries := 0, avsAt := 0, avsSet := 750,
    avsOff := 0, avsFault := false, avsRaised := false, wdFrom := 0 }

/-- Security and debug at reset of a part as it leaves Vangekin, in PROVISIONED (R334). -/
def secReset : SecSt :=
  { fuse := { provisioned := 0xA5C396E1, secured := 0, rma := 0, scrapped := 0, ownerHash := 0, identity := some 0, svn := 0 }
    lcNonce := none, lcAuth := [], lcHash := 0, dbgNonce := none, dbgFails := 0, dbgAt := 0, dbgTop := 0, images := [], fwAt := 0,
    fwDogs := 0, fwBack := false, sessions := [], sessionId := 0, ide := [], dm := none, dmData := [], tapIr := 255, alias_ := 0 }

/-- The machine right after power-on (R378, R381, R382): in full reset, every object at its default, nothing in memory, flash
erased, the part in PROVISIONED; PROFILE_ACTIVE and PROFILE_BANK read none, RST_CAUSE power-on, and both serial links have
framing. -/
def reset : State :=
  { pending := []
    mode := .boot
    clk := 0
    freeCtr := 0
    regs := [((Obj.PROFILE_ACTIVE, 0), 255), ((Obj.PROFILE_BANK, 0), 255), ((Obj.RST_CAUSE, 0), 1), ((Obj.RST_COUNT, 0), 1),
             ((Obj.SPD_LINK, 0), 1), ((Obj.SPD_LINK, 1), 1)]
    out := []
    time := timeReset
    dict := { reasm := [], inbox := [], late := [], stages := [], lops := [], filters := [], queues := [], dropMark := [], seq := 0, limited := [],
              i3cAddr := 0, peers := [] }
    intc := { src := [], doorbell := [], waits := [], alertHeld := false }
    cnt := { evts := [], hist := [], fresh := [], ovfNow := [], ctxNow := [], cap := [], recValid := [] }
    link := { ports := [], lanes := [], dru := [], qz := [], l0pOn := [], halted := false }
    fab := fabReset
    coh := cohReset
    move := { ch := [], bitmap := [], torRdr := [], torOk := true, flashRdr := [] }
    pm := pmReset
    sec := secReset
    slotp := { ch := [], feed := [], link := [] }
    talus := { lop := 64, slot := 512, fromSlot := false, plan := none, hist := [], low := [], rds := [], rdsAt := 0, remap := [],
               left := [], done := 0, retrain := [], tor := none, flash := none, fomMin := [], fomWin := [], rdsWin := [], ring := [] }
    prof := { banks := [], buffer := [], step := .idle, prof := 0, target := 0, lop := 64, cand := none, changed := false }
    rst := { step := .inReset, aon := true, since := 0, relAt := 0, chosen := 0, byNext := false, bank := 255, applied := [], lcOld := 255,
             hashApplied := 0, fwRun := 0, nowAt := 0, wedgeAt := 0, wedged := [], wdAt := 0, alertLow := false } }

end State

end Sys2Proof.Machine
end

