-- ==== Sys2Proof/Machine/Ops.lean ====
section
/-!
DEFINITION. The named operations over the state: the registers of the dictionary, byte strings, elapsed
time, free values, the tables of units, stages, long operations and event slots, and the two wrappers
under which a command runs.
-/

namespace Sys2Proof.Machine

/-! ### Numbers and bytes -/

/-- `n` bytes of `v`, least significant first (R6). -/
def toBytes : Nat → Nat → List Byte
  | 0, _ => []
  | n + 1, v => BitVec.ofNat 8 v :: toBytes n (v / 256)

/-- The number that bytes spell, least significant first (R6). -/
def ofBytes : List Byte → Nat
  | [] => 0
  | b :: r => b.toNat + 256 * ofBytes r

/-- Bit `i` of `v`. -/
def bit (v i : Nat) : Bool := v / 2 ^ i % 2 == 1

/-- The field of `w` bits at bit `lo`. -/
def field (v lo w : Nat) : Nat := v / 2 ^ lo % 2 ^ w

/-- The little-endian element `i` of `w` bytes in a BLOB. -/
def elem (v w i : Nat) : Nat := v / 256 ^ (w * i) % 256 ^ w

/-- Replace element `i` of `w` bytes. -/
def setElem (v w i x : Nat) : Nat :=
  v - elem v w i * 256 ^ (w * i) + x % 256 ^ w * 256 ^ (w * i)

/-- Pack a list of elements of `w` bytes. -/
def packElems (w : Nat) : List Nat → Nat
  | [] => 0
  | x :: r => x % 256 ^ w + 256 ^ w * packElems w r

/-- Set bit `i`. -/
def setBit (v i : Nat) : Nat := if bit v i then v else v + 2 ^ i

/-- Clear bit `i`. -/
def clrBit (v i : Nat) : Nat := if bit v i then v - 2 ^ i else v

/-- The number of bits set among the low `n`. -/
def popCount : Nat → Nat → Nat
  | 0, _ => 0
  | n + 1, v => (if bit v n then 1 else 0) + popCount n v

/-- The positions set among the low `n`, ascending. -/
def bitsOf (n v : Nat) : List Nat := (List.range n).filter (bit v)

/-- The set of positions as a bit set. -/
def bitSet : List Nat → Nat
  | [] => 0
  | x :: r => setBit (bitSet r) x

/-- Bits of `v` that are not in `m`. -/
def maskOut (v m : Nat) : Nat := v - (v &&& m)

/-- A two's-complement value of `n` bytes as an integer. -/
def toSigned (n v : Nat) : Int :=
  if v < 2 ^ (8 * n - 1) then (v : Int) else (v : Int) - (2 ^ (8 * n) : Nat)

/-- An integer as a two's-complement value of `n` bytes. -/
def ofSigned (n : Nat) (i : Int) : Nat := (i % ((2 ^ (8 * n) : Nat) : Int)).toNat

/-- Division rounded up. -/
def ceilDiv (a b : Nat) : Nat := (a + b - 1) / b

/-- Replace element `i` of a list. -/
def setAt {α : Type} : List α → Nat → α → List α
  | [], _, _ => []
  | _ :: r, 0, x => x :: r
  | h :: r, n + 1, x => h :: setAt r n x

/-- Left fold of a state over a list of units. -/
def foldS {α σ : Type} (f : α → σ → σ) : List α → σ → σ
  | [], s => s
  | a :: r, s => foldS f r (f a s)

/-- The first of `n` numbers from `lo` that `p` accepts. -/
def firstFrom (p : Nat → Bool) : Nat → Nat → Option Nat
  | 0, _ => none
  | n + 1, lo => if p lo then some lo else firstFrom p n (lo + 1)

/-! ### The dictionary's registers -/

/-- Default targets of the interrupt sources (*Interrupt sources*). -/
def intTargetDefault (s : Nat) : Nat :=
  if s < 256 then 1 else if s < 512 then 0 else if s < 544 then 3 else if s < 632 then 2
  else if s == 960 then 4 else if 1016 ≤ s && s < 1020 then s - 1016 else 0

/-- Default owners of the wheel slots (*Slot owner codes*). -/
def wheelDefault (i : Nat) : Nat :=
  let j := i % 64
  if j % 8 == 3 then 0x21 else if j == 31 || j == 63 then 0x22
  else if j == 15 || j == 47 then 0x23 else 0x20

/-- What an object instance holds where nothing has been written to it. -/
def regDefault (k : Key) : Nat :=
  if k.1 = Obj.GCL_ENTRY then (if k.2 % 128 = 0 then 0x0000_000F_4240_00FF else 0)
  else if k.1 = Obj.WHEEL_SLOT then wheelDefault k.2
  else if k.1 = Obj.AGT_REF then k.2
  else if k.1 = Obj.INT_TARGET then intTargetDefault k.2
  else match objRow k.1 with
    | some r => r.dflt
    | none => 0

namespace State

/-- The active value of an object instance. -/
def reg (s : State) (o i : Nat) : Nat := s.regs.get (regDefault (o, i)) (o, i)

/-- Write an object instance. -/
def setReg (s : State) (o i v : Nat) : State :=
  { s with regs := s.regs.set (regDefault (o, i)) (o, i) v }

/-- A Boolean object. -/
def flag (s : State) (o i : Nat) : Bool := s.reg o i != 0

/-- Add to a counter object that saturates at 2^32 - 1. -/
def bump (s : State) (o i : Nat) (n : Nat := 1) : State :=
  s.setReg o i (min (s.reg o i + n) 0xFFFF_FFFF)

/-- Add to a 64-bit counter object. -/
def bump64 (s : State) (o i : Nat) (n : Nat := 1) : State :=
  s.setReg o i ((s.reg o i + n) % 2 ^ 64)

/-- The lifecycle state (R334): the highest whose fuse word reads exactly 0xA5C3_96E1. -/
def lcState (s : State) : Nat :=
  if s.sec.fuse.scrapped = 0xA5C396E1 then 4 else if s.sec.fuse.rma = 0xA5C396E1 then 3
  else if s.sec.fuse.secured = 0xA5C396E1 then 2 else if s.sec.fuse.provisioned = 0xA5C396E1 then 1 else 0

/-- Forget every written value of an object: it reads its default at every instance. -/
def resetObj (s : State) (o : Nat) : State :=
  { s with regs := s.regs.filter (fun e => !(e.1.1 == o)) }

/-! ### Time, output, free values -/

/-- Fabric time as the 80-bit value of R5. -/
def now (s : State) : Nat := s.time.ctr / 65536

/-- `ns` nanoseconds have passed since the time stamp `t`. -/
def after (s : State) (t ns : Nat) : Bool := t + ns * nsUnit ≤ s.clk

/-- Microseconds since the time stamp `t`. -/
def usSince (s : State) (t : Nat) : Nat := (s.clk - t) / (1000 * nsUnit)

/-- Send or drive something. -/
def emit (s : State) (o : Output) : State := { s with out := o :: s.out }

/-- The next free value (a value the spec leaves open). -/
def freeVal (s : State) : Nat := Config.freeNat s.freeCtr

/-- Advance to the next free value. -/
def nextFree (s : State) : State := { s with freeCtr := s.freeCtr + 1 }

end State

/-! ### Units -/

def portDflt : Port :=
  { st := .disabled, phase := .idle, dlUp := false, ladderWaits := false, rate := 0, partnerMax := 0,
    partnerCeil := 0, eqTries := 0, noRate := 0, leftDetect := 0, phaseAt := 0, fails := 0, failedAt := 0,
    narrowedAt := 0, widenTries := 0, widening := false, changing := false, wantWidth := 0,
    byL0p := false, bypass := false, reversedNext := false, perstReleased := false, flushAt := 0,
    flushDone := false, flushCells := 0, flushSynth := 0, purge := false, l1Req := false,
    fullWidth := 0, fullRev := false, oldWidth := 0, lastRetrain := 0, spent := false, respond := 0,
    boardRev := false }

def laneDflt : Lane :=
  { lossAt := 0, restoring := false, lossPend := 0, prbsLocked := false, errs := 0, bits := 0, countAt := 0, param := 0, codes := [0,0,0,0,0,0,0,0],
    dirs := [1,1,1,1,1,1,1,1], below := 0, margining := false, droppedAt := 0, tries := 0, skew := 0,
    peerLock := false, goodWords := 0, lockAt := 0, eqDone := false }

def druDflt : Dru :=
  { txSeq := 0, rxExp := 0, rxAny := false, nakSent := false, replay := [], resend := 0, ackAt := 0,
    sameSeq := 0, lastFrom := 0, txCr := [0,0,0,0,0,0,0,0,0], grant := [0,0,0,0,0,0,0,0,0],
    crSeen := [0,0,0,0,0,0,0,0,0], crTotal := [0,0,0,0,0,0,0,0,0],
    crDirty := [false,false,false,false,false,false,false,false,false], crPtr := 0, initTx := 0, initRx := false,
    amSeq := 0, amMiss := 0, amAt := 0, cwCount := 0, symPos := 0, lineBits := 0, lineLen := 0, dropMask := 0, dropAdd := false, dropAt := 0, dropLane := 0,
    restripeTx := false, ideSlot := 0, ideNext := 0, macCov := [],
    macAt := 0, held := [], flits := [], skid := [] }

def quartzDflt : Quartz := { lane := 0, step := 0, sweepAt := 0, slots := [], roundAt := 0, freeAt := 0, margins := [] }

def stageDflt : Stage := { st := .free, owner := 0xFFFF, entries := [], lop := 0xFFFF, touched := 0, slot := 512, present := [] }

/-- A FREE handle. DESIGN CHOICE: LOP_OWNER, for which the spec lists no default, reads 0xFFFF. -/
def lopDflt : Lop :=
  { kind := 0, st := .free, progress := 0, result := 0, owner := 0xFFFF, start := 0, commit := 0,
    arg := 0, slot := 512, subjects := [], ended := 0, since := 0, cause := 0, fm := false }

def slotDflt : Slot :=
  { kind := 0, state := 0, time := 0, first := 0, period := 0, policy := 0, missed := 0, arg := 0, due := 0 }

def flitDflt : FlitDlg :=
  { rxT := 0, peerT1 := 0, txT := 0, exT1 := 0, exT2 := 0, exT3 := 0, have3 := false, lastTx := 0,
    lastRx := 0, valid := 0, unc := 0, hops := 0, txTid := 0, rxTid := 0 }

def ptmDflt : PtmDlg := { valid := false, arrival := 0, departure := 0 }

def intDflt : IntSrc := { pending := false, delivered := none, owner := none }

def egressDflt : Egress :=
  { credit := [0,0,0,0,0,0,0,0], crAt := [0,0,0,0,0,0,0,0], vtime := 0, start := [0,0,0,0,0,0], finish := [0,0,0,0,0,0],
    active := [false,false,false,false,false,false], cur := 8, under := false, gclOn := false, oper := [],
    pendOn := false, pendList := [], pendBase := 0, pendN := 0, pendMissed := false, pendSlot := 512, gateIdx := 0,
    decided := [false,false,false,false,false,false,false,false], heldUid := [0,0,0,0,0,0,0,0], nextAt := 0, mgmt := [], sinceMgmt := 7 }

/-- An INVALID way that no line has used. DESIGN CHOICE: its RANK is 15, the least recent. -/
def dirDflt : DirEntry :=
  { sharers := 0, tag := 0, state := 0, owner := 0, busy := false, trk := 0, rsv := false,
    rsvAgent := 0, rank := 15, pcause := 0 }

def moveDflt : MoveCh :=
  { cursor := 0, pass0 := false, frozeAt := 0, lastFreeze := 0, slot := 512, fired := false,
    late := false, running := false, inflight := 0, first := 0, nextAt := 0 }

def feedDflt : Feed :=
  { vin := 0, cur := 0, src := 0, inWin := false, outT := 0, exit := 0, insT := 0, insDone := false, gate := false, enh := false,
    gateT := 0, offT := 0, revT := 0, lost := false, revLost := false, shorted := false, n := 0, sumV := 0, sumI := 0, sumS := 0, sumP := 0,
    energy := 0, rdsSum := 0, rdsN := 0, rdsT := 0, rdsNew := false }

def slotChDflt : SlotCh :=
  { st := .off, vout := 0, seatLow := 0, seatHigh := 0, seatOk := false, breaker := 0, uvT := 0, rampT := 0, pgT := 0,
    offLeft := 0, retryLeft := 0, waitT := 0, shareT := 0, n := 0, sumV := 0 }

def keyDflt : KeyCtx := { key := 0, salt := 0, count := 0 }

def ideDflt : Ide := { key0 := false, key1 := false, slot := 0, since := 0, tx := [keyDflt, keyDflt], rx := [keyDflt, keyDflt] }

namespace State

def port (s : State) (p : Nat) : Port := s.link.ports.get portDflt (p, 0)
def setPort (s : State) (p : Nat) (x : Port) : State :=
  { s with link := { s.link with ports := s.link.ports.set portDflt (p, 0) x } }
def modPort (s : State) (p : Nat) (f : Port → Port) : State := s.setPort p (f (s.port p))

def lane (s : State) (n : Nat) : Lane := s.link.lanes.get laneDflt (n, 0)
def setLane (s : State) (n : Nat) (x : Lane) : State :=
  { s with link := { s.link with lanes := s.link.lanes.set laneDflt (n, 0) x } }
def modLane (s : State) (n : Nat) (f : Lane → Lane) : State := s.setLane n (f (s.lane n))

def dru (s : State) (p : Nat) : Dru := s.link.dru.get druDflt (p, 0)
def setDru (s : State) (p : Nat) (x : Dru) : State :=
  { s with link := { s.link with dru := s.link.dru.set druDflt (p, 0) x } }
def modDru (s : State) (p : Nat) (f : Dru → Dru) : State := s.setDru p (f (s.dru p))

def quartz (s : State) (q : Nat) : Quartz := s.link.qz.get quartzDflt (q, 0)
def setQuartz (s : State) (q : Nat) (x : Quartz) : State :=
  { s with link := { s.link with qz := s.link.qz.set quartzDflt (q, 0) x } }

def stage (s : State) (n : Nat) : Stage := s.dict.stages.get stageDflt (n, 0)
def setStage (s : State) (n : Nat) (x : Stage) : State :=
  { s with dict := { s.dict with stages := s.dict.stages.set stageDflt (n, 0) x } }

def lop (s : State) (h : Nat) : Lop := s.dict.lops.get lopDflt (h, 0)
def setLop (s : State) (h : Nat) (x : Lop) : State :=
  { s with dict := { s.dict with lops := s.dict.lops.set lopDflt (h, 0) x } }
def modLop (s : State) (h : Nat) (f : Lop → Lop) : State := s.setLop h (f (s.lop h))

def slot (s : State) (k : Nat) : Slot := s.time.slots.get slotDflt (k, 0)
def setSlot (s : State) (k : Nat) (x : Slot) : State :=
  { s with time := { s.time with slots := s.time.slots.set slotDflt (k, 0) x } }

def flitDlg (s : State) (p : Nat) : FlitDlg := s.time.flits.get flitDflt (p, 0)
def setFlitDlg (s : State) (p : Nat) (x : FlitDlg) : State :=
  { s with time := { s.time with flits := s.time.flits.set flitDflt (p, 0) x } }

def ptmDlg (s : State) (p : Nat) : PtmDlg := s.time.ptm.get ptmDflt (p, 0)
def setPtmDlg (s : State) (p : Nat) (x : PtmDlg) : State :=
  { s with time := { s.time with ptm := s.time.ptm.set ptmDflt (p, 0) x } }

def intSrc (s : State) (n : Nat) : IntSrc := s.intc.src.get intDflt (n, 0)
def setIntSrc (s : State) (n : Nat) (x : IntSrc) : State :=
  { s with intc := { s.intc with src := s.intc.src.set intDflt (n, 0) x } }

def egr (s : State) (p : Nat) : Egress := s.fab.egress.get egressDflt (p, 0)
def setEgr (s : State) (p : Nat) (x : Egress) : State :=
  { s with fab := { s.fab with egress := s.fab.egress.set egressDflt (p, 0) x } }

def ide (s : State) (p : Nat) : Ide := s.sec.ide.get ideDflt (p, 0)
def setIde (s : State) (p : Nat) (x : Ide) : State :=
  { s with sec := { s.sec with ide := s.sec.ide.set ideDflt (p, 0) x } }

def slotCh (s : State) (c : Nat) : SlotCh := s.slotp.ch.get slotChDflt (c, 0)
def setSlotCh (s : State) (c : Nat) (x : SlotCh) : State :=
  { s with slotp := { s.slotp with ch := s.slotp.ch.set slotChDflt (c, 0) x } }

def feed (s : State) (f : Nat) : Feed := s.slotp.feed.get feedDflt (f, 0)
def setFeed (s : State) (f : Nat) (x : Feed) : State :=
  { s with slotp := { s.slotp with feed := s.slotp.feed.set feedDflt (f, 0) x } }

def cell (s : State) (c : Nat) : Option Cell := s.fab.cells.get none (c, 0)
def setCell (s : State) (c : Nat) (x : Option Cell) : State :=
  { s with fab := { s.fab with cells := s.fab.cells.set none (c, 0) x } }

def desc (s : State) (d : Nat) : Option Desc := s.fab.descs.get none (d, 0)
def setDesc (s : State) (d : Nat) (x : Option Desc) : State :=
  { s with fab := { s.fab with descs := s.fab.descs.set none (d, 0) x } }

def queue (s : State) (p c : Nat) : List Nat := s.fab.queues.get [] (p, c)
def setQueue (s : State) (p c : Nat) (x : List Nat) : State :=
  { s with fab := { s.fab with queues := s.fab.queues.set [] (p, c) x } }

def rtt (s : State) (n : Nat) : Option Rtt := s.fab.rtt.get none (n, 0)
def setRtt (s : State) (n : Nat) (x : Option Rtt) : State :=
  { s with fab := { s.fab with rtt := s.fab.rtt.set none (n, 0) x } }

def synth (s : State) (p : Nat) : List Synth := s.fab.synth.get [] (p, 0)
def setSynth (s : State) (p : Nat) (x : List Synth) : State :=
  { s with fab := { s.fab with synth := s.fab.synth.set [] (p, 0) x } }

def inMsg (s : State) (p c : Nat) : Option InMsg := s.fab.inMsgs.get none (p, c)
def setInMsg (s : State) (p c : Nat) (x : Option InMsg) : State :=
  { s with fab := { s.fab with inMsgs := s.fab.inMsgs.set none (p, c) x } }

def held (s : State) (p k : Nat) : Option Held := s.fab.hold.get none (p, k)
def setHeld (s : State) (p k : Nat) (x : Option Held) : State :=
  { s with fab := { s.fab with hold := s.fab.hold.set none (p, k) x } }

def tracker (s : State) (c n : Nat) : Option Trk := s.coh.trk.get none (c, n)
def setTracker (s : State) (c n : Nat) (x : Option Trk) : State :=
  { s with coh := { s.coh with trk := s.coh.trk.set none (c, n) x } }

def evictEntry (s : State) (c n : Nat) : Option Evict := s.coh.evict.get none (c, n)
def setEvict (s : State) (c n : Nat) (x : Option Evict) : State :=
  { s with coh := { s.coh with evict := s.coh.evict.set none (c, n) x } }

def rsvReg (s : State) (c n : Nat) : Option Rsv := s.coh.rsv.get none (c, n)
def setRsv (s : State) (c n : Nat) (x : Option Rsv) : State :=
  { s with coh := { s.coh with rsv := s.coh.rsv.set none (c, n) x } }

def dirEntry (s : State) (c set way : Nat) : DirEntry := s.coh.dir.get dirDflt (c * 8388608 + set, way)
def setDir (s : State) (c set way : Nat) (x : DirEntry) : State :=
  { s with coh := { s.coh with dir := s.coh.dir.set dirDflt (c * 8388608 + set, way) x } }

def mover (s : State) (c : Nat) : MoveCh := s.move.ch.get moveDflt (c, 0)
def setMover (s : State) (c : Nat) (x : MoveCh) : State :=
  { s with move := { s.move with ch := s.move.ch.set moveDflt (c, 0) x } }

end State

/-! ### Ports, clusters and lanes (R4, R65) -/

/-- Lanes of every port of a cluster by LC_BIFURC: 16, 8, 4 or 2 (R65). -/
def bifurcWidth (b : Nat) : Nat := if b = 0 then 16 else if b = 1 then 8 else if b = 2 then 4 else 2

namespace State

/-- The width of a formed port of `p`'s cluster. -/
def formedWidth (s : State) (p : Nat) : Nat := bifurcWidth (s.reg Obj.LC_BIFURC (p / 8))

/-- The port number is formed by its cluster's division (R4, R65). -/
def formed (s : State) (p : Nat) : Bool := p < 256 && (2 * (p % 8)) % s.formedWidth p == 0

/-- First lane of a port (R4). -/
def firstLane (_ : State) (p : Nat) : Nat := 16 * (p / 8) + 2 * (p % 8)

/-- The lanes of a port, port lane 0 first. -/
def portLanes (s : State) (p : Nat) : List Nat :=
  (List.range (s.formedWidth p)).map (fun i => s.firstLane p + i)

/-- The formed port that a lane belongs to. -/
def lanePort (s : State) (n : Nat) : Nat :=
  let k := n / 16
  let w := bifurcWidth (s.reg Obj.LC_BIFURC k)
  8 * k + (n % 16) / w * w / 2

/-- The cluster is gated in TRIM (R68, R296): PM_GATED_LC shows the gated clusters. -/
def gatedLC (s : State) (k : Nat) : Bool := bit (s.reg Obj.PM_GATED_LC 0) k

/-- The slice is gated in TRIM (R208). -/
def gatedSlice (s : State) (c : Nat) : Bool := bit (s.reg Obj.PM_GATED_SLICES 0) c

/-- PORT_STATE of a port. -/
def portState (s : State) (p : Nat) : Nat :=
  if s.gatedLC (p / 8) then 9
  else if !s.formed p then 0
  else match (s.port p).st with
    | .disabled => 1 | .flushing => 2 | .detect => 3 | .training => 4 | .l0 => 5 | .recovery => 6
    | .l1 => 7 | .trainFail => 8

/-- The port is in Drudar mode. -/
def drudar (s : State) (p : Nat) : Bool := s.reg Obj.PORT_MODE p == 1

/-- The port is DL_Up. -/
def dlUp (s : State) (p : Nat) : Bool := (s.port p).dlUp

/-- Ports with PORT_ENABLE 1. -/
def enabledPorts (s : State) : List Nat := (List.range 256).filter (fun p => s.flag Obj.PORT_ENABLE p)

/-! ### Lane counters (R83, R84) -/

/-- Line rate of a PORT_SPEED code in tenths of a Gb/s (*CXL-mode physical and link layer support*, *Drudar rates*). -/
def lineRate10 (code : Nat) : Nat := [0, 25, 50, 80, 160, 320, 640, 320, 640, 1280].getD code 0

/-- A lane's counters count: in mission while it is part of a link, with a pattern while its checker is locked. -/
def counting (s : State) (n : Nat) : Bool :=
  if s.reg Obj.LANE_PRBS_MODE n = 0 then s.reg Obj.LANE_STATE n == 1 || s.reg Obj.LANE_STATE n == 3 else (s.lane n).prbsLocked

/-- Bring a lane's counters up to now. The bits of a mission lane follow from its rate, and the errors of a Drudar lane are counted
from its codewords (R95); every other count is what the lane received meanwhile, which no command brings (free values). -/
def settleLane (s : State) (n : Nat) : State :=
  let l := s.lane n
  let p := s.lanePort n
  let mission := s.reg Obj.LANE_PRBS_MODE n == 0
  if l.countAt = s.clk then s
  else if !s.counting n then s.setLane n { l with countAt := s.clk }
  else
    s.nextFree.nextFree.setLane n { l with
      errs := if mission && s.drudar p then l.errs else min (l.errs + s.freeVal) (2 ^ 48 - 1)
      bits := if mission then l.bits + lineRate10 (s.reg Obj.PORT_SPEED p) * (s.clk - l.countAt)
        else l.bits + Config.freeNat (s.freeCtr + 1) * (10 * 2 ^ 32)
      countAt := s.clk }

/-- Bring the counters of a port's lanes up to now. -/
def settleLanes (s : State) (p : Nat) : State := foldS (fun n (t : State) => t.settleLane n) (s.portLanes p) s

/-- A port's rate changes: its lanes have counted at the old one so far. -/
def setSpeed (s : State) (p r : Nat) : State := (s.settleLanes p).setReg Obj.PORT_SPEED p r

/-- LANE_ERR_PAIR: the error count, bit 63 for a lost pattern lock, and the number of bits compared (R84). -/
def lanePair (s : State) (n : Nat) : Nat :=
  let l := (s.settleLane n).lane n
  l.errs + (if bit (s.reg Obj.LANE_ERR_PAIR n) 63 then 2 ^ 63 else 0) + 2 ^ 64 * (l.bits / (10 * 2 ^ 32) % 2 ^ 64)

/-- Clear a lane's counters. -/
def clearPrbs (s : State) (n : Nat) : State :=
  (s.setReg Obj.LANE_ERR_PAIR n 0).modLane n (fun l => { l with errs := 0, bits := 0, countAt := s.clk })

/-- The slot channel that the profile associates with a port, if any (R14). -/
def portChannel (s : State) (p : Nat) : Option Nat :=
  (List.range 32).find? (fun c => s.reg Obj.CH_PORT c == p)

/-! ### Stages, handles and event slots -/

/-- The lowest free stage (R51). -/
def freeStage (s : State) : Option Nat := firstFrom (fun n => (s.stage n).st == .free) 16 1

/-- The lowest free handle (R57). -/
def freeLop (s : State) : Option Nat := firstFrom (fun h => (s.lop h).st == .free) 64 0

/-- Ridge core `k` runs: it has a clock and is not halted (R13, R347). -/
def coreRuns (s : State) (k : Nat) : Bool :=
  s.mode != .hold && s.mode != .sentinel && !(bit (s.reg Obj.RIDGE_HALT 0) k)

/-- The lowest free event slot. -/
def freeSlot (s : State) : Option Nat := firstFrom (fun k => (s.slot k).kind == 0) 512 0

/-- Free an event slot (R410). -/
def dropSlot (s : State) (k : Nat) : State := if k < 512 then s.setSlot k slotDflt else s

end State

/-- A handle that is running before its commit point. -/
def LopSt.live : LopSt → Bool
  | .queued => true
  | .running => true
  | _ => false

/-- A handle that has not ended. -/
def LopSt.unended : LopSt → Bool
  | .queued => true
  | .running => true
  | .committed => true
  | .aborting => true
  | _ => false

/-! ### Wrappers -/

/-- Run a command that leaves the mode, the fuses and the queue as they are. -/
def steady (s : State) (f : State → State) : Host.Outcome State Fault Refusal :=
  let t := f s
  .next { t with pending := s.pending, mode := s.mode, sec := { t.sec with fuse := s.sec.fuse } }

/-- Run a command that ends in mode `m`; it leaves the fuses and the queue as they are. -/
def modal (m : Mode) (s : State) (f : State → State) : Host.Outcome State Fault Refusal :=
  let t := f s
  .next { t with pending := s.pending, mode := m, sec := { t.sec with fuse := s.sec.fuse } }

/-- Run a command that may burn fuses; it leaves the mode and the queue as they are. -/
def burning (s : State) (f : State → State) : Host.Outcome State Fault Refusal :=
  .next { f s with pending := s.pending, mode := s.mode }

/-- Run a command on unit `n` of a kind that has `count` units; any other number names no unit. -/
def onUnit (n count : Nat) (s : State) (f : State → State) : Host.Outcome State Fault Refusal :=
  if n < count then steady s f else .fault (.absent n)

end Sys2Proof.Machine
end

