-- ==== Sys2Proof/Machine/Crypto.lean ====
section
/-!
DEFINITION. The codes that Drudar mode takes from outside standards: AES-256 in Galois counter mode (R106, R107) and the RS(544,514)
code of IEEE 802.3 clause 91 (R95). PRESUMED: their tables and polynomials are those of the standards the spec names.
-/

namespace Sys2Proof.Machine

/-! ### AES-256 (FIPS 197) -/

/-- Multiply two bytes modulo x^8 + x^4 + x^3 + x + 1. -/
def gf8Mul (a b : Nat) : Nat :=
  ((List.range 8).foldl (fun (x : Nat × Nat) i =>
    (if bit b i then x.1 ^^^ x.2 else x.1, if 128 ≤ x.2 then (x.2 * 2 % 256) ^^^ 0x1B else x.2 * 2)) (0, a)).1

/-- Raise a byte to the power 254: its inverse, and 0 for 0. -/
def gf8Inv (a : Nat) : Nat :=
  ((List.range 7).foldl (fun (x : Nat × Nat) _ => let q := gf8Mul x.2 x.2; (gf8Mul x.1 q, q)) (1, a)).1

/-- Rotate a byte left. -/
def rotl8 (a n : Nat) : Nat := a * 2 ^ n % 256 + a / 2 ^ (8 - n)

/-- The S-box. -/
def subByte (a : Nat) : Nat :=
  let b := gf8Inv a
  b ^^^ rotl8 b 1 ^^^ rotl8 b 2 ^^^ rotl8 b 3 ^^^ rotl8 b 4 ^^^ 0x63

/-- Bytes of a big-endian number of `n` bytes. -/
def beBytes : Nat → Nat → List Nat
  | 0, _ => []
  | n + 1, v => v / 256 ^ n % 256 :: beBytes n v

/-- The number that big-endian bytes spell. -/
def ofBe (l : List Nat) : Nat := l.foldl (fun a b => a * 256 + b) 0

/-- The round constant of a step of the key schedule. -/
def rcon (i : Nat) : Nat := (List.range i).foldl (fun a _ => gf8Mul a 2) 1

/-- Apply the S-box to a 32-bit word. -/
def subWord (w : Nat) : Nat := ofBe ((beBytes 4 w).map subByte)

/-- The 60 words of the key schedule of a 256-bit key. -/
def aesWords (key : Nat) : List Nat :=
  (List.range 52).foldl (fun l j =>
    let i := j + 8
    let t := l.getD (i - 1) 0
    let u := if i % 8 = 0 then subWord (t * 256 % 2 ^ 32 + t / 2 ^ 24) ^^^ (rcon (i / 8 - 1) * 2 ^ 24)
      else if i % 8 = 4 then subWord t else t
    l ++ [l.getD (i - 8) 0 ^^^ u]) ((List.range 8).map (fun i => key / 2 ^ (32 * (7 - i)) % 2 ^ 32))

/-- A round key as 16 bytes, column by column. -/
def roundKey (ws : List Nat) (r : Nat) : List Nat := (List.range 4).flatMap (fun c => beBytes 4 (ws.getD (4 * r + c) 0))

/-- Combine two byte lists. -/
def xorBytes (a b : List Nat) : List Nat := List.zipWith (· ^^^ ·) a b

/-- ShiftRows on 16 bytes held column by column. -/
def shiftRows (l : List Nat) : List Nat := (List.range 16).map (fun i => l.getD ((i + 4 * (i % 4)) % 16) 0)

/-- MixColumns on 16 bytes held column by column. -/
def mixColumns (l : List Nat) : List Nat :=
  (List.range 16).map (fun i =>
    let c := i / 4 * 4
    let x := fun k => l.getD (c + (i + k) % 4) 0
    gf8Mul (x 0) 2 ^^^ gf8Mul (x 1) 3 ^^^ x 2 ^^^ x 3)

/-- AES-256 on one 128-bit block. -/
def aes256 (key block : Nat) : Nat :=
  let ws := aesWords key
  let s0 := xorBytes (beBytes 16 block) (roundKey ws 0)
  let s13 := (List.range 13).foldl (fun st r => xorBytes (mixColumns (shiftRows (st.map subByte))) (roundKey ws (r + 1))) s0
  ofBe (xorBytes (shiftRows (s13.map subByte)) (roundKey ws 14))

/-! ### Galois counter mode (SP 800-38D) -/

/-- Multiply in GF(2^128), first bit most significant. -/
def gf128Mul (x y : Nat) : Nat :=
  ((List.range 128).foldl (fun (a : Nat × Nat) i =>
    (if bit x (127 - i) then a.1 ^^^ a.2 else a.1, if a.2 % 2 = 1 then (a.2 / 2) ^^^ (0xE1 * 2 ^ 120) else a.2 / 2)) (0, y)).1

/-- A byte string as 128-bit blocks, the last one filled with zeros. -/
def blocks128 (l : List Byte) : List Nat :=
  (List.range (ceilDiv l.length 16)).map (fun i => ofBe ((((l ++ List.replicate 16 0).drop (16 * i)).take 16).map (fun (b : Byte) => b.toNat)))

/-- GHASH of associated data and text. -/
def ghash (h : Nat) (aad text : List Byte) : Nat :=
  (blocks128 aad ++ blocks128 text ++ [8 * aad.length * 2 ^ 64 + 8 * text.length]).foldl (fun y b => gf128Mul (y ^^^ b) h) 0

/-- Encrypt or decrypt a text with AES-256 in counter mode under a 96-bit vector, as GCM does. -/
def gcmText (key iv : Nat) (text : List Byte) : List Byte :=
  let stream := (List.range (ceilDiv text.length 16)).flatMap (fun i => beBytes 16 (aes256 key (iv * 2 ^ 32 + i + 2)))
  List.zipWith (fun (b : Byte) (k : Nat) => b ^^^ BitVec.ofNat 8 k) text stream

/-- The leading 96 bits of the GCM tag over associated data and encrypted text, in the order in which they are sent. -/
def gcmTag (key iv : Nat) (aad text : List Byte) : List Byte :=
  ((beBytes 16 (ghash (aes256 key 0) aad text ^^^ aes256 key (iv * 2 ^ 32 + 1))).take 12).map (BitVec.ofNat 8)

/-! ### RS(544,514) (IEEE 802.3 clause 91) -/

/-- Multiply in GF(2^10) modulo x^10 + x^3 + 1. -/
def gf10Mul (a b : Nat) : Nat :=
  ((List.range 10).foldl (fun (x : Nat × Nat) i =>
    (if bit b i then x.1 ^^^ x.2 else x.1, if 512 ≤ x.2 then (x.2 * 2 % 1024) ^^^ 9 else x.2 * 2)) (0, a)).1

/-- The generator polynomial, the product of x - α^j for j from 0 to 29: its 30 coefficients below the leading one, highest first. -/
def rsGen : List Nat :=
  let g := ((List.range 30).foldl (fun (x : List Nat × Nat) _ =>
    (List.zipWith (· ^^^ ·) (x.1 ++ [0]) (0 :: x.1.map (gf10Mul x.2)), gf10Mul x.2 2)) ([1], 1)).1
  g.drop 1

/-- The 30 parity symbols of 514 message symbols, first symbol first: the remainder of the division by the generator. -/
def rsParity (g : List Nat) (msg : List Nat) : List Nat :=
  msg.foldl (fun r m =>
    let f := m ^^^ r.headD 0
    List.zipWith (fun a b => a ^^^ gf10Mul f b) (r.drop 1 ++ [0]) g) (List.replicate 30 0)

/-- The codeword of 5 140 payload bits, first bit least significant: 544 symbols in the order in which they are sent. -/
def rsCodeword (payload : Nat) : List Nat :=
  let msg := (List.range 514).map (fun i => payload / 2 ^ (10 * i) % 1024)
  msg ++ rsParity rsGen msg

end Sys2Proof.Machine
end

