-- ==== Sys2Proof/Machine/Flags.lean ====
section
/-!
DEFINITION. The flags of the block: event records (R60 to R62, R414), the cause bits, level and pending
state of interrupt sources (R310 to R313), and rate limits.

Every event of every chapter is raised through `raise` or `raiseLimited`.
-/

namespace Sys2Proof.Machine

/-- The interrupt source and cause bit that a record sets (*Interrupt sources*); `none` for R312. -/
def intSource (code source inst : Nat) : Option (Nat × Nat) :=
  if code = 0x8001 ∨ code = 0x8002 then none
  else if (source = 0x20 ∨ source = 0x21) ∧ inst < 256 then some (inst, code % 32)
  else if 0x3001 ≤ code ∧ code ≤ 0x3005 ∧ inst < 256 then some (256 + inst, code % 16)
  else if 0x4001 ≤ code ∧ code ≤ 0x4003 ∧ inst < 256 then some (256 + inst, 16 + code % 16)
  else if (code = 0x5003 ∨ code = 0x5008 ∨ code = 0x5009) ∧ inst < 256 then some (256 + inst, 32 + code % 16)
  else if (source = 0x70 ∨ source = 0x71) ∧ inst < 32 then some (512 + inst, code % 32)
  else if (code = 0x5001 ∨ code = 0x5002 ∨ code = 0x5004 ∨ code = 0x5007) ∧ inst < 8 then some (544 + inst, code % 32)
  else if (code = 0x5005 ∨ code = 0x5006) ∧ inst < 64 then some (552 + inst, code % 32)
  else if 0xD001 ≤ code ∧ code ≤ 0xD003 ∧ inst < 16 then some (616 + inst, code % 32)
  else some (896 + 2 * (source / 16) + source % 2, code % 32)

/-- Source numbers that the table of interrupt sources marks reserved. -/
def intReserved (n : Nat) : Bool :=
  (632 ≤ n && n < 896) || (928 ≤ n && n < 960) || (961 ≤ n && n < 1016) || 1020 ≤ n

namespace State

/-- INT_CAUSE of a source; a level-only source shows its level in bit 0. -/
def intCause (s : State) (n : Nat) : Nat :=
  if n = 960 then (if (s.dict.queues.get [] (0, 0)).isEmpty then 0 else 1)
  else if 1016 ≤ n ∧ n < 1020 then (if s.intc.doorbell.get false (n - 1016, 0) then 1 else 0)
  else s.reg Obj.INT_CAUSE n

/-- The level of a source (R311). -/
def intLevel (s : State) (n : Nat) : Bool := (s.intCause n &&& s.reg Obj.INT_CAUSE_EN n) != 0

/-- The Ridge clock runs, so the controller samples (R313, R322). -/
def ridgeClock (s : State) : Bool :=
  match s.mode with
  | .hold => false
  | .sentinel => false
  | _ => true

/-- Sample one source: with INT_ENABLE set, a high level makes it pending (R313). -/
def sampleInt (s : State) (n : Nat) : State :=
  if s.ridgeClock && s.flag Obj.INT_ENABLE n && s.intLevel n && !(s.intSrc n).pending then
    s.setIntSrc n { s.intSrc n with pending := true }
  else s

/-- Every source that can be high: those with a cause bit set and the level-only ones. -/
def intSources (s : State) : List Nat :=
  (s.regs.filterMap (fun e => if e.1.1 = Obj.INT_CAUSE then some e.1.2 else none)) ++ [960, 1016, 1017, 1018, 1019]

/-- Sample every source, as in the first Ridge-clock cycle of a wake (R322). -/
def sampleAllInts (s : State) : State := foldS (fun n t => t.sampleInt n) s.intSources s

/-- Set the cause bit of a record (R310). -/
def setCause (s : State) (code source inst : Nat) : State :=
  match intSource code source inst with
  | none => s
  | some (n, b) => (s.setReg Obj.INT_CAUSE n (setBit (s.reg Obj.INT_CAUSE n) b)).sampleInt n

/-- Partition `n` is bound: PART_STATE. -/
def bound (s : State) (n : Nat) : Bool := s.reg Obj.PART_STATE n == 1

/-- A vPPB belongs to its partition in VPPB_STATE 1, 2 and 3 (R43, R135). -/
def vppbOwned (s : State) (v : Nat) : Bool := s.reg Obj.VPPB_STATE v != 0

/-- A tenant of partition `n` may receive a record (R414). -/
def tenantMaySee (s : State) (n code inst : Nat) : Bool :=
  s.bound n &&
  (if code = 0x1001 then (s.stage inst).owner == 257 + n
   else if code = 0x1002 ∨ code = 0x1003 then (s.lop inst).owner == 257 + n
   else if code = 0x2001 ∨ code = 0x2002 ∨ code = 0x3105 then s.reg Obj.PART_HOST_PORT n == inst
   else if code = 0x3101 ∨ code = 0x3102 ∨ code = 0x3107 then inst / 64 == n && s.vppbOwned inst
   else if code = 0x9001 then inst == n
   else false)

/-- An endpoint receives a record that matches one of its filters (R61). -/
def endpointMatches (s : State) (ep : Nat) (r : EvtRec) : Bool :=
  (s.dict.filters.row ep).any (fun f => match f.2 with
    | some f => f.first ≤ r.code && r.code ≤ f.last && f.minSev ≤ r.sev
    | none => false) &&
  (if 257 ≤ ep && ep < 321 then s.tenantMaySee (ep - 257) r.code r.inst else true)

/-- Queue a record for an endpoint, or drop and count it when 256 are undelivered (R62). -/
def enqueueRec (s : State) (ep : Nat) (r : EvtRec) : State :=
  let q := s.dict.queues.get [] (ep, 0)
  let t :=
    if q.length < 256 then { s with dict := { s.dict with queues := s.dict.queues.set [] (ep, 0) (q ++ [r]) } }
    else { s.bump Obj.EVT_DROPPED ep with dict := { (s.bump Obj.EVT_DROPPED ep).dict with
             dropMark := s.dict.dropMark.set false (ep, 0) true } }
  if ep = 0 then t.sampleInt 960 else t

/-- Endpoints that hold filters. -/
def subscribers (s : State) : List Nat := (s.dict.filters.map (fun e => e.1.1)).eraseDups

/-- Raise an event: number and time the record, set its cause bit, queue it at every endpoint it matches. -/
def raise (s : State) (code source sev inst data : Nat) : State :=
  let r : EvtRec := { code := code, source := source, sev := sev, dropped := false, inst := inst,
                      seq := s.dict.seq, time := s.now, data := data }
  let s1 := { s with dict := { s.dict with seq := (s.dict.seq + 1) % 65536 } }
  let s2 := s1.setCause code source inst
  foldS (fun ep t => if s.endpointMatches ep r then t.enqueueRec ep r else t) s.subscribers s2

/-- Raise an event at most once in `ns` per code and unit; a record held back still sets its cause bit (R310). -/
def raiseLimited (s : State) (ns key code source sev inst data : Nat) : State :=
  let last := s.dict.limited.get 0 (code, key)
  if last = 0 ∨ s.after (last - 1) ns = true then
    ({ s with dict := { s.dict with limited := s.dict.limited.set 0 (code, key) (s.clk + 1) } }).raise code source sev inst data
  else s.setCause code source inst

/-- One occurrence of a catalogued event, for the next counter cycle (R328). -/
def count (s : State) (e : CntEvt) : State :=
  { s with cnt := { s.cnt with evts := s.cnt.evts ++ [e] } }

/-- The endpoint of an FM port or a tenant ceases to exist: its filters, records and drop count go (R62). -/
def clearEndpoint (s : State) (ep : Nat) : State :=
  { s with
    regs := s.regs.set (regDefault (Obj.EVT_DROPPED, ep)) (Obj.EVT_DROPPED, ep) 0
    dict := { s.dict with
      filters := s.dict.filters.filter (fun e => !(e.1.1 == ep))
      queues := s.dict.queues.set [] (ep, 0) []
      dropMark := s.dict.dropMark.set false (ep, 0) false } }

/-- Discard an open stage and raise STAGE_DISCARDED with `why` 0 idle or 1 endpoint gone (R56). -/
def discardStage (s : State) (n why : Nat) : State :=
  (s.raise 0x1001 0x10 2 n (n + 256 * (s.stage n).owner + 2 ^ 24 * why)).setStage n stageDflt

/-- An endpoint ceases to exist: its open stages are discarded, its filters and records dropped (R56, R62). -/
def endpointGone (s : State) (ep : Nat) : State :=
  (foldS (fun i t => if (t.stage (i + 1)).st = .opened ∧ (t.stage (i + 1)).owner = ep
                     then t.discardStage (i + 1) 1 else t) (List.range 16) s).clearEndpoint ep

/-! ### Ends of long operations (R57) -/

/-- Free what a handle of its kind held: its event slot (R410) and, for kind 1, its stage (R413). -/
def releaseLop (s : State) (h : Nat) : State :=
  let l := s.lop h
  let t := s.dropSlot l.slot
  if l.kind = 1 ∧ 1 ≤ l.arg ∧ l.arg ≤ 16 ∧ (t.stage l.arg).lop = h then t.setStage l.arg stageDflt else t

/-- A handle reaches DONE, ABORTED or FAILED with a result, and LOP_DONE is raised; that of a CXL FM API command is reported to
its endpoint (R139). -/
def endLop (s : State) (h : Nat) (st : LopSt) (result : Nat) : State :=
  let l := s.lop h
  let r := s.releaseLop h
  let t := if l.fm then r.emit (.fmApi l.owner (if result = 0 then 0 else Config.fmApiCode result) []) else r
  (t.setLop h { l with st := st, result := result, ended := s.clk, slot := 512,
                       progress := if st = .done then 1000 else l.progress }).raise 0x1003 0x10 1 h
    (h + 65536 * l.kind + 2 ^ 24 * result)

/-- A handle reaches its commit point. -/
def commitLop (s : State) (h : Nat) : State :=
  s.modLop h (fun l => { l with st := .committed, commit := s.now, since := s.clk })

/-- The Ridge core that runs an operation (*Ridge core duties*): binding and route epochs and moves core 2, profile storage and Talus
core 3, the rest core 0. -/
def lopCore (s : State) (kind arg : Nat) : Nat :=
  if kind = 1 then (if (s.stage arg).entries.any (fun e => 0x310000 ≤ e.1.1 && e.1.1 < 0x380000) then 2 else 0)
  else if kind = 2 then 2 else if kind = 3 ∨ kind = 5 then 3 else 0

/-- Resources of a QUEUED handle are granted (R57). DEDUCED: they are those of the Ridge core that runs the operation, so it waits
while that core is halted (R13). -/
def grantLop (s : State) (h : Nat) : State :=
  let x := s.lop h
  if x.st = .queued ∧ s.coreRuns (s.lopCore x.kind x.arg) = true then s.setLop h { x with st := .running } else s

/-- Take the lowest free handle for a kind, QUEUED until its resources are granted; `none` when all 64 are in use (R57, R59). -/
def takeLop (s : State) (kind owner arg : Nat) : Option (Nat × State) :=
  match s.freeLop with
  | none => none
  | some h => some (h, (s.setLop h { lopDflt with kind := kind, st := .queued, owner := owner, start := s.now, arg := arg, since := s.clk }).grantLop h)

/-- Take the lowest free event slot for a kind (R37, R410). -/
def takeSlot (s : State) (kind time period policy arg : Nat) : Option (Nat × State) :=
  match s.freeSlot with
  | none => none
  | some k => some (k, s.setSlot k { kind := kind, state := 1, time := time, first := time, period := period,
                                     policy := policy, missed := 0, arg := arg, due := 0 })

end State

end Sys2Proof.Machine
end

