-- ==== Sys2Proof/Machine/Address.lean ====
section
/-!
DEFINITION. The address computations of the spec: HDM decode and its inverse (R128, R204), redirects (R232,
R234), logical devices and their presence (R125), the coherence map (R187), hash groups (R117), the
placement of a line in the directory (R189), and requester numbers (R250).
-/

namespace Sys2Proof.Machine

/-- 256 MiB. -/
abbrev mib256 : Nat := 268435456

namespace State

/-- The decode of window `w` as configured. -/
def winCfg (s : State) (w : Nat) : WinCfg :=
  let ways := 2 ^ s.reg Obj.WIN_WAYS w
  let t := s.reg Obj.WIN_TARGETS w
  { part := s.reg Obj.WIN_PART w, base := s.reg Obj.WIN_HPA_BASE w, size := s.reg Obj.WIN_SIZE w, ways := ways,
    gran := 256 * 2 ^ s.reg Obj.WIN_GRAN w, targets := (List.range ways).map (elem t 2),
    dpa := s.reg Obj.WIN_DPA_BASE w, shared := bit (s.reg Obj.WIN_ATTR w) 1 }

/-- The enabled windows. -/
def windows (s : State) : List Nat :=
  s.regs.filterMap (fun e => if e.1.1 = Obj.WIN_ATTR ∧ bit e.2 0 = true then some e.1.2 else none)

/-- An LD is configured on a port: LD_PORT names one. -/
def ldLocal (s : State) (ld : Nat) : Bool := s.reg Obj.LD_PORT ld != 0xFFFF

/-- A hash group has a live member: some bucket names a DL_Up port. -/
def groupLive (s : State) (g : Nat) : Bool :=
  (List.range (s.reg Obj.HG_COUNT g)).any (fun i => s.dlUp (elem (s.reg Obj.HG_MEMBERS g) 1 i))

/-- The route entry reaches a live port (R125). -/
def routeLive (s : State) (fid : Nat) : Bool :=
  let e := s.reg Obj.ROUTE_ENTRY fid
  match field e 10 2 with
  | 1 => s.dlUp (field e 0 8)
  | 2 => s.groupLive (field e 0 10)
  | _ => false

/-- The size that the device on a local LD's port reports for it; `none` where enumeration has not found it (R125). -/
def ldReported (s : State) (ld : Nat) : Option Nat :=
  match s.fab.enumd.get none (s.reg Obj.LD_PORT ld, 0) with
  | none => none
  | some e => if !e.found then none
    else if s.reg Obj.LD_LDID ld = 0xFFFF then (if e.single = 0 then none else some e.single)
    else e.lds.lookup (s.reg Obj.LD_LDID ld)

/-- An LD is present (R125). -/
def ldPresent (s : State) (ld : Nat) : Bool :=
  if s.ldLocal ld then s.dlUp (s.reg Obj.LD_PORT ld) && (s.ldReported ld).isSome
  else s.reg Obj.LD_REMOTE_SIZE ld != 0 && s.routeLive (s.reg Obj.LD_FID ld)

/-- LD_SIZE (R125): what enumeration took in, or LD_REMOTE_SIZE for a remote LD; 0 while absent. -/
def ldSize (s : State) (ld : Nat) : Nat :=
  if s.ldPresent ld = false then 0 else if s.ldLocal ld then s.reg Obj.LD_SIZE ld else s.reg Obj.LD_REMOTE_SIZE ld

/-- The vPPBs that bind an LD: VPPB_STATE not 0. -/
def ldBinders (s : State) (ld : Nat) : List Nat :=
  s.regs.filterMap (fun e => if e.1.1 = Obj.VPPB_LD ∧ e.2 = ld then some e.1.2 else none)

/-- The vPPBs that an LD still belongs to: those that bind it, and those whose unbind has not reached DONE (R43, R135). -/
def ldHolders (s : State) (ld : Nat) : List Nat :=
  s.ldBinders ld ++ s.fab.bindings.filterMap (fun (b : Binding) => if b.unbind ∧ b.ld = ld then some b.vppb else none)

/-- LD_STATE. -/
def ldState (s : State) (ld : Nat) : Nat :=
  if s.ldPresent ld then (if (s.ldBinders ld).isEmpty then 1 else 2)
  else if s.ldLocal ld then
    (if (s.ldReported ld).isSome then 3 else 0)
  else if s.reg Obj.LD_REMOTE_SIZE ld != 0 then 3 else 0

/-- LDs that the configuration names: on a port, or remote with a size. -/
def ldsKnown (s : State) : List Nat :=
  s.regs.filterMap (fun e => if e.1.1 = Obj.LD_PORT ∨ e.1.1 = Obj.LD_REMOTE_SIZE then some e.1.2 else none)

/-- The present LD whose pool range contains a pool address. -/
def ldAt (s : State) (pool : Nat) : Option Nat :=
  s.ldsKnown.find? (fun ld => s.ldPresent ld && s.reg Obj.LD_POOL_BASE ld ≤ pool &&
    pool < s.reg Obj.LD_POOL_BASE ld + s.ldSize ld)

end State

/-- Whether a window contains a host physical address. -/
def WinCfg.contains (w : WinCfg) (a : Nat) : Bool := w.base ≤ a && a < w.base + w.size

/-- HDM decode within a window: way and device address (R128). -/
def WinCfg.decode (w : WinCfg) (a : Nat) : Nat × Nat :=
  let off := a - w.base
  let way := off / w.gran % w.ways
  (w.targets.getD way 0xFFFF, w.dpa + off / (w.gran * w.ways) * w.gran + off % w.gran)

/-- The host physical address at which a window shows a device address of the target in `way` (R204). -/
def WinCfg.hpa (w : WinCfg) (way dpa : Nat) : Nat :=
  let off := dpa - w.dpa
  w.base + off / w.gran * w.gran * w.ways + way * w.gran + off % w.gran

/-- A window's pool ranges given the pool base of each target: (start, length). -/
def WinCfg.ranges (w : WinCfg) (bases : List Nat) : List (Nat × Nat) :=
  bases.map (fun b => (b + w.dpa, w.size / w.ways))

/-- A range list reaches a pool address. -/
def inRanges (rs : List (Nat × Nat)) (a : Nat) : Bool := rs.any (fun r => r.1 ≤ a && a < r.1 + r.2)

/-- Two ranges share an address. -/
def meets (a b : Nat × Nat) : Bool := a.1 < b.1 + b.2 && b.1 < a.1 + a.2 && a.2 != 0 && b.2 != 0

/-- The directory placement of a pool address: slice, set and tag (R189). -/
def place (slices pool : Nat) : Nat × Nat × Nat :=
  let l := pool / 64 % 2 ^ 43
  let h := (l % 8) ^^^ (l / 64 % 8) ^^^ (l / 32768 % 8)
  (h % slices, l / 8 % 6291456, h * 2 ^ 18 + l / 8 / 6291456)

/-- The hash-group bucket of a source and destination (R117). -/
def bucketOf (src dst : Nat) : Nat := (src * 65536 + dst) * 0x9E3779B1 % 2 ^ 32 / 2 ^ 26

namespace State

/-- Pool bases of a window's targets. -/
def winBases (s : State) (w : WinCfg) : List Nat := w.targets.map (fun ld => s.reg Obj.LD_POOL_BASE ld)

/-- The coherence map: a window active or retiring with WIN_ATTR[1] set reaches the 256 MiB granule (R187). -/
def coherentAt (s : State) (pool : Nat) : Bool :=
  let g := pool / mib256 * mib256
  let hit := fun (w : WinCfg) (bases : List Nat) => w.shared && (w.ranges bases).any (fun r => meets r (g, mib256))
  s.windows.any (fun w => hit (s.winCfg w) (s.winBases (s.winCfg w))) ||
  s.fab.walks.any (fun k => hit k.cfg k.bases)

/-- Active and reserved redirects: (entry, source, destination, size, state). -/
def redirects (s : State) : List (Nat × Nat × Nat × Nat × Nat) :=
  (List.range 64).filterMap (fun r =>
    if s.reg Obj.RDR_STATE r = 0 then none
    else some (r, s.reg Obj.RDR_SRC r, s.reg Obj.RDR_DST r, s.reg Obj.RDR_SIZE r, s.reg Obj.RDR_STATE r))

/-- Where a home address is served: the redirect's destination when an active one covers it (R232). -/
def redirect (s : State) (home : Nat) : Nat :=
  match s.redirects.find? (fun r => r.2.2.2.2 == 2 && r.2.1 ≤ home && home < r.2.1 + r.2.2.2.1) with
  | some r => home - r.2.1 + r.2.2.1
  | none => home

/-- A pool address lies in the destination range of a redirect in state 1 or 2 (R234). -/
def inRdrDest (s : State) (pool : Nat) : Bool :=
  s.redirects.any (fun r => r.2.2.1 ≤ pool && pool < r.2.2.1 + r.2.2.2.1)

/-- The channel whose reserved source range (a move before its commit point) contains a home address. -/
def movingAt (s : State) (home : Nat) : Option Nat :=
  (List.range 16).find? (fun c =>
    let r := s.reg Obj.MOVE_RDR c
    r < 64 && s.reg Obj.RDR_STATE r == 1 && s.reg Obj.RDR_SRC r ≤ home && home < s.reg Obj.RDR_SRC r + s.reg Obj.RDR_SIZE r)

/-- The member that a group's bucket names; `none` when no member is live. -/
def bucketPort (s : State) (g b : Nat) : Option Nat :=
  if s.groupLive g then some (elem (s.reg Obj.HG_MEMBERS g) 1 (elem (s.reg Obj.HG_BUCKETS g) 1 b)) else none

/-- The port through which an internal requester of fabric ID `src` reaches an LD: LD_PORT, or the live route of its fabric ID
(R114, R117). -/
def ldEgress (s : State) (src ld : Nat) : Option Nat :=
  if s.ldLocal ld then some (s.reg Obj.LD_PORT ld % 256)
  else
    let e := s.reg Obj.ROUTE_ENTRY (s.reg Obj.LD_FID ld)
    match field e 10 2 with
    | 1 => some (field e 0 8)
    | 2 => s.bucketPort (field e 0 10) (bucketOf src (s.reg Obj.LD_FID ld))
    | _ => none

/-- The bound partition whose host port is `p`. -/
def hostPart (s : State) (p : Nat) : Option Nat :=
  (List.range 64).find? (fun n => s.bound n && s.reg Obj.PART_HOST_PORT n == p)

/-- The requester number of a request that arrives on port `p` (R250). -/
def requester (s : State) (p : Nat) : Nat :=
  match s.hostPart p with
  | some n => n
  | none => 64 + p

/-- Partitions that a device port serves: those of the vPPBs that bind its LDs. -/
def devParts (s : State) (p : Nat) : List Nat :=
  (s.ldsKnown.filter (fun ld => s.reg Obj.LD_PORT ld == p)).flatMap (fun ld => (s.ldHolders ld).map (· / 64))

/-- The port of a Type 1 or Type 2 device: it has negotiated CXL.cache (R2). -/
def cacheDevice (s : State) (p : Nat) : Bool := s.reg Obj.PORT_ROLE p == 1 && bit (s.reg Obj.PORT_PROTOCOLS p) 2

/-- An LD whose pool range contains an address, present or not. -/
def ldSpan (s : State) (pool : Nat) : Option Nat :=
  s.ldsKnown.find? (fun ld => s.reg Obj.LD_POOL_BASE ld ≤ pool && pool < s.reg Obj.LD_POOL_BASE ld +
    (if s.ldLocal ld then s.reg Obj.LD_SIZE ld else s.reg Obj.LD_REMOTE_SIZE ld))

/-- The agent behind a request of requester `rq` on port `p`; 64 none (R185, R188). -/
def agentOf (s : State) (p rq : Nat) : Nat :=
  match (List.range 64).find? (fun a =>
      (s.reg Obj.AGT_KIND a == 1 && rq < 64 && s.reg Obj.AGT_REF a == rq) ||
      (s.reg Obj.AGT_KIND a == 2 && s.drudar p && s.reg Obj.AGT_REF a == p && 64 ≤ rq)) with
  | some a => a
  | none => 64

/-- The agent behind a message; an internal requester is none (R188). -/
def agentOfMsg (s : State) (m : Msg) : Nat := if m.internal then 64 else s.agentOf m.inPort m.rq

/-- A window with WIN_ATTR[1] set, active or retiring, reaches an LD (R206). -/
def ldInMap (s : State) (ld : Nat) : Bool :=
  s.windows.any (fun w => (s.winCfg w).shared && (s.winCfg w).targets.contains ld) ||
  s.fab.walks.any (fun (k : Walk) => k.cfg.shared && k.cfg.targets.contains ld)

/-- The port of an agent; 256 none. -/
def agentPort (s : State) (a : Nat) : Nat :=
  if s.reg Obj.AGT_KIND a = 1 then min (s.reg Obj.PART_HOST_PORT (s.reg Obj.AGT_REF a)) 256
  else if s.reg Obj.AGT_KIND a = 2 then min (s.reg Obj.AGT_REF a) 256 else 256

/-- The agents that live behind a port. -/
def agentsOfPort (s : State) (p : Nat) : List Nat := (List.range 64).filter (fun a => s.agentPort a == p)

end State

end Sys2Proof.Machine
end

