-- ==== Sys2Proof/Machine/Operands.lean ====
section
/-!
DEFINITION. The operand forms of dictionary requests (R6, R46, R63): how a value of each type stands in a payload, which
values an object's range admits, the fields of the multi-part objects, and the abort codes.
-/

namespace Sys2Proof.Machine

namespace Ab

/-! The abort codes of R63; LOP_RESULT uses the same. -/

abbrev MALFORMED : Nat := 0x0001_0000
abbrev OPCODE_UNKNOWN : Nat := 0x0001_0001
abbrev OBJ_ABSENT : Nat := 0x0002_0000
abbrev ACCESS_DENIED : Nat := 0x0003_0000
abbrev NOT_STAGED : Nat := 0x0003_0001
abbrev TYPE_MISMATCH : Nat := 0x0004_0000
abbrev RANGE : Nat := 0x0004_0001
abbrev LENGTH : Nat := 0x0004_0002
abbrev BLOCK_UNPOWERED : Nat := 0x0005_0001
abbrev BUSY : Nat := 0x0006_0000
abbrev NO_RESOURCE : Nat := 0x0006_0001
abbrev HANDLE_ABSENT : Nat := 0x0007_0001
abbrev TOO_LATE : Nat := 0x0007_0002
abbrev MODE_FORBIDS : Nat := 0x0008_0000
abbrev DEBUG_LOCKED : Nat := 0x0009_0000
abbrev OVERLAP : Nat := 0x000A_0000
abbrev EPOCH_DRAINING : Nat := 0x000B_0000
abbrev INVALID_CONFIG : Nat := 0x000C_0000
abbrev OP_FAILED : Nat := 0x000D_0000
abbrev ABORTED : Nat := 0x000E_0000

end Ab

/-- A value as a payload carries it: its number, and for a BLOB or STR of open size its bytes. -/
structure Val where
  num : Nat
  bytes : List Byte
  deriving DecidableEq, Repr

def valOf (n : Nat) : Val := { num := n, bytes := [] }

/-- A value of a type in a payload (R6, R46): a STR after a U8 count, a BLOB after a U16 count. -/
def putVal (ty : DType) (v : Val) : List Byte :=
  match ty with
  | .str => toBytes 1 v.bytes.length ++ v.bytes
  | .blob n => toBytes 2 n ++ toBytes n v.num
  | .blobVar _ _ => toBytes 2 v.bytes.length ++ v.bytes
  | _ => toBytes ty.size v.num

/-- Take a value of a type off the front of a payload; `none` where its size does not match the type. -/
def takeVal (ty : DType) (b : List Byte) : Option (Val × List Byte) :=
  match ty with
  | .str =>
    let n := ofBytes (b.take 1)
    if b.length < 1 + n ∨ n = 0 then none
    else some ({ num := 0, bytes := (b.drop 1).take n }, b.drop (1 + n))
  | .blob n =>
    if b.length < 2 + n ∨ ofBytes (b.take 2) ≠ n then none
    else some (valOf (ofBytes ((b.drop 2).take n)), b.drop (2 + n))
  | .blobVar lo hi =>
    let n := ofBytes (b.take 2)
    if b.length < 2 + n ∨ n < lo ∨ hi < n then none
    else some ({ num := ofBytes ((b.drop 2).take n), bytes := (b.drop 2).take n }, b.drop (2 + n))
  | _ => if b.length < ty.size then none else some (valOf (ofBytes (b.take ty.size)), b.drop ty.size)

/-- The size of a value in a payload, where the type fixes it. -/
def putSize (ty : DType) : Nat :=
  match ty with
  | .blob n => 2 + n
  | _ => ty.size

/-- Every element of `w` bytes of a BLOB of `n` bytes satisfies `p`. -/
def allElems (n w v : Nat) (p : Nat → Bool) : Bool := (List.range (n / w)).all (fun i => p (elem v w i))

/-- A value lies in an object's range as its row states it; `special` ranges are checked where their objects are. -/
def inRange (r : ObjRow) (v : Nat) : Bool :=
  (match r.ty with
   | .bool => v < 2
   | _ => true) &&
  match r.rng with
  | .any => true
  | .range lo hi => lo ≤ v && v ≤ hi
  | .srange lo hi => lo ≤ toSigned r.ty.size v && toSigned r.ty.size v ≤ hi
  | .mask m => maskOut v m == 0
  | .orNone hi n => v ≤ hi || v == n
  | .mult m => v % m == 0
  | .elems w lo hi => allElems r.ty.size w v (fun x => lo ≤ x && x ≤ hi)
  | .elemsOrNone w hi n => allElems r.ty.size w v (fun x => x ≤ hi || x == n)
  | .oneOf l => l.contains v
  | .zeroOr lo hi => v == 0 || (lo ≤ v && v ≤ hi)
  | .special => true

/-! ### Objects of several fields -/

/-- ROUTE_ENTRY (R115). -/
def rtTarget (e : Nat) : Nat := field e 0 10
def rtKind (e : Nat) : Nat := field e 10 2

/-- One filter of a SUBSCRIBE payload (R61). -/
def takeFilter (b : List Byte) : Nat × Filter :=
  (ofBytes (b.take 1), { first := ofBytes ((b.drop 1).take 2), last := ofBytes ((b.drop 3).take 2),
                         minSev := ofBytes ((b.drop 5).take 1) })

/-- An event record in its 32 bytes (R60). -/
def evtBytes (r : EvtRec) : List Byte :=
  toBytes 2 r.code ++ toBytes 1 r.source ++ toBytes 1 (r.sev % 16 + (if r.dropped then 16 else 0)) ++ toBytes 2 r.inst ++
  toBytes 2 r.seq ++ toBytes 10 r.time ++ toBytes 2 0 ++ toBytes 12 r.data

/-- A response in its bytes (*Message format*): the request's bytes 1 to 9 again, FLAGS[0] set, the STATUS and payload. -/
def respBytes (r : Req) (status : Nat) (payload : List Byte) : List Byte :=
  toBytes 1 1 ++ toBytes 1 r.op ++ toBytes 1 r.tag ++ toBytes 1 (setBit r.flags 0) ++ toBytes 2 r.index ++ toBytes 1 r.sub ++
  toBytes 1 r.stage ++ toBytes 2 r.inst ++ toBytes 2 payload.length ++ toBytes 4 status ++ payload

/-- An EVENT message (*Operations*, R62): a header with TAG 0, and its records. -/
def eventBytes (l : List EvtRec) : List Byte :=
  toBytes 1 1 ++ toBytes 1 0x32 ++ toBytes 8 0 ++ toBytes 2 (l.flatMap evtBytes).length ++ l.flatMap evtBytes

/-- A message cut into pieces of `n` bytes, at most `k` of them. -/
def chunks (n : Nat) : Nat → List Byte → List (List Byte)
  | 0, _ => []
  | k + 1, b => if b.length ≤ n then [b] else b.take n :: chunks n k (b.drop n)

/-- What stands before a dictionary message in MCTP: the vendor-defined type and the enterprise number (R44). -/
def mctpType : List Byte := [(0x7F : Byte)] ++ (toBytes 4 (Config.ianaEnt % 2 ^ 32)).reverse

/-- The MCTP header of packet `i` of `n`: version, destination and source EID, marks, sequence, and the tag with its owner bit.
PRESUMED: MCTP base lays it out. -/
def mctpHeader (dst src i n tag : Nat) : List Byte :=
  toBytes 1 1 ++ toBytes 1 dst ++ toBytes 1 src ++
    toBytes 1 ((if i = 0 then 128 else 0) + (if i + 1 = n then 64 else 0) + i % 4 * 16 + tag % 16)

namespace State

/-- Bytes of a message that one packet carries to or from an endpoint (*Dictionary transports*): 64 on I3C and in a VDM; on Drudar
a packet of 256 bytes with its MCTP header. -/
def mctpUnit (s : State) (ep : Nat) : Nat := if ep ≠ 0 ∧ s.drudar (ep - 1) = true then 252 else 64

/-- Send a dictionary message to an endpoint (R44): in packets on MCTP, which wait as MGMT frames on a Drudar port; whole in a
mailbox. -/
def sendMessage (s : State) (ep tag : Nat) (b : List Byte) : State :=
  if ep ≤ 256 then
    let ps := chunks (s.mctpUnit ep) 32 (mctpType ++ b)
    if ep ≠ 0 ∧ s.drudar (ep - 1) = true then
      let e := s.egr (ep - 1)
      let dst := s.dict.peers.get 0 (ep, 0)
      s.setEgr (ep - 1) { e with mgmt := e.mgmt ++ ps.zipIdx.map (fun x =>
        mctpHeader dst (s.reg Obj.MCTP_EID_INBAND 0) x.2 ps.length tag ++ x.1) }
    else s.emit (.message ep ps)
  else s.emit (.message ep [b])

end State

/-- A request message parsed from its bytes. A message shorter than the header gives a header of what there is, with a
LENGTH that does not match. -/
def parseReq (b : List Byte) : Req :=
  { ver := ofBytes (b.take 1), op := ofBytes ((b.drop 1).take 1), tag := ofBytes ((b.drop 2).take 1)
    flags := ofBytes ((b.drop 3).take 1), index := ofBytes ((b.drop 4).take 2), sub := ofBytes ((b.drop 6).take 1)
    stage := ofBytes ((b.drop 7).take 1), inst := ofBytes ((b.drop 8).take 2)
    len := if b.length < 12 then 0xFFFF else ofBytes ((b.drop 10).take 2), payload := b.drop 12 }

/-- A request that a step builds itself to write one object. -/
def writeReq (obj inst : Nat) (payload : List Byte) : Req :=
  { ver := 1, op := 2, tag := 0, flags := 0, index := obj / 256, sub := obj % 256, stage := 0, inst := inst,
    len := payload.length, payload := payload }

/-- A request that reads one object. -/
def readReq (obj inst : Nat) : Req :=
  { ver := 1, op := 1, tag := 0, flags := 0, index := obj / 256, sub := obj % 256, stage := 0, inst := inst, len := 0,
    payload := [] }

end Sys2Proof.Machine
end

