-- ==== Sys2Proof/Machine/Shaper.lean ====
section
/-!
DEFINITION. What an egress port keeps by time: its data rate (R149, R97), the gates in force (R167 to R173), the
credit of its shapers (R175 to R177), and the announcement of load steps by gate lists (R180, R181).

Fabric times here are TIME values, in 2^-16 ns (R5).
-/

namespace Sys2Proof.Machine

/-- One nanosecond of fabric time as a TIME value. -/
abbrev tNs : Nat := 65536

/-! ### Gate-list entries (R167) -/

def gclGates (e : Nat) : Nat := e % 256
def gclStep (e : Nat) : Nat := e / 256 % 256
def gclInterval (e : Nat) : Nat := e / 65536 % 4294967296

/-- The cycle of a list, ns. -/
def gclCycle (l : List Nat) : Nat := l.foldl (fun a e => a + gclInterval e) 0

/-- The entry whose interval contains position `pos` in the cycle, and the end of that interval (R169). -/
def gclFind : List Nat → Nat → Nat → Nat → Nat × Nat
  | [], k, t, _ => (k, t)
  | e :: r, k, t, pos =>
    let u := t + gclInterval e * tNs
    if pos < u then (k, u) else gclFind r (k + 1) u pos

/-- Entry in force at time `t` of a list with base time `b`, and the time at which it ends. -/
def gclAt (l : List Nat) (b t : Nat) : Nat × Nat :=
  let c := gclCycle l * tNs
  if c = 0 ∨ t < b then (0, b)
  else
    let x := gclFind l 0 0 ((t - b) % c)
    (x.1, t - (t - b) % c + x.2)

/-- The first time after `t` at which class `c` closes under a list that is in entry `k` until `u`; within `n` entries. -/
def gclClose (l : List Nat) (c : Nat) : Nat → Nat → Nat → Option Nat
  | 0, _, _ => none
  | n + 1, k, u =>
    let k1 := if k + 1 < l.length then k + 1 else 0
    if !bit (gclGates (l.getD k1 0)) c then some u
    else gclClose l c n k1 (u + gclInterval (l.getD k1 0) * tNs)

/-- The longest continuous opening of class `c` in a list, ns; `none` when it never closes (R174). -/
def gclLongest (l : List Nat) (c : Nat) : Option Nat :=
  if l.all (fun e => bit (gclGates e) c) then none
  else
    let r := (l ++ l).foldl (fun (a : Nat × Nat) e =>
      if bit (gclGates e) c then (a.1 + gclInterval e, max a.2 (a.1 + gclInterval e)) else (0, a.2)) (0, 0)
    some r.2

/-- E and n of R170: the first time `b + n * c` (ns cycle `c`) more than 25 000 ns after `t`. -/
def gclSwapTime (b c t : Nat) : Nat × Nat :=
  let lim := t + 25000 * tNs
  if lim < b ∨ c = 0 then (b, 0)
  else
    let n := (lim - b) / (c * tNs) + 1
    (b + n * (c * tNs), n)

namespace State

/-! ### Rates -/

/-- The flit data rate of a port in Mb/s: for Drudar mode the table *Drudar rates*, by 8/9 with IDE on. -/
def rateBits (s : State) (p : Nat) : Rat :=
  let w : Rat := (s.reg Obj.PORT_ACTIVE_WIDTH p : Nat)
  match s.reg Obj.PORT_SPEED p with
  | 0 => 0 | 1 => w * 2500 | 2 => w * 5000 | 3 => w * 8000 | 4 => w * 16000
  | 5 => w * 32000 | 6 => w * 64000
  | n =>
    let r : Rat := ((s.reg Obj.DRU_TX_WIDTH p * (32000 * 2 ^ (n - 7)) * 514 * 256 : Nat) : Rat) / (544 * 272)
    if s.reg Obj.DRU_IDE_MODE p = 0 then r else r * 8 / 9

/-- A cell time at the port, in 2^-32 ns, rounded down; 0 with no rate. -/
def cellTime (s : State) (p n : Nat) : Nat :=
  let r := s.rateBits p
  if r = 0 then 0 else (((n * 2048 * 1000 * nsUnit : Nat) : Rat) / r).floor.toNat

/-- The port is in L0 (CXL) or UP (Drudar), so that its egress sends. -/
def sending (s : State) (p : Nat) : Bool := s.dlUp p && (s.port p).st == .l0 && !s.gatedLC (p / 8)

/-! ### Gates -/

/-- Gates that fabric time opens now (R169). -/
def gatesNow (s : State) (p : Nat) : Nat :=
  let e := s.egr p
  if e.gclOn then gclGates (e.oper.getD (gclAt e.oper (s.reg Obj.GCL_OPER_BASE p) s.now).1 0) else 255

/-- Gates in force since the last gate change. -/
def gatesHeld (s : State) (p : Nat) : Nat :=
  let e := s.egr p
  if e.gclOn then gclGates (e.oper.getD e.gateIdx 0) else 255

/-- t_close of R173: under the running list and a swap armed before that time; `none` if the gate does not close within
the current and following cycle. -/
def closeTime (s : State) (p c : Nat) : Option Nat :=
  let e := s.egr p
  let run := if e.gclOn then
      let x := gclAt e.oper (s.reg Obj.GCL_OPER_BASE p) s.now
      gclClose e.oper c (2 * e.oper.length) x.1 x.2
    else none
  let swapE := s.reg Obj.GCL_SWAP_TIME p
  let early := match run with
    | some t => t < swapE
    | none => false
  if e.pendOn && !early then
    if !bit (gclGates (e.pendList.headD 255)) c then some swapE
    else gclClose e.pendList c (2 * e.pendList.length) 0 (swapE + gclInterval (e.pendList.headD 0) * tNs)
  else run

/-! ### Shapers -/

/-- A class holds a message, or a response class an entry of the synthesized list (R165). -/
def backlogged (s : State) (p c : Nat) : Bool :=
  !(s.queue p c).isEmpty || (!(s.synth p).isEmpty &&
    (s.synth p).any (fun x => x.msg.cls == c))

/-- A class whose CBS_IDLE_SLOPE is non-zero has a shaper, whatever R177 leaves of its slope (R165, R175). -/
def shaped (s : State) (p c : Nat) : Bool := elem (s.reg Obj.CBS_IDLE_SLOPE p) 4 c != 0

/-- The idle slope in force of a class, Mb/s. -/
def slope (s : State) (p c : Nat) : Nat := elem (s.reg Obj.CBS_SLOPE_OPER p) 4 c

/-- The credit of a shaped class after a span in 2^-32 ns in which it sent no cell (R175); no span changes nothing. -/
def creditAfter (s : State) (p c : Nat) (credit : Rat) (span : Nat) : Rat :=
  if span = 0 then credit else
  let r := s.rateBits p
  let sl : Rat := (s.slope p c : Nat)
  let gain := sl * (span : Nat) / (1000 * nsUnit : Nat)
  let hi : Rat := (elem (s.reg Obj.CBS_HI_CELLS p) 2 c * 2048 : Nat)
  let lo : Rat := if r = 0 then 0 else -(17 * 2048 * (r - sl) / r)
  let x := if s.backlogged p c then min (credit + gain) hi
    else if credit < 0 then min (credit + gain) 0 else 0
  max x lo

/-- Bring the credits of a port up to now, under the gates and the port state held since (R175, R176). -/
def accrue (s : State) (p : Nat) : State :=
  let e := s.egr p
  if s.reg Obj.CBS_IDLE_SLOPE p = 0 then s
  else
    let live := s.sending p && s.mode != .hold
    let g := s.gatesHeld p
    let cr := (List.range 8).map (fun c =>
      if live && bit g c && s.shaped p c then
        s.creditAfter p c (e.credit.getD c 0) (s.clk - e.crAt.getD c 0)
      else e.credit.getD c 0)
    s.setEgr p { e with credit := cr, crAt := e.crAt.map (fun t => max t s.clk) }

/-- A cell of class `c` begins: its credit falls by 2 048 * (1 - s/R) over the cell time (R175). -/
def chargeCell (s : State) (p c : Nat) : State :=
  let t := s.accrue p
  let e := t.egr p
  let r := t.rateBits p
  let sl : Rat := (t.slope p c : Nat)
  let e1 := { e with nextAt := t.clk + t.cellTime p 1 }
  if t.shaped p c = false ∨ r = 0 then t.setEgr p e1
  else
    let lo : Rat := -(17 * 2048 * (r - sl) / r)
    t.setEgr p { e1 with
      credit := setAt e.credit c (max (e.credit.getD c 0 - 2048 * (1 - sl / r)) lo)
      crAt := setAt e.crAt c (t.clk + t.cellTime p 1) }

/-- Slopes in force: scaled down when their sum exceeds the port rate (R177). -/
def shaperSlopes (s0 : State) (p : Nat) : State :=
  let e := s0.egr p
  let s := s0.setEgr p { e with crAt := e.crAt.map (fun t => max t s0.clk) }
  let idle := s.reg Obj.CBS_IDLE_SLOPE p
  let l := (List.range 8).map (elem idle 4)
  let sum := l.foldl (· + ·) 0
  let r := s.rateBits p
  if r < (sum : Nat) then
    let q := l.map (fun x => (((x : Nat) : Rat) * r / ((sum : Nat) : Rat)).floor.toNat)
    let t := s.setReg Obj.CBS_SLOPE_OPER p (packElems 4 q)
    if s.dlUp p || r != 0 then
      t.raise 0x4003 0x40 2 p (bitSet ((List.range 8).filter (fun c => l.getD c 0 != 0)) +
        65536 * (r * 1000 / ((sum : Nat) : Rat)).floor.toNat)
    else t
  else s.setReg Obj.CBS_SLOPE_OPER p idle

/-- PORT_RATE_CHANGE: the cell rate and the shaper slopes follow the port's speed and width (R149, R177). -/
def portRateChange (s : State) (p : Nat) : State :=
  ((s.accrue p).setReg Obj.PORT_CELL_RATE p ((s.rateBits p) / 2048).floor.toNat).shaperSlopes p

/-- The port reaches DL_Up: credits 0, tags 0, every class inactive (R176, R178). -/
def egressUp (s : State) (p : Nat) : State :=
  let e := s.egr p
  s.setEgr p { e with
    credit := egressDflt.credit, crAt := List.replicate 8 s.clk
    vtime := 0, start := egressDflt.start, finish := egressDflt.finish, active := egressDflt.active
    cur := 8, under := false, nextAt := s.clk }

/-! ### Gate changes -/

/-- The gates of a port become `g`, those of entry `k`, at fabric time `at_`, from the gates held until then: a message being
sent in a class that closes is marked, and a class that closes waits for its next opening (R169, R174). -/
def turnGates (t : State) (p g k at_ : Nat) : State :=
  let e := t.egr p
  let closing := (List.range 8).filter (fun c => bit (t.gatesHeld p) c && !bit g c)
  let t1 := t.setEgr p { e with gateIdx := k, decided := (List.range 8).map (fun c => e.decided.getD c false && bit g c) }
  foldS (fun c u => match u.queue p c with
    | [] => u
    | d :: _ => match u.desc d with
      | some x => if x.started ∧ x.closed = 0 then u.setDesc d (some { x with closed := at_ + 1 }) else u
      | none => u) closing t1

/-- The gates of a port follow fabric time to the entry now in force, whose start is the moment of the change (R169); credits
are settled under the old gates. -/
def syncGates (s : State) (p : Nat) : State :=
  let t := s.accrue p
  let e := t.egr p
  let x := if e.gclOn then gclAt e.oper (t.reg Obj.GCL_OPER_BASE p) t.now else (0, t.now)
  t.turnGates p (t.gatesNow p) x.1 (x.2 - (if e.gclOn then gclInterval (e.oper.getD x.1 0) * tNs else 0))

/-- At E the pending list becomes the running list with base time E, in one cycle; GCL_SWAPPED is raised (R171). -/
def gclSwap (s : State) (p : Nat) : State :=
  let e := s.egr p
  if !e.pendOn then s
  else
    let sw := s.reg Obj.GCL_SWAP_TIME p
    let t := (s.accrue p).turnGates p (gclGates (e.pendList.headD 255)) 0 sw
    let e := t.egr p
    let t1 := t.setEgr p { e with oper := e.pendList, gclOn := true, pendOn := false, pendMissed := false, pendSlot := 512 }
    let t2 := (((((t1.setReg Obj.GCL_OPER_BASE p sw).setReg Obj.GCL_OPER_CYCLE p (gclCycle e.pendList)).setReg
      Obj.GCL_OPER_LEN p e.pendList.length).setReg Obj.GCL_SWAP_N p (e.pendN % 2 ^ 32)).setReg Obj.GCL_SWAP_TIME p 0).setReg
      Obj.GCL_STATE p 1
    (t2.syncGates p).raise 0x4001 0x40 1 p
      (e.pendN % 2 ^ 32 + (if e.pendMissed then 2 ^ 32 else 0) + 2 ^ 33 * e.pendList.length)

/-- Arm, or arm again, the swap of a port's pending list from fabric time `t` (R170, R172). The slot, kind 4, is taken by
the caller. -/
def gclArm (s : State) (p : Nat) (missed : Bool) : State :=
  let e := s.egr p
  let x := gclSwapTime e.pendBase (gclCycle e.pendList) s.now
  let t := (s.setReg Obj.GCL_SWAP_TIME p x.1).setReg Obj.GCL_STATE p 2
  let t1 := t.setEgr p { e with pendOn := true, pendN := x.2, pendMissed := missed }
  if e.pendSlot < 512 then t1.setSlot e.pendSlot { t1.slot e.pendSlot with time := x.1, first := x.1, state := 1, due := 0 } else t1

/-- A commit makes the port's administrative list pending (R170, R171): the slot of a swap already armed is used again.
`none` where no event slot is free. -/
def gclCommit (s : State) (p : Nat) : Option State :=
  let e := s.egr p
  let l := (List.range (s.reg Obj.GCL_LEN p)).map (fun k => s.reg Obj.GCL_ENTRY (128 * p + k))
  let put := fun (t : State) (k : Nat) =>
    (t.setEgr p { e with pendOn := true, pendList := l, pendBase := s.reg Obj.GCL_BASE_TIME p, pendSlot := k }).gclArm p false
  if e.pendOn then some (put s e.pendSlot)
  else match s.takeSlot 4 0 0 2 p with
    | none => none
    | some (k, t) => some (put t k)

/-- GCL_ENABLE goes to 0: every gate opens at once (R169, R170). -/
def gclOff (s : State) (p : Nat) : State :=
  let t := s.accrue p
  let e := t.egr p
  let t1 := (t.dropSlot e.pendSlot).setEgr p { e with
    gclOn := false, pendOn := false, pendSlot := 512, oper := [], gateIdx := 0 }
  (((t1.setReg Obj.GCL_STATE p 0).setReg Obj.GCL_SWAP_TIME p 0).setReg Obj.GCL_OPER_LEN p 0)

/-! ### Load-step announcement (R180, R181) -/

/-- Ports whose GCL_ENABLE is 1 and whose list runs or has a swap armed. -/
def gclPorts (s : State) : List Nat :=
  (List.range 256).filter (fun p => s.flag Obj.GCL_ENABLE p && ((s.egr p).gclOn || (s.egr p).pendOn))

/-- The first entry boundary at or after `t` of a list that runs from base time `b`, with the ISTEP of its entry. -/
def listBoundary (l : List Nat) (b t : Nat) : Nat × Nat :=
  if t ≤ b then (b, gclStep (l.headD 0))
  else
    let x := gclAt l b t
    let e := l.getD x.1 0
    if x.2 = t + gclInterval e * tNs then (t, gclStep e)
    else (x.2, gclStep (l.getD (if x.1 + 1 < l.length then x.1 + 1 else 0) 0))

/-- The first entry boundary of a port at or after `t`, under the running list and an armed swap (R180). -/
def nextBoundary (s : State) (p t : Nat) : Option (Nat × Nat) :=
  let e := s.egr p
  let sw := s.reg Obj.GCL_SWAP_TIME p
  let run := if e.gclOn then some (listBoundary e.oper (s.reg Obj.GCL_OPER_BASE p) t) else none
  let early := match run with
    | some x => x.1 < sw
    | none => false
  if e.pendOn && !early then some (listBoundary e.pendList sw t) else run

/-- Entry boundaries of a port in [`t`, `u`), at most `n`. -/
def boundaries (s : State) (p u : Nat) : Nat → Nat → List (Nat × Nat)
  | 0, _ => []
  | n + 1, t => match s.nextBoundary p t with
    | some x => if x.1 < u then x :: s.boundaries p u n (x.1 + 1) else []
    | none => []

/-- A group of R180: its first boundary, its last, and the sum of ISTEP over both and all between. -/
structure GclGroup where
  first : Nat
  last : Nat
  amps : Nat
  deriving DecidableEq, Repr

/-- The group that starts at the first boundary at or after `t`. -/
def gclGroup (s : State) (t : Nat) : Option GclGroup :=
  let ps := s.gclPorts
  let firsts := ps.filterMap (fun p => (s.nextBoundary p t).map (·.1))
  match firsts with
  | [] => none
  | f :: r =>
    let b := r.foldl min f
    let l := ps.flatMap (fun p => s.boundaries p (b + 1000 * tNs + 1) 17 b)
    some { first := b, last := l.foldl (fun a x => max a x.1) b, amps := l.foldl (fun a x => a + x.2) 0 }

/-- The first group from boundary time `t` on whose ISTEP sum exceeds the step threshold, among those that start by `u`, and the
time from which boundaries are still to be grouped; at most `n` groups, each whole, quiet ones and ones long past passed over. -/
def loudGroup (s : State) (u : Nat) : Nat → Nat → Nat × Option GclGroup
  | 0, t => (t, none)
  | n + 1, t => match s.gclGroup t with
    | none => (t, none)
    | some g =>
      let next := g.first + 1000 * tNs + 1
      if u < g.first then (t, none)
      else if s.reg Obj.PM_DIDT_STEP 0 < g.amps ∧ s.now ≤ g.last + 2000 * tNs then (next, some g)
      else s.loudGroup u n next

/-- Fabric time has been moved: boundaries are grouped afresh from now, those of groups already announced apart (R169, R180). -/
def regroup (s : State) : State :=
  { s with pm := { s.pm with grpFrom := s.pm.groups.foldl (fun a r => max a (r - 2000 * tNs + 1)) s.now } }

end State

end Sys2Proof.Machine
end

