-- ==== Sys2Proof/Machine/Fabric.lean ====
section
/-!
DEFINITION. The switching core and the shared buffer (R141 to R158): cells, descriptors, queues, the
charge of every cell, link credits, request tracking entries, and synthesized completions.
-/

namespace Sys2Proof.Machine

/-- No cell, in a link field (R141). -/
abbrev noCell : Nat := 0x7_FFFF

/-- The state word of a cell (R141). -/
def cellWord (c : Cell) : Nat :=
  c.next % 2 ^ 19 + c.refcnt % 256 * 2 ^ 19 + (if c.stomp then 2 ^ 27 else 0) + (if c.last then 2 ^ 28 else 0) +
  (if c.eccBad then 2 ^ 29 else 0) + (if c.shared then 2 ^ 30 else 0) + (if c.sys then 2 ^ 31 else 0)

/-- The descriptor word of a message in a queue, given its successor (R142). -/
def descWord (d : Desc) (next : Nat) : Nat :=
  d.first % 2 ^ 19 + d.lastCell % 2 ^ 19 * 2 ^ 19 + next % 2 ^ 19 * 2 ^ 38 + d.len % 32 * 2 ^ 57 +
  (if d.complete then 2 ^ 62 else 0) + (if d.mcast then 2 ^ 63 else 0) + (if d.msg.trk then 2 ^ 64 else 0) +
  d.msg.track % 2 ^ 17 * 2 ^ 65 + (if d.ct then 2 ^ 82 else 0) + d.msg.cls % 8 * 2 ^ 83 +
  (if d.msg.internal then 0xFF else d.msg.inPort % 256) * 2 ^ 86

/-- Index of a channel in CLASS_MAP (*CXL channels and default classes*). -/
def chanIndex : Chan → Nat
  | .ioPosted => 0 | .ioNonPosted => 1 | .ioCpl => 2 | .memReq => 3 | .memRwD => 4 | .memBiRsp => 5
  | .memNdr => 6 | .memDrs => 7 | .memBisnp => 8 | .cacheD2HReq => 9 | .cacheH2DReq => 10 | .cacheRsp => 11
  | .druReq => 1 | .druRsp => 2 | .druSnoop => 8 | .pbrReq => 1

/-- The lowest key `(n, 0)` from `i` that a rising table does not list. -/
def firstFree {α : Type} : Tbl α → Nat → Nat
  | [], i => i
  | e :: r, i => if e.1.1 = i then firstFree r (i + 1) else i

/-- The value of a blank message. -/
def msgDflt : Msg :=
  { uid := 0, kind := .request, chan := .memReq, op := .otherRead, src := 0xFFFF, dst := 0xFFFF, rq := 336,
    part := 255, hpa := 0, home := 0, pool := 0, dpa := 0, ld := 0xFFFF, win := 4096, tag := 0, bytes := 64,
    len := 1, cls := 0, inPort := 0xFF, internal := true, egress := 0, bucket := 65536, eRoute := 0,
    eBind := 0, eFl := 0, coherent := false, poison := false, stomp := false, whole := true, status := 0,
    trk := false, track := 0x1_FFFF, skipLo := 0, skipHi := 0, rcnt := 0, ans := 0, born := 0, ldid := 0xFFFF, snp := 0, targets := [], data := [] }

namespace State

/-- The class of a channel at a port (R145); on a Drudar port it is the FCLASS. -/
def classOf (s : State) (p : Nat) (ch : Chan) (fclass : Nat) : Nat :=
  if s.drudar p then fclass % 8 else elem (s.reg Obj.CLASS_MAP p) 1 (chanIndex ch) % 8

/-- The response class of a port for a kind of answer (the class of the CLASS_MAP byte). -/
def rspClass (s : State) (p byte : Nat) : Nat :=
  if s.drudar p then 6 else elem (s.reg Obj.CLASS_MAP p) 1 byte % 8

/-! ### Pools and credits (R146 to R148) -/

/-- The grant of a port and class in cells. -/
def grantOf (s : State) (p c : Nat) : Nat := elem (s.reg Obj.IN_GRANT p) 2 c

/-- Cells of a channel of a CXL-mode port (R145): its class's grant in equal parts, with the remainder to the lowest channel. -/
def chanCells (s : State) (p u : Nat) : Nat :=
  let cls := fun (v : Nat) => elem (s.reg Obj.CLASS_MAP p) 1 v % 8
  let mine := (List.range 12).filter (fun v => cls v == cls u)
  let n := s.grantOf p (cls u)
  n / mine.length + (if mine.head? = some u then n % mine.length else 0)

/-- The credits that a CXL-mode port grants on a channel (R145): a message credit a cell; for CXL.io half of the cells back header
credits and half back data credits at 16 a cell. DESIGN CHOICE: an odd cell backs a header credit. -/
def chanCredits (s : State) (p u : Nat) : Nat × Nat :=
  let n := s.chanCells p u
  if u < 3 then (n - n / 2, 16 * (n / 2)) else (n, 0)

/-- Cells reserved for one enabled port (R146). -/
def portReserve (s : State) (p : Nat) : Nat :=
  (List.range 8).foldl (fun a c => a + s.grantOf p c) 0 + (if s.drudar p then s.reg Obj.MGMT_GRANT p else 0)

/-- S, the size of the shared pool (R146). -/
def sharedSize (s : State) : Nat :=
  393216 - s.reg Obj.BUF_RSV_SYS 0 - s.enabledPorts.foldl (fun a p => a + s.portReserve p) 0

/-- Count the cells in use that `f` accepts. -/
def countCells (s : State) (f : Cell → Bool) : Nat :=
  s.fab.cells.foldl (fun a e => match e.2 with
    | some c => if f c then a + 1 else a
    | none => a) 0

/-- Cells charged to the shared pool. -/
def sharedUsed (s : State) : Nat := s.countCells (·.shared)

/-- Cells charged to the system reserve. -/
def sysUsed (s : State) : Nat := s.countCells (·.sys)

/-- Cells of output queue `q` charged to the shared pool. -/
def depthShared (s : State) (q : Nat) : Nat := s.countCells (fun c => c.shared && c.queue == q)

/-- The four conditions of R147 for a cell of (p, c) bound for queue `q`, all but `q`'s own. -/
def sharedRoom (s : State) (p c : Nat) : Bool :=
  s.sharedUsed < s.sharedSize &&
  s.countCells (fun x => x.shared && x.port == p && x.cls == c) < elem (s.reg Obj.IN_SH_MAX p) 4 c &&
  s.countCells (fun x => x.shared && x.port == p) < s.reg Obj.IN_SH_PORT_MAX p

/-- Room in the output queue (R147). -/
def queueRoom (s : State) (q : Nat) : Bool := s.depthShared q < elem (s.reg Obj.Q_MAX (q / 8)) 4 (q % 8)

/-- Hold entries of a port in use: route holds and NAK holds 0 to 255 (R212). -/
def holdUsed (s : State) (p : Nat) : Nat :=
  (s.fab.hold.row p).length +
  (s.coh.reqs.filter (fun r => r.msg.inPort == p && !r.msg.internal && r.entry < 256)).length

/-- Writeback slots of a port in use (R223). -/
def wbSlotsUsed (s : State) (p : Nat) : Nat :=
  (s.coh.reqs.filter (fun r => r.msg.inPort == p && !r.msg.internal && 256 ≤ r.entry && r.entry < 272)).length

/-- Class of a credit unit of a port. -/
def unitClass (s : State) (p u : Nat) : Nat := if 16 ≤ u then u - 16 else elem (s.reg Obj.CLASS_MAP p) 1 u

/-- A port withholds a credit of this unit: a request waits for a tracking entry (R156), or the hold buffer or the writeback slots
are full (R223). -/
def portWithheld (s : State) (p u : Nat) : Bool :=
  let mask := s.reg Obj.RTT_STOP_MASK 0
  let cls := s.unitClass p u
  let full := 256 ≤ s.holdUsed p
  (!(s.fab.rttWait.get [] (p, 0)).isEmpty && bit mask cls) ||
  (full && (if s.drudar p then bit mask cls else u == 3 || u == 0 || u == 1 || u == 9)) ||
  (16 ≤ s.wbSlotsUsed p && u == 4)

/-- A credit of this unit is withheld: by the port, or because a mode stops requests (R295, R307). -/
def withheld (s : State) (p u : Nat) : Bool :=
  (s.pm.stop && bit (s.reg Obj.RTT_STOP_MASK 0) (s.unitClass p u)) || s.portWithheld p u

/-- Return one credit to the partner of a port, unless it is withheld; on a Drudar port it joins CR_TOTAL (R102). -/
def sendCredit (s : State) (p u : Nat) : State :=
  if 16 ≤ u then
    (s.modDru p (fun d => { d with
      crTotal := setAt d.crTotal (u - 16) ((d.crTotal.getD (u - 16) 0 + 1) % 4096)
      crDirty := setAt d.crDirty (u - 16) true })).emit (.credit p u)
  else s.emit (.credit p u)

/-- Return or withhold one credit (R147, R156, R223); a port that is down has no partner to return it to. -/
def returnCredit (s : State) (p u : Nat) : State :=
  if !s.dlUp p then s
  else if s.withheld p u then
    { s with fab := { s.fab with owed := s.fab.owed.set 0 (p, u) (s.fab.owed.get 0 (p, u) + 1) } }
  else s.sendCredit p u

/-- Send the credits that are no longer withheld. -/
def settleCredits (s : State) (p : Nat) : State :=
  foldS (fun e t =>
      if t.withheld p e.1 then t
      else foldS (fun _ v => v.sendCredit p e.1) (List.range e.2)
        { t with fab := { t.fab with owed := t.fab.owed.set 0 (p, e.1) 0 } })
    (s.fab.owed.row p) s

/-! ### Cells -/

/-- The cells of a chain from `c`, at most `n`. -/
def chainCells (s : State) : Nat → Nat → List Nat
  | 0, _ => []
  | n + 1, c => match s.cell c with
    | none => []
    | some x => c :: (if x.next = noCell then [] else s.chainCells n x.next)

/-- Charge a reserve cell to the shared pool and return its credit, where R147 allows. -/
def tryShare (s : State) (i : Nat) : State :=
  match s.cell i with
  | none => s
  | some c =>
    if c.sys || c.shared || c.queue ≥ 2048 then s
    else if s.sharedRoom c.port c.cls && s.queueRoom c.queue then
      (s.setCell i (some { c with shared := true })).returnCredit c.port c.unit
    else s

/-- The oldest reserve-charged cell of queue `q`. -/
def oldestReserve (s : State) (q : Nat) : Option Nat :=
  ((s.queue (q / 8) (q % 8)).flatMap (fun d => match s.desc d with
    | some x => s.chainCells 17 x.first
    | none => [])).find? (fun i => match s.cell i with
    | some c => !c.shared && !c.sys
    | none => false)

/-- Write a new cell at the end of a chain whose last cell is `prev` (`noCell` for a first cell). -/
def newCell (s : State) (c : Cell) (prev : Nat) : Nat × State :=
  let i := firstFree s.fab.cells 0
  let t := s.setCell i (some c)
  (i, match t.cell prev with
    | some x => if prev = noCell then t else t.setCell prev (some { x with next := i })
    | none => t)

/-- The credit unit of a message at its ingress. -/
def creditUnit (s : State) (m : Msg) : Nat := if s.drudar m.inPort then 16 + m.cls else chanIndex m.chan

/-- The cell that carries one flit of message `m`. -/
def cellOf (s : State) (m : Msg) (last : Bool) (n : Nat) : Cell :=
  { next := noCell, refcnt := 1, stomp := false, last := last, eccBad := false, shared := false,
    sys := m.internal, port := m.inPort, cls := m.cls, unit := s.creditUnit m, queue := 2048,
    data := (m.data.drop (256 * n)).take 256 }

/-! ### Descriptors and queues (R142, R143, R149) -/

/-- Append a descriptor for message `m`, whose cells are `ch`, to its output queue, and mark cut-through
eligibility once (R143, R149). -/
def appendDesc (s : State) (m : Msg) (ch : Chain) : State :=
  let d := firstFree s.fab.descs 0
  let q := 8 * m.egress + m.cls
  let ct := m.len == 1 || (s.flag Obj.PORT_CT_EN m.inPort && s.flag Obj.PORT_CT_EN m.egress &&
              s.rateBits m.egress ≤ s.rateBits m.inPort)
  let x : Desc := { first := ch.first, lastCell := ch.lastCell, len := m.len, complete := ch.complete, mcast := false,
                    ct := ct, started := false, got := ch.got, sent := 0, ended := false, enq := s.clk, closed := 0, msg := m }
  let s0 := if (s.queue m.egress m.cls).isEmpty then s.accrue m.egress else s
  let t := (s0.setDesc d (some x)).setQueue m.egress m.cls (s.queue m.egress m.cls ++ [d])
  let cs := t.chainCells 17 ch.first
  let t1 := foldS (fun i v => match v.cell i with
      | some c => (v.setCell i (some { c with queue := q })).tryShare i
      | none => v) cs t
  { t1 with fab := { t1.fab with chains := t1.fab.chains.set none (m.uid, 0) none } }

/-- Write all `m.len` cells of an internally made or whole message and append it. -/
def injectMsg (s : State) (m : Msg) : State :=
  let u := s.fab.uid
  let m1 := { m with uid := u }
  let s0 := { s with fab := { s.fab with uid := u + 1 } }
  let r := (List.range m1.len).foldl (fun (a : Nat × Nat × State) n =>
      let x := a.2.2.newCell (s.cellOf m1 (n + 1 == m1.len) n) a.2.1
      (if n = 0 then x.1 else a.1, x.1, x.2)) (noCell, noCell, s0)
  r.2.2.appendDesc m1 { first := r.1, lastCell := r.2.1, got := m1.len, complete := true }

/-- Send a message of an internal requester; it waits at its source while the system reserve is full (R148). -/
def sendInternal (s : State) (m : Msg) : State :=
  if s.sysUsed + m.len ≤ s.reg Obj.BUF_RSV_SYS 0 then s.injectMsg m
  else { s with fab := { s.fab with sysWait := s.fab.sysWait ++ [m] } }

/-- Take up the messages of internal requesters that wait at their source, oldest first, while the reserve has room (R148). -/
def drainSysWait (s : State) : State :=
  foldS (fun _ (t : State) => match t.fab.sysWait with
    | [] => t
    | m :: r =>
      if t.sysUsed + m.len ≤ t.reg Obj.BUF_RSV_SYS 0 then ({ t with fab := { t.fab with sysWait := r } }).injectMsg m else t)
    s.fab.sysWait s

/-- Free one copy of a cell: REFCNT falls by one and the cell is free at 0 (R154); a reserve cell returns its
credit, a shared one makes room in its queue (R147), one of the system reserve lets an internal requester go on (R148). -/
def freeCell (s : State) (i : Nat) : State :=
  match s.cell i with
  | none => s
  | some c =>
    if 1 < c.refcnt then s.setCell i (some { c with refcnt := c.refcnt - 1 })
    else
      let t := s.setCell i none
      if c.sys then t.drainSysWait
      else if c.shared then
        match t.oldestReserve c.queue with
        | some j => if t.queueRoom c.queue then t.tryShare j else t
        | none => t
      else t.returnCredit c.port c.unit

/-- Drop the cells of a message that goes no further. -/
def dropChain (s : State) (uid : Nat) : State :=
  match s.fab.chains.get none (uid, 0) with
  | none => s
  | some ch =>
    let t := foldS (fun i v => v.freeCell i) (s.chainCells 17 ch.first) s
    { t with fab := { t.fab with chains := t.fab.chains.set none (uid, 0) none } }

/-- Mark the message in progress at (p, c) as discarded: its later cells are thrown away. -/
def discardRest (s : State) (uid : Nat) : State :=
  foldS (fun e t => match e.2 with
    | some i => if i.uid = uid then t.setInMsg e.1.1 e.1.2 (some { i with discard := true }) else t
    | none => t) s.fab.inMsgs s

/-- Release a message to the switching core: its cells join an output queue, at once or when the first is written. A message
of an internal requester takes its cells here. -/
def releaseMsg (s : State) (m : Msg) : State :=
  match s.fab.chains.get none (m.uid, 0) with
  | some ch => s.appendDesc m ch
  | none => if m.internal then s.sendInternal m else s

/-! ### Request tracking entries (R155 to R157) -/

/-- Entries held by a port; 0xFFFF the internal requesters. -/
def rttUsed (s : State) (p : Nat) : Nat :=
  s.fab.rtt.foldl (fun a e => match e.2 with
    | some x => if x.port = p then a + 1 else a
    | none => a) 0

/-- Shared entries (R155). -/
def rttShared (s : State) : Nat := 65536 - s.reg Obj.RTT_PORT_MIN 0 * s.enabledPorts.length

/-- Shared entries in use: what every port holds beyond RTT_PORT_MIN, and every entry of an internal requester. -/
def rttSharedUsed (s : State) : Nat :=
  (List.range 256).foldl (fun a p => a + (s.rttUsed p - s.reg Obj.RTT_PORT_MIN 0)) (s.rttUsed 0xFFFF)

/-- Port `p` may take an entry (R155). DESIGN CHOICE: an internal requester, 0xFFFF, takes shared entries alone. -/
def rttRoom (s : State) (p : Nat) : Bool :=
  if p = 0xFFFF then s.rttSharedUsed < s.rttShared
  else s.rttUsed p < s.reg Obj.RTT_PORT_MIN 0 || (s.rttSharedUsed < s.rttShared && s.rttUsed p < s.reg Obj.RTT_PORT_MAX 0)

/-- Whose entries a request takes and in whose list it waits: its ingress port, or 0xFFFF for an internal requester. -/
def rttPort (m : Msg) : Nat := if m.internal then 0xFFFF else m.inPort

/-- Requests that wait for an entry of port `p`, in arrival order. -/
def rttWaiters (s : State) (p : Nat) : List Msg := s.fab.rttWait.get [] (p, 0)

/-- Two messages of one source-destination pair (R120). -/
def samePair (a b : Msg) : Bool := a.src == b.src && a.dst == b.dst

/-- A request may take an entry at once: there is room, and none of its class (R156) or pair (R120) waits before it. -/
def mayTrack (s : State) (m : Msg) : Bool :=
  !((s.rttWaiters (rttPort m)).any (fun x => x.cls == m.cls || samePair x m)) && s.rttRoom (rttPort m)

/-- Request `m` waits in its ingress cell for an entry (R156). -/
def waitRtt (s : State) (m : Msg) : State :=
  { s with fab := { s.fab with rttWait := s.fab.rttWait.set [] (rttPort m, 0) (s.rttWaiters (rttPort m) ++ [m]) } }

/-- Take an entry for a request; its message names the entry from then on. RTT_EXHAUSTED is raised when that was the last shared
entry (R156). -/
def takeRtt (s : State) (m : Msg) : Msg × State :=
  let n := firstFree s.fab.rtt 0
  let m1 := { m with trk := false, track := n }
  let t := (s.setRtt n (some { port := rttPort m, egress := m.egress, at_ := s.clk, orphan := false, synth := false,
                               claimed := false, msg := m1 })).count
    { code := 0x3008, port := rttPort m, aux := 255, part := m.part, cls := m.cls, hpa := m.hpa, pool := m.home }
  (m1, if s.rttSharedUsed < s.rttShared ∧ t.rttShared ≤ t.rttSharedUsed then
      t.raiseLimited 1000000 0 0x3002 0x30 2 0xFFFF ((List.range 256).filter (fun p => !(t.rttWaiters p).isEmpty)).length
    else t)

/-! ### Open requests and epochs (R131 to R133, R264) -/

/-- Every request open in the GT9 with the record of stage 2: tracking entries, trackers of requests, requests waiting for
Cairn, an entry, a tag or a hold, and posted messages whose cells are held. -/
def openMsgs (s : State) : List Msg :=
  s.fab.rtt.filterMap (fun e => e.2.map (·.msg)) ++
  s.coh.trk.filterMap (fun e => e.2.bind (fun t => if t.ty = 0 then none else some t.msg)) ++
  s.coh.reqs.map (·.msg) ++
  s.fab.hold.filterMap (fun e => e.2.map (·.msg)) ++
  s.fab.rttWait.flatMap (·.2) ++
  (s.fab.tagWait.map (·.msg)).filter (fun m => m.kind == .posted || m.coherent) ++
  ((s.fab.descs.filterMap (fun e => e.2.map (·.msg))) ++ s.fab.sysWait).filter (fun m => m.kind == .posted)

/-- Requests open under an epoch of ROUTE other than the active one: ROUTE_DRAIN (R133). -/
def routeDrain (s : State) : Nat := (s.openMsgs.filter (fun m => m.eRoute != s.reg Obj.ROUTE_EPOCH 0)).length

/-- BIND_DRAIN (R133). -/
def bindDrain (s : State) : Nat := (s.openMsgs.filter (fun m => m.eBind != s.reg Obj.BIND_EPOCH 0)).length

/-- FL_DRAIN (R264). -/
def flDrain (s : State) : Nat := (s.openMsgs.filter (fun m => m.eFl != s.reg Obj.FL_EPOCH 0)).length

/-- Messages routed to a moved destination or bucket before the move are still in the switch (R132); one in the hold buffer
is routed only when it is released. -/
def movedBusy (s : State) (k : Key) (before : Nat) : Bool :=
  let old := fun (m : Msg) => m.uid < before && (if k.1 = 0 then m.dst == k.2 else m.bucket == k.2)
  s.coh.trk.any (fun e => match e.2 with
    | some x => old x.msg && (s.fab.chains.get none (x.msg.uid, 0)).isSome
    | none => false) ||
  s.coh.reqs.any (fun r => old r.msg) || s.fab.tagWait.any (fun w => old w.msg) ||
  s.fab.rttWait.any (fun e => e.2.any (fun m => old m && m.ans == 0)) || s.fab.sysWait.any old ||
  s.fab.descs.any (fun e => match e.2 with
    | some x => old x.msg && (x.msg.kind == .request || x.msg.kind == .posted)
    | none => false)

/-- Note, for each moved destination, the moment at which the last old message had left (R132). -/
def noteMoved (s : State) : State :=
  foldS (fun e t => match e.2 with
    | some x =>
      if x.drained = 0 ∧ t.movedBusy e.1 x.before = false then
        { t with fab := { t.fab with moved := t.fab.moved.set none e.1 (some { x with drained := t.clk + 1 }) } }
      else t
    | none => t) s.fab.moved s

/-- Free a tracking entry. -/
def freeRtt (s : State) (n : Nat) : State := (s.setRtt n none).noteMoved

/-- CXL.mem and Drudar writes among the operations. -/
def isWrite (op : MemOp) : Bool :=
  match op with
  | .memWrPtl => true | .memWrI => true | .memWrS => true | .memWrA => true | .otherWrite => true
  | .ioWrite => true
  | .dru c => c == 5 || c == 6 || c == 7 || c == 8
  | _ => false

/-- The form of a request's synthesized or silent completion by its cause (R115, R129, R158, R261). DESIGN CHOICE: on a Drudar port a
decode miss (6) is answered with status 0 and an unsupported request (7) with status 2; a clean eviction is answered as a write. -/
def answerForm (dru : Bool) (cause : Nat) (m : Msg) : Answer :=
  let wr := isWrite m.op || m.op == .clnEvct
  if dru then .dru (if 1 ≤ cause ∧ cause ≤ 4 then cause + 1 else if cause = 7 then 2 else 0) (!wr)
  else match m.chan with
  | .cacheD2HReq => .goErr
  | .ioNonPosted => if cause = 1 ∨ cause = 6 ∨ cause = 7 then .ioUR else if cause = 5 then .ioData else .ioCA
  | _ => if wr then .cmp else if cause = 5 then (if m.op = .memInvA then .cmpE else .memData false) else .memData true

/-! ### Accesses of internal requesters (R148, R237) -/

/-- A live move fails with a cause: its handle FAILED, MOVE_FAILED raised, the undo begins (R244). `addr` is the pool
address of the failing access. -/
def moveFail (s : State) (c cause addr : Nat) : State :=
  let h := s.reg Obj.MOVE_HANDLE c
  let s1 := (s.setReg Obj.MOVE_PHASE c 7).setMover c { s.mover c with running := false }
  (s1.endLop h .failed Ab.OP_FAILED).raise 0xD002 0xD0 3 c (h + cause * 65536 + addr % 2 ^ 49 * 2 ^ 20)

/-- A non-coherent request of a mover channel takes a tracking entry, or waits for one, and its system cells (R12, R148). -/
def innerSend (s : State) (m : Msg) : State :=
  if (s.rttWaiters 0xFFFF).isEmpty && s.rttRoom 0xFFFF then
    let r := s.takeRtt m
    r.2.releaseMsg r.1
  else s.waitRtt m

/-- The write of a copied line to its destination, if a live port leads there (R237). -/
def moverWrite (s : State) (m : Msg) (poison : Bool) (data : List Byte) : Option Msg :=
  let r := s.reg Obj.MOVE_RDR (m.rq - 320)
  let dest := m.home - s.reg Obj.RDR_SRC r + s.reg Obj.RDR_DST r
  (s.ldAt dest).bind (fun ld => (s.ldEgress m.src ld).bind (fun p =>
    if s.dlUp p then some { m with
      uid := s.fab.uid, kind := .request, chan := .memRwD, op := .otherWrite, home := dest, pool := dest, ld := ld
      dpa := dest - s.reg Obj.LD_POOL_BASE ld, dst := s.reg Obj.LD_FID ld, egress := p, coherent := false
      poison := poison, trk := false, track := 0x1_FFFF, data := data }
    else none))

/-- An access of a mover channel has come back (R237, R244): a line read goes on to the destination, poisoned if it was; a write that
failed fails the move. Lines of a move that has ended are dropped. -/
def moverBack (s : State) (m : Msg) (error poison : Bool) (data : List Byte) : State :=
  let c := m.rq - 320
  let x := s.mover c
  let live := 1 ≤ s.reg Obj.MOVE_PHASE c ∧ s.reg Obj.MOVE_PHASE c ≤ 4
  if m.uid < x.first then s
  else if isWrite m.op then
    let t := s.setMover c { x with inflight := x.inflight - 1 }
    if error = true ∧ live then t.moveFail c 6 m.pool else t
  else if ¬ live then s.setMover c { x with inflight := x.inflight - 1 }
  else match s.moverWrite m (poison || error) data with
    | some w => ({ s with fab := { s.fab with uid := s.fab.uid + 1 } }).innerSend w
    | none => (s.setMover c { x with inflight := x.inflight - 1 }).moveFail c 6
        (m.home - s.reg Obj.RDR_SRC (s.reg Obj.MOVE_RDR c) + s.reg Obj.RDR_DST (s.reg Obj.MOVE_RDR c))

/-- The access of an internal requester is answered: a mover channel goes on by it, and the debug master's access holds what came back.
`cause` 0 is a completion, 5 Flint's silent one, and any other a synthesized one (R262, R348). -/
def innerBack (s : State) (cause : Nat) (error poison : Bool) (m : Msg) (data : List Byte) : State :=
  if 320 ≤ m.rq ∧ m.rq < 336 then s.moverBack m error poison data
  else match s.sec.dm with
    | some a =>
      if a.uid = m.uid then
        { s with sec := { s.sec with dm := some { a with got := some (if cause = 0 then (poison, data) else (cause != 5, [])) } } }
      else s
    | none => s

/-! ### Synthesized completions (R158, R261) -/

/-- The response class in which the completion of a request leaves its requester's port. An UPG that Flint refuses, cause 5, is
answered Cmp-E, an NDR (R261). -/
def synthClass (s : State) (cause : Nat) (m : Msg) : Nat :=
  s.rspClass m.inPort (match m.chan with
    | .ioNonPosted => 2
    | .cacheD2HReq => 11
    | _ => if isWrite m.op || m.op == .clnEvct || (cause == 5 && m.op == .memInvA) then 6 else 7)

/-- Put a request's completion on the synthesized list of its requester's port. Causes 1 to 4 are those of R158
and are counted in SYNTH_CNT; a CXL.mem write also logs an internal error (R158). A posted request receives none. -/
def addSynth (s : State) (cause : Nat) (m : Msg) : State :=
  if m.kind != .request || m.inPort == 256 then s
  else if m.internal then s.innerBack cause (isWrite m.op) true m []
  else
    let m1 := { m with cls := s.synthClass cause m }
    let x : Synth := { cause := cause, trk := m.trk, track := m.track, msg := m1, at_ := s.clk }
    let t := (s.accrue m.inPort).setSynth m.inPort (s.synth m.inPort ++ [x])
    if cause ≤ 4 then
      let t1 := t.bump Obj.SYNTH_CNT m.inPort
      if isWrite m.op && m.chan == .memRwD && m.part < 64 then
        let last := t1.dict.limited.get 0 (0, m.part)
        if last = 0 ∨ t1.after (last - 1) 1000000 = true then
          ({ t1 with dict := { t1.dict with limited := t1.dict.limited.set 0 (0, m.part) (t1.clk + 1) } }).emit
            (.internalError m.part)
        else t1
      else t1
    else t

/-- Settle a tracking entry with a synthesized completion, if nothing has claimed it (R157). -/
def synthRtt (s : State) (n cause : Nat) : State :=
  match s.rtt n with
  | none => s
  | some x =>
    if x.claimed || x.synth then s
    else if x.orphan then s.freeRtt n
    else if x.msg.internal then (s.freeRtt n).addSynth cause x.msg
    else (s.setRtt n (some { x with synth := true })).addSynth cause x.msg

end State

end Sys2Proof.Machine
end

