-- ==== Sys2Proof/Machine/Frames.lean ====
section
/-!
DEFINITION. Drudar frames (R95, R98 to R102, R107): their bytes and check sequences, what sending and receiving one does to a
link's sequence numbers, replay buffer, acknowledgements and credits, their encryption, and the codewords that carry them.
-/

namespace Sys2Proof.Machine

/-- One byte into a reflected CRC-32 (R98). -/
def crc32Step (crc : Nat) (b : Byte) : Nat :=
  (List.range 8).foldl (fun c _ => if c % 2 = 1 then (c / 2) ^^^ 0xEDB88320 else c / 2) (crc ^^^ b.toNat)

/-- The CRC-32 of IEEE 802.3. -/
def crc32 (l : List Byte) : Nat := (l.foldl crc32Step 0xFFFF_FFFF) ^^^ 0xFFFF_FFFF

/-- A CRC of `w` bits over the low `n` bits of `v`, most significant bit first, no reflection and no final inversion. -/
def crcBits (w poly : Nat) : Nat → Nat → Nat → Nat
  | 0, _, crc => crc
  | n + 1, v, crc =>
    let top := bit crc (w - 1) != bit v n
    let sh := crc * 2 % 2 ^ w
    crcBits w poly n v (if top then sh ^^^ poly else sh)

/-- The CRC of a training word: CRC-16, polynomial 0x8005, initial 0xFFFF, over [111:0]. -/
def trainCrc (w : Nat) : Nat := crcBits 16 0x8005 112 w 0xFFFF

/-- The CRC of an alignment marker: CRC-8, polynomial 0x07, over [111:0]. -/
def markerCrc (w : Nat) : Nat := crcBits 8 0x07 112 w 0

/-- Bytes 256 to 267 of a frame. -/
def trailer (f : Frame) : List Byte :=
  toBytes 1 (f.ftype % 16 + (if f.stomp then 16 else 0) + f.keySlot % 2 * 32 + (if f.ackValid then 64 else 0)) ++
  toBytes 2 (f.seq % 4096) ++ toBytes 2 (f.ack % 4096) ++ toBytes 2 (f.crClass % 16 + f.crTotal % 4096 * 16) ++
  toBytes 2 f.len ++ toBytes 3 (f.fclass % 16)

/-- The body of a frame: 256 bytes, filled with zeros. -/
def frameBody (b : List Byte) : List Byte := (b ++ List.replicate 256 0).take 256

/-- The 2 176 bits of a frame in the order in which they are sent, first bit least significant (R6, R95). -/
def frameBits (f : Frame) : Nat := ofBytes (frameBody f.body ++ trailer f ++ toBytes 4 f.crc)

/-- The CRC of a frame over bytes 0 to 267. -/
def frameCrc (f : Frame) : Nat := crc32 (frameBody f.body ++ trailer f)

/-- A frame that the receiver does not discard at once: its CRC holds and its FTYPE is not reserved (R98). -/
def frameGood (f : Frame) : Bool := f.crc == frameCrc f && f.ftype < 6

/-- DATA, MGMT and MAC frames are sequenced. -/
def sequenced (ftype : Nat) : Bool := ftype == 1 || ftype == 2 || ftype == 5

/-- The credit class of a frame; 9 none. -/
def creditClass (ftype fclass : Nat) : Nat := if ftype = 1 then fclass % 8 else if ftype = 2 then 8 else 9

namespace State

/-- A port in Drudar mode and UP, so that frames flow. -/
def druUp (s : State) (p : Nat) : Bool := s.drudar p && s.sending p

/-- Frames that the replay buffer of a port holds: 32 per formed lane (R99). -/
def replaySize (s : State) (p : Nat) : Nat := 32 * s.formedWidth p

/-- Drudar IDE runs at a port: its mode is on, and an SPDM session has set keys (R107). -/
def druIde (s : State) (p : Nat) : Bool := s.reg Obj.DRU_IDE_MODE p != 0 && ((s.ide p).key0 || (s.ide p).key1)

/-- The class to report next: a changed one from the pointer on, or the pointer's own. -/
def reportClass (d : Dru) : Nat :=
  match (List.range 9).find? (fun i => d.crDirty.getD ((d.crPtr + i) % 9) false) with
  | some i => (d.crPtr + i) % 9
  | none => d.crPtr % 9

/-- A frame with the acknowledgement and the credit report that it carries, and its CRC (R98, R100, R102). -/
def fillFrame (s : State) (p : Nat) (f : Frame) : Frame :=
  let d := s.dru p
  let c := reportClass d
  let g := { f with ackValid := d.rxAny, ack := (d.rxExp + 4095) % 4096, crClass := c, crTotal := d.crTotal.getD c 0 }
  { g with crc := frameCrc g }

/-- Send a frame (R100, R102): it joins the frame stream that the codewords carry (R95), and counts among the frames sent since
the last MGMT frame (R166). -/
def putFrame (s : State) (p : Nat) (f : Frame) : State :=
  let d := s.dru p
  let c := reportClass d
  let g := s.fillFrame p f
  let e := s.egr p
  let t := s.setDru p { d with
    crDirty := setAt d.crDirty c false, crPtr := (c + 1) % 9
    lineBits := d.lineBits + frameBits g * 2 ^ d.lineLen, lineLen := d.lineLen + 2176 }
  (t.setEgr p { e with sinceMgmt := if f.ftype = 2 then 0 else min 7 (e.sinceMgmt + 1) }).emit (.frame p g)

/-- An unsequenced frame takes one frame time of the transmitter (R166). -/
def frameTime (s : State) (p : Nat) : State :=
  let e := s.egr p
  s.setEgr p { e with nextAt := max e.nextAt s.clk + s.cellTime p 1 }

/-- An unsequenced frame of a type. -/
def plainFrame (ftype : Nat) (body : List Byte) : Frame :=
  { body := frameBody body, ftype := ftype, stomp := false, keySlot := 0, ackValid := false, seq := 0, ack := 0,
    crClass := 0, crTotal := 0, len := 0, fclass := 0, crc := 0 }

/-- Send a control frame: CTYPE, a zero byte, and the body from byte 2. -/
def sendCtrl (s : State) (p ctype : Nat) (rest : List Byte) : State :=
  (s.putFrame p (plainFrame 4 (toBytes 2 ctype ++ rest))).frameTime p

/-- A MAC frame is due before anything else: eight frames wait for it, or the last came 100 ns ago (R107). -/
def macDue (s : State) (p : Nat) : Bool :=
  let d := s.dru p
  s.druIde p && (8 ≤ d.macCov.length || (!d.macCov.isEmpty && s.after d.macAt 100))

/-- A new sequenced frame may be sent: room in the replay buffer, nothing to resend, no re-stripe in progress, a credit of its class,
and no MAC frame due first (R99, R102, R104, R107). -/
def maySend (s : State) (p ftype fclass : Nat) : Bool :=
  let d := s.dru p
  d.replay.length < s.replaySize p && d.resend == 0 && !d.restripeTx &&
  (creditClass ftype fclass == 9 || 0 < d.txCr.getD (creditClass ftype fclass) 0) &&
  (ftype == 5 || !(s.macDue p))

/-- The 96-bit initialisation vector of a key: its salt, then the count of frames under it (R107). -/
def ideIv (k : KeyCtx) : Nat := k.salt % 2 ^ 32 * 2 ^ 64 + k.count % 2 ^ 64

/-- The transmit and receive keys of a slot. -/
def txKey (s : State) (p k : Nat) : KeyCtx := (s.ide p).tx.getD (k % 2) keyDflt
def rxKey (s : State) (p k : Nat) : KeyCtx := (s.ide p).rx.getD (k % 2) keyDflt

/-- A frame more has been sent under a transmit key, or accepted under a receive key. -/
def countTx (s : State) (p k : Nat) : State :=
  let x := s.ide p
  s.setIde p { x with tx := setAt x.tx (k % 2) { s.txKey p k with count := (s.txKey p k).count + 1 } }
def countRx (s : State) (p k : Nat) : State :=
  let x := s.ide p
  s.setIde p { x with rx := setAt x.rx (k % 2) { s.rxKey p k with count := (s.rxKey p k).count + 1 } }

/-- The body of an arriving DATA or MGMT frame, decrypted where Drudar IDE runs (R107). -/
def openBody (s : State) (p : Nat) (f : Frame) : Frame :=
  if s.druIde p then { f with body := gcmText (s.rxKey p f.keySlot).key (ideIv (s.rxKey p f.keySlot)) (frameBody f.body) } else f

/-- The tag of a MAC frame over the frames since the last one: GCM under the key in use, with their trailers as associated data and
their encrypted bodies as text. DESIGN CHOICE: the vector is that of the MAC frame's own count. -/
def macTag (s : State) (p : Nat) : List Byte :=
  let d := s.dru p
  let k := s.txKey p d.ideSlot
  gcmTag k.key (ideIv k) (d.macCov.flatMap trailer) (d.macCov.flatMap (fun f => frameBody f.body))

/-- Send a new sequenced frame: it takes the next SEQ and a credit, and the replay buffer holds it (R99, R102); under
IDE its body is encrypted, and it joins the frames that the next MAC covers (R107). -/
def sendSeq (s : State) (p ftype : Nat) (body : List Byte) (fclass len : Nat) (stomp : Bool) : State :=
  let d := s.dru p
  let k := creditClass ftype fclass
  let ide := s.druIde p
  let key := s.txKey p d.ideSlot
  let b := if ide && ftype != 5 then gcmText key.key (ideIv key) (frameBody body) else body
  let f : Frame := { plainFrame ftype b with stomp := stomp, keySlot := d.ideSlot, seq := d.txSeq, fclass := fclass, len := len }
  let t := s.setDru p { d with
    txSeq := (d.txSeq + 1) % 4096
    replay := d.replay ++ [{ frame := f, count := key.count }]
    ackAt := if d.replay.isEmpty then s.clk else d.ackAt
    txCr := if k < 9 then setAt d.txCr k (d.txCr.getD k 0 - 1) else d.txCr
    macCov := if ide && ftype != 5 then d.macCov ++ [s.fillFrame p f] else []
    macAt := s.clk }
  (if ide then t.countTx p d.ideSlot else t).putFrame p f

/-- Send the next frame of a replay again; it keeps its SEQ and takes no credit (R100). -/
def resendNext (s : State) (p : Nat) : State :=
  let d := s.dru p
  match d.replay[d.replay.length - d.resend]? with
  | some f => (s.setDru p { d with resend := d.resend - 1 }).putFrame p f.frame
  | none => s.setDru p { d with resend := 0 }

/-- Frames of the replay buffer up to an acknowledged SEQ leave it; `none` when it names none of them (R100). -/
def ackFrames (l : List TxFrame) (ack : Nat) : Option (List TxFrame) :=
  match l.findIdx? (fun f => f.frame.seq == ack % 4096) with
  | some i => some (l.drop (i + 1))
  | none => none

/-- Take the acknowledgement and the credit report of a frame (R100, R102). -/
def takeReports (s : State) (p : Nat) (f : Frame) : State :=
  let d := s.dru p
  let d1 := if !f.ackValid then d
    else match ackFrames d.replay f.ack with
      | some l => { d with replay := l, resend := min d.resend l.length, ackAt := s.clk, sameSeq := 0, lastFrom := 0 }
      | none => d
  let c := f.crClass
  let d2 := if c < 9 then
      { d1 with
        txCr := setAt d1.txCr c (d1.txCr.getD c 0 + (f.crTotal + 4096 - d1.crSeen.getD c 0) % 4096)
        crSeen := setAt d1.crSeen c (f.crTotal % 4096) }
    else d1
  s.setDru p d2

/-- Discard a sequenced frame: one NAK per discard run (R99). -/
def discardFrame (s : State) (p : Nat) : State :=
  let d := s.dru p
  if d.nakSent then s
  else (s.setDru p { d with nakSent := true }).sendCtrl p 2 (toBytes 2 d.rxExp)

/-- Receive a sequenced frame: whether it is accepted, and the state after (R98, R99). -/
def receiveSeq (s : State) (p : Nat) (f : Frame) : Bool × State :=
  if !frameGood f then (false, (s.bump Obj.DRU_CRC_ERR p).discardFrame p)
  else if f.seq != (s.dru p).rxExp then (false, s.discardFrame p)
  else
    let d := s.dru p
    let t := (s.setDru p { d with rxExp := (d.rxExp + 1) % 4096, rxAny := true, nakSent := false }).takeReports p f
    (true, if s.druIde p then t.countRx p f.keySlot else t)

/-- The SEQ of the oldest held frame, or of the next new one. -/
def oldestSeq (d : Dru) : Nat := match d.replay with
  | f :: _ => f.frame.seq
  | [] => d.txSeq

/-- Frames held from `eseq` on, to be sent again. -/
def replayFrom (d : Dru) (eseq : Nat) : Nat :=
  match d.replay.findIdx? (fun f => f.frame.seq == eseq % 4096) with
  | some i => d.replay.length - i
  | none => 0

/-- Start a replay from `eseq`: frames before it are acknowledged by it, the rest are sent again in order; repeats from one
SEQ without progress are counted (R100, R101). DESIGN CHOICE: a replay starts the interval of DRU_REPLAY_TIMEOUT anew. -/
def startReplay (s : State) (p eseq : Nat) : State :=
  let d := s.dru p
  let n := replayFrom d eseq
  let same := if d.lastFrom = eseq % 4096 + 1 then d.sameSeq + 1 else 1
  ((s.setDru p { d with resend := n, sameSeq := same, lastFrom := eseq % 4096 + 1, ackAt := s.clk }).bump Obj.DRU_REPLAY_CNT p).count
    { code := 0x2002, port := p, aux := 255, part := 255, cls := 255, hpa := 2 ^ 64 - 1, pool := 2 ^ 64 - 1 }

/-! ### Codewords (R95) -/

/-- The transmit stripe of a port: its physical lanes, in ascending port-lane order. -/
def txLanes (s : State) (p : Nat) : List Nat := (bitsOf 16 (s.reg Obj.DRU_TX_MASK p)).map (s.firstLane p + ·)

/-- Deal symbols to the lanes of a stripe in turn, the first to the lane of position `pos`. -/
def deal (lanes : List Nat) (pos : Nat) (syms : List Nat) : List (Nat × Nat) :=
  syms.zipIdx.map (fun x => (lanes.getD ((pos + x.2) % lanes.length) 0, x.1))

/-- Encode and deal one codeword of the frame stream, once 5 140 bits of it wait and no marker group is due. -/
def sendCodeword (s : State) (p : Nat) : State :=
  let d := s.dru p
  if d.lineLen < 5140 ∨ 4096 ≤ d.cwCount ∨ d.restripeTx = true then s
  else
    (s.setDru p { d with
      cwCount := d.cwCount + 1, symPos := d.symPos + 544, lineBits := d.lineBits / 2 ^ 5140, lineLen := d.lineLen - 5140 }).emit
      (.codeword p (deal (s.txLanes p) d.symPos (rsCodeword (d.lineBits % 2 ^ 5140))))

/-- Send every codeword that the frame stream fills. -/
def sendCodewords (s : State) (p : Nat) : State :=
  foldS (fun _ (t : State) => t.sendCodeword p) (List.range ((s.dru p).lineLen / 5140)) s

/-- The codeword in progress at a re-stripe is finished with fill; the stream starts again at a frame boundary (R104). -/
def finishCodeword (s : State) (p : Nat) : State :=
  let t := s.sendCodewords p
  let d := t.dru p
  if d.lineLen = 0 then t
  else
    (t.setDru p { d with cwCount := d.cwCount + 1, symPos := d.symPos + 544, lineBits := 0, lineLen := 0 }).emit
      (.codeword p (deal (t.txLanes p) d.symPos (rsCodeword (d.lineBits % 2 ^ 5140))))

/-- Count the symbols that the receiver corrected, by their places since the last marker group, each against the lane that
carried it (R83, R95), and all as events of the port (*Event catalogue*). -/
def noteCorrected (s : State) (p : Nat) (l : List Nat) : State :=
  let lanes := (bitsOf 16 (s.reg Obj.DRU_RX_MASK p)).map (s.firstLane p + ·)
  foldS (fun pos (t : State) =>
    let n := lanes.getD (pos % lanes.length) 0
    let u := t.count { code := 0x2001, port := p, aux := 255, part := 255, cls := 255, hpa := 2 ^ 64 - 1, pool := 2 ^ 64 - 1 }
    if lanes.isEmpty = true ∨ t.reg Obj.LANE_PRBS_MODE n ≠ 0 then u
    else u.modLane n (fun x => { x with errs := min (x.errs + 1) (2 ^ 48 - 1) })) l s

/-! ### Flits of accepted DATA frames (R100, R108) -/

/-- Hand the flit of an accepted DATA frame to the ingress, behind those before it. -/
def handFlit (s : State) (p : Nat) (f : Frame) : State := s.modDru p (fun d => { d with flits := d.flits ++ [f] })

/-- The flit that the ingress takes next on a Drudar port: its class and whether it is stomped; `none` where none has been accepted. -/
def nextFlit (s : State) (p : Nat) : Option Frame := (s.dru p).flits.head?

/-- The ingress takes the flit of the oldest accepted DATA frame. On a CXL-mode port flits come with their commands. -/
def takeFlit (s : State) (p : Nat) : State :=
  if s.drudar p then s.modDru p (fun d => { d with flits := d.flits.drop 1 }) else s

/-- A flit of class `cls` is there to be taken: on a Drudar port, the oldest accepted DATA frame is of that class (R100, R149). -/
def flitHere (s : State) (p cls : Nat) : Bool :=
  !(s.drudar p) || (match s.nextFlit p with
    | some f => f.fclass % 8 == cls % 8
    | none => false)

/-- A message of one flit that the GT9 itself consumes arrives at port `p`: whether it is stomped, and the state with its credit
returned (R147); `none` where none is there. -/
def consumeFlit (s : State) (p : Nat) (ch : Chan) : Option (Bool × State) :=
  if !s.dlUp p then none
  else if s.drudar p then match s.nextFlit p with
    | some f => some (f.stomp, (s.takeFlit p).returnCredit p (16 + f.fclass % 8))
    | none => none
  else some (false, s.returnCredit p (chanIndex ch))

end State

end Sys2Proof.Machine
end

