-- ==== Sys2Proof/Machine/Directory.lean ====
section
/-!
DEFINITION. The operations of Cairn (R185 to R231): lookups in a slice's sets and cache, NAKs and
reservations, allocation and eviction, trackers and their progress, snoops, lost and dead agents, the
walker's visit of a set.

The commands of the coherence family are in Coherence.lean.
-/

namespace Sys2Proof.Machine

/-- What an allocation finds: a way, a NAK cause, with the way possibly holding a victim (R219). -/
inductive Room where
  | way (w : Nat)
  | victim (w : Nat)
  | nak (cause : Nat)
  deriving DecidableEq, Repr

namespace State

/-! ### Lookup (R189 to R193) -/

/-- The way that holds a line: TAG equal and STATE not 0 (R189). -/
def findWay (s : State) (c set tag : Nat) : Option Nat :=
  (List.range 16).find? (fun w => (s.dirEntry c set w).tag == tag && (s.dirEntry c set w).state != 0)

/-- The set holds a way taken out of use (R193). -/
def lostWay (s : State) (c set : Nat) : Bool :=
  (List.range 16).any (fun w => (s.dirEntry c set w).state == 3 && (s.dirEntry c set w).pcause == 2)

/-- A frame is pinned while any entry of its set has BUSY or RSV (R191). -/
def setPinned (s : State) (c set : Nat) : Bool :=
  (List.range 16).any (fun w => (s.dirEntry c set w).busy || (s.dirEntry c set w).rsv)

def frame (s : State) (c set f : Nat) : Option DirFrame := s.coh.frames.get none (c * 2048 + set % 2048, f)

/-- The frame that caches a set. -/
def findFrame (s : State) (c set : Nat) : Option Nat :=
  (List.range 8).find? (fun f => match s.frame c set f with
    | some x => x.set == set
    | none => false)

/-- The frame that a miss fills: a free one, else the least recently used that is not pinned (R191). DEDUCED: nor is a frame replaced
while its own set is being read. -/
def victimFrame (s : State) (c set : Nat) : Option Nat :=
  match (List.range 8).find? (fun f => (s.frame c set f).isNone) with
  | some f => some f
  | none =>
    (List.range 8).foldl (fun best f => match s.frame c set f with
      | none => best
      | some x =>
        if s.setPinned c x.set || s.coh.reads.contains (c, x.set) then best
        else match best with
          | none => some f
          | some b => match s.frame c set b with
            | some y => if x.used < y.used then some f else some b
            | none => some f) none

/-- Install or touch the frame of a set. -/
def touchFrame (s : State) (c set f : Nat) (dirty : Bool) : State :=
  let d := match s.frame c set f with
    | some x => if x.set = set then x.dirty || dirty else dirty
    | none => dirty
  { s with coh := { s.coh with
      frames := s.coh.frames.set none (c * 2048 + set % 2048, f) (some { set := set, used := s.coh.uses, dirty := d })
      uses := s.coh.uses + 1 } }

/-- Write an entry; its frame is then modified. -/
def writeDir (s : State) (c set w : Nat) (e : DirEntry) : State :=
  let t := s.setDir c set w e
  match t.findFrame c set with
  | some f => t.touchFrame c set f true
  | none => t

/-- Valid ways: DIR_VALID. -/
def dirValid (s : State) : Nat := (s.coh.dir.filter (fun e => e.2.state != 0)).length

/-- An open tracker on a line (R199). -/
def lineTracker (s : State) (c line : Nat) : Option Nat :=
  match s.coh.trk.find? (fun e => e.1.1 == c && (match e.2 with
      | some t => t.line == line
      | none => false)) with
  | some e => some e.1.2
  | none => none

/-- The eviction entry that holds a line (R221). -/
def lineEvict (s : State) (c line : Nat) : Option Nat :=
  match s.coh.evict.find? (fun e => e.1.1 == c && (match e.2 with
      | some t => t.line == line
      | none => false)) with
  | some e => some e.1.2
  | none => none

/-- The reservation register of a line (R216). -/
def lineRsv (s : State) (c line : Nat) : Option Nat :=
  match s.coh.rsv.find? (fun e => e.1.1 == c && (match e.2 with
      | some t => t.line == line
      | none => false)) with
  | some e => some e.1.2
  | none => none

/-- Trackers in use in a slice: TRK_USED. -/
def trkUsed (s : State) (c : Nat) : Nat := (s.coh.trk.row c).length

/-- Eviction entries in use: EVICT_USED. -/
def evictUsed (s : State) (c : Nat) : Nat := (s.coh.evict.row c).length

/-- A free tracker: a general one, or for a writeback one of the TRK_WB_RSV kept ones (R222). -/
def freeTracker (s : State) (c : Nat) (wb : Bool) : Option Nat :=
  let g := 2048 - s.reg Obj.TRK_WB_RSV 0
  let row := s.coh.trk.row c
  let used := fun n => row.any (fun e => e.1 == n)
  match firstFrom (fun n => !(used n)) g 0 with
  | some n => some n
  | none => if wb then firstFrom (fun n => !(used n)) (2048 - g) g else none

/-! ### Agents (R185, R227, R228) -/

/-- Agents that Cairn does not snoop: LOST, DEAD_PURGING and DEAD (R221, R228). -/
def agentOut (s : State) (a : Nat) : Bool := s.reg Obj.AGT_STATE a != 0

/-- The agent is DEAD or DEAD_PURGING (R228). -/
def agentDead (s : State) (a : Nat) : Bool := a < 64 && 2 ≤ s.reg Obj.AGT_STATE a

/-- A vector without LOST and DEAD agents (R229). -/
def liveVec (s : State) (v : Nat) : Nat := bitSet ((bitsOf 64 v).filter (fun a => !(s.agentOut a)))

/-! ### Room in a set (R219, R220) -/

/-- The victim way of R220, if any way is eligible. -/
def victimWay (s : State) (c set : Nat) : Option Nat :=
  (List.range 16).foldl (fun best w =>
    let e := s.dirEntry c set w
    if (e.state = 1 ∨ e.state = 2) ∧ e.busy = false ∧ e.rsv = false then
      match best with
      | none => some w
      | some b => if (s.dirEntry c set b).rank < e.rank then some w else some b
    else best) none

/-- Where a request that allocates puts its line (R219, R220). -/
def room (s : State) (c set rsv : Nat) : Room :=
  match (match s.rsvReg c rsv with
    | some r => if r.way < 16 then some r.way else none
    | none => none) with
  | some w => .way w
  | none =>
    match (List.range 16).find? (fun w => (s.dirEntry c set w).state == 0 && !(s.dirEntry c set w).rsv) with
    | some w => .way w
    | none => match s.victimWay c set with
      | some w => if (s.coh.evict.row c).length < 64 then .victim w else .nak 6
      | none => .nak 4

/-! ### Reservations that are ready (R218) -/

/-- The holder of reservation `n` is ready: its line is neither BUSY nor in an eviction entry, and where it needs a way one is at hand.
DEDUCED: it needs none promised while the set has room for it, or when its request allocates none. -/
def rsvReady (s : State) (c n : Nat) : Bool :=
  match s.rsvReg c n with
  | none => false
  | some x =>
    let pl := place (s.reg Obj.CAIRN_SLICES 0) x.line
    (s.lineTracker c x.line).isNone && (s.lineEvict c x.line).isNone &&
    (x.way < 16 || (s.findWay c pl.2.1 pl.2.2).isSome || s.room c pl.2.1 n != .nak 4 ||
      s.coh.reqs.any (fun r => r.slice == c && r.rsv == n && (r.ty == 4 || r.ty == 5)))

/-- Note when each reservation of a slice has become ready, or that it is ready no longer. -/
def noteRsv (s : State) (c : Nat) : State :=
  foldS (fun e (t : State) => match e.2 with
    | some x =>
      let on := t.rsvReady c e.1
      if on && x.readyAt == 0 then t.setRsv c e.1 (some { x with readyAt := t.clk + 1 })
      else if !on && x.readyAt != 0 then t.setRsv c e.1 (some { x with readyAt := 0 }) else t
    | none => t) (s.coh.rsv.row c) s

/-! ### Waiters (R210, R211) -/

/-- Requests of slice `c` that wait for event `w` become ready (R211); `w` 4094 is any tracker or eviction entry. -/
def wake (s : State) (c w : Nat) : State :=
  ({ s with coh := { s.coh with reqs := s.coh.reqs.map (fun (r : CohReq) =>
      if r.slice = c ∧ r.wait = w then { r with wait := 4095 } else r) } } : State).noteRsv c

/-- Release a reservation: RSV is cleared on the line's way or the promised way, and cause-2 waiters are ready (R218). -/
def dropRsv (s : State) (c n : Nat) : State :=
  match s.rsvReg c n with
  | none => s
  | some r =>
    let pl := place (s.reg Obj.CAIRN_SLICES 0) r.line
    let t := s.setRsv c n none
    let ways := (List.range 16).filter (fun w => (t.dirEntry c pl.2.1 w).rsv && (t.dirEntry c pl.2.1 w).rsvAgent == n)
    let t1 := foldS (fun w v => v.setDir c pl.2.1 w { v.dirEntry c pl.2.1 w with rsv := false, rsvAgent := 0 }) ways t
    ({ t1 with coh := { t1.coh with reqs := t1.coh.reqs.map (fun (q : CohReq) =>
        if q.slice = c ∧ q.rsv = n then { q with rsv := 64 } else q) } }).wake c (2112 + n)

/-- A way becomes free: it is promised to the holder of a reservation on a line of the set that has no way (R217). -/
def freeWay (s : State) (c set w : Nat) : State :=
  let t := s.writeDir c set w { dirDflt with rank := (s.dirEntry c set w).rank }
  let holder := t.coh.rsv.find? (fun e => e.1.1 == c && (match e.2 with
    | some r =>
      let pl := place (t.reg Obj.CAIRN_SLICES 0) r.line
      pl.2.1 == set && r.way == 16 && (t.findWay c set pl.2.2).isNone
    | none => false))
  match holder with
  | some (k, some r) =>
    (t.setRsv c k.2 (some { r with way := w })).setDir c set w
      { t.dirEntry c set w with rsv := true, rsvAgent := k.2 }
  | _ => t

/-- Count a stray message and raise DIR_STRAY at most once per slice per millisecond (R202, R205). -/
def strayMsg (s : State) (c line agent ty : Nat) : State :=
  (s.bump Obj.DIR_STRAY c).raiseLimited 1000000 c 0x5001 0x50 2 c (line % 2 ^ 49 + agent % 64 * 2 ^ 50 + ty * 2 ^ 56)

/-! ### Answers and memory accesses -/

/-- A completion for a coherent request goes to its requester's port in the response class, unless orphaned. -/
def respond (s : State) (m : Msg) (data poison orphan : Bool) (bytes : List Byte) : State :=
  if orphan then s
  else if m.internal then s.innerBack 0 false poison m bytes
  else if !s.dlUp m.inPort then s
  else
    let byte := if data then 7 else 6
    s.sendInternal { m with
      kind := .completion, chan := if data then .memDrs else .memNdr, egress := m.inPort, len := 1, stomp := false
      cls := s.rspClass m.inPort byte, internal := true, poison := poison, data := bytes, trk := true }

/-- Send one back-invalidate per agent of `v` in one multicast cell (R153, R203); `btag` is the tracker, or 2 048 plus
the eviction entry; Cairn's own fabric ID is FID_BASE (R111), and the slice stands in `status`. -/
def snoop (s : State) (c btag line ld v snp : Nat) : State :=
  let ags := bitsOf 64 v
  if ags.isEmpty then s
  else
    let q := fun a => 8 * s.agentPort a + (if s.reg Obj.AGT_KIND a = 1 then s.rspClass (s.agentPort a) 8 else 7)
    let m : Msg := { msgDflt with kind := .snoop, chan := .memBisnp, src := s.reg Obj.FID_BASE 0, home := line, pool := line, ld := ld,
                                  tag := btag, status := c, snp := snp, targets := ags.map q }
    let t := (s.bump64 Obj.DIR_BISNP c ags.length)
    foldS (fun a (u : State) => u.count { code := 0x5005, port := s.agentPort a, aux := c,
                                          part := if s.reg Obj.AGT_KIND a = 1 then s.reg Obj.AGT_REF a else 255,
                                          cls := 7, hpa := 0, pool := line })
      ags { t with fab := { t.fab with mcast := t.fab.mcast ++ [m] } }

/-! ### Trackers -/

/-- The bits of LOST and DEAD agents leave a line whose transaction ends (R229). -/
def cleanLine (s : State) (c set w : Nat) : State :=
  let e := s.dirEntry c set w
  let lv := s.liveVec e.sharers
  if 16 ≤ w then s
  else if e.state = 1 ∧ lv ≠ e.sharers then (if lv = 0 then s.freeWay c set w else s.writeDir c set w { e with sharers := lv })
  else if e.state = 2 ∧ s.agentOut e.owner = true then
    s.writeDir c set w { e with state := 3, pcause := 1, sharers := 0, owner := 0 }
  else s

/-- End a transaction: its tracker is free, its line is not BUSY, and waiters are ready (R199, R211). -/
def endTrk (s : State) (c n : Nat) : State :=
  match s.tracker c n with
  | none => s
  | some t =>
    let u := (s.setTracker c n none).noteMoved
    let u1 := if t.way < 16 then
        (u.setDir c t.set t.way { u.dirEntry c t.set t.way with busy := false, trk := 0 }).cleanLine c t.set t.way else u
    -- a back-invalidate of an unbind walk is answered or timed out (R136)
    let u2 := if t.ty = 0 then { u1 with fab := { u1.fab with walks := u1.fab.walks.map (fun (k : Walk) =>
        if k.win = t.msg.status then { k with snoops := k.snoops - 1 } else k) } } else u1
    (u2.wake c n).wake c 4094

/-- A transaction whose memory access has left, or was to leave, by a port that is down is answered with cause PORT_LOST; its line
stays as it is (R160). -/
def trkPortLost (s : State) (c n : Nat) (t : Trk) : State :=
  let u := (s.endTrk c n).dropChain t.msg.uid
  if t.orphan then u else u.addSynth 2 t.msg

/-- Send the memory access of the transaction of tracker `n`: the request itself goes on to the switching core (R12). -/
def issueMem (s : State) (c n : Nat) (t : Trk) : State :=
  if s.dlUp t.msg.egress then s.releaseMsg t.msg else s.trkPortLost c n t

/-- Send an accepted writeback to memory; through a port that is down it is answered at once (R160, R201). The flag tells whether
memory's completion is to be awaited. -/
def issueWb (s : State) (m : Msg) : Bool × State :=
  if s.dlUp m.egress then (true, s.releaseMsg m) else (false, (s.dropChain m.uid).addSynth 2 m)

/-- Give a line its state at the end of a transaction, without LOST and DEAD agents; an empty vector frees the way. -/
def settleLine (s : State) (c set w state v owner pcause : Nat) : State :=
  if 16 ≤ w then s
  else
    let e := s.dirEntry c set w
    let lv := s.liveVec v
    if state = 0 ∨ (state = 1 ∧ lv = 0) then s.freeWay c set w
    else if state = 2 ∧ s.agentOut owner = true then
      s.writeDir c set w { e with state := 3, pcause := 1, sharers := 0, owner := 0 }
    else s.writeDir c set w { e with state := state, pcause := pcause, sharers := lv,
                                     owner := if state = 2 then owner else 0 }

/-- The end of a transaction whose accesses and responses are all done (R200): the line's new state and the answer. -/
def finishTrk (s : State) (c n : Nat) (t : Trk) : State :=
  let r := t.agent
  let done := fun (u : State) (data : Bool) => (u.endTrk c n).respond t.msg data t.poison t.orphan t.data
  if t.asPoison then ((s.endTrk c n).dropChain t.msg.uid).respond t.msg (t.ty < 5) (t.ty < 5) t.orphan []
  else if t.lost ∧ t.ty ≠ 5 then
    -- the snooped owner was lost: the line is POISONED and the requester receives poison (R227)
    ((s.settleLine c t.set t.way 3 0 0 1).endTrk c n).respond t.msg true true t.orphan []
  else match t.ty with
  | 0 => (s.settleLine c t.set t.way (if t.vec = 0 then 0 else 1) t.vec 0 0).endTrk c n
  | 1 => done (if t.snp = 2 then s.settleLine c t.set t.way 1 (setBit t.vec r) 0 0 else s) true
  | 2 => done (s.settleLine c t.set t.way 2 (bitSet [r]) r 0) true
  | 3 => done (s.settleLine c t.set t.way 2 (bitSet [r]) r 0) (!t.noData)
  | 4 =>
    let u := if t.snp = 3 then
        (if t.own then s else if t.vec = 0 then s.settleLine c t.set t.way 0 0 0 0
         else s.settleLine c t.set t.way 1 t.vec 0 0)
      else s
    done u true
  | 5 =>
    if t.lost ∧ ¬(t.msg.whole = true ∧ t.msg.poison = false) then
      ((s.settleLine c t.set t.way 3 0 0 1).endTrk c n).respond t.msg false false t.orphan []
    else done (s.settleLine c t.set t.way 0 0 0 0) false
  | 6 => done (s.settleLine c t.set t.way 0 0 0 0) false
  | 7 => done (s.settleLine c t.set t.way 1 (bitSet [r]) 0 0) false
  | _ => done (s.settleLine c t.set t.way 2 (bitSet [r]) r 0) false

/-- Let a transaction go on: after the last response and writeback, its memory access; after that, its end (R200, R201). -/
def advanceTrk (s : State) (c n : Nat) : State :=
  match s.tracker c n with
  | none => s
  | some t =>
    if t.await ≠ 0 ∨ t.wbs ≠ [] then s
    else if t.lost ∧ t.ty ≠ 5 then s.finishTrk c n t
    else if t.needMem then
      let x := { t with needMem := false, memOut := true }
      (s.setTracker c n (some x)).issueMem c n x
    else if t.memOut then s
    else s.finishTrk c n t

/-- Write a whole line to memory with poison set, as an internal message (R225, R227). -/
def poisonWrite (s : State) (line : Nat) : State :=
  let pool := s.redirect line
  match s.ldAt pool with
  | none => s
  | some ld => match s.ldEgress (s.reg Obj.FID_BASE 0) ld with
    | none => s
    | some p => if !s.dlUp p then s else s.sendInternal { msgDflt with
        kind := .posted, chan := .memRwD, op := .otherWrite, src := s.reg Obj.FID_BASE 0, home := line, pool := pool, ld := ld
        poison := true, cls := 2, egress := p, dpa := pool - s.reg Obj.LD_POOL_BASE ld, dst := s.reg Obj.LD_FID ld
        eRoute := s.reg Obj.ROUTE_EPOCH 0, eBind := s.reg Obj.BIND_EPOCH 0, eFl := s.reg Obj.FL_EPOCH 0, data := List.replicate 64 0 }

/-- Free an eviction entry once its responses and writebacks are in; a lost owner's line is written poisoned (R221, R227). -/
def advanceEvict (s : State) (c n : Nat) : State :=
  match s.evictEntry c n with
  | none => s
  | some e =>
    if e.await ≠ 0 ∨ e.wbs ≠ [] then s
    else
      let s0 := if e.lost then s.poisonWrite e.line else s
      ((s0.setEvict c n none).wake c (2048 + n)).wake c 4094

/-- A wait for agent `a` ends as with BIRspI; where it owned the line, the transaction ends poisoned (R227). -/
def lostWait (s : State) (a : Nat) : State :=
  let s1 := foldS (fun e (u : State) => match e.2 with
      | some t =>
        if bit t.await a then
          (u.setTracker e.1.1 e.1.2 (some { t with
             await := clrBit t.await a, vec := clrBit t.vec a,
             lost := t.lost || (t.way < 16 && (u.dirEntry e.1.1 t.set t.way).state == 2 &&
                                (u.dirEntry e.1.1 t.set t.way).owner == a) })).advanceTrk e.1.1 e.1.2
        else u
      | none => u) s.coh.trk s
  foldS (fun e (u : State) => match e.2 with
      | some t =>
        if bit t.await a then
          (u.setEvict e.1.1 e.1.2 (some { t with await := clrBit t.await a, lost := t.lost || t.owner == a })).advanceEvict e.1.1 e.1.2
        else u
      | none => u) s1.coh.evict s1

/-- Sets each active slice still has to visit when a job begins. -/
def allSets (s : State) : List Nat :=
  (List.range 8).map (fun c => if c < s.reg Obj.CAIRN_SLICES 0 then 6291456 else 0)

/-- Start or restart the purge job of an agent (R227, R228). -/
def startPurge (s : State) (a : Nat) (dead : Bool) : State :=
  { s with coh := { s.coh with purges := s.coh.purges.filter (fun p => p.agent != a) ++
      [{ agent := a, dead := dead, left := s.allSets, poisoned := 0, at_ := s.clk }] } }

/-- An agent's port goes DL_Down: LOST (R227, R230). -/
def agentLost (s : State) (a : Nat) : State :=
  let s1 := (s.setReg Obj.AGT_STATE a 1).setReg Obj.AGT_DOWN_TIME a s.now
  let s2 := s1.lostWait a
  let s3 := { s2 with coh := { s2.coh with trk := s2.coh.trk.map (fun (e : Key × Option Trk) =>
      (e.1, e.2.map (fun (t : Trk) => if t.agent = a then { t with orphan := true } else t))) } }
  s3.startPurge a false

/-- A silent agent becomes DEAD_PURGING (R228, R230). -/
def agentDies (s : State) (a line : Nat) : State :=
  if s.reg Obj.AGT_STATE a ≠ 0 then s
  else
    (((s.setReg Obj.AGT_STATE a 2).setReg Obj.AGT_DOWN_TIME a s.now).raise 0x5005 0x50 4 a
      (a + 256 * (line % 2 ^ 49))).lostWait a |>.startPurge a true

/-! ### NAKs and reservations (R210 to R218) -/

/-- Replace request `i` of the list. -/
def setReq (s : State) (i : Nat) (r : CohReq) : State :=
  { s with coh := { s.coh with reqs := setAt s.coh.reqs i r } }

/-- The lowest free hold entry of a port in [lo, lo + n), over route holds and NAK holds. -/
def freeHold (s : State) (p lo n : Nat) : Option Nat :=
  firstFrom (fun k => (s.held p k).isNone &&
    !(s.coh.reqs.any (fun r => r.msg.inPort == p && !r.msg.internal && r.entry == k))) n lo

/-- A request of a CXL-mode port that ought to have a hold entry and has none: one with a NAK, or one behind a held request of its
line, with that request's cause (R213, R223). -/
def wantsHold (s : State) (p : Nat) : Option (Nat × Nat) :=
  s.coh.reqs.zipIdx.findSome? (fun e =>
    let r := e.1
    if r.msg.inPort = p ∧ r.msg.internal = false ∧ r.entry = 511 ∧ r.admitted = false then
      (if r.cause ≠ 0 then some (e.2, r.cause)
       else ((s.coh.reqs.take e.2).find? (fun q => q.msg.inPort == p && !q.msg.internal && q.cause != 0 && !q.admitted &&
          q.msg.home / 64 == r.msg.home / 64)).map (fun q => (e.2, q.cause)))
    else none)

/-- Requests that wait in their ingress cells take the hold entries that are free, oldest first; a writeback with a NAK takes a
writeback slot (R213, R223). -/
def fillHold (s : State) (p : Nat) : State :=
  if s.drudar p || 256 ≤ p then s
  else foldS (fun _ (t : State) => match t.wantsHold p with
    | none => t
    | some (i, cause) => match t.coh.reqs[i]? with
      | none => t
      | some r =>
        let wb := r.ty == 6 || r.ty == 7 || r.ty == 8
        match (if wb then t.freeHold p 256 16 else t.freeHold p 0 256) with
        | some k => t.setReq i { r with cause := cause, entry := k }
        | none => t) (s.coh.reqs.filter (fun r => r.msg.inPort == p && r.entry == 511)) s

/-- Hold entries are taken by those that wait for one; HOLD_FULL is raised on entry to the full state of R223, and credits that are
withheld no longer return. -/
def noteHoldFull (s0 : State) (p : Nat) : State :=
  let s := s0.fillHold p
  let full := p < 256 && decide (256 ≤ s.holdUsed p)
  let was := s.coh.fullAt.get false (p, 0)
  let t := { s with coh := { s.coh with fullAt := s.coh.fullAt.set false (p, 0) full } }
  if full && !was then
    let causes : List Nat := (t.coh.reqs.filter (fun r => r.msg.inPort == p && r.entry < 256)).map (·.cause) ++
      (t.fab.hold.row p).map (fun _ => 7)
    let freq := (List.range 8).foldl (fun (b c : Nat) =>
      if (causes.filter (· == b)).length < (causes.filter (· == c)).length then c else b) 0
    (t.bump Obj.HOLD_FULL_CNT p).raiseLimited 1000000 p 0x5008 0x50 2 p freq
  else if full then t else t.settleCredits p

/-- Take request `i` off the list. -/
def dropReq (s : State) (i : Nat) : State :=
  { s with coh := { s.coh with reqs := s.coh.reqs.eraseIdx i } }

/-- NAK request `i` with a cause and an awaited event (R210, R212, R215, R216). -/
def nak (s : State) (i : Nat) (r : CohReq) (cause wait : Nat) : State :=
  let c := r.slice
  let line := r.msg.home / 64 * 64
  let s1 := (s.setReg Obj.NAK_CNT c (setElem (s.reg Obj.NAK_CNT c) 8 (cause - 1) (elem (s.reg Obj.NAK_CNT c) 8 (cause - 1) + 1))).count
    { code := 0x5004, port := rttPort r.msg, aux := cause, part := r.msg.part, cls := r.msg.cls, hpa := r.msg.hpa, pool := r.msg.home }
  let counting := cause != 6
  let ncnt := if counting then min 15 (r.ncnt + 1) else r.ncnt
  let dru := s.drudar r.msg.inPort && !r.msg.internal
  let wb := r.ty == 6 || r.ty == 7 || r.ty == 8
  -- a reservation at the eighth counting NAK, while the line has none and a register is free (R216)
  let row := s1.coh.rsv.row c
  let reg := if counting && s.reg Obj.NAK_RSV_COUNT 0 ≤ ncnt && (s1.lineRsv c line).isNone && r.rsv == 64 then
      firstFrom (fun n => !(row.any (fun e => e.1 == n))) 64 0 else none
  let ent := if dru || r.msg.internal then 511
    else if r.entry != 511 then r.entry
    else match (if wb then s1.freeHold r.msg.inPort 256 16 else s1.freeHold r.msg.inPort 0 256) with
      | some k => k
      | none => 511
  let s2 := match reg with
    | none => s1
    | some n =>
      let pl := place (s1.reg Obj.CAIRN_SLICES 0) line
      let u := (s1.setRsv c n (some { line := line, port := State.rttPort r.msg, entry := ent, way := 16, readyAt := 0 })).bump64 Obj.RSV_CNT c
      match u.findWay c pl.2.1 pl.2.2 with
      | some w => u.setDir c pl.2.1 w { u.dirEntry c pl.2.1 w with rsv := true, rsvAgent := n }
      | none => u
  if dru then
    -- the NAK returns to the peer as a completion with status 6 (R215)
    let s3 := ((s2.dropReq i).dropChain r.msg.uid).noteRsv c
    s3.sendInternal { r.msg with
      kind := .completion, chan := .druRsp, egress := r.msg.inPort, len := 1, cls := 6,
      internal := true, status := 6, data := [BitVec.ofNat 8 cause] }
  else
    let delay := if cause = 4 ∨ cause = 5 then s.clk + s.reg Obj.NAK_RETRY_DELAY 0 * nsUnit else s.clk
    ((s2.setReq i { r with cause := cause, wait := wait, ncnt := ncnt, readyAt := delay, entry := ent, admitted := false,
                           rsv := reg.getD r.rsv }).noteRsv c).noteHoldFull (State.rttPort r.msg)

/-- The request is admitted: its hold entry and its reservation are released (R218). -/
def admitReq (s : State) (i : Nat) (r : CohReq) : State :=
  let held := r.entry
  let t := s.dropReq i
  let t1 := match (if r.rsv < 64 then some r.rsv else
      match t.lineRsv r.slice (r.msg.home / 64 * 64) with
      | some n => (match t.rsvReg r.slice n with
        | some x => if x.entry = 511 ∧ x.port = r.msg.inPort ∧ t.drudar x.port = true then some n else none
        | none => none)
      | none => none) with
    | some n => t.dropRsv r.slice n
    | none => t
  if held = 511 then t1 else t1.noteHoldFull r.msg.inPort

/-! ### Making room in a set (R219 to R221) -/

/-- The recency update of R219: way `w` becomes rank 0. -/
def touchRank (s : State) (c set w : Nat) : State :=
  let old := (s.dirEntry c set w).rank
  let t := foldS (fun v (u : State) =>
      let e := u.dirEntry c set v
      if v ≠ w ∧ e.state ≠ 0 ∧ e.rank < old then u.setDir c set v { e with rank := e.rank + 1 } else u) (List.range 16) s
  t.setDir c set w { t.dirEntry c set w with rank := 0 }

/-- Evict the line of way `w` into a free eviction entry (R221). -/
def evictWay (s : State) (c set w : Nat) : State :=
  let e := s.dirEntry c set w
  let row := s.coh.evict.row c
  match firstFrom (fun n => !(row.any (fun x => x.1 == n))) 64 0 with
  | none => s
  | some n =>
    let h := e.tag / 2 ^ 18
    let up := e.tag % 2 ^ 18 * 6291456 + set
    -- the line number: bits [42:3] are `up`, and h fixes bits [2:0] (R189)
    let low := h ^^^ (up / 8 % 8) ^^^ (up / 4096 % 8)
    let line := (up * 8 + low) * 64
    let v := s.liveVec e.sharers
    let ld := (s.ldAt (s.redirect line)).getD 0xFFFF
    let t := (s.setEvict c n (some { line := line, ld := ld, await := v, owner := if e.state = 2 then e.owner else 64,
                                     wbs := [], lost := e.state == 2 && s.agentOut e.owner, at_ := s.clk })).bump64 Obj.EVICT_CNT c
    ((t.snoop c (2048 + n) line ld v 1).setDir c set w { dirDflt with rank := e.rank }).advanceEvict c n

/-! ### The walker (R229) -/

/-- Apply the purge of one agent to one entry. -/
def purgeEntry (s : State) (c set w a : Nat) : State × Nat :=
  let e := s.dirEntry c set w
  if e.busy then (s, 0)
  else if e.state = 1 ∧ bit e.sharers a then
    let v := clrBit e.sharers a
    if v = 0 then (s.freeWay c set w, 0) else (s.writeDir c set w { e with sharers := v }, 0)
  else if e.state = 2 ∧ e.owner = a then
    (s.writeDir c set w { e with state := 3, pcause := 1, sharers := 0, owner := 0 }, 1)
  else (s, 0)

end State

end Sys2Proof.Machine
end

