-- ==== Sys2Proof/Machine/Coherence.lean ====
section
/-!
DEFINITION. The commands of the coherence family (R185 to R231): what a slice does with the request that the
slot wheel offers it, back-invalidate responses, HBM set reads, memory's answers, timeouts, and the walker.
-/

namespace Sys2Proof.Machine

/-- What a transition of *Directory transitions* asks of its transaction. -/
structure Plan where
  way : Nat               -- the line's way; 16 none
  await : Nat             -- agents snooped
  snp : Nat
  needMem : Bool          -- memory follows the responses
  memNow : Bool           -- memory is accessed at once
  noData : Bool
  asPoison : Bool         -- answered as in state POISONED
  deriving DecidableEq, Repr

def planDflt : Plan := { way := 16, await := 0, snp := 0, needMem := false, memNow := false, noData := false, asPoison := false }

namespace State

/-! ### The slot wheel (R194, R195) -/

/-- What a slot of the wheel admits (R194): a request of the list, WALKER's set read, or the lookup of DIR_LOOKUP; with the owner code
served. -/
inductive Pick where
  | req (code i : Nat) (r : CohReq)
  | walker
  | lookup (code : Nat)
  deriving DecidableEq, Repr

/-- The unit that offers a request: its port, 256 + channel for the mover, or for INTERNAL 272, the debug master; 273 is DIR_LOOKUP. -/
def reqUnit (r : CohReq) : Nat :=
  if !r.msg.internal then r.msg.inPort
  else if 320 ≤ r.msg.rq && r.msg.rq < 336 then 256 + (r.msg.rq - 320) else 272

/-- The units of a slot owner code (*Slot owner codes*). -/
def ownerHas (code unit : Nat) : Bool :=
  if code < 0x20 then unit < 256 && unit / 8 == code
  else if code = 0x20 then unit < 256
  else if code = 0x21 then 256 ≤ unit && unit < 272
  else if code = 0x23 then unit == 272 || unit == 273 else false

/-- The holder of a reservation: by its hold entry, or by its Drudar port (R216). -/
def holds (s : State) (r : CohReq) : Option Nat :=
  if r.rsv < 64 then some r.rsv
  else match s.lineRsv r.slice (r.msg.home / 64 * 64) with
    | some n => (match s.rsvReg r.slice n with
      | some x => if x.entry = 511 ∧ x.port = r.msg.inPort ∧ s.drudar x.port = true then some n else none
      | none => none)
    | none => none

/-- Request `i` is ready: its delay and wait are over, no older request of its port to its line is listed (R213), and a
reservation holder's line is free with its way promised (R218). -/
def reqReady (s : State) (i : Nat) (r : CohReq) : Bool :=
  !r.admitted &&
  !((s.coh.reqs.take i).any (fun q => q.msg.inPort == r.msg.inPort && q.msg.internal == r.msg.internal &&
      (!r.msg.internal || q.msg.rq == r.msg.rq) && q.msg.home / 64 == r.msg.home / 64)) &&
  (match s.holds r with
   | none => r.wait == 4095 && r.readyAt ≤ s.clk
   | some n => s.rsvReady r.slice n)

/-- Ready requests of a slice with their positions. -/
def readyReqs (s : State) (c : Nat) : List (Nat × CohReq) :=
  (s.coh.reqs.zipIdx.map (fun e => (e.2, e.1))).filter (fun e => e.2.slice == c && s.reqReady e.1 e.2)

/-- A purge has visited every set of every active slice (R229). -/
def purgeOver (s : State) (p : Purge) : Bool := (p.left.take (s.reg Obj.CAIRN_SLICES 0)).all (· == 0)

/-- A purge or an unbind walk still has work in slice `c`, or a purge has none left and is to end (R229). -/
def walkJobs (s : State) (c : Nat) : Bool :=
  s.coh.purges.any (fun p => p.left.getD c 0 != 0 || s.purgeOver p) ||
  s.fab.walks.any (fun (k : Walk) => k.left.getD c 0 != 0 || k.todo.any (fun x => x.1 == c))

/-- WALKER offers a set read: a job runs, no read of its own is outstanding, and eight FCLK cycles have passed since its last
(R195). -/
def walkerReady (s : State) (c : Nat) : Bool :=
  s.walkJobs c && s.coh.walkWait.get 0 (c, 0) == 0 &&
  (s.coh.walkAt.get 0 (c, 0) == 0 || s.coh.walkAt.get 0 (c, 0) - 1 + 8 * fclkUnit ≤ s.clk)

/-- DIR_LOOKUP offers its lookup in the slice of its address, unless the set is being read for it. -/
def lookupReady (s : State) (c : Nat) : Bool :=
  match s.coh.lookup with
  | some a =>
    let pl := place (s.reg Obj.CAIRN_SLICES 0) a
    pl.1 == c && !(s.coh.reads.contains (c, pl.2.1))
  | none => false

/-- What a slot owner offers: its units take turns, a unit's holder goes first, then its oldest (R194, R218). -/
def offer (s : State) (c code : Nat) : Option Pick :=
  if code = 0x22 then (if s.walkerReady c then some .walker else none)
  else
    let rs := (s.readyReqs c).filter (fun e => ownerHas code (reqUnit e.2))
    let dist := fun (u : Nat) => (u + 512 - s.coh.turn.get 0 (c, code)) % 512
    match rs.map (fun e => reqUnit e.2) ++ (if code = 0x23 ∧ s.lookupReady c = true then [273] else []) with
    | [] => none
    | e :: r =>
      let u := r.foldl (fun b x => if dist x < dist b then x else b) e
      if u = 273 then some (.lookup code)
      else
        let mine := rs.filter (fun x => reqUnit x.2 == u)
        ((mine.find? (fun x => (s.holds x.2).isSome)).or mine.head?).map (fun x => .req code x.1 x.2)

/-- What slot `slot` of slice `c` admits: the offer of the slot's owner, or of the first later slot whose owner has one (R195). -/
def wheelPick (s : State) (c slot : Nat) : Option Pick :=
  (List.range 64).findSome? (fun k => s.offer c (s.reg Obj.WHEEL_SLOT (64 * c + (slot + k) % 64)))

/-- Slots of a wheel that have gone by since clk 0, when the present FCLK cycle begins (R194). -/
def slotBase (s : State) : Nat := 2 * (s.clk / fclkUnit)

/-- A slot of the present cycle that has not been served, by its count since clk 0; the second slot only after the first (R194). -/
def slotOpen (s : State) (c slot : Nat) : Option Nat :=
  let a := s.slotBase
  let gone := s.coh.slotAt.get 0 (c, 0)
  if slot = a % 64 ∧ gone ≤ a then some a
  else if slot = (a + 1) % 64 ∧ (gone = a + 1 ∨ (gone ≤ a ∧ s.wheelPick c (a % 64) = none)) then some (a + 1)
  else none

/-- Slot `a` is served. -/
def useSlot (s : State) (c a : Nat) : State := { s with coh := { s.coh with slotAt := s.coh.slotAt.set 0 (c, 0) (a + 1) } }

/-- A unit of an owner has been served (R194). -/
def noteTurn (s : State) (c code unit : Nat) : State :=
  { s with coh := { s.coh with turn := s.coh.turn.set 0 (c, code) (unit + 1) } }

/-- Read a set from HBM into frame `f` (R191). -/
def readSet (s : State) (c set f : Nat) : State :=
  let t := (s.bump64 Obj.DIR_MISS c).touchFrame c set f false
  { t with coh := { t.coh with reads := t.coh.reads ++ [(c, set)] } }

/-! ### Transitions (R200) -/

/-- Answer request `i` without a tracker: its cells are freed. -/
def answerReq (s : State) (i : Nat) (r : CohReq) (data poison : Bool) : State :=
  ((s.admitReq i r).dropChain r.msg.uid).respond r.msg data poison false []

/-- The port to memory of request `i` is down: it is answered with cause PORT_LOST, and its line stays as it is (R160). -/
def lostReq (s : State) (i : Nat) (r : CohReq) : State := ((s.admitReq i r).dropChain r.msg.uid).addSynth 2 r.msg

/-- Open the transaction of request `i` by a plan; no tracker of the kind free NAKs it with cause 6 (R222). -/
def openTrk (s : State) (i : Nat) (r : CohReq) (a : Nat) (p : Plan) (prep : State → State) : State :=
  let c := r.slice
  let wb := r.ty == 6 || r.ty == 7 || r.ty == 8
  if (p.memNow || p.needMem) && !s.dlUp r.msg.egress then s.lostReq i r
  else match s.freeTracker c wb with
  | none => s.nak i r 6 4094
  | some n =>
    let line := r.msg.home / 64 * 64
    let pl := place (s.reg Obj.CAIRN_SLICES 0) line
    let m := { r.msg with trk := true, track := 2048 * c + n }
    let s1 := prep (s.admitReq i r)
    let live := s1.liveVec p.await
    let lostOwner := decide (p.way < 16) && (s1.dirEntry c pl.2.1 p.way).state == 2 &&
      bit p.await (s1.dirEntry c pl.2.1 p.way).owner && s1.agentOut (s1.dirEntry c pl.2.1 p.way).owner
    let s2 := if p.way < 16 then
        (s1.writeDir c pl.2.1 p.way { s1.dirEntry c pl.2.1 p.way with busy := true, trk := n }).touchRank c pl.2.1 p.way
      else s1
    let s3 := s2.setTracker c n (some {
        ty := r.ty, msg := m, line := line, set := pl.2.1, way := p.way, agent := a, await := live,
        snp := p.snp, vec := live, own := false, needMem := p.needMem, memOut := p.memNow, write := r.ty ≥ 5, noData := p.noData,
        have_ := false, poison := false, data := [], wbs := [], lost := lostOwner, asPoison := p.asPoison, at_ := s.clk, orphan := false })
    let s4 := s3.setReg Obj.TRK_MAX_USED c (max (s3.reg Obj.TRK_MAX_USED c) (s3.trkUsed c))
    let s5 := if p.memNow then s4.releaseMsg m else s4
    let s6 := if p.noData then s5.dropChain m.uid else s5
    ((s6.noteRsv c).snoop c n line r.msg.ld live p.snp).advanceTrk c n

/-- Open a transaction that allocates a way for its line, which it writes as `e` (R219 to R221). -/
def openAlloc (s : State) (i : Nat) (r : CohReq) (a : Nat) (e : DirEntry) : State :=
  let c := r.slice
  let pl := place (s.reg Obj.CAIRN_SLICES 0) r.msg.home
  let put := fun (w : Nat) (u : State) => u.writeDir c pl.2.1 w { e with tag := pl.2.2, rank := (u.dirEntry c pl.2.1 w).rank }
  if !s.dlUp r.msg.egress then s.lostReq i r
  else match s.freeTracker c false with
  | none => s.nak i r 6 4094
  | some _ =>
    match s.room c pl.2.1 ((s.holds r).getD 64) with
    | .nak cause => s.nak i r cause (if cause = 6 then 4094 else 4095)
    | .way w => s.openTrk i r a { planDflt with way := w, memNow := true } (put w)
    | .victim w => s.openTrk i r a { planDflt with way := w, memNow := true } (fun u => put w (u.evictWay c pl.2.1 w))

/-- A stray writeback or an EVC that only answers (R202). -/
def strayWb (s : State) (i : Nat) (r : CohReq) (a : Nat) : State :=
  (s.answerReq i r false false).strayMsg r.slice (r.msg.home / 64 * 64) a r.ty

/-- The directory transition for a request whose line is neither BUSY nor evicting (R200). -/
def transition (s : State) (i : Nat) (r : CohReq) (a way : Nat) (pseudo : Bool) : State :=
  let c := r.slice
  let pl := place (s.reg Obj.CAIRN_SLICES 0) r.msg.home
  let e := s.dirEntry c pl.2.1 way
  let st := if pseudo then 3 else if way < 16 then e.state else 0
  -- an admission that hits a way makes it the most recent (R219)
  let hit := if way < 16 then s.touchRank c pl.2.1 way else s
  let v := e.sharers
  let here := { planDflt with way := way }
  let keep := fun (u : State) => u
  let upd := fun (f : DirEntry → DirEntry) (u : State) => u.writeDir c pl.2.1 way (f (u.dirEntry c pl.2.1 way))
  match st, r.ty with
  | 0, 1 => s.openAlloc i r a { dirDflt with state := 1, sharers := bitSet [a] }
  | 0, 2 => s.openAlloc i r a { dirDflt with state := 2, sharers := bitSet [a], owner := a }
  | 0, 3 => s.openAlloc i r a { dirDflt with state := 2, sharers := bitSet [a], owner := a }
  | 0, 4 => s.openTrk i r a { planDflt with memNow := true } keep
  | 0, 5 => s.openTrk i r a { planDflt with memNow := true } keep
  | 0, 9 => s.answerReq i r false false
  | 0, _ => hit.strayWb i r a
  | 1, 1 => s.openTrk i r a { here with memNow := true } (upd (fun x => { x with sharers := setBit x.sharers a }))
  | 1, 2 =>
    if maskOut v (2 ^ a) = 0 then s.openTrk i r a { here with memNow := true } keep
    else s.openTrk i r a { here with await := clrBit v a, snp := 1, memNow := true } keep
  | 1, 3 =>
    if bit v a then s.openTrk i r a { here with await := clrBit v a, snp := 1, noData := true } keep
    else s.openTrk i r a { here with await := v, snp := 1, memNow := true } keep
  | 1, 4 => s.openTrk i r a { here with memNow := true } keep
  | 1, 5 => s.openTrk i r a { here with await := v, snp := 1, needMem := true } keep
  | 1, 6 =>
    let t := hit.strayWb i r a
    if maskOut v (2 ^ a) = 0 then t.freeWay c pl.2.1 way else t.writeDir c pl.2.1 way { t.dirEntry c pl.2.1 way with sharers := clrBit v a }
  | 1, 9 =>
    let t := hit.answerReq i r false false
    if maskOut v (2 ^ a) = 0 then t.freeWay c pl.2.1 way else t.writeDir c pl.2.1 way { t.dirEntry c pl.2.1 way with sharers := clrBit v a }
  | 1, _ => hit.strayWb i r a
  | 2, 1 =>
    if e.owner = a then
      s.openTrk i r a { here with memNow := true } (upd (fun x => { x with state := 1, owner := 0 }))
    else s.openTrk i r a { here with await := v, snp := 2, needMem := true } keep
  | 2, 2 =>
    if e.owner = a then s.openTrk i r a { here with memNow := true } keep
    else s.openTrk i r a { here with await := v, snp := 1, needMem := true } keep
  | 2, 3 =>
    if e.owner = a then s.openTrk i r a { here with noData := true } keep
    else s.openTrk i r a { here with await := v, snp := 1, needMem := true } keep
  | 2, 4 => s.openTrk i r a { here with await := v, snp := 3, needMem := true } keep
  | 2, 5 => s.openTrk i r a { here with await := v, snp := 1, needMem := true } keep
  | 2, 9 =>
    if e.owner = a then (hit.answerReq i r false false).freeWay c pl.2.1 way else hit.answerReq i r false false
  | 2, _ =>
    if e.owner = a then s.openTrk i r a { here with memNow := true } keep else hit.strayWb i r a
  | _, 5 =>
    if r.msg.whole ∧ r.msg.poison = false then s.openTrk i r a { here with memNow := true } keep
    else s.openTrk i r a { here with asPoison := true } keep
  | _, 9 => hit.answerReq i r false false
  | _, _ => s.openTrk i r a { here with asPoison := true } keep

/-- An accepted writeback goes to memory (R201). The flag tells whether memory's completion is to be awaited. -/
def takeWb (s : State) (i : Nat) (r : CohReq) (entry : Nat) : Msg × Bool × State :=
  let m := { r.msg with trk := true, track := 2048 * r.slice + entry }
  (m, (s.admitReq i r).issueWb m)

/-- A request to a line that is free: a DEAD agent's is answered as in state POISONED and records nothing (R228), any other makes its
directory transition; a set with a way out of use answers a line that it does not hold as POISONED (R193). -/
def settleReq (s : State) (i : Nat) (r : CohReq) (a : Nat) (w : Option Nat) : State :=
  if s.agentDead a then s.openTrk i r a { planDflt with way := w.getD 16, asPoison := true } (fun u => u)
  else s.transition i r a (w.getD 16)
    (w.isNone && s.lostWay r.slice (place (s.reg Obj.CAIRN_SLICES 0) r.msg.home).2.1)

/-- Serve request `i` once its set is at hand: BUSY, EVICTING and RESERVED lines NAK it or take an awaited writeback
(R201, R210, R221); otherwise the directory transition. -/
def applyReq (s : State) (i : Nat) (r : CohReq) : State :=
  let c := r.slice
  let line := r.msg.home / 64 * 64
  let pl := place (s.reg Obj.CAIRN_SLICES 0) line
  let a := s.agentOfMsg r.msg
  let wb := r.ty == 6 || r.ty == 7 || r.ty == 8
  if s.agentDead a && wb then s.strayWb i r a
  else if s.agentDead a && r.ty == 9 then s.answerReq i r false false
  else match s.lineEvict c line with
  | some n =>
    (match s.evictEntry c n with
     | some e =>
       if wb && e.owner == a && bit e.await a then
         let x := s.takeWb i r n
         if x.2.1 then x.2.2.setEvict c n (some { e with wbs := e.wbs ++ [x.1] }) else x.2.2
       else s.nak i r 3 (2048 + n)
     | none => s)
  | none => match s.lineTracker c line with
    | some n =>
      (match s.tracker c n with
       | some t =>
         if wb && a < 64 && bit t.await a then
           -- an admission that hits a way makes it the most recent (R219)
           let x := (if t.way < 16 then s.touchRank c t.set t.way else s).takeWb i r n
           if x.2.1 then x.2.2.setTracker c n (some { t with wbs := t.wbs ++ [x.1] }) else x.2.2
         else s.nak i r 1 n
       | none => s)
    | none =>
      let w := s.findWay c pl.2.1 pl.2.2
      match s.lineRsv c line with
      | some n => if (s.holds r).isNone && !wb && r.ty != 9 then s.nak i r 2 (2112 + n) else s.settleReq i r a w
      | none => s.settleReq i r a w

/-- Request `i` waits, in its place in the list, for its set to be read from HBM; it is served in the order of admission (R196). -/
def awaitSet (s : State) (i : Nat) (r : CohReq) : State :=
  s.setReq i { r with admitted := true, readyAt := s.coh.slotAt.get 0 (r.slice, 0) }

/-- Admit request `i`: a hit in the directory cache serves it, a miss reads its set from HBM, and a miss with every
frame pinned NAKs it with cause 5 (R191). -/
def takeReq (s : State) (i : Nat) (r : CohReq) : State :=
  let c := r.slice
  let pl := place (s.reg Obj.CAIRN_SLICES 0) r.msg.home
  let ev := fun (code : Nat) (u : State) => u.count
    { code := code, port := rttPort r.msg, aux := c, part := r.msg.part, cls := r.msg.cls, hpa := r.msg.hpa, pool := r.msg.home }
  let s0 := ev 0x5001 s
  if s.coh.reads.contains (c, pl.2.1) then
    (ev 0x5003 s0).awaitSet i r
  else match s0.findFrame c pl.2.1 with
  | some f => ((ev 0x5002 (s0.bump64 Obj.DIR_HIT c)).touchFrame c pl.2.1 f false).applyReq i r
  | none =>
    match s0.victimFrame c pl.2.1 with
    | none => (ev 0x5003 s0).nak i r 5 4095
    | some f => ((ev 0x5003 s0).readSet c pl.2.1 f).awaitSet i r

/-- The result BLOB of DIR_LOOKUP_RESULT for a pool address. -/
def lookupValue (s : State) (pool : Nat) : Nat :=
  let pl := place (s.reg Obj.CAIRN_SLICES 0) pool
  let w := s.findWay pl.1 pl.2.1 pl.2.2
  let e := match w with
    | some x => s.dirEntry pl.1 pl.2.1 x
    | none => { dirDflt with rank := 0 }
  let v := e.sharers % 2 ^ 64 + e.tag * 2 ^ 64 + e.state * 2 ^ 85 + e.owner * 2 ^ 87 + (if e.busy then 2 ^ 93 else 0) + e.trk * 2 ^ 94 +
    (if e.rsv then 2 ^ 105 else 0) + e.rsvAgent * 2 ^ 106 + e.rank * 2 ^ 112 + e.pcause * 2 ^ 116
  v + pl.1 * 2 ^ 128 + w.getD 0xFF * 2 ^ 136 + pl.2.1 * 2 ^ 144

/-- The lookup's set is at hand: its result stands. -/
def endLookup (s : State) (pool : Nat) : State :=
  ({ s with coh := { s.coh with lookup := none } }).setReg Obj.DIR_LOOKUP_RESULT 0 (s.lookupValue pool)

/-- The lookup of DIR_LOOKUP is admitted in an INTERNAL slot of slice `c`: a hit answers it, a miss reads its set, and with every
frame pinned it stays offered (R191, R194). -/
def admitLookup (s : State) (c code : Nat) : State :=
  match s.coh.lookup with
  | none => s
  | some pool =>
    let t := s.noteTurn c code 273
    let set := (place (t.reg Obj.CAIRN_SLICES 0) pool).2.1
    match t.findFrame c set with
    | some f => ((t.bump64 Obj.DIR_HIT c).touchFrame c set f false).endLookup pool
    | none => match t.victimFrame c set with
      | some f => t.readSet c set f
      | none => t

/-- Serve a slot of the present cycle: the request that the wheel offers is admitted if it is of type `ty`; a lookup that it offers
is done first. -/
def serveSlot (s : State) (ty c slot : Nat) : State :=
  if s.reg Obj.CAIRN_SLICES 0 ≤ c then s
  else match s.slotOpen c slot with
    | none => s
    | some a => match s.wheelPick c slot with
      | some (.req code i r) => if r.ty = ty then ((s.useSlot c a).noteTurn c code (reqUnit r)).takeReq i r else s
      | some (.lookup code) => (s.useSlot c a).admitLookup c code
      | _ => s

/-- A write of DIR_LOOKUP: the lookup takes the first slot of this cycle that the wheel gives it, or waits for a later one (R194). -/
def dirLookup (s : State) (pool : Nat) : State :=
  let t := { s with coh := { s.coh with lookup := some pool } }
  let c := (place (s.reg Obj.CAIRN_SLICES 0) pool).1
  match [t.slotBase % 64, (t.slotBase + 1) % 64].findSome? (fun slot => (t.slotOpen c slot).bind (fun a =>
    match t.wheelPick c slot with
    | some (.lookup code) => some (a, code)
    | _ => none)) with
  | some (a, code) => (t.useSlot c a).admitLookup c code
  | none => t

/-! ### Back-invalidate responses (R201, R205) -/

/-- The LD of the vPPB that a host's BIRsp names, when its coherence is the device's own (R206). -/
def deviceHomed (s : State) (p biid : Nat) : Option Nat :=
  (s.hostPart p).bind (fun n =>
    let ld := s.reg Obj.VPPB_LD (64 * n + biid / 8)
    if biid % 8 = 0 ∧ ld < 4096 ∧ s.ldInMap ld = false ∧ s.ldLocal ld = true then some ld else none)

/-- A stray BIRsp that names no open transaction: it carries no address, so the one in DIR_STRAY is a free value (R205, R209). -/
def strayRsp (s : State) (c agent : Nat) : State := s.nextFree.strayMsg c s.freeVal agent 0

/-- A BIRsp of kind 1 I, 2 S, 3 E from the agent behind port `p` (R201, R205). DESIGN CHOICE: from a port without an agent the agent
number in DIR_STRAY is 63. -/
def agentRsp (s : State) (p biid btag kind : Nat) : State :=
  let c := biid % 8
  match (s.agentsOfPort p).find? (fun a => s.reg Obj.AGT_KIND a != 0) with
  | none => s.strayRsp c 63
  | some a =>
    if 2048 ≤ btag then
      match s.evictEntry c (btag - 2048) with
      | some e =>
        if bit e.await a then
          let t := (s.setEvict c (btag - 2048) (some { e with await := clrBit e.await a })).advanceEvict c (btag - 2048)
          if kind = 1 then t else t.strayMsg c e.line a 0
        else s.strayMsg c e.line a 0
      | none => s.strayRsp c a
    else match s.tracker c btag with
      | some t =>
        if bit t.await a then
          -- R201: a response that the snoop sent does not allow counts as BIRspI and as stray
          let okS := kind == 2 && (t.snp == 2 || t.snp == 3)
          let okE := kind == 3 && t.snp == 3
          let v := if okS || okE then t.vec else clrBit t.vec a
          let u := (s.setTracker c btag (some { t with await := clrBit t.await a, vec := v, own := t.own || okE })).advanceTrk c btag
          if kind = 1 ∨ okS = true ∨ okE = true then u else u.strayMsg c t.line a 0
        else s.strayMsg c t.line a 0
      | none => s.strayRsp c a

/-- A BIRsp arrives at port `p` and is consumed there, or goes on to the device whose coherence is its own (R206); a stomped one is
discarded. -/
def biRsp (s : State) (p biid btag kind : Nat) : State :=
  match s.consumeFlit p .memBiRsp with
  | none => s
  | some (true, t) => t
  | some (false, t) => match t.deviceHomed p biid with
    | some ld =>
      let q := t.reg Obj.LD_PORT ld
      if t.dlUp q then t.sendInternal { msgDflt with
        kind := .birsp, chan := .memBiRsp, src := t.reg Obj.PART_FID ((t.hostPart p).getD 0), dst := t.reg Obj.LD_FID ld, ld := ld, tag := btag
        track := 0x1_FFFF, snp := kind, egress := q, cls := t.rspClass q 5, status := 0 }
      else t
    | none => t.agentRsp p biid btag kind

end State

/-! ### Commands -/

/-- COH_RD_S (R200). -/
def execCohRdS (c slot : Nat) (s : State) := onUnit c 8 s (fun t => t.serveSlot 1 c slot)
/-- COH_RD_O (R200). -/
def execCohRdO (c slot : Nat) (s : State) := onUnit c 8 s (fun t => t.serveSlot 2 c slot)
/-- COH_UPG (R200). -/
def execCohUpg (c slot : Nat) (s : State) := onUnit c 8 s (fun t => t.serveSlot 3 c slot)
/-- COH_RD_NC (R200). -/
def execCohRdNc (c slot : Nat) (s : State) := onUnit c 8 s (fun t => t.serveSlot 4 c slot)
/-- COH_WR_NC (R200). -/
def execCohWrNc (c slot : Nat) (s : State) := onUnit c 8 s (fun t => t.serveSlot 5 c slot)
/-- COH_WB_I (R200, R202). -/
def execCohWbI (c slot : Nat) (s : State) := onUnit c 8 s (fun t => t.serveSlot 6 c slot)
/-- COH_WB_S (R200, R202). -/
def execCohWbS (c slot : Nat) (s : State) := onUnit c 8 s (fun t => t.serveSlot 7 c slot)
/-- COH_WB_O (R200, R202). -/
def execCohWbO (c slot : Nat) (s : State) := onUnit c 8 s (fun t => t.serveSlot 8 c slot)
/-- COH_EVC (R200). -/
def execCohEvc (c slot : Nat) (s : State) := onUnit c 8 s (fun t => t.serveSlot 9 c slot)
/-- BIRSPI (R201). -/
def execBirspi (p biid btag : Nat) (s : State) := onUnit p 256 s (fun t => t.biRsp p biid btag 1)
/-- BIRSPS (R201). -/
def execBirsps (p biid btag : Nat) (s : State) := onUnit p 256 s (fun t => t.biRsp p biid btag 2)
/-- BIRSPE (R201). -/
def execBirspe (p biid btag : Nat) (s : State) := onUnit p 256 s (fun t => t.biRsp p biid btag 3)

namespace State

/-- The purge of an agent has ended (R229, R230). -/
def endPurge (s : State) (p : Purge) : State :=
  let t := if s.reg Obj.AGT_STATE p.agent = 1 then s.setReg Obj.AGT_STATE p.agent 0
    else if s.reg Obj.AGT_STATE p.agent = 2 then s.setReg Obj.AGT_STATE p.agent 3 else s
  t.raise 0x5006 0x50 1 p.agent (p.agent + (if p.dead then 256 else 0) + min p.poisoned (2 ^ 24 - 1) * 2 ^ 16 +
    min (s.usSince p.at_) (2 ^ 32 - 1) * 2 ^ 40)

/-- What an unbind walk finds of a line. -/
inductive Walked where
  | clear                 -- the partition's host does not hold it
  | sent                  -- a back-invalidate runs
  | later                 -- BUSY, or no tracker is free
  deriving DecidableEq, Repr

/-- The line of a directory entry (R189). -/
def entryLine (set tag : Nat) : Nat :=
  let up := tag % 2 ^ 18 * 6291456 + set
  (up * 8 + (tag / 2 ^ 18 ^^^ (up / 8 % 8) ^^^ (up / 4096 % 8))) * 64

/-- The target of a retiring window that a pool address lies in. -/
def walkLd (k : Walk) (line : Nat) : Nat :=
  (((k.cfg.targets.zip k.bases).find? (fun x => inRanges (k.cfg.ranges [x.2]) line)).map (·.1)).getD k.ld

/-- One line of a retiring window's range that the partition's host holds is sent a back-invalidate, which runs as a transaction of the
walker's own (R136). -/
def walkEntry (s : State) (c set w : Nat) (k : Walk) : Walked × State :=
  let e := s.dirEntry c set w
  let line := entryLine set e.tag
  match (List.range 64).find? (fun a => s.reg Obj.AGT_KIND a == 1 && s.reg Obj.AGT_REF a == k.part) with
  | none => (.clear, s)
  | some a =>
    if e.state ≠ 1 ∧ e.state ≠ 2 ∨ inRanges (k.cfg.ranges k.bases) line = false then (.clear, s)
    else if e.busy then (.later, s)
    else if bit e.sharers a = false then (.clear, s)
    else match s.freeTracker c false with
      | none => (.later, s)
      | some n =>
        let ld := walkLd k line
        let m : Msg := { msgDflt with op := .memRdI, home := line, pool := line, ld := ld, rq := 336, status := k.win }
        let t := s.setTracker c n (some {
          ty := 0, msg := m, line := line, set := set, way := w, agent := 64, await := s.liveVec (2 ^ a),
          snp := 1, vec := e.sharers, own := false, needMem := false, memOut := false, write := false, noData := true, have_ := false,
          poison := false, data := [], wbs := [], lost := false, asPoison := false, at_ := s.clk, orphan := true })
        let t1 := t.writeDir c set w { e with busy := true, trk := n }
        (.sent, t1.snoop c n line ld (s.liveVec (2 ^ a)) 1)

/-- An unbind walk acts on one way; a line that must wait is put on the walk's list. -/
def walkWay (c set : Nat) (a : State × Walk) (w : Nat) : State × Walk :=
  let y := walkEntry a.1 c set w a.2
  (y.2, match y.1 with
    | .clear => a.2
    | .sent => { a.2 with snoops := a.2.snoops + 1 }
    | .later =>
      let x := (c, entryLine set (a.1.dirEntry c set w).tag)
      if a.2.todo.contains x then a.2 else { a.2 with todo := a.2.todo ++ [x] })

/-- An unbind walk's turn at a visit of set `set`: the lines on its list are tried again, then the ways of the set, where it has not been
there yet. -/
def walkTurn (s : State) (c set : Nat) (k : Walk) : State × Walk :=
  let again := k.todo.filter (fun x => x.1 == c)
  let x := again.foldl (fun (a : State × Walk) y =>
    let pl := place (a.1.reg Obj.CAIRN_SLICES 0) y.2
    match a.1.findWay c pl.2.1 pl.2.2 with
    | some w => walkWay c pl.2.1 a w
    | none => a) (s, { k with todo := k.todo.filter (fun x => x.1 != c) })
  if k.left.getD c 0 = 0 then x
  else
    let z := (List.range 16).foldl (walkWay c set) x
    (z.1, { z.2 with left := setAt z.2.left c (z.2.left.getD c 0 - 1) })

/-- A purge job's turn at a visit of a set (R229). -/
def purgeTurn (s : State) (c set : Nat) (p : Purge) : State × Purge :=
  if p.left.getD c 0 = 0 then (s, p)
  else
    let x := (List.range 16).foldl (fun (a : State × Nat) w =>
        let y := a.1.purgeEntry c set w p.agent
        (y.1, a.2 + y.2)) (s, 0)
    (x.1, { p with left := setAt p.left c (p.left.getD c 0 - 1), poisoned := p.poisoned + x.2 })

/-- The walker of a slice visits its next set: every pending walk and purge acts on it (R229). -/
def visitSet (s : State) (c : Nat) : State :=
  let set := s.reg Obj.WALK_POS c
  let r := s.fab.walks.foldl (fun (acc : State × List Walk) k =>
    let x := walkTurn acc.1 c set k
    (x.1, acc.2 ++ [x.2])) (s, [])
  let s1 := { r.1 with fab := { r.1.fab with walks := r.2 } }
  let q := s1.coh.purges.foldl (fun (acc : State × List Purge) p =>
    let x := purgeTurn acc.1 c set p
    (x.1, acc.2 ++ [x.2])) (s1, [])
  let ended := q.2.filter s.purgeOver
  let s2 := { q.1 with coh := { q.1.coh with purges := q.2.filter (fun p => !(s.purgeOver p)) } }
  foldS (fun p (u : State) => u.endPurge p) ended (s2.setReg Obj.WALK_POS c ((set + 1) % 6291456))

/-- WALKER is admitted in a slot of the present cycle that the wheel gives it: a set in the cache is visited, any other is read first;
with every frame pinned nothing is done (R191, R195, R229). -/
def walkerVisit (s : State) (c : Nat) : State :=
  if s.reg Obj.CAIRN_SLICES 0 ≤ c then s
  else match [s.slotBase % 64, (s.slotBase + 1) % 64].findSome? (fun slot => (s.slotOpen c slot).bind (fun a =>
      if s.wheelPick c slot = some .walker then some a else none)) with
    | none => s
    | some a =>
      let u := s.useSlot c a
      let t := { u with coh := { u.coh with walkAt := u.coh.walkAt.set 0 (c, 0) (u.clk + 1) } }
      let set := t.reg Obj.WALK_POS c
      let wait := fun (v : State) => { v with coh := { v.coh with walkWait := v.coh.walkWait.set 0 (c, 0) (set + 1) } }
      if t.coh.reads.contains (c, set) then wait t
      else match t.findFrame c set with
        | some f => ((t.bump64 Obj.DIR_HIT c).touchFrame c set f false).visitSet c
        | none => match t.victimFrame c set with
          | some f => wait (t.readSet c set f)
          | none => t

/-- A set read from HBM arrives: `corrected` ways had a single-bit error, `lost` ways an uncorrectable one (R193);
the requests that waited for it are served in their order of admission, then a lookup, then the walker's visit. -/
def setRead (s : State) (c set : Nat) (corrected lost : List Nat) : State :=
  if !(s.coh.reads.contains (c, set)) then s
  else
    let s1 := { s with coh := { s.coh with reads := s.coh.reads.erase (c, set) } }
    let s2 := s1.bump64 Obj.DIR_ECC_CORR c corrected.length
    let s3 := foldS (fun w (u : State) =>
        ((u.writeDir c set w { dirDflt with state := 3, pcause := 2, tag := 0x1F_FFFF, rank := (u.dirEntry c set w).rank }).bump
          Obj.DIR_ECC_UNCORR c).raise 0x5002 0x50 4 c (set + 2 ^ 24 * w)) (lost.filter (· < 16)) s2
    let s4 := foldS (fun _ (u : State) =>
        match (u.coh.reqs.zipIdx.filter (fun e => e.1.admitted && e.1.slice == c &&
            (place (u.reg Obj.CAIRN_SLICES 0) e.1.msg.home).2.1 == set)) with
        | [] => u
        | x :: r =>
          let e := r.foldl (fun b y => if y.1.readyAt < b.1.readyAt then y else b) x
          let q := { e.1 with admitted := false, readyAt := 0 }
          (u.setReq e.2 q).applyReq e.2 q) (List.range (s3.coh.reqs.filter (·.admitted)).length) s3
    let s5 := match s4.coh.lookup with
      | some a => if (place (s4.reg Obj.CAIRN_SLICES 0) a).1 = c ∧ (place (s4.reg Obj.CAIRN_SLICES 0) a).2.1 = set then s4.endLookup a else s4
      | none => s4
    if s5.coh.walkWait.get 0 (c, 0) = set + 1 then
      ({ s5 with coh := { s5.coh with walkWait := s5.coh.walkWait.set 0 (c, 0) 0 } }).visitSet c
    else s5

/-- The dirty bits of MOVE_DIRTY for channel `ch`. -/
def moveDirty (s : State) (ch : Nat) : Nat := (s.move.bitmap.row ch).length

/-- A write that has reached memory sets the bit of its granule in a range being moved (R238). -/
def markDirty (s : State) (home : Nat) : State :=
  match s.movingAt home with
  | none => s
  | some ch =>
    let g := (home - s.reg Obj.RDR_SRC (s.reg Obj.MOVE_RDR ch)) / 4096
    { s with move := { s.move with bitmap := s.move.bitmap.set false (ch, g) true } }

/-- Memory's answer arrives at port `p` and Cairn consumes it: a stomped one is discarded, since the peer that stomped it follows it with
another (R147, R152). -/
def fromMemory (s : State) (p : Nat) (ch : Chan) (f : State → State) : State :=
  match s.consumeFlit p ch with
  | none => s
  | some (true, u) => u
  | some (false, u) => f u

/-- Memory's data for a read, or for a write its completion, reach tracker `n` (R199); a response that matches no open
access is discarded (R226). A write that has reached memory marks its granule (R238). -/
def memReturn (s : State) (c n : Nat) (write poison : Bool) (data : List Byte) : State :=
  match s.tracker c n with
  | none => s
  | some t =>
    if write then
      match t.wbs with
      | w :: r => s.fromMemory w.egress .memNdr (fun u =>
          (((u.markDirty w.home).setTracker c n (some { t with wbs := r })).respond w false false false []).advanceTrk c n)
      | [] => if t.memOut && t.write then s.fromMemory t.msg.egress .memNdr (fun u =>
          ((u.markDirty t.msg.home).setTracker c n (some { t with memOut := false })).advanceTrk c n) else s
    else if t.memOut && !t.write then s.fromMemory t.msg.egress .memDrs (fun u =>
      (u.setTracker c n (some { t with memOut := false, have_ := true, poison := poison, data := data })).advanceTrk c n)
    else s

/-- Memory's completion for a writeback accepted through an eviction entry (R221). -/
def evictReturn (s : State) (c n : Nat) : State :=
  match s.evictEntry c n with
  | none => s
  | some e => match e.wbs with
    | w :: r => s.fromMemory w.egress .memNdr (fun u =>
        (((u.markDirty w.home).setEvict c n (some { e with wbs := r })).respond w false false false []).advanceEvict c n)
    | [] => s

end State

/-- DIR_SET_READ_DONE (R191, R193). -/
def execDirSetReadDone (c set : Nat) (corrected lost : List Nat) (s : State) :=
  onUnit c 8 s (fun t => t.setRead c set corrected lost)

/-- MEM_READ_DATA_RETURN (R199). -/
def execMemReadDataReturn (c n : Nat) (poison : Bool) (data : List Byte) (s : State) :=
  onUnit c 8 s (fun t => t.memReturn c n false poison data)

/-- MEM_WRITE_COMPLETION (R199, R238). -/
def execMemWriteCompletion (c n : Nat) (s : State) :=
  onUnit c 8 s (fun t => if 2048 ≤ n then t.evictReturn c (n - 2048) else t.memReturn c n true false [])

/-- The line of a timed-out transaction becomes POISONED with PCAUSE 1 (R225). DEDUCED: a line that has no way takes one as a request
that allocates does. -/
def poisonLine (s : State) (c : Nat) (t : Trk) : State :=
  let bad := fun (w : Nat) (u : State) (e : DirEntry) => u.writeDir c t.set w { e with state := 3, pcause := 1, sharers := 0, owner := 0 }
  let fresh := fun (w : Nat) (u : State) =>
    bad w u { u.dirEntry c t.set w with tag := (place (u.reg Obj.CAIRN_SLICES 0) t.line).2.2, busy := false, trk := 0 }
  if t.way < 16 then bad t.way s (s.dirEntry c t.set t.way)
  else match s.room c t.set 64 with
    | .way w => fresh w s
    | .victim w => fresh w (s.evictWay c t.set w)
    | .nak _ => s

/-- The home timeout of a tracker (R225). -/
def timeoutTrk (s : State) (c n : Nat) (t : Trk) : State :=
  let awaited := if t.await ≠ 0 then 0 else if t.write ∨ t.wbs ≠ [] then 2 else 1
  let silent := if t.await ≠ 0 then bitsOf 64 t.await else []
  let s1 := (s.bump Obj.HOME_TIMEOUT_CNT c).raise 0x5004 0x50 3 c
    (t.line % 2 ^ 49 + awaited * 2 ^ 49 + t.ty * 2 ^ 51 + t.msg.ld % 65536 * 2 ^ 55 + silent.length * 2 ^ 71)
  let s2 := poisonLine s1 c t
  let s3 := ((s2.endTrk c n).dropChain t.msg.uid).respond t.msg (t.ty < 5) (t.ty < 5) t.orphan []
  let s4 := foldS (fun (w : Msg) (u : State) => u.respond w false false false []) t.wbs s3
  foldS (fun a (u : State) => u.agentDies a t.line) silent s4

/-- The home timeout of an eviction entry (R225). -/
def timeoutEvict (s : State) (c n : Nat) (e : Evict) : State :=
  let silent := bitsOf 64 e.await
  let s1 := (s.bump Obj.HOME_TIMEOUT_CNT c).raise 0x5004 0x50 3 c
    (e.line % 2 ^ 49 + (if e.await ≠ 0 then 3 else 2) * 2 ^ 49 + e.ld % 65536 * 2 ^ 55 + silent.length * 2 ^ 71)
  let s2 := foldS (fun (w : Msg) (u : State) => u.respond w false false false []) e.wbs
    ((s1.setEvict c n (some { e with await := 0, wbs := [], lost := true })).advanceEvict c n)
  foldS (fun a (u : State) => u.agentDies a e.line) silent s2

/-- HOME_TIMEOUT (R225): `n` below 2 048 is a tracker, above an eviction entry. -/
def execHomeTimeout (c n : Nat) (s : State) :=
  onUnit c 8 s (fun s =>
    let lim := s.reg Obj.DIR_TIMEOUT 0 * 1000
    if n < 2048 then
      match s.tracker c n with
      | some t => if s.after t.at_ lim then timeoutTrk s c n t else s
      | none => s
    else match s.evictEntry c (n - 2048) with
      | some e => if s.after e.at_ lim then timeoutEvict s c (n - 2048) e else s
      | none => s)

/-- RSV_EXPIRED (R218): the holder of register `n` has been ready for RSV_TIMEOUT without being admitted. -/
def execRsvExpired (c n : Nat) (s : State) :=
  onUnit c 8 s (fun s =>
    match s.rsvReg c n with
    | none => s
    | some r =>
      if r.readyAt ≠ 0 ∧ s.after (r.readyAt - 1) (s.reg Obj.RSV_TIMEOUT 0) = true then
        ((s.dropRsv c n).bump Obj.RSV_EXPIRED_CNT c).raise 0x5007 0x50 2 c (r.line % 2 ^ 49 + r.port % 256 * 2 ^ 56)
      else s)

/-- WALKER_SET_VISIT (R229). -/
def execWalkerSetVisit (c : Nat) (s : State) := onUnit c 8 s (fun t => t.walkerVisit c)

end Sys2Proof.Machine

namespace Sys2Proof.Machine.State

/-- A device's BISnp: to the host port of the partition that binds the LD, with BI-ID 8k for its vPPB k; for an LD in the coherence
map, or with no host to take it, it is answered with BIRspI (R206). -/
def deviceSnoop (s : State) (p ld addr snp : Nat) : State :=
  if s.ldInMap ld then
    match s.consumeFlit p .memBisnp with
    | none => s
    | some x => ((x.2.bump Obj.DEV_BI_DROP p).emit (.birspi p ld addr)).raiseLimited 1000000 p 0x5003 0x50 2 p
        (addr % 2 ^ 64 + ld % 65536 * 2 ^ 64)
  else match ((s.ldBinders ld).map (fun v => (v, s.reg Obj.PART_HOST_PORT (v / 64)))).find? (fun x => s.dlUp x.2) with
    | none => ((s.consumeFlit p .memBisnp).map (fun x => x.2.emit (.birspi p ld addr))).getD s
    | some (v, hp) =>
      if !s.dlUp p || !(s.flitHere p 7) then s
      else (s.takeFlit p).injectMsg { msgDflt with
        kind := .snoop, chan := .memBisnp, src := s.reg Obj.LD_FID ld, dst := s.reg Obj.PART_FID (v / 64), ld := ld, dpa := addr
        track := 0x1_FFFF, status := 8 * (v % 64), snp := snp, egress := hp % 256, cls := s.rspClass hp 8, inPort := p, internal := false }

end Sys2Proof.Machine.State

namespace Sys2Proof.Machine

/-- DEVICE_BISNP (R206): a BISnp of LD `ld` from its device port; `snp` 1 Inv, 2 Data, 3 Cur. -/
def execDeviceBisnp (p ld addr snp : Nat) (s : State) := onUnit p 256 s (fun t => t.deviceSnoop p ld addr snp)

/-- DIR_SET_CLEAR: the ways of the set that were taken out of use return to use (R193). -/
def dirSetClear (s : State) (v : Nat) : State :=
  let c := field v 24 3
  let set := field v 0 23
  foldS (fun w (u : State) =>
    let e := u.dirEntry c set w
    if e.state = 3 ∧ e.pcause = 2 then u.freeWay c set w else u) (List.range 16) s

/-- AGT_REVIVE (R230): DEAD becomes LIVE. -/
def agentRevive (s : State) (a : Nat) : State :=
  if s.reg Obj.AGT_STATE a = 3 then s.setReg Obj.AGT_STATE a 0 else s

end Sys2Proof.Machine
end

