-- ==== Sys2Proof/Machine/Flint.lean ====
section
/-!
DEFINITION. Flint (R250 to R264): port slots, regions, LOCK, rights and colour, the tag cache, and the record
of a refusal.
-/

namespace Sys2Proof.Machine

/-- A piece of a request's home range, and what Flint found for it. -/
structure Part where
  lo : Nat
  len : Nat
  region : Nat            -- 1023 none
  cause : Nat             -- 0 allowed
  tag : Nat
  key : Nat
  lock : Bool             -- an allowed access of the debug master to a LOCK region
  deriving DecidableEq, Repr

namespace State

/-- An access-control object under the epoch that a request recorded (R264). -/
def aclReg (s : State) (e o i : Nat) : Nat :=
  if e = s.reg Obj.FL_EPOCH 0 then s.reg o i
  else match s.fab.flOld.get none (o, i) with
    | some v => v
    | none => s.reg o i

/-- Level one: bit RQ of FL_SLOT of the egress port (R251). -/
def slotAllows (s : State) (e p rq : Nat) : Bool := bit (s.aclReg e Obj.FL_SLOT p) rq

/-- Regions enabled under an epoch. -/
def regionsOf (s : State) (e : Nat) : List Nat :=
  ((s.regs.filterMap (fun x => if x.1.1 = Obj.RGN_ATTR then some x.1.2 else none)) ++
   (s.fab.flOld.filterMap (fun x => if x.1.1 = Obj.RGN_ATTR then some x.1.2 else none))).eraseDups.filter
    (fun r => bit (s.aclReg e Obj.RGN_ATTR r) 0)

/-- Region `r` covers byte `a`: the byte lies in one of its enabled sub-regions (R252). -/
def regionCovers (s : State) (e r a : Nat) : Bool :=
  let base := s.aclReg e Obj.RGN_BASE r
  let size := s.aclReg e Obj.RGN_SIZE r
  base ≤ a && a < base + size && !(bit (s.aclReg e Obj.RGN_SUBDIS r) ((a - base) / (size / 8)))

/-- The region that covers a byte; 1 023 none. -/
def regionAt (s : State) (e a : Nat) : Nat :=
  ((s.regionsOf e).find? (fun r => s.regionCovers e r a)).getD 0x3FF

/-- A region or sub-region boundary lies at `a` (R254). -/
def boundaryAt (s : State) (e a : Nat) : Bool :=
  a % 2097152 == 0 || (s.regionsOf e).any (fun r =>
    let base := s.aclReg e Obj.RGN_BASE r
    let size := s.aclReg e Obj.RGN_SIZE r
    base ≤ a && a ≤ base + size && (a - base) % (size / 8) == 0)

/-- The colour tag of a granule (R257, R259); 256 in a lost line, which matches no key (R258). -/
def tagOf (s : State) (g : Nat) : Nat :=
  match s.fab.tagFills.find? (fun f => f.base ≤ g && g < f.base + f.count) with
  | some f => f.value
  | none => 0

/-- The key of a requester under an epoch (R250). -/
def keyOf (s : State) (e rq : Nat) : Nat :=
  if rq < 64 then s.aclReg e Obj.PART_KEY rq else if rq < 320 then s.aclReg e Obj.PORT_KEY (rq - 64)
  else if rq = 336 then s.aclReg e Obj.DBG_KEY 0 else 0

/-- The debug master may pass a LOCK region: PROVISIONED or RMA at INTRUSIVE (R256). -/
def lockOpen (s : State) : Bool :=
  (s.lcState == 1 || s.lcState == 3) && s.reg Obj.DBG_LEVEL 0 == 2

/-- Check one part in the order of R254. -/
def checkPart (s : State) (m : Msg) (lo len : Nat) (rd wr : Bool) : Part :=
  let e := m.eFl
  let r := s.regionAt e lo
  let g := lo / 2097152 % 2 ^ 28
  let tag := s.tagOf g
  let key := s.keyOf e m.rq
  let locked := r != 0x3FF && bit (s.aclReg e Obj.RGN_ATTR r) 1 && m.rq == 336
  let cause :=
    if locked then (if s.lockOpen then 0 else 5)
    else if r != 0x3FF && rd && !(bit (s.aclReg e Obj.RGN_READ r) m.rq) then 2
    else if r != 0x3FF && wr && !(bit (s.aclReg e Obj.RGN_WRITE r) m.rq) then 3
    else if 320 ≤ m.rq && m.rq < 336 then 0
    else if tag = 0 || tag = key then 0 else 4
  { lo := lo, len := len, region := r, cause := cause, tag := tag, key := key, lock := locked && cause == 0 }

/-- The parts of a request's home range (R254). A memory request is at most 4 KiB. -/
def splitParts (s : State) (m : Msg) : List (Nat × Nat) :=
  let b := (m.home / 4096 + 1) * 4096
  if b < m.home + m.bytes ∧ s.boundaryAt m.eFl b = true then [(m.home, b - m.home), (b, m.home + m.bytes - b)]
  else [(m.home, m.bytes)]

/-- The rights a request needs: (read, write) (R254). -/
def rightsOf (ty : Nat) (op : MemOp) : Bool × Bool :=
  if ty = 2 ∨ ty = 3 ∨ op = .atomic then (true, true)
  else if isWrite op then (false, true) else (true, false)

/-- Record a refused part: the count, the event at most once per requester per millisecond with the refusals held
back (R263). -/
def deny (s : State) (m : Msg) (x : Part) (wr : Bool) : State :=
  let s1 := (s.bump Obj.FL_DENY_CNT m.rq).count
    { code := 0x6002, port := if m.internal then 65535 else m.inPort, aux := x.cause, part := m.part, cls := m.cls, hpa := m.hpa, pool := x.lo }
  let last := s1.dict.limited.get 0 (0x6001, m.rq)
  let heldBack := s1.fab.denyHeld.get 0 (m.rq, 0)
  if last = 0 ∨ s1.after (last - 1) 1000000 = true then
    ({ s1 with dict := { s1.dict with limited := s1.dict.limited.set 0 (0x6001, m.rq) (s1.clk + 1) }
               fab := { s1.fab with denyHeld := s1.fab.denyHeld.set 0 (m.rq, 0) 0 } }).raise 0x6001 0x60 3 0xFFFF
      (x.lo % 2 ^ 49 + m.rq * 2 ^ 49 + x.cause * 2 ^ 58 + (if wr then 2 ^ 62 else 0) + x.region * 2 ^ 63 + x.tag % 256 * 2 ^ 73 +
       x.key * 2 ^ 81 + min heldBack 127 * 2 ^ 89)
  else ({ s1 with fab := { s1.fab with denyHeld := s1.fab.denyHeld.set 0 (m.rq, 0) (heldBack + 1) } }).setCause 0x6001 0x60 0xFFFF

/-- Record an allowed access of the debug master to a LOCK region (R256). -/
def logLock (s : State) (x : Part) (wr : Bool) : State :=
  (s.bump Obj.FL_LOCK_LOG_CNT 0).raise 0x6002 0x60 2 0xFFFF
    (x.lo % 2 ^ 49 + (if wr then 2 ^ 49 else 0) + x.region * 2 ^ 50 + x.len % 65536 * 2 ^ 60)

/-- The tag lines that a request's granules lie in. -/
def tagLines (m : Msg) : List Nat :=
  let a := m.home / 134217728
  let b := (m.home + m.bytes - 1) / 134217728
  if a = b then [a] else [a, b]

/-- A tag line is cached (R258). -/
def tagCached (s : State) (line : Nat) : Bool :=
  (List.range 4).any (fun w => s.fab.tagCache.get 0 (line % 4096, w) == line + 1)

/-- Put a line in the tag cache: a free way of its set, else one that the spec leaves open. -/
def cacheTag (s : State) (line : Nat) : State :=
  if s.tagCached line then s
  else
    let st := line % 4096
    match (List.range 4).find? (fun w => s.fab.tagCache.get 0 (st, w) == 0) with
    | some w => { s with fab := { s.fab with tagCache := s.fab.tagCache.set 0 (st, w) (line + 1) } }
    | none => { s.nextFree with fab := { s.fab with tagCache := s.fab.tagCache.set 0 (st, s.freeVal % 4) (line + 1) } }

/-- The part of FL_TAG_PROBE_RESULT for a pool address (R258). -/
def tagProbe (s : State) (pool : Nat) : Nat :=
  s.tagOf (pool / 2097152 % 2 ^ 28)

/-- Fill a range of granules: every tag of the range changes (R259). -/
def tagFill (s : State) (base count value : Nat) : State :=
  { s with fab := { s.fab with tagFills := { base := base, count := count, value := value } :: s.fab.tagFills } }

end State

end Sys2Proof.Machine
end

