-- ==== Sys2Proof/Machine/Ingress.lean ====
section
/-!
DEFINITION. The ingress side of the data path (R11, R114 to R132, R147 to R157, R198): stages 1 to 3 of a
message, its cells, its tracking entry, the holds, and completions that return.
-/

namespace Sys2Proof.Machine

/-- The home of a request that has no pool address, beyond the pool's 2^49 bytes: a CXL.io request to a device's or a host's own
memory space (R11, R121). -/
abbrev noPool : Nat := 2 ^ 49

/-- Where stage 2 sends a message, or how it answers it at once: a cause of a synthesized completion. -/
inductive Routed where
  | to (m : Msg)
  | answer (cause : Nat) (m : Msg)
  deriving DecidableEq, Repr

namespace State

/-! ### Stage 2: decode and route (R114, R128, R232) -/

/-- A CXL.cache channel. -/
def cacheChan : Chan → Bool
  | .cacheD2HReq => true | .cacheH2DReq => true | .cacheRsp => true
  | _ => false

/-- Look up the route table for a destination ID (R114, R115, R117). 0xFFFF is never a source or destination (R110); CXL.cache is not
carried on a Drudar port (R92). -/
def lookupRoute (s : State) (m : Msg) : Routed :=
  let e := s.reg Obj.ROUTE_ENTRY m.dst
  let at_ := fun (p : Nat) (b : Nat) =>
    if p = m.inPort ∧ m.internal = false then Routed.answer 1 m
    else if !s.dlUp p then Routed.answer 2 { m with egress := p, bucket := b }
    else if s.drudar p && cacheChan m.chan then Routed.answer 7 { m with egress := p, bucket := b }
    else Routed.to { m with egress := p, bucket := b }
  if m.src = 0xFFFF ∨ m.dst = 0xFFFF then .answer 1 m
  else if s.reg Obj.FID_BASE 0 ≤ m.dst ∧ m.dst < s.reg Obj.FID_BASE 0 + 32 then .answer 7 m
  else match field e 10 2 with
    | 1 => at_ (field e 0 8) 65536
    | 2 =>
      let g := field e 0 10
      let b := bucketOf m.src m.dst
      (match s.bucketPort g b with
       | some p => at_ p (64 * g + b)
       | none => .answer 2 m)
    | _ => .answer 1 m

/-- Route a memory request by its home address: through an active redirect, to the LD that answers for it (R128, R232). -/
def routeHome (s : State) (m : Msg) (ld dpa : Nat) : Routed :=
  let dest := s.redirect m.home
  if dest = m.home then s.lookupRoute { m with pool := m.home, ld := ld, dpa := dpa, dst := s.reg Obj.LD_FID ld }
  else match s.ldSpan dest with
    | some l => s.lookupRoute { m with pool := dest, ld := l, dpa := dest - s.reg Obj.LD_POOL_BASE l, dst := s.reg Obj.LD_FID l }
    | none => .answer 7 m

/-- The channel whose writes may reach a redirect's destination directly (R234). -/
def ownsDest (m : Msg) : Bool := 320 ≤ m.rq && m.rq < 336

/-- A writeback, which a retiring window still decodes (R136). -/
def returning (op : MemOp) : Bool :=
  match op with
  | .memWrI => true | .memWrS => true | .memWrA => true
  | _ => false

/-- The window of partition `n` that decodes an address: an enabled one, or for a writeback a retiring one (R128, R136). -/
def findWindow (s : State) (n a : Nat) (op : MemOp) : Option (Nat × WinCfg) :=
  match (s.windows.map (fun w => (w, s.winCfg w))).find? (fun x => x.2.part == n && x.2.contains a) with
  | some x => some x
  | none =>
    if returning op then
      (s.fab.walks.find? (fun k => k.cfg.part == n && k.cfg.contains a)).map (fun k => (k.win, k.cfg))
    else none

/-- A CXL.mem channel. -/
def memChan : Chan → Bool
  | .memReq => true | .memRwD => true
  | _ => false

/-- A CXL.io memory request goes to the bound vPPB whose programmed memory window contains it (R121); a vPPB window is
held as base / 1 MiB in [31:0] and limit / 1 MiB in [63:32]. -/
def ioTarget (s : State) (n a : Nat) : Option Nat :=
  (List.range 64).findSome? (fun k =>
    let w := s.fab.vppbBus.get 0 (64 * n + k, 1)
    if s.reg Obj.VPPB_STATE (64 * n + k) = 2 ∧ w ≠ 0 ∧ w % 2 ^ 32 ≤ a / 1048576 ∧ a / 1048576 ≤ w / 2 ^ 32
    then some (s.reg Obj.VPPB_LD (64 * n + k)) else none)

/-- A request routed by ID goes to the bound vPPB whose programmed bus numbers contain its bus (R121). PRESUMED: the register is that
of a PCI bridge, with the secondary bus in [15:8] and the subordinate in [23:16]. -/
def busTarget (s : State) (n bus : Nat) : Option Nat :=
  (List.range 64).findSome? (fun k =>
    let r := s.fab.vppbBus.get 0 (64 * n + k, 0)
    if s.reg Obj.VPPB_STATE (64 * n + k) = 2 ∧ field r 8 8 ≠ 0 ∧ field r 8 8 ≤ bus ∧ bus ≤ field r 16 8
    then some (s.reg Obj.VPPB_LD (64 * n + k)) else none)

/-- The bound LD behind a partition's Type 2 device, which the host's CXL.cache requests reach. -/
def cacheTarget (s : State) (n : Nat) : Option Nat :=
  (List.range 64).findSome? (fun k =>
    let ld := s.reg Obj.VPPB_LD (64 * n + k)
    if s.reg Obj.VPPB_STATE (64 * n + k) = 2 ∧ s.ldLocal ld = true ∧ s.cacheDevice (s.reg Obj.LD_PORT ld) = true then some ld else none)

/-- The target of a host's request that no HDM window decodes (R121). -/
def hostTarget (s : State) (n : Nat) (a : MsgIn) : Option Nat :=
  if a.chan = .cacheH2DReq then s.cacheTarget n
  else match a.op with
    | .ioConfig => s.busTarget n (a.addr / 256 % 256)
    | .ioMessage => s.busTarget n (a.addr / 256 % 256)
    | _ => s.ioTarget n a.addr

/-- The LD that a fabric ID names. -/
def ldOfFid (s : State) (fid : Nat) : Option Nat := s.ldsKnown.find? (fun ld => s.reg Obj.LD_FID ld == fid)

/-- Peer-to-peer between Type 1 or Type 2 devices of different partitions (R2): by the partition that the request names, or by the
device that its fabric ID names. -/
def peerRefused (s : State) (m : Msg) (a : MsgIn) : Bool :=
  let own := s.devParts m.inPort
  s.cacheDevice m.inPort &&
  ((a.p2pPart < 64 && !(own.contains a.p2pPart)) ||
   (a.byFid && (match s.ldOfFid m.dst with
     | some ld =>
       let other := (s.ldHolders ld).map (· / 64)
       s.ldLocal ld && s.cacheDevice (s.reg Obj.LD_PORT ld) && !other.isEmpty && other.all (fun n => !(own.contains n))
     | none => false)))

/-- Stage 2 of a message: HDM decode or fabric ID, redirect, route (R114, R128, R129, R234). -/
def stage2 (s : State) (m0 : Msg) (a : MsgIn) : Routed :=
  let m := { m0 with eRoute := s.reg Obj.ROUTE_EPOCH 0, eBind := s.reg Obj.BIND_EPOCH 0, eFl := s.reg Obj.FL_EPOCH 0 }
  if s.peerRefused m a || (s.drudar m.inPort && cacheChan a.chan) then .answer 7 m
  else if a.byFid then
    -- a fabric ID names an LD, whose pool address is LD_POOL_BASE plus the device address (R187)
    match s.ldOfFid m.dst with
    | some ld =>
      let home := s.reg Obj.LD_POOL_BASE ld + a.addr
      let m1 := { m with home := home, pool := home, ld := ld, dpa := a.addr }
      if s.inRdrDest home ∧ ownsDest m1 = false then .answer 6 m1 else s.routeHome m1 ld a.addr
    | none => s.lookupRoute { m with home := noPool, pool := noPool, dpa := a.addr }
  else if memChan a.chan then
    match s.findWindow m.part a.addr a.op with
    | none => .answer 6 { m with home := noPool, pool := noPool }
    | some (w, cfg) =>
      let d := cfg.decode a.addr
      let home := s.reg Obj.LD_POOL_BASE d.1 + d.2
      let m1 := { m with home := home, pool := home, ld := d.1, dpa := d.2, win := w }
      if s.inRdrDest home ∧ ownsDest m1 = false then .answer 6 m1 else s.routeHome m1 d.1 d.2
  else if m.part < 64 then
    match s.hostTarget m.part a with
    | some ld => s.lookupRoute { m with ld := ld, dpa := a.addr, home := noPool, pool := noPool, dst := s.reg Obj.LD_FID ld }
    | none => .answer 7 m
  else
    -- DESIGN CHOICE: a device's request without a fabric ID goes to the host port of the partition that binds the first LD of its port
    match (s.devParts m.inPort).head? with
    | some n => s.lookupRoute { m with dst := s.reg Obj.PART_FID n, home := noPool, pool := noPool, dpa := a.addr }
    | none => .answer 7 m

/-! ### Classification (R188, R198) -/

/-- The coherent request type of an operation from a caching agent or another requester (R188, R198). -/
def cohType (caching : Bool) (op : MemOp) : Nat :=
  if caching then match op with
    | .memRdS => 1 | .memRdData => 1 | .memRdA => 2 | .memRdNoOp => 2 | .memInvA => 3 | .memRdI => 4
    | .memWrPtl => 5 | .memWrI => 6 | .memWrS => 7 | .memWrA => 8 | .clnEvct => 9
    | .dru c => if 1 ≤ c ∧ c ≤ 9 then c else 4
    | o => if isWrite o then 5 else 4
  else match op with
    | .dru c => if c = 5 ∨ c = 6 ∨ c = 7 ∨ c = 8 then 5 else 4
    | o => if isWrite o then 5 else 4

/-- The coherent type of a message (R198). -/
def msgType (s : State) (m : Msg) : Nat := cohType (s.agentOfMsg m < 64) m.op

/-- Flint checks memory requests only (R250). -/
def flintChecks (m : Msg) : Bool :=
  match m.op with
  | .ioConfig => false | .ioMessage => false | .d2h _ => false
  | _ => true

/-- Level two names pool address space (R11): a request without a pool address has nothing for it to check. -/
def levelTwo (m : Msg) : Bool := flintChecks m && m.home < noPool

/-! ### Settling a message that goes no further -/

/-- Answer a message with a completion of a cause, and free its cells (R115, R129, R158, R261). A non-posted request of a port holds a
tracking entry until its completion leaves (R12), and waits for one if none is free. -/
def answer (s : State) (cause : Nat) (m : Msg) : State :=
  let free := fun (t : State) => (t.dropChain m.uid).discardRest m.uid
  if m.trk = false ∧ m.track < 65536 then (free s).synthRtt m.track cause
  else if m.kind ≠ .request ∨ m.internal = true then (free s).addSynth cause m
  else if s.mayTrack m then
    let r := s.takeRtt m
    (free r.2).synthRtt r.1.track cause
  else s.waitRtt { m with ans := cause }

/-- A decode miss (R129); one of an address in a redirect's destination is counted in MOVE_DST_REFUSED (R234). -/
def decodeMiss (s : State) (m : Msg) : State :=
  let t := if s.inRdrDest m.home then s.bump Obj.MOVE_DST_REFUSED 0 else s
  (if m.internal then t
   else (t.bump Obj.DECODE_MISS_CNT m.inPort).raiseLimited 1000000 m.inPort 0x3105 0x31 3 m.inPort
     (m.hpa % 2 ^ 64 + m.part % 256 * 2 ^ 64)).answer 6 m

/-- A route miss (R115). -/
def routeMiss (s : State) (m : Msg) : State :=
  (if m.internal then s
   else (s.bump Obj.ROUTE_MISS_CNT m.inPort).raiseLimited 1000000 m.inPort 0x3106 0x31 3 m.inPort
     (m.dst % 65536 + m.src % 65536 * 2 ^ 16 + m.inPort % 256 * 2 ^ 32)).answer 1 m

/-! ### Stage 3 and beyond -/

/-- A checked message goes to Cairn where its home address is shared-coherent, else to the switching core (R12). -/
def forward (s : State) (m : Msg) : State :=
  if m.coherent then
    ({ s with coh := { s.coh with reqs := s.coh.reqs ++ [{
        slice := (place (s.reg Obj.CAIRN_SLICES 0) m.home).1, ty := s.msgType m, msg := m, cause := 0, wait := 4095
        ncnt := if s.drudar m.inPort && !m.internal then m.rcnt % 16 else 0
        readyAt := 0, entry := 511, rsv := 64, since := if m.internal then s.clk else m.born, admitted := false }] } } : State).noteHoldFull
      (rttPort m)
  else s.releaseMsg m

/-- A request trimmed of its first `lo` and its last `hi` bytes, which Flint refuses (R261). -/
def trim (m : Msg) (lo hi : Nat) : Msg :=
  let n := m.bytes - lo - hi
  { m with skipLo := lo, skipHi := hi, home := m.home + lo, pool := m.pool + lo, dpa := m.dpa + lo, hpa := m.hpa + lo, bytes := n
           data := (m.data.drop lo).take (m.data.length - lo - hi)
           len := if m.internal && isWrite m.op then max 1 (ceilDiv n 256) else m.len }

/-- A trimmed request goes on; its tracking entry keeps the request as it came, with the bytes that its completion fills (R261). -/
def forwardTrimmed (s : State) (m : Msg) (lo hi : Nat) : State :=
  let t := match (if m.trk then none else s.rtt m.track) with
    | some x => s.setRtt m.track (some { x with msg := { x.msg with skipLo := lo, skipHi := hi } })
    | none => s
  t.forward (trim m lo hi)

/-- Level two (R254, R261): every part refused answers the message, one refused part of two trims it. -/
def stage3 (s : State) (m : Msg) : State :=
  let ty := s.msgType m
  let r := rightsOf (if m.coherent then ty else 0) m.op
  let exempt := !(levelTwo m) || (m.coherent && 6 ≤ ty)
  if exempt then s.forward m
  else
    let s0 := s.count { code := 0x6001, port := if m.internal then 65535 else m.inPort, aux := 255, part := m.part, cls := m.cls,
                        hpa := m.hpa, pool := m.home }
    let ps := (s0.splitParts m).map (fun x => s0.checkPart m x.1 x.2 r.1 r.2)
    let s1 := foldS (fun x (u : State) => if x.cause ≠ 0 then u.deny m x (isWrite m.op) else if x.lock then u.logLock x r.2 else u) ps s0
    if ps.all (fun x => x.cause != 0) then s1.answer 5 m
    else match ps with
      | [a, b] => if a.cause ≠ 0 then s1.forwardTrimmed m a.len 0 else if b.cause ≠ 0 then s1.forwardTrimmed m 0 b.len else s1.forward m
      | _ => s1.forward m

/-- Level one, then level two, waiting for a tag line or behind the port's waiting check (R251, R255, R258). -/
def flint (s : State) (m : Msg) : State :=
  if flintChecks m && !(m.coherent && 6 ≤ s.msgType m) && !(s.slotAllows m.eFl m.egress m.rq) then
    let x : Part := { lo := m.home, len := m.bytes, region := 0x3FF, cause := 1, tag := s.tagOf (m.home / 2097152 % 2 ^ 28) % 256,
                      key := s.keyOf m.eFl m.rq, lock := false }
    (s.deny m x (isWrite m.op)).answer 5 m
  else
    let needs := levelTwo m && !(m.coherent && 6 ≤ s.msgType m) && !(320 ≤ m.rq && m.rq < 336)
    let missing := if needs then (tagLines m).filter (fun l => !(s.tagCached l)) else []
    let s0 := if needs then (s.bump64 Obj.FL_TAG_HIT 0 ((tagLines m).length - missing.length)).bump64 Obj.FL_TAG_MISS 0 missing.length else s
    let s1 := if missing.isEmpty then s0 else s0.count
      { code := 0x6003, port := if m.internal then 65535 else m.inPort, aux := 255, part := m.part, cls := m.cls, hpa := m.hpa, pool := m.home }
    let behind := s.fab.tagWait.any (fun w => w.port == m.inPort && w.msg.internal == m.internal && (flintChecks m || samePair w.msg m))
    match missing with
    | l :: _ => { s1 with fab := { s1.fab with tagWait := s1.fab.tagWait ++ [{ port := m.inPort, line := l, at_ := s.clk, msg := m }] } }
    | [] =>
      if behind then
        { s1 with fab := { s1.fab with tagWait := s1.fab.tagWait ++ [{ port := m.inPort, line := 4194304, at_ := s.clk, msg := m }] } }
      else s1.stage3 m

/-- A request that takes no tracking entry: a posted one, or one that goes to Cairn (R12). -/
def untracked (m : Msg) : Bool := m.coherent || m.kind == .posted

/-- Track a routed request: a non-posted request that does not go to Cairn takes a request tracking entry, or waits for one in arrival
order (R12, R155, R156); any other waits only behind one of its pair (R120). -/
def track (s : State) (m : Msg) : State :=
  if untracked m then
    if (s.rttWaiters (rttPort m)).any (samePair m) then s.waitRtt m else s.flint m
  else if s.mayTrack m then
    let r := s.takeRtt m
    r.2.flint r.1
  else s.waitRtt m

/-- A move's freeze holds this request (R240). -/
def frozen (s : State) (m : Msg) : Bool :=
  match s.movingAt m.home with
  | none => false
  | some c => s.reg Obj.MOVE_PHASE c == 4 && levelTwo m &&
      (let ty := s.msgType m
       if m.coherent then ty == 2 || ty == 3 || ty == 5 else isWrite m.op)

/-- A moved destination or bucket still holds requests: old messages remain, or ROUTE_MOVE_HOLD has not passed since the
last left (R132). -/
def movedActive (s : State) (k : Key) : Bool :=
  match s.fab.moved.get none k with
  | some x => x.drained == 0 || !(s.after (x.drained - 1) (s.reg Obj.ROUTE_MOVE_HOLD 0))
  | none => false

/-- A moved destination sent this request's pair through the port that it takes now. -/
def samePort (s : State) (m : Msg) : Bool :=
  match s.fab.moved.get none (0, m.dst) with
  | some x => x.ports.getD (if x.ports.length = 64 then bucketOf m.src m.dst else 0) 0xFFFF == m.egress
  | none => false

/-- A swap or rebalance holds this request: its destination entry or its bucket names a different port than before (R132). -/
def moveHeld (s : State) (m : Msg) : Bool :=
  (s.movedActive (0, m.dst) && !(s.samePort m)) || (m.bucket < 65536 && s.movedActive (1, m.bucket)) ||
  (s.fab.hold.row (rttPort m)).any (fun e => match e.2 with
    | some h => h.why == .route && h.msg.dst == m.dst
    | none => false)

/-- Put a message in the hold buffer of its port; an internal requester's waits at its source, in row 0xFFFF. Without a free entry it
waits in its ingress cell as an entry beyond the buffer (R132, R212, R240). -/
def holdMsg (s : State) (m : Msg) (why : HoldWhy) : State :=
  let p := rttPort m
  let k := (if m.internal then none else s.freeHold p 0 256).getD ((s.freeHold p 512 65536).getD 512)
  let h : Held := { why := why, msg := m, cause := 7, slice := 0, since := if m.internal then s.clk else m.born, retryAt := 0, retries := 0 }
  (s.setHeld p k (some h)).noteHoldFull p

/-- What follows stage 2 for a routed message. -/
def routed (s : State) (m : Msg) : State :=
  let m1 := { m with coherent := levelTwo m && m.ld < 4096 && s.coherentAt m.home }
  if s.frozen m1 then s.holdMsg m1 .freeze
  else if s.moveHeld m1 then s.holdMsg m1 .route
  else s.track m1

/-- Stage 2's answer, or the way on. -/
def afterStage2 (s : State) (r : Routed) : State :=
  match r with
  | .to m => s.routed m
  | .answer 1 m => s.routeMiss m
  | .answer 6 m => s.decodeMiss m
  | .answer c m => s.answer c m

/-- A held message is routed again by the tables now in force (R132, R242). -/
def reroute (s : State) (m : Msg) : State :=
  let m1 := { m with eRoute := s.reg Obj.ROUTE_EPOCH 0, eBind := s.reg Obj.BIND_EPOCH 0, eFl := s.reg Obj.FL_EPOCH 0 }
  match (if m.home < noPool then s.routeHome m1 m.ld (m.home - s.reg Obj.LD_POOL_BASE m.ld) else s.lookupRoute m1) with
  | .to x => s.track x
  | .answer 1 x => s.routeMiss x
  | .answer 6 x => s.decodeMiss x
  | .answer c x => s.answer c x

/-! ### Arrival -/

/-- A CXL-mode port that routes by port ID (R122). -/
def pbrPort (s : State) (p : Nat) : Bool := s.reg Obj.PORT_ROLE p == 2 && !(s.drudar p)

/-- A fabric ID as it arrives on a port: a 12-bit port ID counts from PBR_FID_BASE (R122). -/
def fidIn (s : State) (p fid : Nat) : Nat := if s.pbrPort p then s.reg Obj.PBR_FID_BASE 0 + fid % 4096 else fid

/-- A fabric ID as a port sends it (R122). -/
def fidOut (s : State) (p fid : Nat) : Nat := if s.pbrPort p then fid % 4096 else fid

/-- The message that a first flit starts at port `p`. -/
def parse (s : State) (p : Nat) (a : MsgIn) : Msg :=
  let rq := s.requester p
  let part := match s.hostPart p with
    | some n => n
    | none => 255
  let c := s.classOf p a.chan a.cls
  { msgDflt with
    uid := s.fab.uid
    kind := if a.chan = .ioPosted then .posted else .request
    chan := a.chan, op := a.op
    src := if part < 64 then s.reg Obj.PART_FID part else s.fidIn p a.srcFid
    dst := s.fidIn p a.dstFid, rq := rq, part := part
    hpa := a.addr, tag := a.tag, bytes := a.bytes, len := max 1 (min a.len 17), cls := c, inPort := p, internal := false
    poison := a.poison, stomp := a.stomp, whole := a.whole, rcnt := a.rcnt, born := s.clk, data := a.data }

/-- Under skid-mode IDE a message with cells forwarded before their MAC frame checks is noted (R108). -/
def noteSkid (s : State) (m : Msg) : State :=
  if s.drudar m.inPort = true ∧ m.internal = false ∧ s.reg Obj.DRU_IDE_MODE m.inPort = 1 then
    s.modDru m.inPort (fun d => { d with skid := if d.skid.contains m.uid then d.skid else d.skid ++ [m.uid] })
  else s

/-- Write the first cell of a message, charged to the reserve of its port and class (R147). -/
def firstCell (s : State) (m : Msg) : State :=
  let x := s.newCell (s.cellOf m (m.len == 1) 0) noCell
  let t := x.2.count { code := 0x3001, port := m.inPort, aux := m.cls, part := m.part, cls := m.cls, hpa := m.hpa, pool := m.home }
  { t with fab := { t.fab with
      uid := t.fab.uid + 1
      chains := t.fab.chains.set none (m.uid, 0) (some { first := x.1, lastCell := x.1, got := 1, complete := m.len == 1 })
      inMsgs := if m.len = 1 then t.fab.inMsgs
                else t.fab.inMsgs.set none (m.inPort, m.cls) (some { uid := m.uid, msg := m, got := 1, lastAt := t.clk, discard := false }) } }

/-- Count and raise a stomp (R152, R164): STOMP_CNT and the event are those of the egress port; a message that none has been found for
is counted nowhere. -/
def noteStomp (s : State) (ep : Option Nat) (m : Msg) (cause : Nat) : State :=
  match ep with
  | some q => ((s.bump Obj.STOMP_CNT q).count
      { code := 0x3005, port := q, aux := m.cls, part := m.part, cls := m.cls, hpa := m.hpa, pool := m.home }).raiseLimited
      1000000 q 0x3005 0x30 2 q (cause + m.inPort % 256 * 256)
  | none => s.raiseLimited 1000000 0xFFFF 0x3005 0x30 2 0xFFFF (cause + m.inPort % 256 * 256)

/-- The queue, position and descriptor of message `uid`. -/
def findDesc (s : State) (uid : Nat) : Option (Nat × Desc) :=
  s.fab.descs.findSome? (fun e => match e.2 with
    | some d => if d.msg.uid = uid ∧ d.mcast = false then some (e.1.1, d) else none
    | none => none)

/-- Free a descriptor and take it off its queue. -/
def dropDesc (s : State) (d : Nat) (x : Desc) : State :=
  ((s.setQueue x.msg.egress x.msg.cls ((s.queue x.msg.egress x.msg.cls).filter (· != d))).setDesc d none).noteMoved

/-- Take message `uid` out of every place where a request waits. -/
def forget (s : State) (uid : Nat) : State :=
  { s with
    coh := { s.coh with reqs := s.coh.reqs.filter (fun r => r.msg.uid != uid || r.msg.internal) }
    fab := { s.fab with
      hold := s.fab.hold.filter (fun e => match e.2 with
        | some h => h.msg.uid != uid || h.msg.internal
        | none => true)
      tagWait := s.fab.tagWait.filter (fun w => w.msg.uid != uid || w.msg.internal)
      rttWait := s.fab.rttWait.filterMap (fun e =>
        let l := e.2.filter (fun m => m.uid != uid)
        if l.isEmpty then none else some (e.1, l)) } }

/-- A coherent request's access to memory, or an accepted writeback, is stomped on its way (R152): its requester receives a completion
with cause STOMP; the transaction ends, its line stays as it is. -/
def stompTrk (s : State) (m : Msg) : State :=
  let gone := fun (l : List Msg) => l.filter (fun w => w.uid != m.uid)
  let mine := fun (l : List Msg) => l.any (fun w => w.uid == m.uid)
  match s.coh.trk.findSome? (fun e => e.2.bind (fun t => if t.msg.uid = m.uid ∨ mine t.wbs = true then some (e.1, t) else none)) with
  | some (k, t) =>
    if mine t.wbs then ((s.setTracker k.1 k.2 (some { t with wbs := gone t.wbs })).addSynth 4 m).advanceTrk k.1 k.2
    else
      let u := s.endTrk k.1 k.2
      if t.orphan then u else u.addSynth 4 m
  | none => match s.coh.evict.findSome? (fun e => e.2.bind (fun t => if mine t.wbs then some (e.1, t) else none)) with
    | some (k, t) => ((s.setEvict k.1 k.2 (some { t with wbs := gone t.wbs })).addSynth 4 m).advanceEvict k.1 k.2
    | none => s.addSynth 4 m

/-- Settle the tracking entry of a stomped message (R152): cause 5 is a peer's stomp, whose request gets no completion. -/
def settleStomp (s : State) (m : Msg) (cause : Nat) : State :=
  let rtt := m.trk = false ∧ m.track < 65536
  match m.kind with
  | .request =>
    if m.trk then s.stompTrk m
    else if cause = 5 then (if rtt then s.freeRtt m.track else s)
    else s.answer 4 m
  | .completion =>
    if rtt then
      match s.rtt m.track with
      | some x => (s.setRtt m.track (some { x with claimed := false })).synthRtt m.track 4
      | none => s
    else s.addSynth 4 { m with kind := .request, internal := false, trk := false, track := 0x1_FFFF }
  | _ => s

/-- A descriptor whose started message ends here: with the last cell it holds, marked, or once all have left with a flit of its own (R151).
A completion leaves its tracking entry to the synthesized one that follows it (R152). -/
def cutDesc (s : State) (d : Nat) (x : Desc) : State :=
  let y := { x with complete := true, msg := if x.msg.kind = MsgKind.completion then { x.msg with track := 0x1_FFFF } else x.msg }
  match (if x.sent < x.got then s.cell x.lastCell else none) with
  | some c => (s.setCell x.lastCell (some { c with stomp := true, last := true })).setDesc d (some { y with len := x.got })
  | none => s.setDesc d (some { y with ended := true })

/-- Stomp message `m` (R150, R151): one that has not started is freed; one that has started ends at its egress port. `cause` is that of
MSG_STOMPED. -/
def stompMsg (s : State) (m : Msg) (cause : Nat) : State :=
  let found := s.findDesc m.uid
  let x1 := match found with
    | some (_, x) => x.msg
    | none => m
  let s1 := match found with
    | some (d, x) =>
      if x.started then s.cutDesc d x
      else (foldS (fun i (u : State) => u.freeCell i) (s.chainCells 17 x.first) s).dropDesc d x
    | none => (s.dropChain m.uid).forget m.uid
  let s2 := (s1.discardRest m.uid).settleStomp x1 cause
  ((if m.internal then s2 else (s2.settleCredits m.inPort).noteHoldFull m.inPort)).noteStomp (some (m.egress % 256)) m cause

/-- The message as its latest record has it: its descriptor's, or what arrived. -/
def latest (s : State) (i : InMsg) : Msg :=
  match s.findDesc i.uid with
  | some (_, x) => x.msg
  | none => match (s.openMsgs.find? (fun m => m.uid == i.uid && !m.internal)) with
    | some m => m
    | none => i.msg

/-- A message still in progress at (p, c) when the next one of its class begins disagrees with its LEN (R150). -/
def cutShort (s : State) (p c : Nat) : State :=
  match s.inMsg p c with
  | none => s
  | some i => (if i.discard then s else s.stompMsg (s.latest i) 2).setInMsg p c none

/-- A message's first flit: it is parsed, its cell written, and stages 2 and 3 pass it on or answer it (R11). On a Drudar port the flit
is that of the oldest accepted DATA frame, with its STOMP (R100). A request that comes stomped from a Drudar peer frees what it held
and receives no completion (R152). -/
def ingress (s : State) (p : Nat) (a : MsgIn) : State :=
  if !s.dlUp p || !(s.flitHere p a.cls) then s
  else
    let stomped := if s.drudar p then (s.nextFlit p).any (·.stomp) else a.stomp
    let u := (s.takeFlit p).cutShort p (s.classOf p a.chan a.cls)
    let m := u.parse p a
    let t := (u.firstCell m).noteSkid m
    let r := t.stage2 m a
    if stomped then ((t.dropChain m.uid).discardRest m.uid).noteStomp (match r with
      | .to x => some x.egress
      | .answer _ _ => none) m 5
    else t.afterStage2 r

/-- A later cell of the message in progress at (p, c) (R143, R147, R150): it joins its chain; a stomp mark, or a count that
disagrees with LEN, stomps the message. A cell of a message that has been given up is discarded, and its credit returned. -/
def cellIn (s0 : State) (p c : Nat) (last mark : Bool) : State :=
  match s0.inMsg p c with
  | none => s0
  | some i =>
    if !s0.dlUp p || !(s0.flitHere p c) then s0
    else
    let stomp := if s0.drudar p then (s0.nextFlit p).any (·.stomp) else mark
    let s := s0.takeFlit p
    if i.discard then (if last then s.setInMsg p c none else s).returnCredit p (s.creditUnit i.msg)
    else
      let m := s.latest i
      let n := i.got + 1
      let done := last || n == m.len
      let cell := s.cellOf i.msg last i.got
      let s1 := match s.fab.chains.get none (i.uid, 0) with
        | some ch =>
          let x := s.newCell cell ch.lastCell
          let v := x.2.fab.chains.set none (i.uid, 0) (some { ch with lastCell := x.1, got := n, complete := last })
          { x.2 with fab := { x.2.fab with chains := v } }
        | none => match s.findDesc i.uid with
          | some (d, x) =>
            -- after an underrun the chain begins again with this cell (R144)
            let y := s.newCell { cell with queue := 8 * x.msg.egress + x.msg.cls } (if x.first = noCell then noCell else x.lastCell)
            (y.2.setDesc d (some { x with
              first := if x.first = noCell then y.1 else x.first, lastCell := y.1, got := n, complete := last })).tryShare y.1
          | none => s
      let s2 := s1.count { code := 0x3001, port := p, aux := c, part := m.part, cls := c, hpa := m.hpa, pool := m.home }
      let s3 := (s2.noteSkid m).setInMsg p c (if done then none else some { i with got := n, lastAt := s.clk })
      if stomp then (s3.stompMsg m 5).setInMsg p c (if last then none else some { i with got := n, lastAt := s.clk, discard := true })
      else if last != (n == m.len) then
        (s3.stompMsg m 2).setInMsg p c (if last then none else some { i with got := n, lastAt := s.clk, discard := true })
      else s3

/-- A completion that goes no further is discarded: the credit of its first flit returns, and its later cells follow it (R147, R157). -/
def dropCpl (s : State) (p cls : Nat) (x : CplIn) : State :=
  let m : Msg := { msgDflt with uid := s.fab.uid, kind := .completion, chan := x.chan, cls := cls, inPort := p, internal := false,
                                len := max 1 (min x.len 17) }
  let t := { s with fab := { s.fab with uid := s.fab.uid + 1 } }
  (if m.len = 1 then t else t.setInMsg p cls (some { uid := m.uid, msg := m, got := 1, lastAt := t.clk, discard := true })).returnCredit
    p (s.creditUnit m)

/-- A read trimmed by Flint returns its full length, with zeros in the refused part (R261): the GT9 makes its completion. -/
def fillCpl (s : State) (p cls : Nat) (x : CplIn) (e : Rtt) : State :=
  let bytes := List.replicate e.msg.skipLo 0 ++ x.data ++ List.replicate e.msg.skipHi 0
  ((s.dropCpl p cls x).setRtt x.entry (some { e with claimed := true })).sendInternal { e.msg with
    kind := .completion, chan := x.chan, egress := e.port, internal := true, len := max 1 (min 17 (ceilDiv bytes.length 256)), cls := cls
    poison := x.poison, status := if x.error then 1 else 0, data := bytes, trk := false, track := x.entry }

/-- A completion goes back to the requester of its entry, in the class in which it arrived (R114, R145). -/
def sendCpl (s : State) (p cls : Nat) (x : CplIn) (e : Rtt) : State :=
  let m : Msg := { e.msg with
    uid := s.fab.uid, kind := .completion, chan := x.chan
    egress := e.port, inPort := p, internal := false, len := max 1 (min x.len 17), cls := cls
    poison := x.poison, status := if x.error then 1 else 0, data := x.data, trk := false, track := x.entry }
  (((s.setRtt x.entry (some { e with claimed := true })).firstCell m).noteSkid m).releaseMsg m

/-- Cairn still awaits memory's answer to tracker or eviction entry `n`, by port `p`. -/
def cairnAwaits (s : State) (p n : Nat) : Bool :=
  let wbs := fun (l : List Msg) => l.any (fun w => w.egress == p && w.track == n)
  s.coh.trk.any (fun e => e.2.any (fun t => (t.memOut && t.msg.egress == p && t.msg.track == n) || wbs t.wbs)) ||
  s.coh.evict.any (fun e => e.2.any (fun t => wbs t.wbs))

/-- A completion arrives at port `p` and claims its tracking entry (R114, R157, R160): an entry already claimed or
synthesized discards it, an orphaned one is freed by it; a stomped one is followed by a synthesized completion (R152). One that names a
tracker is Cairn's, or too late and discarded (R226). -/
def completionIn (s0 : State) (p : Nat) (x : CplIn) : State :=
  let f := s0.nextFlit p
  if !s0.dlUp p || (s0.drudar p && f.isNone) || (x.isTrk && s0.cairnAwaits p x.entry) then s0
  else
    let stomped := s0.drudar p && f.any (·.stomp)
    let cls := s0.classOf p x.chan ((f.map (·.fclass)).getD 0)
    let s := (s0.takeFlit p).cutShort p cls
    match (if x.isTrk then none else s.rtt x.entry) with
    | none => s.dropCpl p cls x
    | some e =>
      if e.claimed || e.synth || e.egress != p then s.dropCpl p cls x
      else
        let s1 := if x.write || isWrite e.msg.op then s.markDirty e.msg.home else s
        if e.orphan then (s1.dropCpl p cls x).freeRtt x.entry
        else if stomped then ((s1.dropCpl p cls x).synthRtt x.entry 4).noteStomp (some e.port) e.msg 5
        else if e.msg.internal then ((s1.dropCpl p cls x).freeRtt x.entry).innerBack 0 x.error x.poison e.msg x.data
        else if e.msg.skipLo + e.msg.skipHi ≠ 0 ∧ isWrite e.msg.op = false then s1.fillCpl p cls x e
        else s1.sendCpl p cls x e

/-- A request that waited goes on: a read or write of a mover channel to its port, any other to Flint. -/
def resume (s : State) (m : Msg) : State := if 320 ≤ m.rq ∧ m.rq < 336 then s.releaseMsg m else s.flint m

/-- The first request that waits for an entry of port `p` takes the one that has become free (R156); one that takes none goes on with
it. 0xFFFF is the list of the internal requesters. -/
def grantRtt (s : State) (p : Nat) : State :=
  match s.rttWaiters p with
  | [] => s
  | m :: r =>
    let t := { s with fab := { s.fab with rttWait := s.fab.rttWait.set [] (p, 0) r } }
    let go := fun (u : State) => if p < 256 then u.settleCredits p else u
    if untracked m && m.ans == 0 then go (t.resume m)
    else if s.rttRoom p then
      let x := t.takeRtt m
      go (if m.ans = 0 then x.2.resume x.1 else x.2.answer m.ans x.1)
    else s

/-- The home timeout of a request tracking entry (R157). -/
def timeoutRtt (s : State) (n : Nat) : State :=
  match s.rtt n with
  | none => s
  | some x =>
    if x.claimed || x.synth || !(s.after x.at_ (s.reg Obj.DIR_TIMEOUT 0 * 1000)) then s
    else (s.raise 0x3003 0x30 3 x.port (x.port % 65536 + x.egress % 65536 * 2 ^ 16 + x.msg.dst % 65536 * 2 ^ 32)).synthRtt n 3

/-- A tag line read from HBM returns (R258): lost, its granules match no key; the checks of its ports go on in arrival
order (R255). -/
def tagRead (s : State) (line : Nat) (lost : Bool) : State :=
  if !(s.fab.tagWait.any (fun w => w.line == line)) then s
  else
    let s1 := s.cacheTag line
    let s2 := if lost then (s1.tagFill (64 * line) 64 256).raise 0x6003 0x60 3 0xFFFF (64 * line % 2 ^ 28) else s1
    let mine := s2.fab.tagWait.map (fun w => if w.line = line then { w with line := 4194304 } else w)
    -- a port's checks go on up to the first that still waits for a line
    let go := mine.foldl (fun (a : List TagWait × List TagWait) w =>
        if w.line = 4194304 ∧ (a.2.any (fun x => x.port == w.port && x.msg.internal == w.msg.internal)) = false
        then (a.1 ++ [w], a.2) else (a.1, a.2 ++ [w])) ([], [])
    foldS (fun w (u : State) => u.stage3 w.msg) go.1 { s2 with fab := { s2.fab with tagWait := go.2 } }

/-- Release the route hold in entry `k` of port `p` once the old-epoch messages of its destination have left and
ROUTE_MOVE_HOLD has passed; requests of one destination leave in their order (R120, R132). -/
def releaseHold (s : State) (p k : Nat) : State :=
  match s.held p k with
  | none => s
  | some h =>
    let older := (s.fab.hold.row p).any (fun e => match e.2 with
      | some x => e.1 != k && x.why == .route && x.msg.dst == h.msg.dst && (x.since < h.since || (x.since == h.since && e.1 < k))
      | none => false)
    if h.why != .route || s.movedActive (0, h.msg.dst) || (h.msg.bucket < 65536 && s.movedActive (1, h.msg.bucket)) || older then s
    else ((s.setHeld p k none).reroute h.msg).noteHoldFull p

/-- The fabric ID that a multicast copy names: its partition's, or its Drudar peer's (R110). -/
def agentFid (s : State) (p : Nat) : Nat :=
  match (s.agentsOfPort p).head? with
  | some a => if s.reg Obj.AGT_KIND a = 1 then s.reg Obj.PART_FID (s.reg Obj.AGT_REF a) else s.reg Obj.DRU_PEER_ID p
  | none => 0xFFFF

/-- A multicast message of Cairn takes one cell and a descriptor per target once all are free, and its copies are appended in ascending
port number (R153); a target whose port is down is treated as a copy that a flush removed. -/
def mcastOut (s : State) : State :=
  match s.fab.mcast with
  | [] => s
  | m :: r =>
    let up := (List.range 2048).filter (fun q => m.targets.contains q && s.dlUp (q / 8))
    let down := m.targets.filter (fun q => !(s.dlUp (q / 8)))
    if s.sysUsed < s.reg Obj.BUF_RSV_SYS 0 ∧ (s.fab.descs.length + up.length ≤ 458752) then
      let s0 := { s with fab := { s.fab with mcast := r, uid := s.fab.uid + 1 } }
      let m1 := { m with uid := s.fab.uid }
      let s1 := foldS (fun q (u : State) => foldS (fun a (v : State) => v.lostWait a) (u.agentsOfPort (q / 8)) u) down s0
      if up.isEmpty then s1
      else
        let x := s1.newCell { s1.cellOf m1 true 0 with refcnt := up.length } noCell
        foldS (fun q (u0 : State) =>
            let u := u0.accrue (q / 8)
            let d := firstFree u.fab.descs 0
            let mq := { m1 with egress := q / 8, cls := q % 8, dst := u0.agentFid (q / 8) }
            (u.setDesc d (some {
              first := x.1, lastCell := x.1, len := 1, complete := true, mcast := true, ct := true, started := false,
              got := 1, sent := 0, ended := false, enq := u.clk, closed := 0, msg := mq })).setQueue (q / 8) (q % 8) (u.queue (q / 8) (q % 8) ++ [d]))
          up x.2
    else s

end State

/-! ### Commands -/

/-- MESSAGE_INGRESS (R11). -/
def execMessageIngress (p : Nat) (a : MsgIn) (s : State) := onUnit p 256 s (fun t => t.ingress p a)

/-- CELL_INGRESS (R147). -/
def execCellIngress (p cls : Nat) (last stomp : Bool) (s : State) := onUnit p 256 s (fun t => t.cellIn p cls last stomp)

/-- TAG_READ_DONE (R258). -/
def execTagReadDone (line : Nat) (lost : Bool) (s : State) := steady s (fun t => t.tagRead line lost)

/-- COMPLETION_RX (R157). -/
def execCompletionRx (p : Nat) (c : CplIn) (s : State) := onUnit p 256 s (fun t => t.completionIn p c)

/-- RTT_ENTRY_GRANT (R156). -/
def execRttEntryGrant (p : Nat) (s : State) := if p = 0xFFFF then steady s (fun t => t.grantRtt p) else onUnit p 256 s (fun t => t.grantRtt p)

/-- RTT_TIMEOUT (R157). -/
def execRttTimeout (n : Nat) (s : State) := onUnit n 65536 s (fun t => t.timeoutRtt n)

/-- ROUTE_HOLD_RELEASE (R132). -/
def execRouteHoldRelease (p k : Nat) (s : State) :=
  if p = 0xFFFF then steady s (fun t => t.releaseHold p k) else onUnit p 256 s (fun t => t.releaseHold p k)

/-- The data of the HOLD_ENTRY fields that HOLD_TIMEOUT carries. -/
def holdTimeoutReq (s : State) (p i : Nat) (r : CohReq) : State :=
  let s1 := ((s.dropReq i).dropChain r.msg.uid).bump Obj.HOLD_TIMEOUT_CNT p
  let s2 := if r.rsv < 64 then s1.dropRsv r.slice r.rsv else s1
  ((s2.addSynth 3 r.msg).raiseLimited 1000000 p 0x5009 0x50 3 p
    (r.msg.home % 2 ^ 49 + r.cause * 2 ^ 49 + r.ncnt * 2 ^ 52)).noteHoldFull p

/-- HOLD_TIMEOUT (R224): the request in hold entry `k` of port `p` has been held for DIR_TIMEOUT. -/
def execHoldTimeout (p k : Nat) (s : State) :=
  onUnit p 256 s (fun s =>
    let lim := s.reg Obj.DIR_TIMEOUT 0 * 1000
    match s.held p k with
    | some h =>
      if s.after h.since lim then
        ((((s.setHeld p k none).bump Obj.HOLD_TIMEOUT_CNT p).answer 3 h.msg).raiseLimited 1000000 p
          0x5009 0x50 3 p (h.msg.home % 2 ^ 49 + 7 * 2 ^ 49)).noteHoldFull p
      else s
    | none =>
      match s.coh.reqs.zipIdx.find? (fun e => e.1.msg.inPort == p && !e.1.msg.internal && e.1.entry == k && !e.1.admitted) with
      | some e => if k < 272 ∧ s.after e.1.since lim = true then holdTimeoutReq s p e.2 e.1 else s
      | none => s)

/-- MSG_TAIL_TIMEOUT (R150). -/
def execMsgTailTimeout (p cls : Nat) (s : State) :=
  onUnit p 256 s (fun s => match s.inMsg p cls with
    | some i =>
      if !i.discard && s.after i.lastAt (s.reg Obj.MSG_TAIL_TIMEOUT 0) then s.stompMsg (s.latest i) 1 else s
    | none => s)

/-- MULTICAST_ENQUEUE (R153). -/
def execMulticastEnqueue (s : State) := steady s (fun t => t.mcastOut)

end Sys2Proof.Machine
end

