-- ==== Sys2Proof/Machine/Egress.lean ====
section
/-!
DEFINITION. Egress scheduling and shaping (R165 to R184): the decision of an egress port, gate changes, histograms, and the
announcement of gate-list load steps.
-/

namespace Sys2Proof.Machine

/-- The histogram bin of a value (R182). -/
def histBin (v : Nat) : Nat := if v = 0 then 0 else min 15 (Nat.log2 v + 1)

/-- Add one to a bin of sixteen saturating U32 (R183). -/
def histAdd (h v : Nat) : Nat := setElem h 4 (histBin v) (min (elem h 4 (histBin v) + 1) 0xFFFF_FFFF)

/-- Tag comparison modulo 2^48: `a` is before `b` (R178). -/
def tagBefore (a b : Nat) : Bool :=
  let d := (b + 2 ^ 48 - a % 2 ^ 48) % 2 ^ 48
  d != 0 && d < 2 ^ 47

namespace State

/-! ### Eligibility (R165, R173, R174) -/

/-- The oldest entry of the synthesized list whose response class is `c` (R179). -/
def synthAt (s : State) (p c : Nat) : Option Synth := (s.synth p).find? (fun x => x.msg.cls == c)

/-- The time that `n` cells take at a port, in 2^-32 ns, unrounded: from the cell rate before the rounding of PORT_CELL_RATE (R173). -/
def cellTimeExact (s : State) (p n : Nat) : Rat := ((n * 2048 * 1000 * nsUnit : Nat) : Rat) / s.rateBits p

/-- The head message of a queue. -/
def headDesc (s : State) (p c : Nat) : Option (Nat × Desc) :=
  match s.queue p c with
  | [] => none
  | d :: _ => (s.desc d).map (fun x => (d, x))

/-- The message of `n` cells passes the fit check of class `c` (R173), or is longer than any opening of it and meets the
first decision of one (R174). -/
def fits (s : State) (p c n : Nat) : Bool :=
  match s.closeTime p c with
  | none => true
  | some t =>
    let need := s.cellTimeExact p n
    decide ((s.time.ctr : Rat) + need ≤ (t * 65536 : Nat)) ||
    (match gclLongest (s.egr p).oper c with
     | some l => decide ((l * nsUnit : Nat) < need) && !((s.egr p).decided.getD c false)
     | none => false)

/-- What class `c` would send. -/
inductive Offer where
  | nothing
  | held                      -- a head message held by the fit check
  | more (d : Nat)            -- the next cell of a started message
  | wait (d : Nat)            -- a started message whose next cell has not arrived
  | start (d : Nat)
  | answer (x : Synth)
  deriving DecidableEq, Repr

/-- What a class has to send at this decision (R165, R179). -/
def offerOf (s : State) (p c : Nat) : Offer :=
  let opened := bit (s.gatesNow p) c
  let credit := !(s.shaped p c) || 0 ≤ (s.egr p).credit.getD c 0
  match s.headDesc p c with
  | some (d, x) =>
    if x.started then (if x.sent < x.got ∨ x.ended = true then .more d else .wait d)
    else if !(opened && credit) then .nothing
    else match s.synthAt p c with
      | some y => if s.fits p c 1 then .answer y else .held
      | none => if !(x.ct || x.complete) then .nothing
                else if s.fits p c x.len then .start d else .held
  | none => match s.synthAt p c with
    | some y => if !(opened && credit) then .nothing else if s.fits p c 1 then .answer y else .held
    | none => .nothing

/-- An offer that can be sent now; on a Drudar port, with the credit and the room of R99 and R102. -/
def sendable (s : State) (p c : Nat) : Bool :=
  (!(s.drudar p) || s.maySend p 1 c) &&
  match s.offerOf p c with
  | .more _ => true
  | .start _ => true
  | .answer _ => true
  | _ => false

/-! ### Weighted fair queueing (R178) -/

/-- Classes 0 to 5 that wake are given their start tags. -/
def wakeClasses (s : State) (p : Nat) : State :=
  let e := s.egr p
  let wk := (List.range 6).map (fun c => s.sendable p c && !(e.active.getD c false))
  s.setEgr p { e with
    start := (List.range 6).map (fun c =>
      if wk.getD c false then (if tagBefore e.vtime (e.finish.getD c 0) then e.finish.getD c 0 else e.vtime) else e.start.getD c 0)
    active := (List.range 6).map (fun c => e.active.getD c false || wk.getD c false) }

/-- The eligible class with the smallest start tag, ties to the lower class. -/
def wfqPick (s : State) (p : Nat) : Option Nat :=
  let e := s.egr p
  ((List.range 6).filter (fun c => s.sendable p c)).foldl (fun a c => match a with
    | none => some c
    | some b => if tagBefore (e.start.getD c 0) (e.start.getD b 0) then some c else a) none

/-- Account a decision for class `c` of a message of `len` cells: V and F move on. -/
def wfqServe (s : State) (p c len : Nat) : State :=
  let e := s.egr p
  let w := max 1 (elem (s.reg Obj.WFQ_WEIGHT p) 1 c)
  let st := e.start.getD c 0
  s.setEgr p { e with vtime := st, finish := setAt e.finish c ((st + len * 65536 / w) % 2 ^ 48) }

/-- After the send: a class still eligible starts at its finish tag, any other is inactive. -/
def wfqAfter (s : State) (p c : Nat) : State :=
  let e := s.egr p
  if s.sendable p c then s.setEgr p { e with start := setAt e.start c (e.finish.getD c 0) }
  else s.setEgr p { e with active := setAt e.active c false }

/-! ### Sending -/

/-- Record a sojourn from `enq` to now in the histogram and maximum of queue `q` (R183). -/
def noteSojourn (s : State) (q enq : Nat) : State :=
  let v := (s.clk - enq) / (10 * nsUnit)
  (s.setReg Obj.HIST_SOJOURN q (histAdd (s.reg Obj.HIST_SOJOURN q) v)).setReg Obj.Q_SOJOURN_MAX q
    (max (s.reg Obj.Q_SOJOURN_MAX q) (min v 0xFFFF_FFFF))

/-- The address at which the agent behind an egress port sees a snooped line (R204); a Drudar peer sees the pool address. -/
def snoopAddr (s : State) (p : Nat) (m : Msg) : Nat :=
  if s.drudar p then m.home
  else
    let n := match s.hostPart p with
      | some n => n
      | none => 64
    let dpa := m.home - s.reg Obj.LD_POOL_BASE m.ld
    let cfgs := (s.windows.map (fun w => s.winCfg w)) ++ s.fab.walks.map (fun (k : Walk) => k.cfg)
    match cfgs.find? (fun w => w.part == n && w.targets.contains m.ld && w.dpa ≤ dpa && dpa < w.dpa + w.size / w.ways) with
    | some w => w.hpa (w.targets.findIdx (· == m.ld)) dpa
    | none => m.home

/-- BI-ID of a copy: 8k + s, with k the downstream vPPB through which the partition reaches the LD, bound or still being unbound, and s
the slice, which the message of a snoop carries in `status` (R203). -/
def snoopBiid (s : State) (p : Nat) (m : Msg) : Nat :=
  let n := match s.hostPart p with
    | some n => n
    | none => 64
  match (s.ldHolders m.ld).find? (fun v => v / 64 == n) with
  | some v => 8 * (v % 64) + m.status
  | none => m.status

/-- The first bytes of a Drudar message that the GT9 makes. PRESUMED: kind (1 completion, 2 snoop, 0 other), status or snoop type, slice,
source, destination, tag or BITag, LD, and pool address; the spec lays no header down. -/
def druHead (m : Msg) : List Byte :=
  let kind := match m.kind with
    | .completion => 1
    | .snoop => 2
    | _ => 0
  let back := decide (m.kind = .completion)
  toBytes 1 kind ++ toBytes 1 (if m.kind = .snoop then m.snp else m.status) ++ toBytes 2 (m.status % 8) ++
  toBytes 2 (if back then m.dst else m.src) ++ toBytes 2 (if back then m.src else m.dst) ++ toBytes 4 m.tag ++ toBytes 2 m.ld ++ toBytes 8 m.home

/-- A message as the flits of port `p` show it: a snoop with its address and BI-ID there (R203, R204), a message to a logical device of
a multi-logical device with its LD-ID (R123), 12-bit port IDs on a port that routes by them (R122). -/
def flitView (s : State) (p : Nat) (m : Msg) : Msg :=
  let m1 := if m.kind = .snoop ∧ m.internal = true then { m with hpa := s.snoopAddr p m, track := s.snoopBiid p m } else m
  { m1 with
    ldid := if m.kind ≠ .completion ∧ m.ld < 4096 ∧ s.reg Obj.LD_PORT m.ld = p then s.reg Obj.LD_LDID m.ld else 0xFFFF
    src := s.fidOut p m.src, dst := s.fidOut p m.dst }

/-- The flit of a cell leaves the port: on a CXL-mode port to the partner, on a Drudar port in a DATA frame, which for a message of the
GT9's own begins with its header. -/
def sendFlit (s : State) (p c : Nat) (m : Msg) (n : Nat) (x : Cell) : State :=
  if s.drudar p then s.sendSeq p 1 (if m.internal then druHead m ++ x.data else x.data) c 0 x.stomp
  else s.emit (.flit p (s.flitView p m) n x.stomp)

/-- A message of `len` cells whose last cell begins now is sent past the close of its gate (R174): it is counted and raised.
`closed` is the fabric time at which the gate closed meanwhile, plus 1. -/
def noteOverrun (s : State) (p c len closed : Nat) : State :=
  let fin := s.now + s.cellTime p 1 / 65536
  let close := if closed ≠ 0 then some (closed - 1) else if bit (s.gatesNow p) c then s.closeTime p c else some s.now
  match close with
  | some t => if t < fin then
      (s.bump Obj.GCL_OVERRUN p).raiseLimited 1000000 p 0x4002 0x40 2 p
        (c + len * 256 + min ((fin - t) / tNs) 0xFFFF_FFFF * 65536)
    else s
  | none => s

/-- The last cell of a message has left: its descriptor is free, a completion frees its tracking entry (R12), an overrun of its gate
is counted and raised (R174). -/
def endMessage (s : State) (p c d : Nat) (x : Desc) : State :=
  let s1 := (s.setQueue p c ((s.queue p c).filter (· != d))).setDesc d none
  let s2 := if x.msg.kind = .completion ∧ x.msg.trk = false ∧ x.msg.track < 65536 then s1.freeRtt x.msg.track else s1
  (s2.noteOverrun p c x.len x.closed).noteMoved

/-- The flit that ends a message stomped after all its held cells were sent (R151). -/
def stompCell : Cell :=
  { next := noCell, refcnt := 0, stomp := true, last := true, eccBad := false, shared := false, sys := true, port := 0xFF, cls := 0,
    unit := 0, queue := 2048, data := [] }

/-- The cell that a message sends next. -/
def nextCell (s : State) (x : Desc) : Option Cell := if x.ended then some stompCell else s.cell x.first

/-- Send the next cell of the head message of class `c` (R143, R144, R151, R175). -/
def sendCell (s : State) (p c d : Nat) : State :=
  match s.desc d with
  | none => s
  | some x => match s.nextCell x with
    | none => s
    | some y =>
      let s0 := if x.started then s
        else
          let s1 := (s.noteSojourn (8 * p + c) x.enq).count
            { code := if x.ct then 0x3003 else 0x3004, port := p, aux := c, part := x.msg.part, cls := c, hpa := x.msg.hpa, pool := x.msg.home }
          if x.ct then s1 else s1.bump64 Obj.SNF_CNT p
      let last := y.last || x.sent + 1 == x.len
      let s1 := ((s0.sendFlit p c x.msg x.sent y).chargeCell p c).count
        { code := 0x3002, port := p, aux := c, part := x.msg.part, cls := c, hpa := x.msg.hpa, pool := x.msg.home }
      let e := s1.egr p
      let s2 := s1.setEgr p { e with
        cur := if s1.drudar p || last then 8 else c
        under := false }
      let s3 := s2.setDesc d (some { x with started := true, sent := x.sent + 1, first := y.next })
      let s4 := if last then s3.endMessage p c d { x with sent := x.sent + 1 } else s3
      s4.freeCell x.first

/-- The body of the DATA frame of a synthesized completion on a Drudar port (R158, R261). -/
def answerBody (m : Msg) : Answer → List Byte
  | .dru st data => druHead { m with kind := .completion, status := st } ++ (if data then List.replicate 64 0 else [])
  | _ => []

/-- Send a synthesized completion: one cell, L = 1; its tracking entry is free (R158, R179). -/
def sendAnswer (s : State) (p c : Nat) (y : Synth) : State :=
  let form := answerForm (s.drudar p) y.cause y.msg
  let l := s.synth p
  let s1 := (s.setSynth p (l.eraseP (fun z => decide (z = y)))).noteSojourn (8 * p + c) y.at_
  let s2 := (if y.cause ≤ 4 then s1.count
      { code := 0x3009, port := p, aux := 255, part := y.msg.part, cls := c, hpa := y.msg.hpa, pool := y.msg.home }
    else s1).emit (.synth p y.cause form y.msg)
  let s3 := if s2.drudar p then s2.sendSeq p 1 (answerBody y.msg form) c 0 false else s2
  let s5 := (s3.noteOverrun p c 1 0).chargeCell p c
  if y.trk = false ∧ y.track < 65536 then s5.freeRtt y.track else s5

/-- A multicast copy is stomped before it starts: it is freed, its cell's REFCNT falls, and nothing is sent (R151, R154). -/
def stompCopy (s : State) (p c d : Nat) (x : Desc) : State :=
  ((((s.setQueue p c ((s.queue p c).filter (· != d))).setDesc d none).freeCell x.first).bump Obj.STOMP_CNT p).raiseLimited
    1000000 p 0x3005 0x30 2 p (3 + 0xFF * 256)

/-- A cell of class `c` reads with an uncorrectable error: counted, raised, and its message stomped (R150, R164). -/
def cellError (s : State) (p c : Nat) : State :=
  match s.headDesc p c with
  | none => s
  | some (d, x) => match s.cell x.first with
    | none => s
    | some y =>
      let t := ((s.setCell x.first (some { y with eccBad := true })).bump Obj.BUF_ECC_UNCORR 0).raise 0x3004 0x30 3 p
        (x.first + 2 ^ 24 * p)
      if x.mcast then t.stompCopy p c d x else t.stompMsg x.msg 3

/-- Sending from descriptor `d` reads a cell of the buffer. -/
def readsCell (s : State) (d : Nat) : Bool :=
  match s.desc d with
  | some x => !x.ended && (s.cell x.first).isSome
  | none => false

/-- Serve class `c`: the next cell of its head, or a synthesized completion. -/
def serveClass (s : State) (p c : Nat) (ecc : Bool) : State :=
  match s.offerOf p c with
  | .answer y => s.sendAnswer p c y
  | .more d => if ecc = true ∧ s.readsCell d = true then s.cellError p c else s.sendCell p c d
  | .start d => if ecc = true ∧ s.readsCell d = true then s.cellError p c else s.sendCell p c d
  | _ => s

/-- Cells that a decision for class `c` counts in R178: the head's LEN on a CXL-mode port, 1 on a Drudar-mode port. -/
def costLen (s : State) (p c : Nat) : Nat :=
  if s.drudar p then 1
  else match s.offerOf p c with
    | .start d => match s.desc d with
      | some x => x.len
      | none => 1
    | _ => 1

/-- uid + 1 of the message that the fit check of class `c` looks at. -/
def headUid (s : State) (p c : Nat) : Nat :=
  match s.synthAt p c with
  | some y => y.msg.uid + 1
  | none => match s.headDesc p c with
    | some (_, x) => x.msg.uid + 1
    | none => 0

/-- Count in GCL_HELD, each once, the head messages that the fit check holds at this decision, and mark the classes that met
it (R173). -/
def noteHeld (s : State) (p : Nat) : State :=
  let e := s.egr p
  let held := (List.range 8).filter (fun c => match s.offerOf p c with
    | .held => s.headUid p c != e.heldUid.getD c 0
    | _ => false)
  let s1 := foldS (fun c (t : State) => t.count
    { code := 0x4001, port := p, aux := c, part := 255, cls := c, hpa := 2 ^ 64 - 1, pool := 2 ^ 64 - 1 }) held s
  (if held.isEmpty then s1 else s1.bump64 Obj.GCL_HELD p held.length).setEgr p { e with
    heldUid := (List.range 8).map (fun c => if held.contains c then s.headUid p c else e.heldUid.getD c 0)
    decided := (List.range 8).map (fun c => e.decided.getD c false || bit (s.gatesNow p) c) }

/-- A decision among the classes: 7, then 6, then weighted fair queueing (R166). -/
def chooseClass (s : State) (p : Nat) (ecc : Bool) : State :=
  let t := s.wakeClasses p
  if t.sendable p 7 then t.serveClass p 7 ecc
  else if t.sendable p 6 then t.serveClass p 6 ecc
  else match t.wfqPick p with
    | some c => ((t.wfqServe p c (t.costLen p c)).serveClass p c ecc).wfqAfter p c
    | none => t

/-- A MGMT frame is due: one is queued and class 8 has a credit, at most one in 8 frames while a class is eligible (R166). -/
def mgmtDue (s : State) (p : Nat) : Bool :=
  !(s.egr p).mgmt.isEmpty && s.maySend p 2 0 &&
  ((s.egr p).sinceMgmt == 7 || (List.range 8).all (fun c => !(s.sendable p c)))

/-- Send the oldest queued MGMT frame. -/
def sendMgmt (s : State) (p : Nat) : State :=
  match (s.egr p).mgmt with
  | [] => s
  | b :: r =>
    let t := s.sendSeq p 2 b 0 b.length false
    let e := t.egr p
    t.setEgr p { e with mgmt := r, nextAt := t.clk + t.cellTime p 1 }

/-- The oldest frame of a replay goes again; it takes a frame time (R100). -/
def sendResend (s : State) (p : Nat) : State := (s.resendNext p).frameTime p

/-- With nothing to send, a Drudar port sends an IDLE frame, which carries an acknowledgement and a credit report (R98, R100). -/
def sendIdle (s : State) (p : Nat) : State := (s.putFrame p (plainFrame 0 [])).frameTime p

/-- One decision of a Drudar-mode port, for one frame (R100, R166): the codewords that are full go first; a replay comes before new
frames; while a re-stripe waits for its markers nothing is sent (R104). -/
def druStep (s0 : State) (p : Nat) (ecc : Bool) : State :=
  let s := s0.sendCodewords p
  if (s.dru p).restripeTx then s
  else if 0 < (s.dru p).resend then s.sendResend p
  else if s.mgmtDue p then s.sendMgmt p
  else if (List.range 8).any (fun c => s.sendable p c) then (s.chooseClass p ecc).noteHeld p
  else (s.sendIdle p).noteHeld p

/-- One decision of an egress port at a cell time (R166). -/
def egressStep (s0 : State) (p : Nat) (ecc : Bool) : State :=
  if !(s0.sending p) || s0.clk < (s0.egr p).nextAt then s0
  else
    let s := s0.accrue p
    if s.drudar p then s.druStep p ecc
    else if (s.egr p).cur < 8 then
      match s.offerOf p (s.egr p).cur with
      | .wait _ =>
        let t := if (s.egr p).under then s else s.bump Obj.CT_UNDERRUN p
        t.setEgr p { t.egr p with under := true, nextAt := t.clk + t.cellTime p 1 }
      | .more _ =>
        let t := s.serveClass p (s.egr p).cur ecc
        -- with the message's last flit it is seen whether the class is still eligible (R178)
        if (t.egr p).cur = 8 ∧ (s.egr p).cur < 6 then t.wfqAfter p (s.egr p).cur else t
      | _ => s.setEgr p { s.egr p with cur := 8 }
    else (s.chooseClass p ecc).noteHeld p

/-! ### Histograms (R182, R183) -/

/-- Cells in a queue, as in Q_DEPTH. -/
def queueDepth (s : State) (q : Nat) : Nat :=
  (s.queue (q / 8) (q % 8)).foldl (fun a d => match s.desc d with
    | some x => a + (x.got - x.sent)
    | none => a) 0

/-- Sample the depth of every queue in one FCLK cycle; with FCLK off nothing is sampled. -/
def sampleDepths (s : State) : State :=
  if !s.ridgeClock || !(s.after s.fab.histAt (s.reg Obj.HIST_PERIOD 0)) then s
  else foldS (fun q t =>
    let v := t.queueDepth q
    (t.setReg Obj.HIST_DEPTH q (histAdd (t.reg Obj.HIST_DEPTH q) v)).setReg Obj.Q_DEPTH_MAX q (max (t.reg Obj.Q_DEPTH_MAX q) v))
    (List.range 2048) { s with fab := { s.fab with histAt := s.clk } }

/-- HIST_CLEAR: the histograms and maxima of the port's eight queues go to 0 (R183). -/
def histClear (s : State) (p : Nat) : State :=
  foldS (fun c t => (((t.setReg Obj.HIST_DEPTH (8 * p + c) 0).setReg Obj.HIST_SOJOURN (8 * p + c) 0).setReg
    Obj.Q_DEPTH_MAX (8 * p + c) 0).setReg Obj.Q_SOJOURN_MAX (8 * p + c) 0) (List.range 8) s

/-! ### DIDT_WARN_N for gate lists (R180, R181) -/

/-- DIDT_WARN_N is low: a group, a ramp or a wake holds it (R305). -/
def didtLow (s : State) : Bool := !s.pm.groups.isEmpty || s.pm.lowAt != 0

/-- How long gate-list groups have held DIDT_WARN_N low, as a TIME value. -/
def lowFor (s : State) : Nat := if s.pm.groups.isEmpty then 0 else (s.clk + 1 - s.pm.grpLow) / 65536

/-- Start the announcement of the next group whose ISTEP sum exceeds the threshold, once its lead has come (R180). -/
def announce (s : State) (next : Nat) (g : GclGroup) : State :=
  ({ s with pm := { s.pm with
    groups := s.pm.groups ++ [g.last + 2000 * tNs], grpFrom := next
    grpLow := if s.pm.groups.isEmpty then s.clk + 1 else s.pm.grpLow } }).bump Obj.DIDT_GCL_CNT 0

/-- The next group is announced once its lead has come; one for which the pin has not been low by then is announced at once and
raises DIDT_LATE, unless a wake's hold covers it (R180, R181, R305). -/
def warnStart (s : State) : State :=
  let lead := s.reg Obj.DIDT_GCL_LEAD 0 * tNs
  match s.loudGroup (s.now + lead + tNs) 64 s.pm.grpFrom with
  | (next, none) => { s with pm := { s.pm with grpFrom := next } }
  | (next, some g) =>
    let t := s.announce next g
    if g.first + s.lowFor < s.now + lead ∧ s.pm.lowAt = 0 ∧ s.after s.pm.readyAt (s.reg Obj.DIDT_GCL_LEAD 0) = true then
      (t.bump Obj.DIDT_LATE_CNT 0).raise 0x4004 0x40 2 0xFFFF
        ((s.now + lead - (g.first + s.lowFor)) / tNs % 2 ^ 32 + min g.amps 65535 * 2 ^ 32)
    else t

/-- 2 µs after a group's last boundary its hold ends. -/
def warnEnd (s : State) : State :=
  { s with pm := { s.pm with groups := s.pm.groups.filter (fun r => s.now < r) } }

end State

/-! ### Commands -/

/-- EGRESS_DECISION (R166): `ecc` marks an uncorrectable error on the read of the cell served. -/
def execEgressDecision (p : Nat) (ecc : Bool) (s : State) := onUnit p 256 s (fun t => t.egressStep p ecc)

/-- GATE_ENTRY_CHANGE (R169). -/
def execGateEntryChange (p : Nat) (s : State) :=
  onUnit p 256 s (fun t => if (t.egr p).gclOn then t.syncGates p else t)

/-- DIDT_GCL_WARN_START (R180). -/
def execDidtGclWarnStart (s : State) := steady s (fun t => t.warnStart)

/-- DIDT_GCL_WARN_END (R180). -/
def execDidtGclWarnEnd (s : State) := steady s (fun t => t.warnEnd)

/-- HIST_SAMPLE (R183). -/
def execHistSample (s : State) := steady s (fun t => t.sampleDepths)

end Sys2Proof.Machine
end

