-- ==== Sys2Proof/Machine/Move.lean ====
section
/-!
DEFINITION. Live region move (R232 to R249): the start conditions, the copy of a granule, the phases, the freeze, the commit
point, and the end of an aborted or failed move.
-/

namespace Sys2Proof.Machine

/-- Shares of `total` among channels with caps `l`: an equal share each, what one leaves goes to the others (R247). -/
def fairShare : Nat → Nat → List (Nat × Nat) → List (Nat × Nat)
  | 0, _, l => l
  | n + 1, total, l =>
    if l.isEmpty then []
    else
      let share := total / l.length
      let small := l.filter (fun x => x.2 ≤ share)
      if small.isEmpty then l.map (fun x => (x.1, share))
      else small ++ fairShare n (total - small.foldl (fun a x => a + x.2) 0) (l.filter (fun x => share < x.2))

namespace State

def movePhase (s : State) (c : Nat) : Nat := s.reg Obj.MOVE_PHASE c

/-- The redirect entry of a channel's move. -/
def moveRdr (s : State) (c : Nat) : Nat := s.reg Obj.MOVE_RDR c

/-- The granules of a channel's range. -/
def granules (s : State) (c : Nat) : Nat := s.reg Obj.RDR_SIZE (s.moveRdr c) / 4096

/-- A move that is RUNNING: phases COPY to FREEZE. -/
def moveLive (s : State) (c : Nat) : Bool :=
  1 ≤ s.movePhase c && s.movePhase c ≤ 4 && (s.lop (s.reg Obj.MOVE_HANDLE c)).st != .queued

/-- An entry to HOLD or SENTINEL is pending (R246): it has been accepted and has neither committed nor been undone. -/
def sleepPending (s : State) : Bool :=
  s.pm.step != .idle && (s.pm.target == .hold || s.pm.target == .sentinel)

/-- Every byte of a pool range lies in the pool range of a present LD. -/
def poolCovered (s : State) : Nat → Nat → Nat → Bool
  | 0, _, _ => false
  | n + 1, a, e =>
    if e ≤ a then true
    else match s.ldAt a with
      | some ld => s.poolCovered n (s.reg Obj.LD_POOL_BASE ld + s.ldSize ld) e
      | none => false

/-- The pool ranges that active and retiring windows reach. -/
def reachedRanges (s : State) : List (Nat × Nat) :=
  s.windows.flatMap (fun w => (s.winCfg w).ranges (s.winBases (s.winCfg w))) ++
  s.fab.walks.flatMap (fun (k : Walk) => k.cfg.ranges k.bases)

/-- The start conditions of R235: the abort of the first that fails. -/
def moveCheck (s : State) (c : Nat) : Option Nat :=
  let src := s.reg Obj.MOVE_SRC c
  let dst := s.reg Obj.MOVE_DST c
  let size := s.reg Obj.MOVE_SIZE c
  let h := s.reg Obj.MOVE_HANDLE c
  if s.movePhase c ≠ 0 ∨ (h < 64 ∧ (s.lop h).st.unended = true) then some Ab.BUSY
  else if s.freeLop = none ∨ (List.range 64).all (fun r => s.reg Obj.RDR_STATE r != 0) = true ∨
      (s.reg Obj.MOVE_CUTOVER_TIME c ≠ 0 ∧ s.freeSlot = none) then some Ab.BUSY
  else if size < 4096 ∨ 2 ^ 40 < size ∨ size % 4096 ≠ 0 ∨ src % 4096 ≠ 0 ∨ dst % 4096 ≠ 0 then some Ab.RANGE
  else if !(s.poolCovered 4097 src (src + size) && s.poolCovered 4097 dst (dst + size)) then some Ab.INVALID_CONFIG
  else if meets (src, size) (dst, size) || s.redirects.any (fun r =>
      [(src, size), (dst, size)].any (fun x => meets x (r.2.1, r.2.2.2.1) || meets x (r.2.2.1, r.2.2.2.1))) then
    some Ab.INVALID_CONFIG
  else if s.reachedRanges.any (fun r => meets r (dst, size)) then some Ab.INVALID_CONFIG
  else none

/-- Forget a channel's dirty bits. -/
def clearBitmap (s : State) (c : Nat) : State :=
  { s with move := { s.move with bitmap := s.move.bitmap.filter (fun e => !(e.1.1 == c)) } }

/-- Start a move: its handle, the lowest free redirect entry in state 1, an event slot of kind 3 for a cut-over time, the
bitmap cleared, pass 0 (R235). -/
def moveStart (s : State) (c owner : Nat) : Except Nat (State × Nat) :=
  match s.moveCheck c with
  | some a => .error a
  | none => match s.takeLop 2 owner c with
    | none => .error Ab.BUSY
    | some (h, s1) =>
      let r := (firstFrom (fun r => s.reg Obj.RDR_STATE r == 0) 64 0).getD 0
      let t := s.reg Obj.MOVE_CUTOVER_TIME c
      let s2 := (((s1.setReg Obj.RDR_SRC r (s.reg Obj.MOVE_SRC c)).setReg Obj.RDR_DST r (s.reg Obj.MOVE_DST c)).setReg
        Obj.RDR_SIZE r (s.reg Obj.MOVE_SIZE c)).setReg Obj.RDR_STATE r 1
      let s3 := (((((s2.setReg Obj.MOVE_PHASE c 1).setReg Obj.MOVE_PASS c 0).setReg Obj.MOVE_COPIED c 0).setReg
        Obj.MOVE_HANDLE c h).setReg Obj.MOVE_FREEZES c 0).setReg Obj.MOVE_RDR c r
      let s4 := (s3.clearBitmap c).setMover c { moveDflt with running := true, first := s.fab.uid }
      if t = 0 then .ok (s4, h)
      else match s4.takeSlot 3 t 0 0 c with
        | some (k, s5) => .ok ((s5.setMover c { s5.mover c with slot := k }).modLop h (fun l => { l with slot := k }), h)
        | none => .error Ab.BUSY

/-! ### Holds -/

/-- Release every request that the freeze of a channel holds; each is routed by the tables now in force (R240, R242). -/
def releaseFreeze (s : State) (lo size : Nat) : State :=
  foldS (fun e (t : State) => match e.2 with
    | some h =>
      if h.why = .freeze ∧ lo ≤ h.msg.home ∧ h.msg.home < lo + size then
        ((t.setHeld e.1.1 e.1.2 none).reroute h.msg).noteHoldFull e.1.1
      else t
    | none => t) s.fab.hold s

/-- The source range of a channel's move. -/
def moveRange (s : State) (c : Nat) : Nat × Nat := (s.reg Obj.RDR_SRC (s.moveRdr c), s.reg Obj.RDR_SIZE (s.moveRdr c))

/-! ### Failure and abort (R243, R244) -/

/-- A move marked for abort stops copying (R243). -/
def moveAbort (s : State) (c : Nat) : State :=
  (s.setReg Obj.MOVE_PHASE c 6).setMover c { s.mover c with running := false }

/-- The undo of an aborted or failed move ends: holds released to the source, redirect and bitmap free (R243). -/
def moveUndo (s : State) (c : Nat) : State :=
  if s.movePhase c = 6 ∨ s.movePhase c = 7 then
    let r := s.moveRdr c
    let x := s.moveRange c
    let h := s.reg Obj.MOVE_HANDLE c
    let s1 := (((s.setReg Obj.RDR_STATE r 0).setReg Obj.RDR_SRC r 0).setReg Obj.RDR_DST r 0).setReg Obj.RDR_SIZE r 0
    let s2 := (s1.clearBitmap c).releaseFreeze x.1 x.2
    let s3 := if s.movePhase c = 6 then s2.endLop h .aborted Ab.ABORTED else s2
    (((s3.setReg Obj.MOVE_PHASE c 0).setReg Obj.MOVE_HANDLE c 0xFFFF).setReg Obj.MOVE_RDR c 0xFF).setMover c moveDflt
  else s

/-- A port carries an LD: it is on the port, or its route leads there and nowhere else that is live (R244). -/
def carries (s : State) (p ld : Nat) : Bool :=
  if s.ldLocal ld then s.reg Obj.LD_PORT ld == p
  else
    let e := s.reg Obj.ROUTE_ENTRY (s.reg Obj.LD_FID ld)
    match field e 10 2 with
    | 1 => field e 0 8 == p
    | 2 => !(s.groupLive (field e 0 10)) && (List.range (s.reg Obj.HG_COUNT (field e 0 10))).any (fun i =>
        elem (s.reg Obj.HG_MEMBERS (field e 0 10)) 1 i == p)
    | _ => false

/-- Moves whose source or destination LD a port carries fail when it goes DL_Down (R244). -/
def movePortDown (s : State) (p : Nat) : State :=
  foldS (fun c (t : State) =>
    if !(1 ≤ t.movePhase c && t.movePhase c ≤ 4) then t
    else
      let r := t.moveRdr c
      let size := t.reg Obj.RDR_SIZE r
      let hit := fun (base : Nat) => t.ldsKnown.any (fun ld => t.carries p ld && meets (base, size) (t.reg Obj.LD_POOL_BASE ld,
        if t.ldLocal ld then t.reg Obj.LD_SIZE ld else t.reg Obj.LD_REMOTE_SIZE ld))
      if hit (t.reg Obj.RDR_SRC r) then t.nextFree.moveFail c 1 t.freeVal
      else if hit (t.reg Obj.RDR_DST r) then t.nextFree.moveFail c 2 t.freeVal
      else t) (List.range 16) s

/-! ### Copying (R237, R239) -/

/-- The next granule: in pass 0 the cursor's, in a later pass the next one whose bit is set, in the freeze the first. -/
def nextGranule (s : State) (c : Nat) : Option Nat :=
  let m := s.mover c
  if s.movePhase c = 4 then (s.move.bitmap.row c).head?.map (·.1)
  else if !m.pass0 then (if m.cursor < s.granules c then some m.cursor else none)
  else ((s.move.bitmap.row c).find? (fun e => m.cursor ≤ e.1 && e.2)).map (·.1)

/-- Channels that copy now. -/
def copying (s : State) : List Nat :=
  (List.range 16).filter (fun c => s.moveLive c && ((s.mover c).running || s.movePhase c == 4))

/-- The rate in GB/s at which a channel may read (R247). -/
def moveRate (s : State) (c : Nat) : Nat :=
  let l := fairShare 16 400 (s.copying.map (fun d => (d, s.reg Obj.MOVE_RATE_MAX d)))
  match l.find? (fun x => x.1 == c) with
  | some x => x.2
  | none => min 400 (s.reg Obj.MOVE_RATE_MAX c)

/-- The port through which a channel reaches a pool address; 0 where none leads there. -/
def moverPort (s : State) (c a : Nat) : Nat :=
  ((s.ldAt a).bind (fun ld => s.ldEgress (s.reg Obj.FID_BASE 0 + 1 + c) ld)).getD 0

/-- Flint's checks of a granule's reads at the home address and writes at the destination address (R251, R254, R262);
`some` address of the refused access. -/
def moveRefused (s : State) (c home dest : Nat) : Option (Msg × Part × Bool) :=
  let e := s.reg Obj.FL_EPOCH 0
  let m := fun (a : Nat) => { msgDflt with home := a, pool := a, bytes := 4096, rq := 320 + c, eFl := e, egress := s.moverPort c a }
  let slot := fun (a : Nat) => !(s.slotAllows e (s.moverPort c a) (320 + c))
  let rd := s.checkPart (m home) home 4096 true false
  let wr := s.checkPart (m dest) dest 4096 false true
  let blank : Part := { rd with cause := 1 }
  if slot home then some (m home, { blank with lo := home }, false)
  else if rd.cause ≠ 0 then some (m home, rd, false)
  else if slot dest then some (m dest, { blank with lo := dest }, true)
  else if wr.cause ≠ 0 then some (m dest, wr, true)
  else none

/-- Read one line of the source (R237): an RD_NC, through Cairn where the line is shared-coherent; with no live port to the source the
read comes back poisoned. -/
def moverRead (s : State) (c a : Nat) : State :=
  let src := s.reg Obj.FID_BASE 0 + 1 + c
  let ld := (s.ldAt a).getD 0xFFFF
  let m : Msg := { msgDflt with
    uid := s.fab.uid, chan := .memReq, op := .otherRead, src := src, rq := 320 + c, home := a, pool := a, ld := ld
    dpa := a - s.reg Obj.LD_POOL_BASE ld, dst := s.reg Obj.LD_FID ld, egress := s.moverPort c a, cls := 2, coherent := s.coherentAt a
    eRoute := s.reg Obj.ROUTE_EPOCH 0, eBind := s.reg Obj.BIND_EPOCH 0, eFl := s.reg Obj.FL_EPOCH 0 }
  let t := { s with fab := { s.fab with uid := s.fab.uid + 1 } }
  if (s.ldAt a).isNone || !s.dlUp m.egress then t.moverBack m false true []
  else if m.coherent then t.forward m else t.innerSend m

/-- Begin a pass: from the first granule. -/
def startPass (s : State) (c : Nat) : State :=
  s.setMover c { s.mover c with cursor := 0, running := true }

/-- Copy one granule (R237): its bit is cleared with its first read, its 64 lines are read, and each is written to its destination as it
comes back; a copy in pass 0 moves LOP_PROGRESS. In WAIT a pass starts when MOVE_DIRTY exceeds MOVE_CUTOVER_DIRTY. -/
def copyGranule (s0 : State) (c : Nat) (bitmapBad setNow : Bool) : State :=
  let s := if s0.movePhase c = 3 ∧ (s0.mover c).running = false ∧ s0.reg Obj.MOVE_CUTOVER_DIRTY 0 < s0.moveDirty c then
      (s0.setReg Obj.MOVE_PASS c (min 255 (s0.reg Obj.MOVE_PASS c + 1))).startPass c
    else s0
  if !(s.copying.contains c) || s.clk < (s.mover c).nextAt || s.pm.stop then s0
  else match s.nextGranule c with
    | none => s0
    | some g =>
      let r := s.moveRdr c
      let home := s.reg Obj.RDR_SRC r + 4096 * g
      let dest := s.reg Obj.RDR_DST r + 4096 * g
      if bitmapBad then s.nextFree.moveFail c 4 s.freeVal
      else match s.moveRefused c home dest with
        | some (m, x, wr) => (s.deny m x wr).moveFail c 3 x.lo
        | none =>
          let lines : List CntEvt := List.replicate 64
            { code := 0xD001, port := 65535, aux := c % 8, part := 255, cls := 255, hpa := 2 ^ 64 - 1, pool := dest }
          let s1 := { s with
            move := { s.move with bitmap := s.move.bitmap.set false (c, g) setNow }
            cnt := { s.cnt with evts := s.cnt.evts ++ lines } }
          let m := s1.mover c
          let rate := max 1 (s1.moveRate c)
          let s2 := (s1.setMover c { m with cursor := g + 1, inflight := m.inflight + 64, nextAt := s1.clk + 4096 * nsUnit / rate }).bump64
            Obj.MOVE_COPIED c 4096
          let s3 := if m.pass0 then s2
            else s2.modLop (s2.reg Obj.MOVE_HANDLE c) (fun l => { l with progress := min 999 ((g + 1) * 1000 / max 1 (s2.granules c)) })
          foldS (fun i (t : State) => t.moverRead c (home + 64 * i)) (List.range 64) s3

/-- Enter FREEZE (R240). -/
def enterFreeze (s : State) (c : Nat) (late : Bool) : State :=
  (s.setReg Obj.MOVE_PHASE c 4).setMover c { s.mover c with frozeAt := s.clk, running := false, late := late, cursor := 0 }

/-- The freeze may start: the cut-over time is 0 or its event has fired, and no sleep is pending (R239, R246). -/
def mayFreeze (s : State) (c : Nat) : Bool :=
  ((s.mover c).slot == 512 || (s.mover c).fired) && !s.sleepPending

/-- The move is converged (R239): MOVE_DIRTY is at most MOVE_CUTOVER_DIRTY, or the passes allowed after pass 0 have run. -/
def converged (s : State) (c : Nat) : Bool :=
  s.moveDirty c ≤ s.reg Obj.MOVE_CUTOVER_DIRTY 0 || s.reg Obj.MOVE_PASS_MAX 0 ≤ s.reg Obj.MOVE_PASS c

/-- A channel in WAIT, between passes and converged, whose conditions now hold enters FREEZE. -/
def wakeMove (s : State) (c : Nat) : State :=
  if s.movePhase c = 3 ∧ (s.mover c).running = false ∧ s.converged c = true ∧ s.mayFreeze c = true then
    s.enterFreeze c (s.mover c).late
  else s

/-- Every waiting channel looks again, after a wake or an undone entry (R246). -/
def wakeMoves (s : State) : State := foldS (fun c t => t.wakeMove c) (List.range 16) s

/-- The cut-over event of a channel fires (R240). -/
def moveEvent (s : State) (c : Nat) : State := (s.setMover c { s.mover c with fired := true }).wakeMove c

/-- A pass ends, once every line of it has been written: the next pass, WAIT, or FREEZE (R239). -/
def passEnd (s : State) (c : Nat) : State :=
  if !((s.mover c).running && s.moveLive c) || s.nextGranule c != none || (s.mover c).inflight != 0 then s
  else
    let m := s.mover c
    let s1 := s.setMover c { m with pass0 := true, running := false }
    let s2 := if m.pass0 then s1 else s1.modLop (s1.reg Obj.MOVE_HANDLE c) (fun l => { l with progress := 999 })
    if s.movePhase c = 3 then s2.wakeMove c
    else if s2.converged c = false then
      ((s2.setReg Obj.MOVE_PHASE c 2).setReg Obj.MOVE_PASS c (s2.reg Obj.MOVE_PASS c + 1)).startPass c
    else if s2.mayFreeze c then s2.enterFreeze c (m.slot != 512)
    else (s2.setReg Obj.MOVE_PHASE c 3).setMover c { s2.mover c with late := m.fired }

/-- A freeze reaches its limit: holds go to the source, and after the third such end the move fails (R240). -/
def freezeLimit (s : State) (c : Nat) : State :=
  let lim := min (s.reg Obj.MOVE_FREEZE_MAX 0 * 1000) (s.reg Obj.DIR_TIMEOUT 0 * 1000 / 2)
  if s.movePhase c = 4 ∧ s.after (s.mover c).frozeAt lim = true then
    let x := s.moveRange c
    let n := s.reg Obj.MOVE_FREEZES c + 1
    let h := s.reg Obj.MOVE_HANDLE c
    let s1 := (s.setReg Obj.MOVE_PHASE c 2).setReg Obj.MOVE_FREEZES c n
    let s2 := (s1.setMover c { s1.mover c with lastFreeze := (s.clk - (s.mover c).frozeAt) / nsUnit }).releaseFreeze x.1 x.2
    let s3 := s2.raise 0xD003 0xD0 2 c (h + s2.moveDirty c * 65536 + n * 2 ^ 48)
    if 3 ≤ n then s3.moveFail c 5 0 else s3.startPass c
  else s

/-- A write to the source range stands between stage 3 and its memory completion (R241). DEDUCED: so does one that has passed stage 2 and
waits for a tracking entry or a tag, since its route is that of the source (R131). -/
def writeInFlight (s : State) (lo size : Nat) : Bool :=
  let hit := fun (m : Msg) => isWrite m.op && lo ≤ m.home && m.home < lo + size
  s.fab.rtt.any (fun e => match e.2 with
    | some x => hit x.msg && !x.synth
    | none => false) ||
  s.coh.reqs.any (fun r => hit r.msg) ||
  s.coh.trk.any (fun e => match e.2 with
    | some t => hit t.msg || t.wbs.any hit
    | none => false) ||
  s.coh.evict.any (fun e => match e.2 with
    | some t => t.wbs.any hit
    | none => false) ||
  s.fab.descs.any (fun e => match e.2 with
    | some d => d.msg.kind == .posted && hit d.msg
    | none => false) ||
  s.fab.tagWait.any (fun w => hit w.msg) || s.fab.rttWait.any (fun e => e.2.any (fun m => m.ans == 0 && hit m)) || s.fab.sysWait.any hit

/-- The commit point (R241, R242): the redirect is active and copied into Tor, the handle COMMITTED, held requests go
through the redirect. -/
def moveCommit (s : State) (c : Nat) : State :=
  let x := s.moveRange c
  if s.movePhase c = 4 ∧ s.moveDirty c = 0 ∧ s.writeInFlight x.1 x.2 = false ∧ (s.mover c).inflight = 0 then
    let r := s.moveRdr c
    let h := s.reg Obj.MOVE_HANDLE c
    let s1 := ((s.setReg Obj.RDR_STATE r 2).setReg Obj.RDR_COMMIT_TIME r s.now).setReg Obj.MOVE_PHASE c 5
    let s2 := { s1 with move := { s1.move with
      torRdr := s1.move.torRdr.set none (r, 0) (some (s.reg Obj.RDR_SRC r, s.reg Obj.RDR_DST r, s.reg Obj.RDR_SIZE r)), torOk := true } }
    let s3 := s2.setMover c { s2.mover c with lastFreeze := (s.clk - (s.mover c).frozeAt) / nsUnit }
    (s3.commitLop h).releaseFreeze x.1 x.2
  else s

/-- The redirect table is in flash, where Ridge core 3 writes it: every committed move is DONE (R13, R242, R249). -/
def flashWritten (s : State) : State :=
  if s.coreRuns 3 = false then s else
  let s1 := { s with move := { s.move with flashRdr := s.redirects.foldl (fun (t : Tbl (Option (Nat × Nat × Nat))) r =>
    if r.2.2.2.2 = 2 then t.set none (r.1, 0) (some (r.2.1, r.2.2.1, r.2.2.2.1)) else t) [] } }
  foldS (fun c (t : State) =>
    if t.movePhase c = 5 then
      let h := t.reg Obj.MOVE_HANDLE c
      let m := t.mover c
      let t1 := (t.endLop h .done 0).raise 0xD001 0xD0 1 c (h + t.moveRdr c * 65536 + t.reg Obj.MOVE_PASS c * 2 ^ 24 +
        t.reg Obj.MOVE_FREEZES c * 2 ^ 32 + min m.lastFreeze 0xFFF_FFFF * 2 ^ 40 + (if m.late then 2 ^ 68 else 0))
      ((((t1.clearBitmap c).setReg Obj.MOVE_PHASE c 0).setReg Obj.MOVE_HANDLE c 0xFFFF).setReg Obj.MOVE_RDR c 0xFF).setMover c moveDflt
    else t) (List.range 16) s1

/-- MOVE_RATE_USED: what the channels that copy now read together, MB/s. -/
def moveRateUsed (s : State) : Nat :=
  (fairShare 16 400 (s.copying.map (fun d => (d, s.reg Obj.MOVE_RATE_MAX d)))).foldl (fun a x => a + x.2 * 1000) 0

/-- Release redirect entry `r` (R248). -/
def releaseRdr (s : State) (r : Nat) : State :=
  let size := s.reg Obj.RDR_SIZE r
  let s1 := ((((s.setReg Obj.RDR_STATE r 0).setReg Obj.RDR_SRC r 0).setReg Obj.RDR_DST r 0).setReg Obj.RDR_SIZE r 0).setReg Obj.RDR_COMMIT_TIME r 0
  ({ s1 with move := { s1.move with torRdr := s1.move.torRdr.set none (r, 0) none } }).raise 0xD004 0xD0 1 r
    (r + size / 4096 * 65536)

end State

/-! ### Commands -/

/-- GRANULE_COPY (R237). `searchBad` and `clearBad` mark an uncorrectable error in the channel's bitmap, met where the granule is searched
or where its bit is cleared (R244, cause 4). `setNow` tells that a write's completion for the granule returns in the cycle of the clear: the
bit is then set (R238). -/
def execGranuleCopy (c : Nat) (searchBad clearBad setNow : Bool) (s : State) :=
  onUnit c 16 s (fun t => t.copyGranule c (searchBad || clearBad) setNow)

/-- MOVE_PASS_END (R239). -/
def execMovePassEnd (c : Nat) (s : State) := onUnit c 16 s (fun t => t.passEnd c)

/-- MOVE_FREEZE_LIMIT (R240). -/
def execMoveFreezeLimit (c : Nat) (s : State) := onUnit c 16 s (fun t => t.freezeLimit c)

/-- MOVE_COMMIT_POINT (R242). -/
def execMoveCommitPoint (c : Nat) (s : State) := onUnit c 16 s (fun t => t.moveCommit c)

/-- REDIRECT_FLASH_WRITTEN (R242). -/
def execRedirectFlashWritten (s : State) := steady s (fun t => t.flashWritten)

/-- MOVE_UNDO_DONE (R243). -/
def execMoveUndoDone (c : Nat) (s : State) := onUnit c 16 s (fun t => t.moveUndo c)

end Sys2Proof.Machine
end

