-- ==== Sys2Proof/Machine/PortDown.lean ====
section
/-!
DEFINITION. A port goes DL_Down (R159), its flush (R160, R161), and its way out of FLUSHING (R162); hash-group buckets
(R116 to R119).
-/

namespace Sys2Proof.Machine

namespace State

/-! ### Hash groups -/

/-- The members of a group: ports 0 to HG_COUNT - 1 of HG_MEMBERS. -/
def hgMembers (s : State) (g : Nat) : List Nat :=
  (List.range (s.reg Obj.HG_COUNT g)).map (elem (s.reg Obj.HG_MEMBERS g) 1)

/-- Member indices whose port is DL_Up. -/
def hgLiveIdx (s : State) (g : Nat) : List Nat :=
  (List.range (s.reg Obj.HG_COUNT g)).filter (fun i => s.dlUp (elem (s.reg Obj.HG_MEMBERS g) 1 i))

/-- Give the buckets of member `i` in ascending order to the live members in turn, from the one after `i` on (R118);
the new buckets and how many moved. -/
def giveBuckets (buckets : Nat) (live : List Nat) (i : Nat) : Nat × Nat :=
  let order := live.filter (fun j => i < j) ++ live.filter (fun j => j < i)
  if order.isEmpty then (buckets, 0)
  else (List.range 64).foldl (fun (a : Nat × Nat) b =>
    if elem buckets 1 b = i then (setElem a.1 1 b (order.getD (a.2 % order.length) 0), a.2 + 1) else a) (buckets, 0)

/-- A member of a group goes DL_Down (R118). -/
def hgMemberDown (s : State) (g p : Nat) : State :=
  match (s.hgMembers g).findIdx? (· == p) with
  | none => s
  | some i =>
    let x := giveBuckets (s.reg Obj.HG_BUCKETS g) (s.hgLiveIdx g) i
    (s.setReg Obj.HG_BUCKETS g x.1).raise 0x3103 0x31 2 g (g + p * 65536 + x.2 * 2 ^ 24)

/-- Groups in use. -/
def hgUsed (s : State) : List Nat := s.regs.filterMap (fun e => if e.1.1 = Obj.HG_COUNT ∧ e.2 ≠ 0 then some e.1.2 else none)

/-- The assignment of R116 with the buckets of members that are down given to the live ones (R119): the buckets, and how
many a member that is down gave up. -/
def hgAssign (s : State) (g : Nat) : Nat :=
  let c := s.reg Obj.HG_COUNT g
  let base := packElems 1 ((List.range 64).map (fun b => if c = 0 then 0 else b % c))
  let live := s.hgLiveIdx g
  ((List.range c).filter (fun i => !(live.contains i))).foldl (fun b i => (giveBuckets b live i).1) base

/-- Note that bucket `b` of group `g` now names another port than before, for R132. -/
def noteBucketMove (s : State) (g b : Nat) : State :=
  let v : Moved := { before := s.fab.uid, ports := [], drained := 0 }
  { s with fab := { s.fab with moved := s.fab.moved.set none (1, 64 * g + b) (some v) } }

/-- HG_REBALANCE (R119): the assignment of R116 again; the hold of R132 applies to the buckets that move. -/
def hgRebalance (s : State) (g : Nat) : State :=
  let old := s.reg Obj.HG_BUCKETS g
  let new := s.hgAssign g
  let mem := s.reg Obj.HG_MEMBERS g
  let moved := (List.range 64).filter (fun b => elem mem 1 (elem old 1 b) != elem mem 1 (elem new 1 b))
  let s1 := s.setReg Obj.HG_BUCKETS g new
  let s2 := foldS (fun b (t : State) => t.noteBucketMove g b) moved s1
  s2.noteMoved.raise 0x3104 0x31 1 g (g + moved.length * 65536)

/-! ### DL_Down -/

/-- The port was the host port of a bound partition that holds shared-coherent windows, active or retiring (R162). -/
def needsPurge (s : State) (p : Nat) : Bool :=
  match s.hostPart p with
  | none => false
  | some n => s.windows.any (fun w => (s.winCfg w).part == n && (s.winCfg w).shared) ||
      s.fab.walks.any (fun (k : Walk) => k.cfg.part == n && k.cfg.shared)

/-- The holder of a reservation loses it when its port goes DL_Down (R218). -/
def portRsvDown (s : State) (p : Nat) : State :=
  foldS (fun e (t : State) => match e.2 with
    | some r =>
      if r.port = p then
        ((t.dropRsv e.1.1 e.1.2).bump Obj.RSV_EXPIRED_CNT e.1.1).raise 0x5007 0x50 2 e.1.1 (r.line % 2 ^ 49 + p * 2 ^ 56)
      else t
    | none => t) s.coh.rsv s

/-- Stomp every message of the port that is still incomplete (R150, R160). -/
def stompPort (s : State) (p : Nat) : State :=
  foldS (fun e (t : State) => match e.2 with
    | some i => (if i.discard then t else t.stompMsg (t.latest i) 0).setInMsg p e.1 none
    | none => t) (s.fab.inMsgs.row p) s

/-- Lanes of a port that is down: unused, a FAILED one stays FAILED (R82, R105), and one on trial is FAILED again. -/
def lanesDown (s : State) (p : Nat) : State :=
  foldS (fun n (t : State) =>
    (t.setReg Obj.LANE_STATE n (if t.reg Obj.LANE_STATE n = 4 ∨ (t.lane n).restoring = true then 4 else 0)).modLane n
      (fun l => { l with restoring := false, lossAt := 0, lossPend := 0 })) (s.portLanes p) (s.settleLanes p)

/-- A port is disabled: its lanes are FAILED no longer, and their restore attempts count anew (R82, R105). -/
def lanesDisabled (s : State) (p : Nat) : State :=
  foldS (fun n (t : State) => (t.setReg Obj.LANE_STATE n 0).modLane n (fun l => { l with droppedAt := 0, tries := 0 }))
    (s.portLanes p) s

/-- A Drudar link's sequence, replay and credits are gone; counters of drops and lanes stay (R101). -/
def druReset (s : State) (p : Nat) : State := s.setDru p druDflt

/-- Mark a port DL_Down and FLUSHING for a LINK_DOWN cause (R89, R159). A port that is already down or flushing stays so. -/
def portDown (s0 : State) (p cause : Nat) : State :=
  let x := s0.port p
  if x.st = .flushing ∨ x.st = .disabled ∨ !(s0.formed p) then s0
  else
    let s := s0.accrue p
    let up := x.dlUp
    let src := if s.drudar p then 0x21 else 0x20
    let purge := up && s.needsPurge p
    let s1 := s.setPort p { x with
      st := .flushing, phase := .idle, dlUp := false, flushAt := s.clk, flushDone := false, flushCells := 0
      flushSynth := 0, purge := purge, changing := false, widening := false, byL0p := false, l1Req := false
      wantWidth := 0, rate := 0, bypass := false }
    let s2 := ((((((s1.setSpeed p 0).setReg Obj.PORT_WIDTH p 0).setReg Obj.PORT_ACTIVE_WIDTH p 0).setReg
      Obj.PORT_FLIT_ACTIVE p 0).setReg Obj.PORT_PROTOCOLS p 0).setReg Obj.DRU_RX_MASK p 0).setReg Obj.DRU_TX_MASK p 0
    let s3 := (((s2.setReg Obj.DRU_TX_WIDTH p 0).druReset p).lanesDown p).setPtmDlg p ptmDflt
    -- a port's IDE keys are zeroized when it goes DL_Down (R342)
    let s4 := (((s3.setIde p ideDflt).setReg Obj.PORT_IDE_STATE p 0).setReg Obj.DRU_IDE_STATE p 0).setEgr p
      { s3.egr p with cur := 8, under := false, mgmt := [] }
    if !up then s4
    else
      let s5 := s4.raise 0x2002 src 3 p cause
      let s6 := foldS (fun g (t : State) => t.hgMemberDown g p) s5.hgUsed s5
      let s7 := foldS (fun a (t : State) => t.agentLost a) (s6.agentsOfPort p) s6
      let s8 := s7.portRsvDown p
      let s9 := s8.stompPort p
      -- the cells that the stomps free count in PORT_FLUSHED (R160, R164)
      ((s9.modPort p (fun q => { q with flushCells := s8.fab.cells.length - s9.fab.cells.length })).movePortDown p).endpointGone (p + 1)

/-! ### Flush (R160, R161) -/

/-- Descriptors in a port's queues. -/
def portDescs (s : State) (p : Nat) : Nat := (List.range 8).foldl (fun a c => a + (s.queue p c).length) 0

/-- One descriptor of a flushed queue: a unicast chain is freed in one step, a multicast copy subtracts from REFCNT and
counts as BIRspI of its agents, a request is listed for synthesis, a completion is freed with its entry (R154, R160, R227). -/
def flushDesc (s : State) (p c d : Nat) : State :=
  match s.desc d with
  | none => s
  | some x =>
    let cells := s.chainCells 17 x.first
    let s1 := (foldS (fun i (t : State) => t.freeCell i) cells s).setDesc d none
    let s2 := s1.setQueue p c ((s1.queue p c).filter (· != d))
    let freed := cells.filter (fun i => (s.cell i).any (fun y => y.refcnt ≤ 1))
    let s3 := s2.modPort p (fun q => { q with flushCells := q.flushCells + freed.length })
    if x.mcast then foldS (fun a (t : State) => t.lostWait a) (s3.agentsOfPort p) s3
    else match x.msg.kind with
      | .request =>
        if x.msg.trk = false ∧ x.msg.track < 65536 then (s3.synthRtt x.msg.track 2).discardRest x.msg.uid
        else s3.discardRest x.msg.uid
      | .completion =>
        (if x.msg.trk = false ∧ x.msg.track < 65536 then s3.freeRtt x.msg.track else s3).discardRest x.msg.uid
      | _ => s3.discardRest x.msg.uid

/-- Writebacks that left by port `p` and have no completion yet are answered with cause PORT_LOST; what awaited them goes on (R160). -/
def flushWbs (s : State) (p : Nat) : State :=
  let out := fun (l : List Msg) => l.filter (fun w => w.egress == p)
  let kept := fun (l : List Msg) => l.filter (fun w => w.egress != p)
  let lost := fun (l : List Msg) (t : State) => foldS (fun (w : Msg) (u : State) => u.addSynth 2 w) (out l) t
  let s1 := foldS (fun e (t : State) => match e.2 with
    | some x => if (out x.wbs).isEmpty then t
      else (lost x.wbs (t.setTracker e.1.1 e.1.2 (some { x with wbs := kept x.wbs }))).advanceTrk e.1.1 e.1.2
    | none => t) s.coh.trk s
  foldS (fun e (t : State) => match e.2 with
    | some x => if (out x.wbs).isEmpty then t
      else (lost x.wbs (t.setEvict e.1.1 e.1.2 (some { x with wbs := kept x.wbs }))).advanceEvict e.1.1 e.1.2
    | none => t) s1.coh.evict s1

/-- The completions of the port's own writebacks have no requester any more: their messages name port 256, which is none (R160). -/
def orphanWbs (s : State) (p : Nat) : State :=
  let cut := fun (l : List Msg) => l.map (fun w => if w.inPort = p ∧ w.internal = false then { w with inPort := 256 } else w)
  { s with coh := { s.coh with
      trk := s.coh.trk.map (fun (e : Key × Option Trk) => (e.1, e.2.map (fun t => { t with wbs := cut t.wbs })))
      evict := s.coh.evict.map (fun (e : Key × Option Evict) => (e.1, e.2.map (fun t => { t with wbs := cut t.wbs }))) } }

/-- The scan of the request tracking table and the trackers for a port (R160). -/
def flushScan (s : State) (p : Nat) : State :=
  let s1 := foldS (fun e (t : State) => match e.2 with
    | some x =>
      let t1 := if x.port = p then
          (if x.synth then t.freeRtt e.1.1 else t.setRtt e.1.1 (some { x with orphan := true }))
        else t
      if x.egress = p ∧ x.port ≠ p then t1.synthRtt e.1.1 2 else t1
    | none => t) s.fab.rtt s
  foldS (fun e (t : State) => match e.2 with
    | some x =>
      let t1 := if x.msg.inPort = p ∧ x.msg.internal = false then
          t.setTracker e.1.1 e.1.2 (some { x with orphan := true }) else t
      if x.memOut ∧ x.msg.egress = p then t1.trkPortLost e.1.1 e.1.2 { x with orphan := x.orphan || (x.msg.inPort == p && !x.msg.internal) }
      else t1
    | none => t) s1.coh.trk ((s1.orphanWbs p).flushWbs p)

/-- Requests that wait for a tag or a tracking entry on their way to port `p` are answered with cause PORT_LOST; a posted one is dropped,
and so is a message of an internal requester that waits at its source (R131, R160). -/
def flushBound (s : State) (p : Nat) : State :=
  let hit := fun (m : Msg) => m.egress == p && m.ans == 0 && !(m.inPort == p && !m.internal)
  let s1 := { s with fab := { s.fab with
    rttWait := s.fab.rttWait.map (fun (e : Key × List Msg) => (e.1, e.2.map (fun m => if hit m ∧ m.kind ≠ .posted then { m with ans := 2 } else m)))
    sysWait := s.fab.sysWait.filter (fun m => m.egress != p) } }
  let s2 := foldS (fun (m : Msg) (t : State) => (t.dropChain m.uid).forget m.uid) (s1.fab.rttWait.flatMap (fun e => e.2.filter hit)) s1
  let tags := s2.fab.tagWait.filter (fun w => hit w.msg)
  foldS (fun (w : TagWait) (t : State) => t.answer 2 w.msg) tags
    { s2 with fab := { s2.fab with tagWait := s2.fab.tagWait.filter (fun w => !(hit w.msg)) } }

/-- Requests of the port that still wait anywhere are gone with it, and their cells freed. -/
def flushWaiting (s : State) (p : Nat) : State :=
  let mine := fun (m : Msg) => m.inPort == p && !m.internal
  let uids := ((s.coh.reqs.map (·.msg)) ++ (s.fab.hold.filterMap (fun e => e.2.map (·.msg))) ++ (s.fab.tagWait.map (·.msg)) ++
    s.fab.rttWait.flatMap (·.2)).filter mine
  let cells := uids.foldl (fun a m => match s.fab.chains.get none (m.uid, 0) with
    | some ch => a + (s.chainCells 17 ch.first).length
    | none => a) 0
  let s0 := s.modPort p (fun q => { q with flushCells := q.flushCells + cells })
  let s1 := foldS (fun (m : Msg) (t : State) => t.dropChain m.uid) uids s0
  { s1 with
    coh := { s1.coh with reqs := s1.coh.reqs.filter (fun r => !(mine r.msg)) }
    fab := { s1.fab with
      hold := s1.fab.hold.filter (fun e => !(e.1.1 == p))
      tagWait := s1.fab.tagWait.filter (fun w => !(mine w.msg))
      rttWait := s1.fab.rttWait.filter (fun e => !(e.1.1 == p))
      synth := s1.fab.synth.filter (fun e => !(e.1.1 == p))
      owed := s1.fab.owed.filter (fun e => !(e.1.1 == p)) } }

/-- The port's reserved cells and shared charges return to the pools: a cell of one of its messages that waits in another
queue is charged to the shared pool from then on, and to no port. -/
def releaseCharges (s : State) (p : Nat) : State :=
  { s with fab := { s.fab with cells := s.fab.cells.map (fun (e : Key × Option Cell) =>
      (e.1, e.2.map (fun (c : Cell) => if c.port = p ∧ c.sys = false then { c with port := 65535, shared := true } else c))) } }

/-- Cycles that a flush takes at least: the walk of its descriptors or the table scan, whichever is longer (R161). -/
def flushCycles (s : State) (p : Nat) : Nat := max (ceilDiv (s.portDescs p) 16) 2560

/-- The walk and the scan end: the pools are returned and PORT_FLUSHED is raised (R160, R161). -/
def finishFlush (s : State) (p : Nat) : State :=
  let x := s.port p
  if x.st ≠ .flushing ∨ x.flushDone = true ∨ s.clk < x.flushAt + s.flushCycles p * fclkUnit then s
  else
    let before := s.fab.synth.foldl (fun a e => a + e.2.length) 0 - (s.synth p).length
    let s1 := foldS (fun c (t : State) => foldS (fun d (u : State) => u.flushDesc p c d) (t.queue p c) t) (List.range 8) s
    let s2 := (((s1.flushScan p).flushBound p).flushWaiting p).releaseCharges p
    let n := s2.fab.synth.foldl (fun a e => a + e.2.length) 0 - before
    let cells := (s2.port p).flushCells
    let s3 := (s2.modPort p (fun q => { q with flushDone := true, flushSynth := n })).bump Obj.FLUSH_CNT p
    s3.noteMoved.raise 0x3001 0x30 2 p (min cells 0xFFFF_FFFF + min n 0xFFFF_FFFF * 2 ^ 32 +
      min ((s.clk - x.flushAt) / (10 * nsUnit)) 65535 * 2 ^ 64 + (if x.purge then 2 ^ 80 else 0))

/-- A purge job of an agent of the port still runs (R230). -/
def purgePending (s : State) (p : Nat) : Bool :=
  s.coh.purges.any (fun j => s.agentPort j.agent == p || (s.agentsOfPort p).contains j.agent)

/-- The core that runs the ladders, Ridge core 1, is halted by a debug session (R13, R347). -/
def ladderHalted (s : State) : Bool := bit (s.reg Obj.RIDGE_HALT 0) 1

/-- A port leaves FLUSHING for DETECT or DISABLED once its flush and a required purge have finished (R162). -/
def flushExit (s : State) (p : Nat) : State :=
  let x := s.port p
  if x.st = .flushing ∧ x.flushDone = true ∧ !(x.purge && s.purgePending p) = true then
    s.setPort p { x with
      st := if s.flag Obj.PORT_ENABLE p then .detect else .disabled
      phase := .idle, purge := false, ladderWaits := s.ladderHalted }
  else s

end State

/-! ### Commands -/

/-- PORT_DL_DOWN (R159): a link lost for a cause that is the partner's (4, hot reset or link disable), or, for a port whose
Recovery or RETRAIN has failed or whose width is gone, causes 1 and 2. -/
def execPortDlDown (p cause : Nat) (s : State) := onUnit p 256 s (fun t => t.portDown p cause)

/-- FLUSH_DONE (R161). -/
def execFlushDone (p : Nat) (s : State) := onUnit p 256 s (fun t => t.finishFlush p)

/-- PORT_FLUSH_EXIT (R162). -/
def execPortFlushExit (p : Nat) (s : State) := onUnit p 256 s (fun t => t.flushExit p)

end Sys2Proof.Machine
end

