-- ==== Sys2Proof/Machine/Counters.lean ====
section
/-!
DEFINITION. The performance counters (R325 to R333): what a cycle counts, overflow and the sample record.
-/

namespace Sys2Proof.Machine

/-- Codes of the event catalogue whose attribution is a partition; the others are attributed to none. -/
def cntAttributed : List Nat :=
  [0x3001, 0x3002, 0x3003, 0x3004, 0x3005, 0x3007, 0x3008, 0x3009, 0x5001, 0x5002, 0x5003, 0x5004, 0x5005, 0x5007, 0x6001, 0x6002, 0x6003]

def cntUnattributed : List Nat := [0x2001, 0x2002, 0x2003, 0x3006, 0x4001, 0x4002, 0x5006, 0xD001]

/-- Condition events (kind C). -/
def cntCondition : List Nat := [0x2003, 0x3006, 0x3007, 0x4002, 0x5006, 0x5007]

namespace State

def cntPlain (code port aux part : Nat) : CntEvt :=
  { code := code, port := port, aux := aux, part := part, cls := 255, hpa := 2 ^ 64 - 1, pool := 2 ^ 64 - 1 }

/-- Ports and classes with a credit withheld: a cell stays on reserve (R147), or the port returns none (R156, R223). -/
def creditsWithheld (s : State) : List (Nat × Nat) :=
  (s.fab.cells.filterMap (fun e => match e.2 with
    | some c => if c.port < 256 ∧ c.shared = false ∧ c.sys = false then some (c.port, c.cls) else none
    | none => none) ++
    s.fab.owed.filterMap (fun e => if s.portWithheld e.1.1 e.1.2 then some (e.1.1, s.unitClass e.1.1 e.1.2) else none)).eraseDups

/-- FEC-corrected symbols that the CXL-mode ports with 256-byte flits receive in this cycle. No command brings them: free values
(log entry on the errors of a lane). -/
def cxlFec (s : State) : List (CntEvt × Nat) :=
  (List.range 256).filterMap (fun p =>
    if s.dlUp p = true ∧ s.drudar p = false ∧ s.reg Obj.PORT_FLIT_ACTIVE p = 1 then
      some (cntPlain 0x2001 p 255 255, Config.freeNat (s.freeCtr + p) % 65536) else none)

/-- The conditions of kind C that hold now, each with its size (*Event catalogue*). -/
def conditions (s : State) (code : Nat) : List (CntEvt × Nat) :=
  if code = 0x2003 then
    s.link.ports.filterMap (fun e => if e.2.st == .recovery then some (cntPlain code e.1.1 255 255, 1) else none)
  else if code = 0x3006 then
    s.fab.queues.filterMap (fun e => if e.2.isEmpty then none else some ({ cntPlain code e.1.1 e.1.2 255 with cls := e.1.2 }, 1))
  else if code = 0x3007 then
    s.creditsWithheld.map (fun e => ({ cntPlain code e.1 e.2 ((s.hostPart e.1).getD 255) with cls := e.2 }, 1))
  else if code = 0x4002 then
    s.fab.queues.filterMap (fun e =>
      let a := (s.accrue e.1.1).egr e.1.1
      if e.2.isEmpty = false ∧ s.shaped e.1.1 e.1.2 = true ∧ a.credit.getD e.1.2 0 < 0 then
        some ({ cntPlain code e.1.1 e.1.2 255 with cls := e.1.2 }, 1)
      else none)
  else if code = 0x5006 then
    (List.range 8).map (fun c => (cntPlain code 65535 c 255, (s.coh.trk.row c).length))
  else if code = 0x5007 then
    (List.range 256).filterMap (fun p =>
      if s.holdUsed p = 0 then none else some (cntPlain code p 255 ((s.hostPart p).getD 255), s.holdUsed p))
  else []

/-- Counter `i` counts an event (R329). -/
def counts (s : State) (i : Nat) (e : CntEvt) : Bool :=
  e.code == s.reg Obj.CNT_EVT i &&
  (s.reg Obj.CNT_PORT i == 0xFFFF || s.reg Obj.CNT_PORT i == e.port) &&
  (e.aux == 255 || bit (s.reg Obj.CNT_AUX i) e.aux) &&
  (i / 8 == 64 || e.part == i / 8)

/-- Insert by ascending port. -/
def byPort (e : CntEvt × Nat) : List (CntEvt × Nat) → List (CntEvt × Nat)
  | [] => [e]
  | h :: r => if e.1.port < h.1.port then e :: h :: r else h :: byPort e r

/-- Events of this cycle that counter `i` selects, by ascending port number (R331). -/
def selected (s : State) (i : Nat) : List (CntEvt × Nat) :=
  let code := s.reg Obj.CNT_EVT i
  let l := if cntCondition.contains code then s.conditions code
    else s.cnt.evts.map (fun e => (e, 1)) ++ (if code = 0x2001 then s.cxlFec else [])
  (l.filter (fun e => s.counts i e.1 && e.2 != 0)).foldl (fun a e => byPort e a) []

/-- What counter `i` adds in this cycle (R328), and its v. -/
def increment (s : State) (i : Nat) (l : List (CntEvt × Nat)) : Nat × Nat :=
  let v := l.foldl (fun a e => a + e.2) 0
  let cond := cntCondition.contains (s.reg Obj.CNT_EVT i)
  (match s.reg Obj.CNT_MODE i with
   | 1 => if cond then (if v ≠ 0 ∧ s.cnt.hist.get false (i, 0) = false then 1 else 0) else v
   | 2 => if max 1 (s.reg Obj.CNT_THRESH i) ≤ v then 1 else 0
   | _ => 0, v)

/-- One FCLK cycle of counter `i` (R328, R330): a write of this cycle discards its increment. -/
def tickCounter (s : State) (i : Nat) : State :=
  let l := s.selected i
  let x := s.increment i l
  let k := i / 8
  let inc := if s.cnt.fresh.get false (i, 0) then 0 else x.1
  let old := s.reg Obj.CNT_VALUE i
  let new := old + inc
  let ovf := 2 ^ 48 ≤ new
  let t := s.setReg Obj.CNT_VALUE i (new % 2 ^ 48)
  let c := t.cnt
  -- the context is the last event counted, or the 64th after the overflow (R331, R332)
  let cap := match c.cap.get none (k, 0) with
    | some a => if a.first = i ∧ inc ≠ 0 ∧ a.events < 64 then
        c.cap.set none (k, 0) (some { a with
          events := min (a.events + inc) 64, ctx := ((l[min l.length (64 - a.events) - 1]?).map (·.1)).getD a.ctx })
      else c.cap
    | none => c.cap
  { t with cnt := { c with
      hist := c.hist.set false (i, 0) (x.2 != 0)
      cap := cap
      ovfNow := if ovf then c.ovfNow.set 0 (k, 0) (setBit (c.ovfNow.get 0 (k, 0)) (i % 8)) else c.ovfNow
      ctxNow := if inc = 0 then c.ctxNow else c.ctxNow.set none (i, 0) (l.getLast?.map (·.1)) } }

/-- Sets that run. -/
def runningSets (s : State) : List Nat :=
  s.regs.filterMap (fun e => if e.1.1 = Obj.CNT_CTL ∧ bit e.2 0 = true then some e.1.2 else none)

/-- Counters that count: their set runs and CNT_MODE is not 0 (R325). -/
def runningCounters (s : State) : List Nat :=
  s.regs.filterMap (fun e => if e.1.1 = Obj.CNT_MODE ∧ e.2 ≠ 0 ∧ s.runningSets.contains (e.1.2 / 8) then some e.1.2 else none)

/-- Counters that select an event and do not count: their edge history follows the condition (R328). -/
def idleCounters (s : State) : List Nat :=
  s.regs.filterMap (fun e => if e.1.1 = Obj.CNT_EVT ∧ cntCondition.contains e.2 = true ∧ s.runningCounters.contains e.1.2 = false
    then some e.1.2 else none)

/-- A cycle of a counter that does not count. -/
def idleCounter (s : State) (i : Nat) : State :=
  { s with cnt := { s.cnt with hist := s.cnt.hist.set false (i, 0) ((s.increment i (s.selected i)).2 != 0) } }

/-- Take up the overflow of counter `i` (R330 to R332): its bit, and a capture opened, joined, or lost. -/
def takeOverflow (s : State) (i : Nat) : State :=
  let k := i / 8
  let j := i % 8
  let c := s.cnt
  if bit (c.ovfNow.get 0 (k, 0)) j = false then s
  else
    let s1 := s.setReg Obj.CNT_OVF k (setBit (s.reg Obj.CNT_OVF k) j)
    let c1 := { s1.cnt with ovfNow := c.ovfNow.set 0 (k, 0) (clrBit (c.ovfNow.get 0 (k, 0)) j) }
    if bit (s.reg Obj.CNT_SMP_MASK k) j = false ∨ bit (s.reg Obj.CNT_CTL k) 2 = false then { s1 with cnt := c1 }
    else match c.cap.get none (k, 0) with
      | some a => { s1 with cnt := { c1 with cap := c.cap.set none (k, 0) (some { a with mask := setBit a.mask j }) } }
      | none =>
        if c.recValid.get false (k, 0) then
          let s2 := ({ s1 with cnt := c1 } : State).bump Obj.SMP_LOST k
          s2.raiseLimited 1000000 k 0x9001 0x90 0 k (2 ^ j + 65536 * s2.reg Obj.SMP_LOST k)
        else
          let ctx := (c.ctxNow.get none (i, 0)).getD (cntPlain (s.reg Obj.CNT_EVT i) 65535 255 255)
          let a : Capture := { first := i, mask := 2 ^ j, cycles := 0, events := min (s.reg Obj.CNT_VALUE i) 64, ctx := ctx }
          { s1 with cnt := { c1 with cap := c.cap.set none (k, 0) (some a) } }

/-- The sample record of a capture (*Overflow sample record*). -/
def sampleRecord (s : State) (k : Nat) (a : Capture) (frozen : Bool) : List Byte :=
  toBytes 10 s.now ++ toBytes 8 (s.reg Obj.CNT_CYCLES k) ++
  (List.range 8).flatMap (fun j => toBytes 6 (s.reg Obj.CNT_VALUE (8 * k + j))) ++
  toBytes 1 a.mask ++ toBytes 1 (min a.cycles 64) ++ toBytes 1 (min a.events 64) ++
  toBytes 1 (if a.ctx.cls < 8 then a.ctx.cls + 128 else 0) ++ toBytes 2 a.ctx.port ++ toBytes 1 a.ctx.part ++
  toBytes 1 (1 + (if frozen then 2 else 0)) ++ toBytes 8 (if k = 64 then a.ctx.pool else a.ctx.hpa) ++
  toBytes 2 (s.reg Obj.CNT_EVT a.first) ++ toBytes 4 0

/-- A capture closes (R331): the record is written and valid, FREEZE clears RUN, CNT_OVERFLOW is raised. -/
def closeCapture (s : State) (k : Nat) : State :=
  match s.cnt.cap.get none (k, 0) with
  | none => s
  | some a =>
    if a.cycles < 64 ∧ a.events < 64 then s
    else
      let frz := bit (s.reg Obj.CNT_CTL k) 1
      let s1 := s.setReg Obj.SMP_RECORD k (ofBytes (s.sampleRecord k a frz))
      let s2 := if frz then s1.setReg Obj.CNT_CTL k (clrBit (s.reg Obj.CNT_CTL k) 0) else s1
      let s3 := { s2 with cnt := { s2.cnt with
        cap := s2.cnt.cap.set none (k, 0) none, recValid := s2.cnt.recValid.set false (k, 0) true } }
      s3.raise 0x9001 0x90 0 k (a.mask + 256 + (if frz then 512 else 0) + 65536 * s.reg Obj.SMP_LOST k)

/-- A guest set returns to its defaults when its partition is bound or unbound (R326). -/
def resetSet (s : State) (k : Nat) : State :=
  let c := s.cnt
  let own := fun (o : Nat) (i : Nat) =>
    ((0x900000 ≤ o && o < 0x900100) && i == k) || ((0x910000 ≤ o && o < 0x910100) && i / 8 == k)
  { s with
    regs := s.regs.filter (fun e => !(own e.1.1 e.1.2))
    cnt := { c with
      hist := c.hist.filter (fun e => !(e.1.1 / 8 == k))
      fresh := c.fresh.filter (fun e => !(e.1.1 / 8 == k))
      ctxNow := c.ctxNow.filter (fun e => !(e.1.1 / 8 == k))
      ovfNow := c.ovfNow.set 0 (k, 0) 0
      cap := c.cap.set none (k, 0) none
      recValid := c.recValid.set false (k, 0) false } }

/-! ### Effects of writes -/

/-- SMP_RELEASE: the record becomes invalid (R332). -/
def releaseRecord (s : State) (k : Nat) : State :=
  let r := s.reg Obj.SMP_RECORD k
  let t := s.setReg Obj.SMP_RECORD k (clrBit r (8 * 73))
  { t with cnt := { t.cnt with recValid := t.cnt.recValid.set false (k, 0) false } }

/-- CNT_EVT, CNT_MODE, CNT_PORT, CNT_AUX: the edge history is cleared (R328). -/
def clearHist (s : State) (i : Nat) : State :=
  { s with cnt := { s.cnt with hist := s.cnt.hist.set false (i, 0) false } }

/-- CNT_VALUE (R328). -/
def setCounter (s : State) (i v : Nat) : State :=
  let t := s.setReg Obj.CNT_VALUE i v
  { t with cnt := { t.cnt with fresh := t.cnt.fresh.set false (i, 0) true } }

/-- CNT_OVF_CLR: an overflow of the same cycle, not yet taken up, prevails (R330). -/
def clearOvf (s : State) (k v : Nat) : State := s.setReg Obj.CNT_OVF k (maskOut (s.reg Obj.CNT_OVF k) (v % 256))

end State

/-! ### Commands -/

/-- COUNTER_TICK (R325, R328): one FCLK cycle; in HOLD and SENTINEL FCLK is off (R327). -/
def execCounterTick (s : State) := steady s (fun t =>
  if t.ridgeClock = false then t
  else
    let s0 := foldS (fun i (u : State) => u.idleCounter i) t.idleCounters t
    let s1 := foldS (fun i (u : State) => u.tickCounter i) t.runningCounters s0
    let s2 := foldS (fun k (u : State) => u.bump64 Obj.CNT_CYCLES k) t.runningSets s1
    let caps := s2.cnt.cap.map (fun (e : Key × Option Capture) =>
      (e.1, e.2.map (fun (a : Capture) => { a with cycles := min (a.cycles + 1) 64 })))
    { s2 with
      cnt := { s2.cnt with evts := [], fresh := [], cap := caps }
      freeCtr := if t.runningCounters.any (fun i => t.reg Obj.CNT_EVT i == 0x2001) then s2.freeCtr + 256 else s2.freeCtr })

/-- CNT_OVERFLOW (R330 to R332). -/
def execCntOverflow (i : Nat) (s : State) := onUnit i 520 s (fun t => t.takeOverflow i)

/-- CAPTURE_CLOSE (R331). -/
def execCaptureClose (k : Nat) (s : State) := onUnit k 65 s (fun t => t.closeCapture k)

end Sys2Proof.Machine
end

