-- ==== Sys2Proof/Machine/Links.lean ====
section
/-!
DEFINITION. CXL-mode links and the lane instruments (R65 to R89): the bring-up ladder, lane loss, narrowing and
widening, PRBS counters and the Quartz eye engines.
-/

namespace Sys2Proof.Machine

/-- The width that the first `n` lanes of a list allow: the largest power of two that all of its lanes carry. -/
def prefixWidth (ok : Nat → Bool) (l : List Nat) : Nat :=
  let n := (l.takeWhile ok).length
  if 16 ≤ n then 16 else if 8 ≤ n then 8 else if 4 ≤ n then 4 else if 2 ≤ n then 2 else n

/-- The figure of merit of a scan (R86): the smallest of height * width / 10 over the eyes, at most 65 535. -/
def eyeFom (eyes : List (Nat × Nat)) : Nat :=
  eyes.foldl (fun a e => min a (e.1 * e.2 / 10)) 65535

namespace State

/-! ### The ladder (R70 to R76) -/

/-- Ridge core 1, which runs the ladder, takes steps: it is not halted, and the Ridge clock runs (R13). -/
def ladderRuns (s : State) : Bool := !s.ladderHalted && s.ridgeClock

/-- Formed, ungated and enabled: the port takes part in link bring-up. -/
def trainable (s : State) (p : Nat) : Bool := s.formed p && !s.gatedLC (p / 8) && s.flag Obj.PORT_ENABLE p

/-- Ridge core 1 may take a ladder step of the port (R13): the core runs, the port's cluster has power, and its lanes are not under
a boundary-scan test instruction (R349). -/
def stepping (s : State) (p : Nat) : Bool := s.trainable p && s.ladderRuns && !s.link.halted

/-- Put a port at the start of the ladder (*The bring-up ladder*): not one that is still flushing (R162), nor one whose tries are
spent (R75). -/
def startLadder (s : State) (p : Nat) : State :=
  if s.trainable p ∧ (s.port p).st ≠ .flushing ∧ (s.port p).spent = false then
    s.modPort p (fun x => { x with st := .detect, phase := .idle, dlUp := false, rate := 0 })
  else s

/-- BAY_PERST_N of the port's channel is released, or the port has no channel (R15). -/
def perstFree (s : State) (p : Nat) : Bool :=
  (s.portChannel p).isNone || (s.port p).perstReleased

/-- The highest rung of the ladder up to `n` below a barred rate: 5 GT/s is a rung only as the rate of R70 itself (R73, R74). -/
def belowBar (n bar : Nat) : Nat :=
  if bar = 0 ∨ n < bar then n else if bar = 2 then (if n = 2 then 1 else n) else if bar = 3 then 1 else bar - 1

/-- The highest rate a CXL-mode port attempts (R70), below a rate it does not attempt again (R74). -/
def targetRate (s : State) (p : Nat) : Nat :=
  let x := s.port p
  let m := min (min (s.reg Obj.PORT_SPEED_MAX p) (s.reg Obj.PORT_CEILING p)) x.partnerMax
  let n := if s.reg Obj.PORT_FLIT_ACTIVE p = 2 then min m 5 else m
  belowBar n x.noRate

/-- The rung after `r` on the way to `target` (R73): 5 GT/s only where it is the target. -/
def nextRung (r target : Nat) : Nat := if target = 2 then 2 else if r < 3 then 3 else r + 1

/-- A failure of training (R75): TRAIN_FAIL, a consecutive failure, and the back-off from now; the last of PORT_TRAIN_TRIES
spends them. -/
def trainFail (s : State) (p : Nat) : State :=
  let x := s.port p
  let n := x.fails + 1
  let s1 := s.setPort p { x with
    st := .trainFail, phase := .idle, dlUp := false, fails := n, failedAt := s.clk, rate := 0, changing := false, widening := false
    spent := s.reg Obj.PORT_TRAIN_TRIES p ≤ n }
  let s2 := ((((s1.setSpeed p 0).setReg Obj.PORT_WIDTH p 0).setReg Obj.PORT_ACTIVE_WIDTH p 0).setReg
    Obj.PORT_FLIT_ACTIVE p 0).setReg Obj.PORT_PROTOCOLS p 0
  (s2.lanesDown p).raise 0x2003 (if s.drudar p then 0x21 else 0x20) 3 p (x.rate % 256 + 256 * min n 255)

/-- The back-off after `n` consecutive failures, ns (R75). -/
def backoff (n : Nat) : Nat := min (100000000 * 2 ^ (n - 1)) 10000000000

/-- Settle at the rung now trained, with `failed` not attempted again (R74). -/
def settle (s : State) (p failed : Nat) : State :=
  let x := s.port p
  ((s.setPort p { x with noRate := failed, eqTries := 0, phase := .linkInit }).setReg Obj.PORT_FALLBACK p failed).raise
    0x2004 (if s.drudar p then 0x21 else 0x20) 2 p (failed % 256 + 256 * x.rate)

/-- A rung has trained: the ladder goes on to the next, or to the link layer (R73). -/
def rungDone (s : State) (p r : Nat) : State :=
  let x := s.port p
  ((s.setPort p { x with rate := r, eqTries := 0,
                         phase := if r < s.targetRate p then .eq else .linkInit }).setSpeed p r).portRateChange p

/-- The rung that the ladder now climbs to. -/
def climbing (s : State) (p : Nat) : Nat :=
  let x := s.port p
  if x.bypass then s.targetRate p else nextRung x.rate (s.targetRate p)

/-- The port reports DL_Up and raises LINK_UP (R76); its credits and tags start anew (R176, R178). -/
def linkUp (s : State) (p : Nat) : State :=
  let x := s.port p
  let t := ((s.setPort p { x with st := .l0, phase := .idle, dlUp := true, fails := 0 }).egressUp p).portRateChange p
  -- a CXL-mode port grants its partner the credits of its channels (R145)
  (if s.drudar p then t else t.emit (.granted p ((List.range 12).map (t.chanCredits p)))).raise
    0x2001 (if s.drudar p then 0x21 else 0x20) 1 p
    (s.reg Obj.PORT_SPEED p % 256 + 256 * (s.reg Obj.PORT_WIDTH p) + 65536 * (s.reg Obj.PORT_PROTOCOLS p % 256))

/-- Take the size that a port's device reports into LD_SIZE of its LDs; a bound one keeps its size (R125). -/
def takeLdSizes (s : State) (p : Nat) (bound : Bool) : State :=
  foldS (fun ld (t : State) =>
    if t.reg Obj.LD_PORT ld = p ∧ t.ldLocal ld = true ∧ (bound || (t.ldHolders ld).isEmpty) = true
    then t.setReg Obj.LD_SIZE ld ((t.ldReported ld).getD 0) else t) s.ldsKnown s

/-- CXL.cache may be negotiated on a port: not with a second device of one virtual hierarchy (*Standards and the extent of support*,
R1). A hierarchy is a partition. -/
def cacheAllowed (s : State) (p : Nat) : Bool :=
  s.reg Obj.PORT_ROLE p != 1 ||
  (List.range 256).all (fun q => q == p || s.reg Obj.PORT_ROLE q != 1 || !(bit (s.reg Obj.PORT_PROTOCOLS q) 2) ||
    (s.devParts q).all (fun n => !((s.devParts p).contains n)))

/-! ### Widths (R80 to R82) -/

/-- The lanes of the trained width, in the trained order. -/
def trained (s : State) (p : Nat) : List Nat :=
  let l := if s.flag Obj.PORT_REVERSED p then (s.portLanes p).reverse else s.portLanes p
  l.take (s.reg Obj.PORT_WIDTH p)

/-- A lane is not FAILED. -/
def laneOk (s : State) (n : Nat) : Bool := s.reg Obj.LANE_STATE n != 4

/-- The width and order that Configuration can form from the lanes that `ok` accepts: the order that the board wires (`rev`), or
the other where that gives a wider width (R67, R80). -/
def widest (s : State) (p : Nat) (ok : Nat → Bool) (rev : Bool) : Nat × Bool :=
  let a := prefixWidth ok (s.portLanes p)
  let b := prefixWidth ok (s.portLanes p).reverse
  if a < b then (b, true) else if b < a then (a, false) else (a, rev)

/-- A lane of the port that responded in Configuration and is not FAILED. -/
def usable (s : State) (p n : Nat) : Bool := s.laneOk n && bit (s.port p).respond (n - s.firstLane p)

/-- L0p width that excludes the FAILED lanes, where L0p can (R80); 0 where it cannot. -/
def l0pWidth (s : State) (p : Nat) : Nat :=
  let w := prefixWidth s.laneOk (s.trained p)
  if s.link.l0pOn.get false (p, 0) ∧ ((s.trained p).take w).all (fun n => s.reg Obj.LANE_STATE n == 1) = true then w else 0

/-- The phase of a port that is back in L0: a device that has not been enumerated yet is enumerated still (R76). -/
def l0Phase (x : Port) : Phase := if x.dlUp then .idle else .enumerating

/-- Narrow a port that has FAILED lanes in its active width (R80). -/
def narrow (s : State) (p : Nat) : State :=
  let x := s.port p
  let w := s.l0pWidth p
  if w ≠ 0 then s.setPort p { x with st := .l0, phase := l0Phase x, changing := true, byL0p := true, wantWidth := w, widening := false }
  else
    let c := s.widest p (s.usable p) x.boardRev
    if c.1 = 0 then s.portDown p 2
    else s.setPort p { x with st := .recovery, phase := .config, changing := true, byL0p := false, wantWidth := c.1,
                              reversedNext := c.2, widening := false }

/-- Enter Recovery from L0 (R77, R78): the queues wait, without a flush. -/
def enterRecovery (s : State) (p : Nat) : State :=
  let t := s.accrue p
  (((t.modPort p (fun x => { x with st := .recovery, phase := .idle })).bump Obj.PORT_RECOVERY_CNT p).setPtmDlg p ptmDflt)

/-- Put the FAILED lanes of a port's full width on trial (R82). -/
def restoreLanes (s : State) (p : Nat) : State :=
  let x := s.port p
  foldS (fun n (t : State) =>
    if t.laneOk n then t
    else (t.setReg Obj.LANE_STATE n 3).modLane n (fun l => { l with restoring := true, lossAt := 0, countAt := t.clk }))
    ((if x.fullRev then (s.portLanes p).reverse else s.portLanes p).take x.fullWidth) s

/-- A widening attempt fails: a restored lane lost lock within the window (R82). -/
def widenFailed (s : State) (p : Nat) : State :=
  (foldS (fun n (t : State) => t.modLane n (fun l => { l with restoring := false })) (s.portLanes p) s).modPort p
    (fun x => { x with widenTries := x.widenTries + 1, narrowedAt := s.clk + 1, widening := false })

/-- A lane becomes FAILED (R79). -/
def failLane (s0 : State) (p n : Nat) : State :=
  let s := if (s0.lane n).restoring ∧ s0.drudar p = false then s0.widenFailed p else s0
  ((s.setReg Obj.LANE_STATE n 4).modLane n (fun l => { l with lossAt := 0, restoring := false, lossPend := 0 })).raise
    0x2006 (if s.drudar p then 0x21 else 0x20) 3 p n

/-- Judge a lane's loss of lock on an active CXL-mode port (R77, R79, R82); `why` 0 lock detector, 1 uncorrectable flits. -/
def laneLoss (s : State) (p n why : Nat) : State :=
  let l := s.lane n
  let win := s.reg Obj.LANE_FAIL_WINDOW p * 1000000
  let within := l.lossAt ≠ 0 ∧ s.clk < l.lossAt - 1 + win * nsUnit
  let t :=
    if l.restoring = true ∨ (s.reg Obj.LANE_STATE n = 3 ∧ within) then s.failLane p n
    else ((s.setReg Obj.LANE_STATE n 3).setLane n { l with lossAt := s.clk + 1 }).raise 0x2005 0x20 2 p (n + 65536 * why)
  if (s.port p).st = .l0 then t.enterRecovery p else t

/-- Lanes now carrying data. -/
def activeLanes (s : State) (p : Nat) : List Nat := (s.trained p).take (s.reg Obj.PORT_ACTIVE_WIDTH p)

/-- A lane loses lock (R77): one that is not watched is left (R81), and one of a port whose width is changing is judged
when the change has ended. -/
def laneLost (s : State) (n why : Nat) : State :=
  let p := s.lanePort n
  let x := s.port p
  let ls := s.reg Obj.LANE_STATE n
  if s.drudar p = true ∨ s.gatedLC (p / 8) = true ∨ ¬ (x.st = .l0 ∨ x.st = .recovery) ∨
     ((s.activeLanes p).contains n = false ∧ (s.lane n).restoring = false) ∨ ¬ (ls = 1 ∨ ls = 3) then s
  else if x.changing then s.modLane n (fun l => { l with lossPend := why + 1 })
  else s.laneLoss p n why

/-- The end of a width change (R80 to R82): widths, lane states and the port's rate follow, LINK_NARROWED is raised, the
restored lanes of a widening are on trial for the window from now, and losses that came meanwhile are judged. DESIGN CHOICE: the lanes
restored are the FAILED ones; a lane that L0p held idle is ACTIVE again at once. A change through Configuration has measured the
skew at its Recovery (R72). -/
def widthChanged (s : State) (p skew : Nat) : State :=
  let x := s.port p
  if !x.changing then s
  else
    let old := s.reg Obj.PORT_ACTIVE_WIDTH p
    let w := x.wantWidth
    let s0 := (s.accrue p).settleLanes p
    let s1 := if x.byL0p then s0
      else ((s0.setReg Obj.PORT_WIDTH p w).setReg Obj.PORT_REVERSED p (if x.reversedNext then 1 else 0)).setReg Obj.PORT_SKEW p skew
    let lanes := s1.trained p
    let s2 := foldS (fun n (t : State) =>
      let inW := (lanes.take w).contains n
      let ls := t.reg Obj.LANE_STATE n
      if inW then
        (if (t.lane n).restoring then t.modLane n (fun l => { l with lossAt := t.clk + 1 })
         else if ls = 3 ∨ ls = 4 then t else t.setReg Obj.LANE_STATE n 1)
      else if ls = 4 then t
      else (t.setReg Obj.LANE_STATE n (if x.byL0p && lanes.contains n then 2 else 0)).modLane n
        (fun l => { l with restoring := false, lossAt := 0 })) (s1.portLanes p) s1
    let s3 := ((s2.setReg Obj.PORT_ACTIVE_WIDTH p w).setPort p { x with
      st := .l0, phase := l0Phase x, changing := false, byL0p := false
      narrowedAt := if x.widening then x.narrowedAt else s.clk + 1 }).portRateChange p
    let s4 := if x.widening then s3
      else s3.raise 0x2007 0x20 2 p (old + 256 * w + (if x.byL0p then 0 else 65536))
    foldS (fun n (t : State) =>
      let why := (t.lane n).lossPend
      if why = 0 then t else (t.modLane n (fun l => { l with lossPend := 0 })).laneLost n (why - 1)) (s4.portLanes p) s4

/-- Lanes of a port that are on trial in a widening attempt (R82). -/
def restoringLanes (s : State) (p : Nat) : List Nat := (s.portLanes p).filter (fun n => (s.lane n).restoring)

/-- A SUSPECT lane has kept lock for the window and returns to ACTIVE; the last restored lane of an attempt ends it, with
LINK_WIDENED (R79, R82). -/
def laneKept (s : State) (n : Nat) : State :=
  let p := s.lanePort n
  let l := s.lane n
  if s.reg Obj.LANE_STATE n ≠ 3 ∨ l.lossAt = 0 ∨ s.after (l.lossAt - 1) (s.reg Obj.LANE_FAIL_WINDOW p * 1000000) = false then s
  else
    let t := (s.setReg Obj.LANE_STATE n 1).setLane n { l with lossAt := 0, restoring := false }
    if l.restoring = true ∧ (t.restoringLanes p).isEmpty = true then
      let x := t.port p
      if s.drudar p then t.modLane n (fun y => { y with tries := 0 })
      else (t.setPort p { x with widening := false, widenTries := 0, narrowedAt := 0 }).raise 0x2008 0x20 1 p
        (x.oldWidth + 256 * t.reg Obj.PORT_ACTIVE_WIDTH p)
    else t

/-! ### Quartz (R85 to R88) -/

/-- Privileged lanes of an engine's group, ascending. -/
def privLanes (s : State) (q : Nat) : List Nat :=
  ((List.range 64).map (64 * q + ·)).filter (fun n => s.flag Obj.LANE_PRIV n)

/-- The next lane offset of the background scan from `k` on, skipping privileged lanes; 64 at the end of the group. -/
def scanFrom (s : State) (q k : Nat) : Nat :=
  ((List.range (64 - k)).map (k + ·)).find? (fun j => !s.flag Obj.LANE_PRIV (64 * q + j)) |>.getD 64

/-- LANE_FOM of a lane is measured; Talus keeps the least of the window under way (*What Talus watches*). -/
def setFom (s : State) (n f : Nat) : State :=
  let t := s.setReg Obj.LANE_FOM n f
  let old := s.talus.fomMin.get 0 (n, 0)
  { t with talus := { t.talus with fomMin := if old = 0 ∨ f + 1 < old then t.talus.fomMin.set 0 (n, 0) (f + 1) else t.talus.fomMin } }

/-- Results of a finished scan (R86). -/
def scanDone (s : State) (n : Nat) (eyes : List (Nat × Nat)) : State :=
  if eyes.isEmpty then s
  else
    (((s.setFom n (eyeFom eyes)).setReg Obj.LANE_EYE_H n (eyes.foldl (fun a e => min a e.1) 65535)).setReg
      Obj.LANE_EYE_W n (eyes.foldl (fun a e => min a e.2) 65535)).setReg Obj.LANE_EYE_TIME n s.now

/-- Serve one margining command of a lane (R88); a privileged lane does not adapt until the command to return to normal. -/
def serveMargin (s : State) (n : Nat) (c : MarginCmd) : State :=
  let t := if s.flag Obj.LANE_PRIV n then s.modLane n (fun l => { l with margining := c != .normal }) else s
  match c with
  | .normal => t
  | .report => t.emit (.marginCaps n 32 50 64 12 true true true true)
  | .timing _ _ => t.nextFree.emit (.margined n c s.freeVal)
  | .voltage _ _ => t.nextFree.emit (.margined n c s.freeVal)

/-- Serve the waiting margining commands of an engine that `f` accepts, oldest first. -/
def serveMargins (s : State) (q : Nat) (f : Nat → Bool) : State :=
  let z := s.quartz q
  foldS (fun m (t : State) => t.serveMargin m.1 m.2) (z.margins.filter (fun m => f m.1))
    (s.setQuartz q { z with margins := z.margins.filter (fun m => !f m.1) })

/-- Privileged lanes that still get their slot in the engine's round. -/
def slotsDue (s : State) (q : Nat) : List Nat := (s.quartz q).slots.filter (fun n => s.flag Obj.LANE_PRIV n)

/-- One step of the background scan of an engine (R86). -/
def scanStep (s : State) (q : Nat) (scan : Option EyeScan) : State :=
  let z := s.quartz q
  let cur := s.scanFrom q z.lane
  let cur := if cur = 64 then s.scanFrom q 0 else cur
  if cur = 64 then s
  else
    let k := if cur = z.lane then z.step + 1 else 1
    if k < 16 then s.setQuartz q { z with lane := cur, step := k }
    else
      let s1 := match scan with
        | some e => s.scanDone (64 * q + cur) e.eyes
        | none => s
      let nxt := s.scanFrom q (cur + 1)
      if nxt = 64 then
        (s1.setReg Obj.QZ_SWEEP_TIME q (((s.clk - z.sweepAt) / (1000000 * nsUnit)) % 2 ^ 32)).setQuartz q
          { z with lane := 0, step := 0, sweepAt := s.clk }
      else s1.setQuartz q { z with lane := nxt, step := 0 }

/-- The adaptation in the slot of a privileged lane (R87): one parameter is moved, and kept or moved back. -/
def privSlot (s : State) (n f0 f1 : Nat) (doubled : Bool) (f2 : Nat) : State :=
  let l := s.lane n
  if l.margining = true ∨ s.gatedLC (n / 16) = true then s
  else
    let d := l.dirs.getD l.param 1
    let keep := !(f1 < f0 + s.reg Obj.FOM_HYST 0 || doubled)
    let codes := if keep then setAt l.codes l.param (l.codes.getD l.param 0 + d) else l.codes
    let low := f2 < s.reg Obj.LANE_FOM_TARGET n
    let below := if low then l.below + 1 else 0
    let t := (s.setLane n { l with
      param := (l.param + 1) % 8, codes := codes, dirs := if keep then setAt l.dirs l.param d else l.dirs
      below := if below = 10 then 0 else below }).setFom n (min f2 65535)
    if below = 10 then
      t.raise 0x2009 0x20 2 (s.lanePort n)
        (n + 65536 * min f2 65535 + 2 ^ 32 * s.reg Obj.LANE_FOM_TARGET n)
    else t

end State

/-! ### Commands -/

/-- LADDER_START (R73): the ladder takes a port out of its wait in Detect; receiver detection begins. -/
def execLadderStart (p : Nat) (s : State) := onUnit p 256 s (fun t =>
  let x := t.port p
  if x.st = .detect ∧ x.phase = .idle ∧ t.stepping p = true ∧ t.perstFree p = true
  then t.setPort p { x with phase := .detecting, ladderWaits := false } else t)

/-- RECEIVER_DETECT (R75): a CXL-mode port leaves Detect for Polling at 2.5 GT/s. -/
def execReceiverDetect (p : Nat) (s : State) := onUnit p 256 s (fun t =>
  let x := t.port p
  if x.st = .detect ∧ x.phase = .detecting ∧ t.drudar p = false ∧ t.stepping p = true then
    (t.setPort p { x with st := .training, phase := .polling, rate := 1, leftDetect := t.clk, eqTries := 0 }).setSpeed p 1
  else t)

/-- CONFIGURATION_END (R67, R70 to R73, R75): width, order, polarity, flit size and protocols are agreed, or training fails. -/
def execConfigurationEnd (p : Nat) (c : CfgResult) (s : State) := onUnit p 256 s (fun t =>
  let x := t.port p
  if ¬ (x.st = .training ∧ x.phase = .polling ∧ t.drudar p = false ∧ t.stepping p = true) then t
  else
    let first := t.firstLane p
    let w := t.widest p (fun n => t.laneOk n && bit c.lanes (n - first)) c.reversed
    let has256 := c.flit256 && c.flitMode
    let flit := match t.reg Obj.PORT_FLIT p with
      | 0 => if has256 then 1 else if c.flit68 then 2 else 0
      | 1 => if has256 then 1 else 0
      | _ => if c.flit68 then 2 else 0
    if w.1 = 0 ∨ flit = 0 ∨ 200 < c.skew then t.trainFail p
    else
      let l0p := flit == 1 && c.l0p && t.flag Obj.PORT_L0P_EN p
      let prot := 1 + (if c.mem then 2 else 0) + (if c.cache && t.cacheAllowed p then 4 else 0) + (if c.backInv then 8 else 0) +
        (if flit = 1 then 16 else 0) + (if l0p then 32 else 0)
      let s1 := (((((t.setReg Obj.PORT_WIDTH p w.1).setReg Obj.PORT_ACTIVE_WIDTH p w.1).setReg
        Obj.PORT_REVERSED p (if w.2 then 1 else 0)).setReg Obj.PORT_SKEW p c.skew).setReg
        Obj.PORT_FLIT_ACTIVE p flit).setReg Obj.PORT_PROTOCOLS p prot
      let lanes := s1.trained p
      let s2 := foldS (fun n (u : State) =>
        (if u.laneOk n then u.setReg Obj.LANE_STATE n (if lanes.contains n then 1 else 0) else u).setReg
          Obj.LANE_POLARITY n (if lanes.contains n && bit c.invert (n - first) then 1 else 0)) (s1.portLanes p) s1
      let s3 := { s2 with link := { s2.link with l0pOn := s2.link.l0pOn.set false (p, 0) l0p } }
      let s4 := s3.setPort p { x with
        phase := .eq, partnerMax := c.maxRate, bypass := c.bypass && t.flag Obj.PORT_EQ_BYPASS p, fullWidth := w.1, fullRev := w.2
        respond := c.lanes, boardRev := c.reversed
        widenTries := 0, narrowedAt := 0, widening := false }
      s4.rungDone p 1)

/-- RUNG_EQ_DONE (R71, R72, R74): equalization at a rung ends, with the skew of its Recovery; a first failure is retried, a second
settles the port below, and skew above 20 ns is a failure. At 5 GT/s, where nothing is equalized, a failure settles at once. DESIGN CHOICE: the new settings
start the count of low slots of R87 anew. -/
def execRungEqDone (p : Nat) (e : EqResult) (s : State) := onUnit p 256 s (fun t0 =>
  let x := t0.port p
  if ¬ (x.st = .training ∧ x.phase = .eq ∧ t0.stepping p = true) ∨ t0.drudar p = true then t0
  else
    let t := t0.setReg Obj.PORT_SKEW p e.skew
    let r := t.climbing p
    if e.ok = true ∧ e.skew ≤ 200 then
      foldS (fun n (u : State) => u.modLane n (fun l => { l with codes := laneDflt.codes, below := 0 })) (t.trained p) (t.rungDone p r)
    else if x.eqTries = 0 ∧ r ≠ 2 then t.setPort p { x with eqTries := 1 }
    else t.settle p r)

/-- LINK_LAYER_INIT (R76): the port reads L0; DL_Up is reported, but for a downstream-facing port, which enumerates first. -/
def execLinkLayerInit (p : Nat) (s : State) := onUnit p 256 s (fun t =>
  let x := t.port p
  if ¬ (x.st = .training ∧ x.phase = .linkInit ∧ t.stepping p = true) ∨ t.drudar p = true then t
  else if t.reg Obj.PORT_ROLE p = 1 then (t.setPort p { x with st := .l0, phase := .enumerating })
  else t.linkUp p)

/-- ENUMERATION_DONE (R76, R125): what the device reports is taken in, DL_Up is reported and LINK_UP raised. -/
def execEnumerationDone (p : Nat) (e : EnumResult) (s : State) := onUnit p 256 s (fun t =>
  let x := t.port p
  if ¬ (x.st = .l0 ∧ x.phase = .enumerating ∧ t.stepping p = true) then t
  else
    let u := ({ t with fab := { t.fab with enumd := t.fab.enumd.set none (p, 0) (some e) } } : State).takeLdSizes p true
    u.linkUp p)

/-- TRAIN_TIMEOUT (R75): 200 ms after leaving Detect without DL_Up. -/
def execTrainTimeout (p : Nat) (s : State) := onUnit p 256 s (fun t =>
  let x := t.port p
  if (x.st = .training ∨ x.st = .l0 ∨ x.st = .recovery) ∧ x.dlUp = false ∧ t.stepping p = true ∧ t.after x.leftDetect 200000000 = true
  then t.trainFail p else t)

/-- TRAIN_BACKOFF_END (R75): back to Detect, unless the tries are spent. -/
def execTrainBackoffEnd (p : Nat) (s : State) := onUnit p 256 s (fun t =>
  let x := t.port p
  if x.st = .trainFail ∧ x.spent = false ∧ t.after x.failedAt (State.backoff x.fails) = true ∧ t.stepping p = true
  then t.setPort p { x with st := .detect, phase := .idle } else t)

/-- ASPM_L1_REQUEST (R69): refused at all times but at the entry to HOLD. -/
def execAspmL1Request (p : Nat) (s : State) := onUnit p 256 s (fun t =>
  if t.drudar p = false ∧ (t.port p).st = .l0 ∧ (t.port p).l1Req = false then t.emit (.l1Refused p) else t)

/-- LANE_LOCK_LOST (R77, R79, R81, R82). -/
def execLaneLockLost (lane : Nat) (uncorrectable : Bool) (s : State) := onUnit lane 512 s (fun t =>
  t.laneLost lane (if uncorrectable then 1 else 0))

/-- RECOVERY_END (R71, R72, R78 to R80): the skew has been measured again, and the port is back in L0, with the lanes that did not lock
FAILED and the port narrowed; or DL_Down, where Recovery or its skew fails. -/
def execRecoveryEnd (p : Nat) (ok : Bool) (r : Relock) (s : State) := onUnit p 256 s (fun t0 =>
  let x := t0.port p
  if ¬ (x.st = .recovery ∧ x.changing = false ∧ t0.drudar p = false) then t0
  else if ok = false ∨ 200 < r.skew then t0.portDown p 1
  else
    let t := (t0.accrue p).setReg Obj.PORT_SKEW p r.skew
    let bad := (t.activeLanes p).filter (fun n => r.unlocked.contains n && t.laneOk n)
    let s1 := foldS (fun n (u : State) => u.failLane p n) bad t
    if (s1.activeLanes p).all s1.laneOk then s1.setPort p { x with st := .l0, phase := State.l0Phase x }
    else s1.narrow p)

/-- LANE_FAIL_WINDOW_END (R79, R82). -/
def execLaneFailWindowEnd (lane : Nat) (s : State) := onUnit lane 512 s (fun t => t.laneKept lane)

/-- WIDTH_CHANGE_DONE (R80 to R82). -/
def execWidthChangeDone (w : NewWidth) (s : State) := onUnit w.port 256 s (fun t => t.widthChanged w.port w.skew)

/-- WIDEN_ATTEMPT (R82): 60 s after the narrowing, by L0p where it is negotiated and the trained order still stands,
otherwise through Recovery. The restored lanes read SUSPECT from now on. -/
def execWidenAttempt (p : Nat) (s : State) := onUnit p 256 s (fun t0 =>
  let t := t0.restoreLanes p
  let x := t.port p
  if t.drudar p = false ∧ x.st = .l0 ∧ x.dlUp = true ∧ x.changing = false ∧ x.narrowedAt ≠ 0 ∧ x.widenTries < 3 ∧
     t.flag Obj.PORT_AUTO_WIDEN p = true ∧ t.after (x.narrowedAt - 1) 60000000000 = true ∧ t.ladderRuns = true ∧
     t.reg Obj.PORT_ACTIVE_WIDTH p < x.fullWidth then
    if t.link.l0pOn.get false (p, 0) = true ∧ t.reg Obj.PORT_WIDTH p = x.fullWidth then
      t.setPort p { x with
        changing := true, byL0p := true, wantWidth := x.fullWidth, widening := true
        oldWidth := t.reg Obj.PORT_ACTIVE_WIDTH p }
    else
      (t.enterRecovery p).modPort p (fun y => { y with
        phase := .config, changing := true, byL0p := false, wantWidth := x.fullWidth, reversedNext := x.fullRev, widening := true
        oldWidth := t.reg Obj.PORT_ACTIVE_WIDTH p })
  else t0)

/-- LINK_LAYER_RETRY (R78): the transmitter sends its replay buffer again. -/
def execLinkLayerRetry (p seq : Nat) (s : State) := onUnit p 256 s (fun t =>
  if t.drudar p = false ∧ (t.port p).st = .l0 then
    (t.emit (.resent p seq)).count
      { code := 0x2002, port := p, aux := 255, part := 255, cls := 255, hpa := 2 ^ 64 - 1, pool := 2 ^ 64 - 1 }
  else t)

/-- PARTNER_RECOVERY_ENTRY (R78). -/
def execPartnerRecoveryEntry (p : Nat) (s : State) := onUnit p 256 s (fun t =>
  if t.drudar p = false ∧ (t.port p).st = .l0 ∧ (t.port p).changing = false then t.enterRecovery p else t)

/-- PRBS_PATTERN_LOCK (R83): the checker counts from here on. -/
def execPrbsPatternLock (lane : Nat) (s : State) := onUnit lane 512 s (fun t =>
  if t.reg Obj.LANE_PRBS_MODE lane = 0 then t
  else (t.settleLane lane).modLane lane (fun l => { l with prbsLocked := true }))

/-- PRBS_PATTERN_LOCK_LOST (R84): bit 63 of the error field is set until the counters are cleared. -/
def execPrbsPatternLockLost (lane : Nat) (s : State) := onUnit lane 512 s (fun t =>
  if t.reg Obj.LANE_PRBS_MODE lane = 0 ∨ (t.lane lane).prbsLocked = false then t
  else ((t.settleLane lane).setReg Obj.LANE_ERR_PAIR lane (2 ^ 63)).modLane lane (fun l => { l with prbsLocked := false }))

/-- QUARTZ_ROUND (R86): 1 ms after its start a round of an engine ends. Once every privileged lane has had its slot, the rest of the
round serves margining commands of the other lanes, then takes one step of the background scan; the next round begins. A privileged
lane's commands wait for its slots (R88). -/
def execQuartzRound (q : Nat) (margins : List (Nat × MarginCmd)) (scan : Option EyeScan) (s : State) := onUnit q 8 s (fun t =>
  let z := t.quartz q
  if t.ridgeClock = false ∨ (z.roundAt ≠ 0 ∧ t.after (z.roundAt - 1) 1000000 = false) ∨ (t.slotsDue q).isEmpty = false then t
  else
    let t1 := t.setQuartz q { z with margins := z.margins ++ margins.filter (fun m => decide (m.1 / 64 = q)) }
    let t2 := (t1.serveMargins q (fun n => !(t.flag Obj.LANE_PRIV n))).scanStep q scan
    t2.setQuartz q { t2.quartz q with roundAt := t.clk + 1, freeAt := t.clk, slots := t.privLanes q })

/-- QUARTZ_PRIV_SLOT (R86 to R88): the 100 µs slot of the next privileged lane of the round ends: its margining commands are served, and
the lane adapts. -/
def execQuartzPrivSlot (lane f0 f1 : Nat) (doubled : Bool) (f2 : Nat) (s : State) := onUnit lane 512 s (fun t =>
  let q := lane / 64
  let z := t.quartz q
  if t.ridgeClock = true ∧ (t.slotsDue q).head? = some lane ∧ t.after z.freeAt 100000 = true then
    ((t.setQuartz q { z with slots := (t.slotsDue q).tail, freeAt := t.clk }).serveMargins q (· == lane)).privSlot lane f0 f1 doubled f2
  else t)

/-- MARGIN_COMMAND (R86, R88): the command waits for the engine's next time for it. -/
def execMarginCommand (lane : Nat) (c : MarginCmd) (s : State) := onUnit lane 512 s (fun t =>
  let z := t.quartz (lane / 64)
  t.setQuartz (lane / 64) { z with margins := z.margins ++ [(lane, c)] })

end Sys2Proof.Machine
end

