-- ==== Sys2Proof/Machine/Drudar.lean ====
section
/-!
DEFINITION. Drudar-mode links (R90 to R108): training, frames and replay, credits, markers, re-striping and the MAC frames of
Drudar IDE. MGMT frames are received in `Mgmt.lean`, time flits in `Time.lean`.
-/

namespace Sys2Proof.Machine

/-! ### Training words and markers -/

/-- A training word as sent: one that comes inverted, by its SYNC field, is turned back; whether it was inverted. -/
def upright (w : Nat) : Nat × Bool :=
  if w % 2 ^ 32 = 0xC3C35A5A then (2 ^ 128 - 1 - w % 2 ^ 128, true) else (w % 2 ^ 128, false)

/-- A good training word: SYNC and CRC hold (*Training word*). -/
def goodWord (w : Nat) : Bool := field w 0 32 == 0x3C3CA5A5 && field w 112 16 == trainCrc w

/-- A good alignment marker: AMSYNC and CRC hold (*Alignment marker*). -/
def goodMarker (w : Nat) : Bool := field w 0 40 == 0xC35A0F96E1 && field w 112 8 == markerCrc w

/-- Lay out an alignment marker. -/
def marker (plane phys width : Nat) (restripe : Bool) (seq foff : Nat) : Nat :=
  let b := 0xC35A0F96E1 + plane * 2 ^ 40 + phys * 2 ^ 45 + width * 2 ^ 54 + (if restripe then 2 ^ 59 else 0) +
    seq % 65536 * 2 ^ 60 + foff % 4096 * 2 ^ 76
  b + markerCrc b * 2 ^ 112

/-- The body bytes of a control frame from byte 2 on as a number; its CTYPE. -/
def ctype (f : Frame) : Nat := ofBytes (f.body.take 1)
def ctrlU16 (f : Frame) (i : Nat) : Nat := ofBytes ((f.body.drop (2 + 2 * i)).take 2)

namespace State

/-- The port is a Drudar port with its link layer running: UP or in a RETRAIN. -/
def druLive (s : State) (p : Nat) : Bool := s.drudar p && s.dlUp p

/-- PORT_CEILING of a Drudar port: 9 until Talus lowers it (R93). -/
def druCeil (s : State) (p : Nat) : Nat := if s.reg Obj.PORT_CEILING p < 7 then 9 else s.reg Obj.PORT_CEILING p

/-- The highest rate a Drudar port attempts (R93), below a rate not attempted again (R74). -/
def druTarget (s : State) (p : Nat) : Nat :=
  let x := s.port p
  let m := min (min (s.reg Obj.DRU_SPEED_MAX p) (s.druCeil p)) (min x.partnerMax x.partnerCeil)
  max 7 (if x.noRate = 0 then m else min m (x.noRate - 1))

/-- The port lanes as a mask of positions that `f` accepts. -/
def laneMask (s : State) (p : Nat) (f : Nat → Bool) : Nat :=
  bitSet ((List.range (s.formedWidth p)).filter (fun i => f (s.firstLane p + i)))

/-- Lanes locked in SYNC; a lane whose restore attempts are spent stays FAILED (R105). -/
def syncLocked (s : State) (p : Nat) : Nat := s.laneMask p (fun n => (s.lane n).lockAt != 0)

/-- Begin a phase of training. -/
def druPhase (s : State) (p : Nat) (ph : Phase) : State := s.modPort p (fun x => { x with phase := ph, phaseAt := s.clk })

/-- SYNC is left for EQ at rate 7: the lanes that locked form the receive stripe, the others read FAILED (R94). -/
def syncDone (s : State) (p : Nat) : State :=
  let mask := s.syncLocked p
  let s1 := foldS (fun i (t : State) =>
    let n := t.firstLane p + i
    if bit mask i then t.setReg Obj.LANE_STATE n 1
    else (t.setReg Obj.LANE_STATE n 4).modLane n (fun l => { l with droppedAt := t.clk + 1 })) (List.range (s.formedWidth p)) s
  (s1.setReg Obj.DRU_RX_MASK p mask).druPhase p .eq

/-- EQ ends: the lanes that the peer reports locked form the transmit stripe, on which alignment markers are sent (R96). -/
def toFecLock (s : State) (p : Nat) : State :=
  let tx := s.laneMask p (fun n => (s.lane n).peerLock)
  (((s.setReg Obj.DRU_TX_MASK p tx).setReg Obj.DRU_TX_WIDTH p (popCount 16 tx)).modDru p (fun d => { d with amAt := 0 })).druPhase p
    .fecLock

/-- Four good words on each locked lane, 2 ms after the first lock, and enough lanes (*Drudar training state machine*). -/
def syncReady (s : State) (p : Nat) : Bool :=
  let locked := (s.portLanes p).filter (fun n => (s.lane n).lockAt != 0)
  let first := locked.foldl (fun a n => min a ((s.lane n).lockAt - 1)) s.clk
  !locked.isEmpty && s.reg Obj.DRU_MIN_WIDTH p ≤ locked.length && locked.all (fun n => 4 ≤ (s.lane n).goodWords) &&
  s.after first 2000000

/-- Equalization of the rung has ended well on every lane: STATUS[2], and from rate 8 the figure of merit (R94). -/
def druEqReady (s : State) (p : Nat) : Bool :=
  let l := (bitsOf 16 (s.reg Obj.DRU_RX_MASK p)).map (fun i => s.firstLane p + i)
  l.all (fun n => (s.lane n).eqDone && ((s.port p).rate == 7 || s.reg Obj.DRU_EQ_FOM_MIN p ≤ s.reg Obj.LANE_FOM n))

/-- Start EQ anew at a rate. -/
def druEqAt (s : State) (p r tries : Nat) : State :=
  let s1 := foldS (fun n (t : State) => t.modLane n (fun l => { l with eqDone := false, codes := laneDflt.codes, below := 0 }))
    (s.portLanes p) s
  (s1.modPort p (fun x => { x with rate := r, eqTries := tries, phase := .druEq, phaseAt := s.clk })).setSpeed p r

/-- The rung has equalized: the next rung, or FEC_LOCK at the target. -/
def druRungDone (s : State) (p : Nat) : State :=
  let r := (s.port p).rate
  if r < s.druTarget p then s.druEqAt p (r + 1) 0 else s.toFecLock p

/-- Equalization fails at the rung (R74, R94): one retry, then the port settles at the previous rung, in FEC_LOCK. -/
def druEqFail (s : State) (p : Nat) : State :=
  let x := s.port p
  if x.eqTries = 0 then s.druEqAt p x.rate 1
  else if x.rate ≤ 7 then s.trainFail p
  else (((s.modPort p (fun y => { y with rate := x.rate - 1 })).setSpeed p (x.rate - 1)).settle p x.rate).toFecLock p

/-- A training word on a lane (R90, R94): in SYNC a good word locks its lane and tells of the peer, and one whose KIND is valid counts
toward the end of SYNC; in EQ its status is taken. -/
def trainingWord (s : State) (p n w0 : Nat) : State :=
  let x := s.port p
  let u := upright w0
  let w := u.1
  let l := s.lane n
  let i := n - s.firstLane p
  if s.drudar p = false ∨ x.st ≠ .training ∨ (s.portLanes p).contains n = false ∨ 3 ≤ l.tries then s
  else if x.phase = .sync then
    let named := field w 50 2 == 1 || field w 50 2 == 2
    if !(goodWord w && field w 32 4 == 0) then s.setLane n { l with goodWords := 0 }
    else if !named then s.setLane n { l with goodWords := 0, lockAt := if l.lockAt = 0 then s.clk + 1 else l.lockAt }
    else
      let s1 := s.setLane n { l with
        goodWords := min (l.goodWords + 1) 4
        lockAt := if l.lockAt = 0 then s.clk + 1 else l.lockAt
        peerLock := bit (field w 88 8) 1 }
      let s2 := (((s1.setReg Obj.LANE_POLARITY n (if u.2 then 1 else 0)).setReg Obj.PORT_REVERSED p
        (if field w 36 5 ≠ i ∧ field w 36 5 + i + 1 = s.formedWidth p then 1 else 0)).setReg
        Obj.DRU_PEER_ID p (field w 52 16)).setReg Obj.DRU_PEER_KIND p (field w 50 2)
      let s3 := s2.modPort p (fun y => { y with partnerMax := field w 68 4, partnerCeil := field w 72 4 })
      if s3.syncReady p && s3.stepping p then (s3.syncDone p).druEqAt p 7 0 else s3
  else if x.phase = .druEq then
    if !goodWord w then s
    else
      let s1 := s.setLane n { l with eqDone := l.eqDone || bit (field w 88 8) 2, peerLock := bit (field w 88 8) 1 }
      if s1.druEqReady p && s1.stepping p then s1.druRungDone p else s1
  else s

/-- INIT frame body: nine credit counts, then the IDE mode (*Control frames*). -/
def initBody (s : State) (p : Nat) : List Byte := (s.dru p).grant.flatMap (toBytes 2) ++ toBytes 1 (s.reg Obj.DRU_IDE_MODE p)

/-- The skew of the receive stripe, from the stored skew of each of its lanes (R96, R104). -/
def applySkew (s : State) (p : Nat) : State :=
  s.setReg Obj.PORT_SKEW p ((bitsOf 16 (s.reg Obj.DRU_RX_MASK p)).foldl (fun a i => max a (s.lane (s.firstLane p + i)).skew) 0)

/-- FEC_LOCK succeeds: the receive stripe and the lanes' skew are fixed, a new link layer starts with the grants of R102, and INIT begins. -/
def fecLocked (s : State) (p : Nat) (skews : List Nat) : State :=
  let rx := s.reg Obj.DRU_RX_MASK p
  let s1 := (s.setReg Obj.PORT_WIDTH p (popCount 16 rx)).setReg Obj.PORT_ACTIVE_WIDTH p (popCount 16 rx)
  let s2 := (foldS (fun i (t : State) => t.modLane (s.firstLane p + i) (fun l => { l with skew := skews.getD i 0 }))
    (List.range (s.formedWidth p)) s1).applySkew p
  let g := (List.range 8).map (fun c => min 2048 (s.grantOf p c)) ++ [min 2048 (s.reg Obj.MGMT_GRANT p)]
  (s2.setDru p { druDflt with grant := g, nakSent := true, amSeq := (s.dru p).amSeq, amAt := (s.dru p).amAt }).druPhase p .init

/-! ### RETRAIN (R101) -/

/-- Start a RETRAIN: new frames wait, the replay buffer, the sequence state and the credits stay, and RETRAIN is sent. -/
def startRetrain (s : State) (p cause : Nat) : State :=
  if s.druUp p = false then s
  else
    let t := s.accrue p
    let t1 := (t.modPort p (fun x => { x with st := .recovery, phase := .retrain, phaseAt := t.clk, lastRetrain := cause })).bump
      Obj.PORT_RECOVERY_CNT p
    (t1.modDru p (fun d => { d with sameSeq := 0, lastFrom := 0, amMiss := 0, resend := 0, amAt := 0 })).sendCtrl p 5 (toBytes 1 cause)

/-! ### Stripes (R103 to R105) -/

/-- DRU_RESTRIPE data. -/
def raiseRestripe (s : State) (p mask old lane : Nat) (add tx : Bool) : State :=
  (s.bump Obj.DRU_RESTRIPE_CNT p).raise 0x2011 0x21 2 p (mask % 65536 + old * 65536 + popCount 16 mask * 2 ^ 24 + lane * 2 ^ 32 +
    (if add then 2 ^ 48 else 0) + (if tx then 2 ^ 49 else 0))

/-- Send, or send again, the DROP or ADD that is open on a port. -/
def sendDrop (s : State) (p : Nat) : State :=
  let d := s.dru p
  (s.setDru p { d with dropAt := s.clk }).sendCtrl p (if d.dropAdd then 4 else 3) (toBytes 2 d.rxExp ++ toBytes 2 d.dropMask)

/-- Open a DROP or ADD with a mask. -/
def openDrop (s : State) (p mask lane : Nat) (add : Bool) : State :=
  (s.modDru p (fun d => { d with dropMask := mask, dropAdd := add, dropLane := lane })).sendDrop p

/-- A receive lane is lost (R103): it is FAILED and dropped, or too few lanes remain. -/
def druLaneGone (s : State) (p n : Nat) : State :=
  let d := s.dru p
  let i := n - s.firstLane p
  let base := if d.dropMask ≠ 0 then d.dropMask else s.reg Obj.DRU_RX_MASK p
  let mask := clrBit base i
  let l := s.lane n
  let s1 := (s.modLane n (fun y => { y with droppedAt := s.clk + 1, tries := if l.restoring then l.tries + 1 else l.tries })).failLane p n
  if mask = 0 ∨ popCount 16 mask < s.reg Obj.DRU_MIN_WIDTH p then s1.portDown p 2
  else s1.openDrop p mask n false

/-- Re-stripe the transmitter onto a mask (R104): the codeword in progress is finished, markers with RESTRIPE are due on the new lanes
before anything else, and the frame stream starts again by replay from ESEQ; a lane that leaves sends PRBS31. A repeat of the mask in
use is ignored. -/
def restripeTx (s : State) (p mask0 eseq : Nat) (add : Bool) : State :=
  let mask := mask0 &&& (2 ^ s.formedWidth p - 1)
  let old := s.reg Obj.DRU_TX_MASK p
  if mask = 0 ∨ mask = old then s
  else
    let lane := s.firstLane p + ((bitsOf 16 (mask ^^^ old)).headD 0)
    let t := foldS (fun i (u : State) => u.emit (.prbs31 (s.firstLane p + i))) ((bitsOf 16 old).filter (fun i => !bit mask i))
      ((s.accrue p).finishCodeword p)
    let t1 := ((t.setReg Obj.DRU_TX_MASK p mask).setReg Obj.DRU_TX_WIDTH p (popCount 16 mask)).portRateChange p
    ((t1.modDru p (fun d => { d with restripeTx := true })).startReplay p eseq).raiseRestripe p mask (popCount 16 old) lane
      add true

/-- A marker group with RESTRIPE that names every place of a stripe of `w` lanes (R104). -/
def restripeGroup (good : List Nat) (w : Nat) : Bool :=
  (List.range w).all (fun j => good.any (fun m => bit m 59 && field m 54 5 == w && field m 40 5 == j))

/-- Markers with RESTRIPE on every lane of the open mask have come: the receiver starts the new stripe, with each lane's stored skew
(R104, R105). -/
def restripeRx (s : State) (p : Nat) : State :=
  let d := s.dru p
  let old := s.reg Obj.PORT_ACTIVE_WIDTH p
  let s1 := (s.setReg Obj.DRU_RX_MASK p d.dropMask).setReg Obj.PORT_ACTIVE_WIDTH p (popCount 16 d.dropMask)
  let s2 := if d.dropAdd then
      (s1.setReg Obj.LANE_STATE d.dropLane 3).modLane d.dropLane
        (fun l => { l with restoring := true, lossAt := s.clk + 1, countAt := s.clk })
    else s1
  ((s2.setDru p { d with dropMask := 0 }).applySkew p).raiseRestripe p d.dropMask old d.dropLane d.dropAdd false

/-- Receive a marker group (R95, R96, R101), with the places of the symbols corrected since the last one and the codewords that could
not be. -/
def markersRx (s0 : State) (p : Nat) (ms corrected : List Nat) (uncorrectable : Nat) : State :=
  let s := (s0.noteCorrected p corrected).bump64 Obj.DRU_FEC_UNCORR p uncorrectable
  let d := s.dru p
  let good := ms.filter goodMarker
  if good.isEmpty then s.setDru p { d with amMiss := d.amMiss + 1 }
  else
    let t := s.setDru p { d with amMiss := 0 }
    if d.dropMask ≠ 0 ∧ restripeGroup good (popCount 16 d.dropMask) = true then t.restripeRx p else t

/-! ### Received frames -/

/-- Frames wait for the check of their MAC frame (R108). -/
def contained (s : State) (p : Nat) : Bool := s.druIde p && s.reg Obj.DRU_IDE_MODE p == 2

/-- A sequenced frame in containment waits for its MAC frame (R108). -/
def contain (s : State) (p : Nat) (f : Frame) : State := s.modDru p (fun d => { d with held := d.held ++ [f] })

/-- Take the reports of an unsequenced frame, or discard and count it; a discard sends the run's NAK (R98, R99). The flag tells whether
it was good. -/
def receivePlain (s : State) (p : Nat) (f : Frame) : Bool × State :=
  if !frameGood f then (false, (s.bump Obj.DRU_CRC_ERR p).discardFrame p) else (true, s.takeReports p f)

/-- A good control frame of a type runs `g`; any other frame only its reports. -/
def onCtrl (s : State) (p ct : Nat) (f : Frame) (g : State → State) : State :=
  if s.druLive p = false then s
  else
    let x := s.receivePlain p f
    if x.1 = true ∧ f.ftype = 4 ∧ ctype f = ct then g x.2 else x.2

/-- The time of 4 096 codewords at the transmit stripe's rate, 2^-32 ns (R96). -/
def markerPeriod (s : State) (p : Nat) : Nat :=
  let r := lineRate10 (s.reg Obj.PORT_SPEED p) * s.reg Obj.DRU_TX_WIDTH p
  if r = 0 then 0 else 4096 * 5440 * 10 * nsUnit / r

/-- A marker group is due (R96): at a re-stripe, after 4 096 codewords, and, while no frames run, after the time that those take.
The time stands in for the count in FEC_LOCK and RETRAIN, in which codewords carry no frame (DEDUCED). -/
def markerDue (s : State) (p : Nat) : Bool :=
  let d := s.dru p
  let ph := (s.port p).phase
  s.drudar p &&
  (((ph == .init || ph == .up) && (d.restripeTx || 4096 ≤ d.cwCount)) ||
   ((ph == .fecLock || ph == .retrain) && (d.restripeTx || d.amAt == 0 || d.amAt - 1 + s.markerPeriod p ≤ s.clk)))

/-- Messages with cells forwarded since the last MAC whose tails have not left are stomped (R108). -/
def stompSkid (s : State) (p : Nat) : State :=
  foldS (fun u (t : State) => match t.findDesc u with
    | some (_, x) => t.stompMsg x.msg 4
    | none => match t.openMsgs.find? (fun m => m.uid == u && (t.fab.chains.get none (u, 0)).isSome) with
      | some m => t.stompMsg m 4
      | none => t) (s.dru p).skid s

/-- A Drudar IDE tag fails to check (R108). -/
def druIdeFault (s : State) (p : Nat) (f : Frame) : State :=
  let s1 := s.raise 0x2013 0x21 4 p (f.seq % 4096 + f.keySlot % 2 * 4096)
  let s2 := if s.reg Obj.DRU_IDE_MODE p = 1 then s1.stompSkid p else s1
  (s2.portDown p 6).setReg Obj.DRU_IDE_STATE p 3

end State

/-! ### Commands -/

/-- DRU_SIGNAL_DETECT (R91): SYNC begins at rate 7 on every formed lane, but a lane whose restore attempts are spent. -/
def execDruSignalDetect (p mask : Nat) (s : State) := onUnit p 256 s (fun t =>
  let x := t.port p
  if t.drudar p = true ∧ x.st = .detect ∧ x.phase = .detecting ∧ t.stepping p = true ∧
     t.reg Obj.DRU_MIN_WIDTH p ≤ popCount (t.formedWidth p) mask ∧ mask % 2 ^ t.formedWidth p ≠ 0 then
    let s1 := foldS (fun n (u : State) =>
      (if u.reg Obj.LANE_STATE n = 4 ∧ (u.lane n).tries < 3 then u.setReg Obj.LANE_STATE n 0 else u).modLane n
        (fun l => { l with goodWords := 0, lockAt := 0, peerLock := false, eqDone := false, restoring := false })) (t.portLanes p) t
    (s1.setPort p { x with st := .training, phase := .sync, phaseAt := t.clk, leftDetect := t.clk, rate := 7, eqTries := 0 }).setSpeed
      p 7
  else t)

/-- TRAINING_WORD_RX (R90, R94). -/
def execTrainingWordRx (p lane word : Nat) (s : State) := onUnit p 256 s (fun t => t.trainingWord p lane word)

/-- DRU_SYNC_TIMEOUT (R91): too few lanes locked at 5 ms is a failure of training. -/
def execDruSyncTimeout (p : Nat) (s : State) := onUnit p 256 s (fun t =>
  let x := t.port p
  if x.st = .training ∧ x.phase = .sync ∧ t.stepping p = true ∧ t.after x.phaseAt 5000000 = true ∧
     (popCount 16 (t.syncLocked p) < t.reg Obj.DRU_MIN_WIDTH p ∨ t.syncLocked p = 0) then t.trainFail p else t)

/-- DRU_EQ_TIMEOUT (R74, R94): an equalization at rate 7 never fails. -/
def execDruEqTimeout (p : Nat) (s : State) := onUnit p 256 s (fun t =>
  let x := t.port p
  if x.st = .training ∧ x.phase = .druEq ∧ x.rate ≠ 7 ∧ t.stepping p = true ∧ t.after x.phaseAt 5000000 = true then t.druEqFail p else t)

/-- DRU_FEC_LOCK (R96): skew within 40 ns on every lane of the stripe, or a failure as of equalization; the skews are by port lane, in
units of 0.1 ns. -/
def execDruFecLock (p : Nat) (skews : List Nat) (s : State) := onUnit p 256 s (fun t =>
  let x := t.port p
  if ¬ (x.st = .training ∧ x.phase = .fecLock ∧ t.stepping p = true) then t
  else if (bitsOf 16 (t.reg Obj.DRU_RX_MASK p)).all (fun i => decide (skews.getD i 0 ≤ 400)) = true then t.fecLocked p skews
  else t.druEqFail p)

/-- INIT_TX (R102): every 1 µs until the peer's INIT arrives. -/
def execInitTx (p : Nat) (s : State) := onUnit p 256 s (fun t =>
  let d := t.dru p
  if (t.port p).phase = .init ∧ d.initRx = false ∧ (d.initTx = 0 ∨ t.after (d.initTx - 1) 1000 = true) then
    (t.setDru p { d with initTx := t.clk + 1 }).sendCtrl p 1 (t.initBody p)
  else t)

/-- INIT_RX (R102, R108): the peer's grants are taken; with the IDE modes equal the port reaches UP and is DL_Up. -/
def execInitRx (p : Nat) (f : Frame) (s : State) := onUnit p 256 s (fun t =>
  if (t.port p).phase ≠ .init then t
  else if !frameGood f then t.bump Obj.DRU_CRC_ERR p
  else if f.ftype ≠ 4 ∨ ctype f ≠ 1 then t
  else
    let cr := (List.range 9).map (fun i => min 2048 (ctrlU16 f i))
    let s1 := t.modDru p (fun d => { d with txCr := cr, initRx := true, ackAt := t.clk })
    let s2 := if (t.dru p).initTx = 0 then (s1.modDru p (fun d => { d with initTx := t.clk + 1 })).sendCtrl p 1 (s1.initBody p) else s1
    if ctrlU16 f 9 % 256 = t.reg Obj.DRU_IDE_MODE p then (s2.linkUp p).modPort p (fun x => { x with phase := .up }) else s2)

/-- DATA_FRAME_RX (R98 to R100, R107, R108): an accepted DATA frame is decrypted, waits in containment for its MAC frame, and its flit is
handed to the ingress in order; MESSAGE_INGRESS and the other commands of the ingress take it. -/
def execDataFrameRx (p : Nat) (f : Frame) (s : State) := onUnit p 256 s (fun t =>
  if t.druLive p = false then t
  else
    let x := t.receiveSeq p f
    if x.1 = false ∨ f.ftype ≠ 1 then x.2
    else if x.2.contained p then x.2.contain p (t.openBody p f)
    else x.2.handFlit p (t.openBody p f))

/-- IDLE_FRAME_RX (R100). -/
def execIdleFrameRx (p : Nat) (f : Frame) (s : State) := onUnit p 256 s (fun t =>
  if t.druLive p then (t.receivePlain p f).2 else t)

/-- MAC_FRAME_TX (R107): after eight frames, or within 100 ns of the last when fewer are pending; from then on nothing else is sent
before it. A change of key slot takes effect on the next frame. -/
def execMacFrameTx (p : Nat) (s : State) := onUnit p 256 s (fun t =>
  let d := t.dru p
  if t.druUp p = true ∧ t.druIde p = true ∧ d.macCov.isEmpty = false ∧ t.maySend p 5 0 = true then
    (t.sendSeq p 5 (t.macTag p) 0 0 false).modDru p (fun e => { e with ideSlot := e.ideNext })
  else t)

/-- NAK_RX (R100): resend from ESEQ, then go on with new frames. -/
def execNakRx (p : Nat) (f : Frame) (s : State) := onUnit p 256 s (fun t =>
  t.onCtrl p 2 f (fun u => u.startReplay p (ctrlU16 f 0)))

/-- DRU_REPLAY_TIMEOUT (R100). -/
def execDruReplayTimeout (p : Nat) (s : State) := onUnit p 256 s (fun t =>
  let d := t.dru p
  if t.druUp p = true ∧ d.replay.isEmpty = false ∧ t.after d.ackAt (t.reg Obj.DRU_REPLAY_TIMEOUT p) = true then
    t.startReplay p (State.oldestSeq d)
  else t)

/-- RETRAIN_RX (R101). -/
def execRetrainRx (p : Nat) (f : Frame) (s : State) := onUnit p 256 s (fun t => t.onCtrl p 5 f (fun u => u.startRetrain p 2))

/-- RETRAIN_START (R101): a fourth replay from one SEQ without progress (cause 0), or four missed marker groups (cause 1). -/
def execRetrainStart (p cause : Nat) (s : State) := onUnit p 256 s (fun t =>
  let d := t.dru p
  if (cause = 0 ∧ 4 ≤ d.sameSeq) ∨ (cause = 1 ∧ 4 ≤ d.amMiss) then t.startRetrain p cause else t)

/-- DRU_RETRAIN_DONE (R101): within 10 ms the port is UP again and resends what it holds. -/
def execDruRetrainDone (p : Nat) (s : State) := onUnit p 256 s (fun t =>
  let x := t.port p
  if t.drudar p = true ∧ x.st = .recovery ∧ x.phase = .retrain ∧ t.after x.phaseAt 10000000 = false then
    let d := t.dru p
    let u := ((t.accrue p).setPort p { x with st := .l0, phase := .up }).modDru p (fun e => { e with nakSent := false })
    let u1 := if d.replay.isEmpty then u else (u.startReplay p (State.oldestSeq d)).modDru p (fun e => { e with sameSeq := 0, lastFrom := 0 })
    u1.raise 0x2012 0x21 2 p (x.lastRetrain % 256)
  else t)

/-- DRU_RETRAIN_TIMEOUT (R101): DL_Down, cause 1. -/
def execDruRetrainTimeout (p : Nat) (s : State) := onUnit p 256 s (fun t =>
  let x := t.port p
  if t.drudar p = true ∧ x.st = .recovery ∧ x.phase = .retrain ∧ t.after x.phaseAt 10000000 = true then t.portDown p 1 else t)

/-- ALIGNMENT_MARKER_TX (R96): once 4 096 codewords have been sent, or at a re-stripe, fill until every stripe lane has sent as many
symbols, then one marker on every stripe lane. FOFF is how much of a frame the last codeword left. -/
def execAlignmentMarkerTx (p : Nat) (s : State) := onUnit p 256 s (fun t0 =>
  let t := t0.sendCodewords p
  if t.markerDue p = false then t0
  else
    let d := t.dru p
    let lanes := t.txLanes p
    let foff := if d.restripeTx then 0 else d.lineLen % 2176
    let l := (List.range lanes.length).map (fun i => marker i (lanes.getD i 0) lanes.length d.restripeTx d.amSeq foff)
    (t.setDru p { d with
      amSeq := (d.amSeq + 1) % 65536, amAt := t.clk + 1, cwCount := 0, symPos := 0, restripeTx := false }).emit
      (.markers p ((lanes.length - d.symPos % lanes.length) % lanes.length) l))

/-- ALIGNMENT_MARKER_RX (R95, R96, R104). -/
def execAlignmentMarkerRx (p : Nat) (m : MarkersIn) (s : State) := onUnit p 256 s (fun t =>
  if t.druLive p then t.markersRx p m.markers m.corrected m.uncorrectable else t)

/-- DRU_MARKERS_LOST (R96, R101): the fourth consecutive group missed on every lane. -/
def execDruMarkersLost (p : Nat) (s : State) := onUnit p 256 s (fun t => t.startRetrain p 1)

/-- DRU_LANE_LOST (R103): cause 0 lock detector, 1 signal detect, 2 uncorrectable codewords and a failed histogram check;
with 3 no lane fails the check, and a RETRAIN starts, for which the spec names no cause (a free value). -/
def execDruLaneLost (p lane cause : Nat) (s : State) := onUnit p 256 s (fun t =>
  let i := lane - t.firstLane p
  let u := if 2 ≤ cause then t.bump64 Obj.DRU_FEC_UNCORR p 8 else t
  if t.druLive p = false ∨ (t.portLanes p).contains lane = false ∨ bit (t.reg Obj.DRU_RX_MASK p) i = false ∨
     t.laneOk lane = false then t
  else if cause = 3 then u.nextFree.startRetrain p (t.freeVal % 256)
  else u.druLaneGone p lane)

/-- DROP_RX (R104). -/
def execDropRx (p : Nat) (f : Frame) (s : State) := onUnit p 256 s (fun t =>
  t.onCtrl p 3 f (fun u => u.restripeTx p (ctrlU16 f 1) (ctrlU16 f 0) false))

/-- ADD_RX (R104). -/
def execAddRx (p : Nat) (f : Frame) (s : State) := onUnit p 256 s (fun t =>
  t.onCtrl p 4 f (fun u => u.restripeTx p (ctrlU16 f 1) (ctrlU16 f 0) true))

/-- DROP_ADD_RESEND (R104): every 200 ns until markers with the mask arrive. -/
def execDropAddResend (p : Nat) (s : State) := onUnit p 256 s (fun t =>
  let d := t.dru p
  if t.druLive p = true ∧ d.dropMask ≠ 0 ∧ t.after d.dropAt 200 = true then t.sendDrop p else t)

/-- DRU_LANE_RESTORE_ATTEMPT (R105): ADD once the lane has held lock without error for LANE_FAIL_WINDOW; a lane that has
not fails the attempt. -/
def execDruLaneRestoreAttempt (p lane : Nat) (clean : Bool) (s : State) := onUnit p 256 s (fun t =>
  let l := t.lane lane
  if t.druUp p = true ∧ (t.portLanes p).contains lane = true ∧ t.laneOk lane = false ∧ t.flag Obj.PORT_AUTO_WIDEN p = true ∧
     l.droppedAt ≠ 0 ∧ l.tries < 3 ∧ t.after (l.droppedAt - 1) 60000000000 = true ∧ (t.dru p).dropMask = 0 then
    if clean then t.openDrop p (setBit (t.reg Obj.DRU_RX_MASK p) (lane - t.firstLane p)) lane true
    else t.setLane lane { l with droppedAt := t.clk + 1, tries := l.tries + 1 }
  else t)

end Sys2Proof.Machine
end

