-- ==== Sys2Proof/Machine/Interrupts.lean ====
section
/-!
DEFINITION. The interrupt controller (R313 to R324): delivery, fallback, claims and completions. Causes, levels and sampling
are in `Flags.lean`.
-/

namespace Sys2Proof.Machine

namespace State

/-- Ports that carry FM-class messages: FM_INBAND_EN 1, in L0 (R44). -/
def fmPorts (s : State) : List Nat :=
  (s.regs.filterMap (fun e => if e.1.1 = Obj.FM_INBAND_EN ∧ e.2 = 1 then some e.1.2 else none)).filter
    (fun p => s.portState p == 5 && s.dlUp p)

/-- INT_TGT_STATE (R320): a core that waits is asleep, wakeable by INT_TGT_WAKEABLE, and one halted by a debug session takes
nothing; the fabric manager sleeps without a port. -/
def tgtState (s : State) (t : Nat) : Nat :=
  if t < 4 then
    (if bit (s.reg Obj.RIDGE_HALT 0) t then 2
     else if s.intc.waits.get false (t, 0) then (if s.flag Obj.INT_TGT_WAKEABLE t then 1 else 2) else 0)
  else if t = 5 then (if s.fmPorts.isEmpty then 2 else 0) else 0

/-- Where a delivery meant for target `t` goes (R320): to `t` where it is awake or wakeable, to its fallback, or to the BMC. -/
def resolveTgt (s : State) (t : Nat) : Nat :=
  if s.tgtState t ≠ 2 then t
  else
    let f := s.reg Obj.INT_TGT_FALLBACK t
    if s.tgtState f ≠ 2 then f else 4

/-- A Ridge core waits, or runs. -/
def setWaits (s : State) (core : Nat) (v : Bool) : State :=
  { s with intc := { s.intc with waits := s.intc.waits.set false (core, 0) v } }

/-- Tor wakes the core that takes a delivery (R320). -/
def wakeCore (s : State) (t : Nat) : State := if t < 4 then s.setWaits t false else s

/-- Delivery to a Ridge core is held while the core waits in an entry to a mode (R320). -/
def coreHeld (s : State) (t : Nat) : Bool := t < 4 && s.pm.step == .cores && !s.pm.undoing

/-- The source meets R314 for the target it names now. -/
def deliverable (s : State) (n : Nat) : Bool :=
  let t := s.reg Obj.INT_TARGET n
  s.ridgeClock && s.flag Obj.INT_GLOBAL_EN 0 && s.flag Obj.INT_TGT_EN t && s.reg Obj.INT_TGT_THRESH t ≤ s.reg Obj.INT_PRIO n &&
  !s.coreHeld t

/-- Raise INT_DELIVERED: every FM endpoint receives it, whatever its filters (R315). -/
def raiseDelivered (s : State) (n : Nat) : State :=
  let r : EvtRec := { code := 0x8001, source := 0x80, sev := 1, dropped := false, inst := 0xFFFF, seq := s.dict.seq, time := s.now,
                      data := n + 65536 * s.reg Obj.INT_PRIO n }
  let s1 := { s with dict := { s.dict with seq := (s.dict.seq + 1) % 65536 } }
  let fm := s.fmPorts.map (· + 1)
  foldS (fun ep (t : State) => if fm.contains ep || t.endpointMatches ep r then t.enqueueRec ep r else t)
    ((fm ++ s.subscribers).eraseDups) s1

/-- Deliver a pending source (R314, R320); `waits` says that the Ridge core it names executes its wait instruction now. -/
def deliver (s0 : State) (n : Nat) (waits : Bool) : State :=
  let i := s0.intSrc n
  let t := s0.reg Obj.INT_TARGET n
  let s := if t < 4 then s0.setWaits t waits else s0
  let u := s.resolveTgt t
  if i.pending = true ∧ i.delivered = none ∧ i.owner = none ∧ s0.deliverable n = true ∧ s0.coreHeld u = false then
    let s1 := (s.wakeCore u).setIntSrc n { i with delivered := some u }
    let s2 := if u = 5 then s1.raiseDelivered n else s1
    if u = t then s2
    else (s2.bump Obj.INT_FALLBACK_CNT t).raiseLimited 1000000 t 0x8002 0x80 2 0xFFFF (n + 65536 * t + 2 ^ 20 * u)
  else s0

/-- Delivered, unclaimed sources of a target, best first: the highest priority, then the lowest number (R314). -/
def bestClaim (s : State) (t : Nat) : Option Nat :=
  let l := s.intc.src.filterMap (fun e => if e.2.delivered = some t ∧ e.2.owner = none then some e.1.1 else none)
  l.foldl (fun a n => match a with
    | none => some n
    | some m => if s.reg Obj.INT_PRIO m < s.reg Obj.INT_PRIO n then some n else a) none

/-- A claim by a target (R315, R318): the INT_CLAIM value, and the source put in service. -/
def claim (s : State) (t : Nat) : Nat × State :=
  if s.flag Obj.INT_GLOBAL_EN 0 = false ∨ s.ridgeClock = false then (0, s)
  else match s.bestClaim t with
    | none => (0, s)
    | some n =>
      (n + 65536 * s.reg Obj.INT_PRIO n + (if s.intLevel n then 2 ^ 24 else 0) + 2 ^ 31,
       s.setIntSrc n { s.intSrc n with owner := some t })

/-- A completion (R317): `none` where the source is not in service for the target. -/
def complete (s : State) (t n : Nat) : Option State :=
  if (s.intSrc n).owner = some t then some (s.setIntSrc n { pending := s.intLevel n, delivered := none, owner := none }) else none

/-- Sources delivered and unclaimed that no longer meet R314 for where they were delivered are withdrawn (R318, R319). -/
def withdraw (s : State) : State :=
  foldS (fun n (t : State) =>
    let i := t.intSrc n
    if i.owner = none ∧ i.delivered ≠ none ∧ (t.deliverable n = false ∨ i.delivered ≠ some (t.resolveTgt (t.reg Obj.INT_TARGET n)))
    then t.setIntSrc n { i with delivered := none } else t) (s.intc.src.map (fun e => e.1.1)) s

/-- The level of ALERT_N: true pulled low (R315); in HOLD and SENTINEL the level kept from the commit point. -/
def alertN (s : State) : Bool :=
  if s.rst.alertLow then true
  else if s.ridgeClock then s.intc.src.any (fun e => e.2.delivered == some 4 && e.2.owner == none) else s.intc.alertHeld

/-- INT_STATE of a source. -/
def intStateView (s : State) (n : Nat) : Nat :=
  let i := s.intSrc n
  let t := match i.owner with
    | some t => t
    | none => i.delivered.getD 0
  (if s.intLevel n then 1 else 0) + (if i.pending then 2 else 0) + (if i.delivered.isSome && i.owner.isNone then 4 else 0) +
  (if i.owner.isSome then 8 else 0) + 16 * t

/-! ### Effects of writes -/

/-- INT_CAUSE_CLR (R311). -/
def clearCause (s : State) (n v : Nat) : State := s.setReg Obj.INT_CAUSE n (maskOut (s.reg Obj.INT_CAUSE n) v)

/-- INT_ENABLE (R313). -/
def intEnabled (s : State) (n v : Nat) : State :=
  let t := s.setReg Obj.INT_ENABLE n v
  if v = 0 then
    (if (t.intSrc n).owner = none then t.setIntSrc n intDflt else t)
  else t.sampleInt n

/-- Sources that may join Tor's wake subset (R321). -/
def wakeEligible (n : Nat) : Bool := (512 ≤ n && n < 544) || n == 910 || n == 911 || n == 926

end State

/-! ### Commands -/

/-- INT_DELIVER (R314, R320). -/
def execIntDeliver (d : Delivery) (s : State) := onUnit d.src 1024 s (fun t => t.deliver d.src d.waits)

/-- INT_CLAIM (R315): a claim of target `t`, core-local or over the dictionary. A core that claims runs. -/
def execIntClaim (t : Nat) (s : State) := onUnit t 6 s (fun u => ((u.claim t).2.wakeCore t).emit (.claimed t (u.claim t).1))

/-- INT_COMPLETE (R317): one that names a source not in service for the target does nothing. -/
def execIntComplete (t src : Nat) (s : State) := onUnit t 6 s (fun u => (u.complete t src).getD u)

/-- DOORBELL_SET (R310): a level-only source. -/
def execDoorbellSet (core : Nat) (level : Bool) (s : State) := onUnit core 4 s (fun t =>
  ({ t with intc := { t.intc with doorbell := t.intc.doorbell.set false (core, 0) level } } : State).sampleInt (1016 + core))

end Sys2Proof.Machine
end

