-- ==== Sys2Proof/Machine/Requests.lean ====
section
/-!
DEFINITION. The endpoints of the dictionary service and the requests that wait at them (R44, R47, R295).
-/

namespace Sys2Proof.Machine

namespace State

/-! ### Endpoints -/

/-- The endpoint can send requests (*Requester endpoints*, R44, R56): the BMC on I3C, the fabric manager on a port in L0 with
FM_INBAND_EN, a tenant while its partition is bound, its host port is up and that port's mailbox is on, and the debug session. -/
def endpointUp (s : State) (ep : Nat) : Bool :=
  if ep = 0 ∨ ep = 321 then true
  else if ep ≤ 256 then s.fmPorts.contains (ep - 1)
  else
    let p := s.reg Obj.PART_HOST_PORT (ep - 257)
    s.bound (ep - 257) && s.dlUp p && s.flag Obj.TEN_MAILBOX_EN p

/-- Firmware runs, so that the dictionary is served (R382, step 4). -/
def firmwareUp (s : State) : Bool := s.rst.step != .inReset && s.rst.step != .rom

/-- The dictionary accepts no new request: step 3 of an entry (R295). -/
def coresWait (s : State) : Bool := s.pm.step == .cores && !s.pm.undoing

/-- Send a response. -/
def respondReq (s : State) (ep : Nat) (r : Req) (abort : Nat) (payload : List Byte) : State :=
  s.sendMessage ep r.mtag (respBytes r abort (if abort = 0 then payload else []))

/-! ### Requests that wait -/

/-- Requests of an endpoint accepted and not yet answered, oldest first. -/
def inboxOf (s : State) (ep : Nat) : List (Nat × Req) := s.dict.inbox.get [] (ep, 0)

def setInbox (s : State) (ep : Nat) (l : List (Nat × Req)) : State :=
  { s with dict := { s.dict with inbox := s.dict.inbox.set [] (ep, 0) l } }

/-- Requests of an endpoint that came after step 3 of a mode entry began (R295). -/
def lateOf (s : State) (ep : Nat) : List (Nat × Req) := s.dict.late.get [] (ep, 0)

def setLate (s : State) (ep : Nat) (l : List (Nat × Req)) : State :=
  { s with dict := { s.dict with late := s.dict.late.set [] (ep, 0) l } }

/-- The service accepts the requests that waited in their transports (R295); their 2 ms begin now (R47). -/
def acceptLate (s : State) : State :=
  foldS (fun e (t : State) => (t.setInbox e.1.1 (t.inboxOf e.1.1 ++ e.2.map (fun r => (s.clk, r.2)))).setLate e.1.1 []) s.dict.late s

end State

end Sys2Proof.Machine
end

