-- ==== Sys2Proof/Machine/Security.lean ====
section
/-!
DEFINITION. Security and debug (R334 to R352): lifecycle requests, firmware images, SPDM, IDE keys, debug sessions, the debug
master and the TAP. What a full reset does of them is in `Reset.lean`.
-/

namespace Sys2Proof.Machine

/-- The magic of a firmware image header. -/
abbrev fwMagic : Nat := 0x47543946

/-- 16 MiB, the size of an image area. -/
abbrev fwArea : Nat := 16777216

namespace State

def setSec (s : State) (x : SecSt) : State := { s with sec := x }

/-! ### Lifecycle (R335) -/

/-- The signatures that a transition needs (*Lifecycle transitions*): (vendor first, owner, length of LC_AUTH). `none` where
the transition is not accepted. -/
def lcNeeds (old new : Nat) : Option (Bool × Bool × Nat) :=
  match old, new with
  | 0, 1 => some (true, false, 96)
  | 1, 2 => some (false, true, 96)
  | 1, 3 => some (true, false, 96)
  | 2, 3 => some (true, true, 192)
  | 1, 4 => some (true, false, 96)
  | 3, 4 => some (true, false, 96)
  | 2, 4 => some (false, true, 96)
  | _, _ => none

/-- LC_REQUEST written with 1 (R335): the abort code, 0 for accepted, and the state. The nonce serves one request. -/
def lcRequest (s : State) (vendorOk ownerOk : Bool) : Nat × State :=
  let target := s.reg Obj.LC_TARGET 0
  let t := s.setSec { s.sec with lcNonce := none }
  let signed := fun (v o : Bool) (n : Nat) =>
    s.sec.lcNonce.isSome && s.sec.lcAuth.length == n && (!v || vendorOk) && (!o || ownerOk)
  let verdict : Nat :=
    if s.lcState = 0 ∧ target = 4 then (if s.sec.lcAuth = [] ∨ signed true false 96 = true then 0 else Ab.ACCESS_DENIED)
    else match lcNeeds s.lcState target with
      | none => Ab.INVALID_CONFIG
      | some x => if signed x.1 x.2.1 x.2.2 then 0 else Ab.ACCESS_DENIED
  if verdict = Ab.ACCESS_DENIED then (verdict, t)
  else if s.reg Obj.LC_PENDING 0 ≠ 0xFF then (Ab.BUSY, t)
  else if verdict ≠ 0 then (verdict, t)
  else (0, (t.setReg Obj.LC_PENDING 0 target).setSec { t.sec with lcHash := s.reg Obj.LC_OWNER_HASH 0 })

/-! ### Firmware images (R336 to R338) -/

/-- A byte of the image areas; flash that is erased reads 0xFF. -/
def fwByte (s : State) (area off : Nat) : Byte := BitVec.ofNat 8 (s.sec.images.get 255 (area, off))

/-- A little-endian field of an area's header. -/
def fwField (s : State) (area off n : Nat) : Nat := ofBytes ((List.range n).map (fun i => s.fwByte area (off + i)))

/-- MAGIC and LENGTH are in range. -/
def fwHeaderOk (s : State) (area : Nat) : Bool :=
  s.fwField area 0 4 == fwMagic && s.fwField area 12 4 ≤ 16776704

/-- The image's SVN. -/
def fwSvn (s : State) (area : Nat) : Nat := s.fwField area 8 2

/-- The area that updates are written to: the one that does not run. While the recovery image runs neither does, and
updates go to area A. -/
def fwIdleArea (s : State) : Nat := if s.reg Obj.FW_ACTIVE 0 = 0 then 1 else 0

/-- The handle of kind 4 that is QUEUED, RUNNING or COMMITTED. -/
def fwLop (s : State) : Option Nat :=
  (List.range 64).find? (fun h => (s.lop h).kind == 4 && ((s.lop h).st == .queued || (s.lop h).st == .running || (s.lop h).st == .committed))

/-- FW_CHUNK (R337): the abort code, 0 for stored. -/
def fwChunk (s : State) (bytes : List Byte) : Nat × State :=
  let off := s.reg Obj.FW_CHUNK_OFF 0
  if fwArea < off + bytes.length then (Ab.RANGE, s)
  else if s.fwLop.isSome then (Ab.BUSY, s)
  else
    let a := s.fwIdleArea
    let img := foldS (fun (e : Byte × Nat) (m : Tbl Nat) => m.set 255 (a, off + e.2) e.1.toNat) bytes.zipIdx s.sec.images
    (0, s.setSec { s.sec with images := img })

/-- FW_UPDATE written with 1 (R337): a long operation of kind 4. -/
def fwUpdate (s : State) (owner : Nat) : Except Nat (State × Nat) :=
  if s.fwLop.isSome then .error Ab.BUSY
  else match s.takeLop 4 owner s.fwIdleArea with
    | none => .error Ab.BUSY
    | some (h, t) => .ok (t, h)

/-- The cause of an invalid area (R337); 0 valid. -/
def fwVerdict (s : State) (area : Nat) (keyOk sigOk bodyOk flashOk : Bool) : Nat :=
  if !flashOk then 4 else if !(s.fwHeaderOk area) then 3 else if !(keyOk && sigOk && bodyOk) then 1
  else if s.fwSvn area < s.sec.fuse.svn then 2 else 0

/-- Verification ends (R337). Naming the area in FW_BOOT_PTR is the commit point; its first boot is not confirmed. -/
def fwVerified (s : State) (h : Nat) (keyOk sigOk bodyOk flashOk : Bool) : State :=
  let a := (s.lop h).arg
  let v := s.fwVerdict a keyOk sigOk bodyOk flashOk
  if v ≠ 0 then ((s.endLop h .failed Ab.OP_FAILED).modLop h (fun l => { l with cause := v }))
  else
    let t := ((s.commitLop h).setReg Obj.FW_BOOT_PTR 0 a).setReg Obj.FW_CONFIRMED 0 0
    (t.setSec { t.sec with fwAt := 0, fwDogs := 0, fwBack := false }).endLop h .done 0

/-- FW_CONFIRM written with 1 (R338): the running image is the one that the boot pointer names. -/
def fwConfirm (s : State) : State :=
  if s.reg Obj.FW_CONFIRMED 0 = 0 ∧ s.reg Obj.FW_ACTIVE 0 = s.reg Obj.FW_BOOT_PTR 0 ∧ s.sec.fwBack = false then
    let t := s.setReg Obj.FW_CONFIRMED 0 1
    t.setSec { t.sec with fwAt := 0, fwDogs := 0, fuse := { t.sec.fuse with svn := max t.sec.fuse.svn (s.rst.fwRun / 2 ^ 32) } }
  else s

/-- Tor points the boot pointer back to the other image (R338): cause 3 not confirmed, 4 watchdog resets. -/
def fwTurnBack (s : State) (cause : Nat) : State :=
  let other := 1 - s.reg Obj.FW_BOOT_PTR 0
  let t := s.setReg Obj.FW_BOOT_PTR 0 other
  (t.setSec { t.sec with fwAt := 0, fwDogs := 0, fwBack := true }).raise 0xB002 0xB0 3 0xFFFF (other + 256 * cause)

/-! ### Debug level (R345 to R347) -/

/-- Write RIDGE_HALT: halted cores take no interrupt, and a core that runs again takes up the operations that wait for it and the
link ladders it left. -/
def setHalt (s : State) (v : Nat) : State :=
  let t := foldS (fun h (u : State) => u.grantLop h) (List.range 64) (s.setReg Obj.RIDGE_HALT 0 v).withdraw
  if bit v 1 then t
  else { t with link := { t.link with ports := t.link.ports.map (fun (e : Key × Port) => (e.1, { e.2 with ladderWaits := false })) } }

/-- A change of the debug level, with its event; a fall below INTRUSIVE releases every halted core (R346). -/
def setDbg (s : State) (level cause : Nat) : State :=
  let old := s.reg Obj.DBG_LEVEL 0
  if level = old then s
  else
    let t := s.setReg Obj.DBG_LEVEL 0 level
    let t1 := t.setSec { t.sec with dbgTop := max t.sec.dbgTop level }
    let t2 := if level < 2 ∧ t1.reg Obj.RIDGE_HALT 0 ≠ 0 then t1.setHalt 0 else t1
    t2.raise 0xB003 0xB0 3 0xFFFF (level + 256 * old + 65536 * cause)

/-- A debug response meets the conditions of R345. -/
def dbgPasses (s : State) (bytes : List Byte) (vendorOk ownerOk : Bool) : Bool :=
  let level := ofBytes (bytes.take 1)
  s.sec.dbgNonce.isSome && decide (level ≤ s.reg Obj.DBG_ALLOW 0) &&
  (match s.lcState with
   | 0 => ofBytes (bytes.drop 1) == 0
   | 1 => vendorOk
   | 2 => ownerOk
   | 3 => vendorOk
   | _ => false)

/-- DBG_RESPONSE (R345): the abort code, 0 for granted. The nonce is consumed. -/
def dbgResponse (s : State) (bytes : List Byte) (vendorOk ownerOk : Bool) : Nat × State :=
  let level := ofBytes (bytes.take 1)
  if s.lcState = 4 ∨ 8 ≤ s.sec.dbgFails then (Ab.DEBUG_LOCKED, s)
  else if level = 0 ∨ 2 < level then (Ab.RANGE, s)
  else if s.dbgPasses bytes vendorOk ownerOk then
    (0, (s.setSec { s.sec with dbgNonce := none, dbgFails := 0 }).setDbg level 0)
  else
    let n := s.sec.dbgFails + 1
    let t := (s.setSec { s.sec with dbgNonce := none, dbgFails := n }).bump Obj.DBG_AUTH_FAILS 0
    (Ab.DEBUG_LOCKED, t.raise 0xB004 0xB0 3 0xFFFF (t.reg Obj.DBG_AUTH_FAILS 0 + (if 8 ≤ n then 2 ^ 32 else 0)))

/-- DBG_DROP (R346): a level lower than the current one. -/
def dbgDrop (s : State) (level : Nat) : Nat × State :=
  if s.reg Obj.DBG_LEVEL 0 ≤ level then (Ab.RANGE, s) else (0, s.setDbg level 1)

/-- DBG_ALLOW (R346). -/
def dbgAllow (s : State) (v : Nat) : State :=
  let t := s.setReg Obj.DBG_ALLOW 0 v
  if v < t.reg Obj.DBG_LEVEL 0 then t.setDbg v 3 else t

/-- RIDGE_HALT (R347): bit 0 stays clear. -/
def ridgeHalt (s : State) (v : Nat) : Nat × State :=
  if bit v 0 = true ∨ 16 ≤ v then (Ab.RANGE, s) else (0, s.setHalt v)

/-! ### Debug master (R348) -/

/-- The access of the debug master as a message of requester 336 for its home address. -/
def dmMsg (s : State) (write : Bool) : Msg :=
  let n := s.reg Obj.DM_LEN 0
  { msgDflt with
    uid := s.fab.uid, kind := .request, chan := if write then .memRwD else .memReq
    op := if write then .memWrPtl else .otherRead
    src := s.reg Obj.FID_BASE 0 + 17, rq := 336, home := s.reg Obj.DM_ADDR 0, pool := s.reg Obj.DM_ADDR 0
    bytes := n, len := if write then max 1 (ceilDiv n 256) else 1, cls := 2
    eRoute := s.reg Obj.ROUTE_EPOCH 0, eBind := s.reg Obj.BIND_EPOCH 0, eFl := s.reg Obj.FL_EPOCH 0
    data := if write then s.sec.dmData.take n else [] }

/-- DM_STATUS from a state of the access, its parts (length, Flint cause) and the poison mark. -/
def dmStatus (st : Nat) (parts : List (Nat × Nat)) (poison : Bool) : Nat :=
  let c := fun i => (parts.getD i (0, 0)).2
  st + (if c 0 ≠ 0 then 4 else 0) + (if c 1 ≠ 0 then 8 else 0) + 16 * (if c 0 ≠ 0 then c 0 else c 1) + (if poison then 128 else 0)

/-- Issue the access that a message says (R348): stages 3 to 7, from the pool address. -/
def dmIssue (s : State) (m : Msg) (write : Bool) : State :=
  let routed := match s.ldAt m.home with
    -- R234: the destination of a redirect is reached only through it
    | some ld => if s.inRdrDest m.home then Routed.answer 6 m else s.routeHome m ld (m.home - s.reg Obj.LD_POOL_BASE ld)
    | none => Routed.answer 6 m
  let causes := match routed with
    | .to x => if s.slotAllows m.eFl x.egress 336 then
          (s.splitParts x).map (fun p => (p.2, (s.checkPart x p.1 p.2 (!write) write).cause))
        else [(m.bytes, 1)]
    | .answer _ _ => [(m.bytes, 0)]
  let u := s.setSec { s.sec with dm := some { uid := m.uid, write := write, got := none, parts := causes, at_ := s.clk } }
  (u.setReg Obj.DM_STATUS 0 (dmStatus 1 causes false)).afterStage2 routed

/-- Start one access (R348). In an entry to HOLD or SENTINEL the internal requesters issue nothing (R295): it waits. -/
def dmStart (s : State) (write : Bool) : Nat × State :=
  if s.sec.dm.isSome then (Ab.BUSY, s)
  else
    let m := s.dmMsg write
    let t := { s with fab := { s.fab with uid := s.fab.uid + 1 } }
    if t.pm.stop && t.mode != .service then
      (0, (t.setSec { t.sec with dm := some { uid := m.uid, write := write, got := none, parts := [], at_ := t.clk, held := some m } }).setReg
        Obj.DM_STATUS 0 (dmStatus 1 [] false))
    else (0, t.dmIssue m write)

/-- The internal requesters issue again: so does an access that waited (R295). -/
def dmRelease (s : State) : State :=
  match s.sec.dm with
  | some a => match a.held with
    | some m => s.dmIssue m a.write
    | none => s
  | none => s

/-- What a read of the debug master holds: the data of its allowed parts, and zeros for a refused one (R261). -/
def dmFill (parts : List (Nat × Nat)) (data : List Byte) : List Byte :=
  (parts.foldl (fun (x : List Byte × List Byte) p =>
    if p.2 = 0 then (x.1 ++ (x.2 ++ List.replicate p.1 0).take p.1, x.2.drop p.1) else (x.1 ++ List.replicate p.1 0, x.2.drop p.1))
    ([], data)).1

/-- The access ends (R348): with the completion that came back, or without one DIR_TIMEOUT after its start. -/
def dmEnd (s : State) : State :=
  match s.sec.dm with
  | none => s
  | some a => match a.got with
    | some g =>
      (s.setSec { s.sec with dm := none, dmData := if a.write then s.sec.dmData else dmFill a.parts g.2 }).setReg Obj.DM_STATUS 0
        (dmStatus 2 a.parts g.1)
    | none =>
      if a.held.isNone ∧ s.after a.at_ (s.reg Obj.DIR_TIMEOUT 0 * 1000) = true then
        (s.setSec { s.sec with dm := none }).setReg Obj.DM_STATUS 0 (dmStatus 3 a.parts false)
      else s

/-! ### SPDM (R339, R340) -/

/-- A carrier is there: MCTP on I3C or on a port with FM_INBAND_EN in L0, a bound partition whose host port is up, a Drudar port that is up. The
responder answers nothing in BOOT, HOLD and SENTINEL (R351). -/
def spdmOn (s : State) (via : SpdmVia) : Bool :=
  s.ridgeClock && s.mode != .boot &&
  match via with
  | .mctp ep => ep == 0 || (1 ≤ ep && s.fmPorts.contains (ep - 1))
  | .doe n => n < 64 && s.bound n && s.dlUp (s.reg Obj.PART_HOST_PORT n)
  | .peer p => p < 256 && s.druUp p

/-- An answer of the responder. -/
def spdmAnswer (s : State) (via : SpdmVia) (code : Nat) (bytes : List Byte) : State :=
  if s.spdmOn via then s.emit (.spdm via code bytes) else s

/-- Contents of a measurement block (R340). -/
def measurement (s : State) (i : Nat) : List Byte :=
  match i with
  | 2 => Config.spdmBytes 0x60 (s.reg Obj.FW_ACTIVE 0) ++ toBytes 4 (s.rst.fwRun % 2 ^ 32) ++ toBytes 2 (s.rst.fwRun / 2 ^ 32)
  | 3 => toBytes 48 s.rst.hashApplied
  | 4 => toBytes 1 s.lcState ++ toBytes 1 (s.reg Obj.LC_PENDING 0) ++ toBytes 1 s.sec.fuse.svn
  | 5 => toBytes 1 (s.reg Obj.DBG_LEVEL 0) ++ toBytes 1 s.sec.dbgTop
  | _ => Config.spdmBytes 0x60 256

/-- The endpoint in SPDM_SESSION. -/
def spdmEp (via : SpdmVia) : Nat :=
  match via with
  | .mctp ep => ep
  | .doe _ => 0xFFFF
  | .peer p => p + 1

/-- Put the list of open sessions in place. -/
def setSessions (s : State) (l : List Session) : State :=
  (s.setSec { s.sec with sessions := l }).setReg Obj.SPDM_SESSIONS 0 l.length

/-- The GT9 asks for mutual authentication: only of Drudar peers (R339). -/
def mutualAuth (via : SpdmVia) : Nat :=
  match via with
  | .peer _ => 1
  | _ => 0

/-- KEY_EXCHANGE (R339): at most eight sessions are open; a ninth is answered with the error SessionLimitExceeded. -/
def openSession (s : State) (via : SpdmVia) : State :=
  if 8 ≤ s.sec.sessions.length then s.emit (.spdm via 0x7F [0x0A])
  else
    let t := s.setSessions (s.sec.sessions ++ [{ id := s.sec.sessionId, via := via, ready := false }])
    ((t.setSec { t.sec with sessionId := s.sec.sessionId + 1 }).emit
      (.spdm via 0xE4 (toBytes 4 s.sec.sessionId ++ toBytes 1 (mutualAuth via) ++ Config.spdmBytes 0xE4 s.sec.sessionId))).raise 0xB007 0xB0 1 0xFFFF
      (s.sec.sessions.length + 1 + 65536 * spdmEp via)

/-- A session ends. -/
def endSession (s : State) (x : Session) : State :=
  let l := s.sec.sessions.filter (fun y => y.id != x.id)
  (s.setSessions l).raise 0xB007 0xB0 1 0xFFFF (l.length + 256 + 65536 * spdmEp x.via)

/-- Run `f` on an open session whose carrier answers. -/
def onSession (s : State) (id : Nat) (f : Session → State → State) : State :=
  match s.sec.sessions.find? (fun x => x.id == id) with
  | some x => if s.spdmOn x.via then f x s else s
  | none => s

/-! ### IDE (R107, R341, R342) -/

/-- The IDE mode of a port: PORT_IDE_MODE in CXL mode, DRU_IDE_MODE in Drudar mode. -/
def ideMode (s : State) (p : Nat) : Nat := if s.drudar p then s.reg Obj.DRU_IDE_MODE p else s.reg Obj.PORT_IDE_MODE p

/-- Show a port's IDE state. -/
def showIde (s : State) (p v : Nat) : State :=
  if s.drudar p then s.setReg Obj.DRU_IDE_STATE p v else s.setReg Obj.PORT_IDE_STATE p v

/-- The GT9 is the requester of a port's key management (R341): toward a device, and toward a Drudar peer of a higher fabric ID. -/
def requestsKeys (s : State) (p : Nat) : Bool :=
  if s.drudar p then s.reg Obj.FID_BASE 0 < s.reg Obj.DRU_PEER_ID p else (s.hostPart p).isNone

/-- The session may key the port (R341): the host through its partition's DOE mailbox, a Drudar peer its own link. Where the GT9 is the
requester, Ridge core 3 keys the port in a session of its own. -/
def mayKey (s : State) (session p : Nat) : Bool :=
  match s.sec.sessions.find? (fun x => x.id == session && x.ready) with
  | some x => !(s.requestsKeys p) && (match x.via with
      | .doe n => s.reg Obj.PART_HOST_PORT n == p && !(s.drudar p)
      | .peer q => q == p && s.drudar p
      | .mctp _ => false)
  | none => s.requestsKeys p && s.ridgeClock && s.mode != .boot && s.coreRuns 3

/-- A key slot of a port is set; the first one comes into use. -/
def setKey (s : State) (p k : Nat) (y : IdeKeys) : State :=
  let x := s.ide p
  let first := !(x.key0 || x.key1)
  let t := s.setIde p { x with
    key0 := x.key0 || k == 0, key1 := x.key1 || k == 1, slot := if first then k else x.slot, since := if first then s.clk else x.since
    tx := setAt x.tx k { key := y.txKey % 2 ^ 256, salt := y.txSalt % 2 ^ 32, count := 0 }
    rx := setAt x.rx k { key := y.rxKey % 2 ^ 256, salt := y.rxSalt % 2 ^ 32, count := 0 } }
  let t1 := if first then (t.showIde p (1 + k)).modDru p (fun d => { d with ideSlot := k, ideNext := k }) else t
  t1.raise 0xB005 0xB0 1 p (k + (if s.drudar p then 256 else 0))

/-- Change keys by switching slots (R107, R341); a Drudar transmitter changes with the frame after its next MAC. -/
def rekey (s : State) (p : Nat) : State :=
  let x := s.ide p
  let k := 1 - x.slot
  if s.ideMode p = 0 ∨ (k = 0 ∧ x.key0 = false) ∨ (k = 1 ∧ x.key1 = false) ∨ (x.key0 || x.key1) = false ∨
     s.after x.since (s.reg Obj.IDE_REKEY_S 0 * 1000000000) = false then s
  else
    let t := (s.setIde p { x with slot := k, since := s.clk }).showIde p (1 + k)
    if s.drudar p then t.modDru p (fun d => { d with ideNext := k }) else t

/-- Every IDE key is zeroized and every session ends (R342), as at SENTINEL entry. -/
def zeroizeKeys (s : State) : State :=
  let t := { s with sec := { s.sec with ide := [] } }
  let t1 := ((t.resetObj Obj.PORT_IDE_STATE).resetObj Obj.DRU_IDE_STATE)
  foldS (fun x (u : State) => u.endSession x) t1.sec.sessions t1

/-! ### TAP (R349) -/

/-- EXTEST-type instructions may load: in BLANK, or in RMA at INTRUSIVE, in SERVICE, with every slot channel OFF. -/
def extestAllowed (s : State) : Bool :=
  s.lcState == 0 ||
  (s.lcState == 3 && s.reg Obj.DBG_LEVEL 0 == 2 && s.mode == .service && (List.range 32).all (fun c => (s.slotCh c).st == .off))

/-- The instruction that the TAP loads: an EXTEST-type one only where R349 allows it, else BYPASS. -/
def tapLoads (s : State) (ir : Nat) : Nat :=
  if 1 ≤ ir ∧ ir ≤ 3 then ir
  else if ir = 0 ∨ ir = 4 ∨ ir = 5 then (if s.extestAllowed then ir else 255)
  else 255

/-- IDCODE (R349). -/
def idcode : Nat := 1 + 0x2B7 * 2 + 0x9512 * 4096 + Config.siliconRev / 256 % 16 * 2 ^ 28

/-- Load a TAP instruction: IDCODE shifts out its value; an EXTEST-type one takes every port DL_Down with cause 8, until a full reset. -/
def tapLoad (s : State) (ir : Nat) : State :=
  let i := s.tapLoads ir
  let t := s.setSec { s.sec with tapIr := i }
  if i = 0 ∨ i = 4 ∨ i = 5 then
    foldS (fun p (u : State) => u.portDown p 8) ((List.range 256).filter (fun p => s.portState p != 1 && s.portState p != 9))
      { t with link := { t.link with halted := true } }
  else if i = 1 then t.emit (.idcode idcode)
  else t

/-- The answer to IDE key management, where the GT9 is the responder (R339). -/
def keyAnswer (s : State) (session : Nat) : State :=
  match s.sec.sessions.find? (fun x => x.id == session && x.ready) with
  | some x => s.spdmAnswer x.via 0x7E []
  | none => s

end State

/-! ### Commands -/

/-- FW_VERIFY_DONE (R337). -/
def execFwVerifyDone (keyOk sigOk bodyOk flashOk : Bool) (s : State) := steady s (fun t =>
  match t.fwLop with
  | some h => if (t.lop h).st = .running ∧ t.ridgeClock = true then t.fwVerified h keyOk sigOk bodyOk flashOk else t
  | none => t)

/-- FW_CONFIRM_TIMEOUT (R338). -/
def execFwConfirmTimeout (s : State) := steady s (fun t =>
  if t.sec.fwAt ≠ 0 ∧ t.reg Obj.FW_CONFIRMED 0 = 0 ∧ t.sec.fwBack = false ∧
     t.after (t.sec.fwAt - 1) (t.reg Obj.FW_CONFIRM_WINDOW 0 * 1000000000) = true then t.fwTurnBack 3 else t)

/-- SPDM_GET_VERSION (R339). -/
def execSpdmGetVersion (via : SpdmVia) (s : State) := steady s (fun t => t.spdmAnswer via 0x84 (Config.spdmBytes 0x84 0))

/-- SPDM_GET_CAPABILITIES (R339). -/
def execSpdmGetCapabilities (via : SpdmVia) (s : State) := steady s (fun t => t.spdmAnswer via 0xE1 (Config.spdmBytes 0xE1 0))

/-- SPDM_NEGOTIATE_ALGORITHMS (R339). -/
def execSpdmNegotiateAlgorithms (via : SpdmVia) (s : State) := steady s (fun t => t.spdmAnswer via 0xE3 (Config.spdmBytes 0xE3 0))

/-- SPDM_GET_DIGESTS (R339). -/
def execSpdmGetDigests (via : SpdmVia) (s : State) := steady s (fun t => t.spdmAnswer via 0x81 (Config.spdmBytes 0x81 t.sec.alias_))

/-- SPDM_GET_CERTIFICATE (R339): slot 0 holds the vendor chain; there is no other. -/
def execSpdmGetCertificate (via : SpdmVia) (slot offset length : Nat) (s : State) := steady s (fun t =>
  if slot = 0 then t.spdmAnswer via 0x82 (((Config.spdmBytes 0x82 t.sec.alias_).drop offset).take length)
  else t.spdmAnswer via 0x7F [0x01])

/-- SPDM_CHALLENGE (R339): answered with the alias key, a fresh nonce in the answer. -/
def execSpdmChallenge (via : SpdmVia) (slot : Nat) (s : State) := steady s (fun t =>
  if slot = 0 then
    (if t.spdmOn via then t.nextFree.spdmAnswer via 0x83 (toBytes 32 t.freeVal ++ Config.spdmBytes 0x83 t.sec.alias_) else t)
  else t.spdmAnswer via 0x7F [0x01])

/-- SPDM_GET_MEASUREMENTS (R340): block `index`, or every block for 255, or their number for 0. -/
def execSpdmGetMeasurements (via : SpdmVia) (index : Nat) (s : State) := steady s (fun t =>
  if index = 0 then t.spdmAnswer via 0xE0 [5]
  else if index = 255 then t.spdmAnswer via 0xE0 ([1, 2, 3, 4, 5].flatMap t.measurement ++ Config.spdmBytes 0xE0 t.sec.alias_)
  else if index ≤ 5 then t.spdmAnswer via 0xE0 (t.measurement index ++ Config.spdmBytes 0xE0 t.sec.alias_)
  else t.spdmAnswer via 0x7F [0x01])

/-- SPDM_KEY_EXCHANGE (R339). -/
def execSpdmKeyExchange (via : SpdmVia) (s : State) := steady s (fun t => if t.spdmOn via then t.openSession via else t)

/-- SPDM_FINISH (R339): the session is established, or ends where the exchange fails. -/
def execSpdmFinish (session : Nat) (ok : Bool) (s : State) := steady s (fun t => t.onSession session (fun x u =>
  if ok then (u.setSessions (u.sec.sessions.map (fun (y : Session) => if y.id = x.id then { y with ready := true } else y))).emit
      (.spdm x.via 0xE5 [])
  else (u.endSession x).emit (.spdm x.via 0x7F [0x06])))

/-- SPDM_HEARTBEAT (R339). -/
def execSpdmHeartbeat (session : Nat) (s : State) := steady s (fun t => t.onSession session (fun x u => u.emit (.spdm x.via 0xE8 [])))

/-- SPDM_KEY_UPDATE (R339): the keys themselves are no object's value. -/
def execSpdmKeyUpdate (session : Nat) (s : State) := steady s (fun t => t.onSession session (fun x u => u.emit (.spdm x.via 0xE9 [])))

/-- SPDM_END_SESSION (R339). -/
def execSpdmEndSession (session : Nat) (s : State) := steady s (fun t => t.onSession session (fun x u =>
  (u.endSession x).emit (.spdm x.via 0xEC [])))

/-- SPDM_VENDOR_DEFINED_REQUEST (R107, R341): IDE key management sets a key slot of a port whose IDE is on. -/
def execSpdmVendorDefinedRequest (session port : Nat) (k : SlotKeys) (s : State) := onUnit port 256 s (fun t =>
  if k.slot < 2 ∧ t.ideMode port ≠ 0 ∧ t.dlUp port = true ∧ t.mayKey session port = true then
    (t.setKey port k.slot k.keys).keyAnswer session else t)

/-- IDE_REKEY (R107, R341). -/
def execIdeRekey (p : Nat) (s : State) := onUnit p 256 s (fun t => t.rekey p)

/-- IDE_INTEGRITY_FAIL (R341): a CXL-mode port goes DL_Down with cause 6. -/
def execIdeIntegrityFail (p : Nat) (io : Bool) (s : State) := onUnit p 256 s (fun t =>
  let x := t.ide p
  if t.drudar p = false ∧ t.reg Obj.PORT_IDE_MODE p ≠ 0 ∧ (x.key0 || x.key1) = true ∧ t.dlUp p = true then
    ((t.raise 0xB006 0xB0 4 p (x.slot + (if io then 256 else 0))).portDown p 6).setReg Obj.PORT_IDE_STATE p 3
  else t)

/-- TAP_INSTRUCTION_LOAD (R349). -/
def execTapInstructionLoad (ir : Nat) (s : State) := steady s (fun t => t.tapLoad ir)

/-- DM_ACCESS_END (R262, R348). What ends the access is in State; the row carries nothing, and its three operands say nothing. -/
def execDmAccessEnd (_ _ _ : Unit) (s : State) := steady s (fun t => t.dmEnd)

end Sys2Proof.Machine
end

