-- ==== Sys2Proof/Machine/SlotPower.lean ====
section
/-!
DEFINITION. The slot power channels (R266 to R292): what a sample of the slot-power die measures, and the steps of the
slot-channel state machine.

A sample of 1 µs is the clock of a channel. Feed `f` is 2n for feed A of Sn and 2n + 1 for feed B.
-/

namespace Sys2Proof.Machine

namespace State

/-! ### Reading the channel -/

/-- SOURCE of a channel's events (R292). -/
def slotSrc (c : Nat) : Nat := if c < 16 then 0x70 else 0x71

/-- Feed `x` (0 A, 1 B) of the channel is used (R267). -/
def feedUsed (s : State) (c x : Nat) : Bool := bit (s.reg Obj.CH_FEEDS c) x

/-- The feeds of a channel that are used. -/
def usedFeeds (s : State) (c : Nat) : List Nat := ((List.range 2).filter (s.feedUsed c)).map (2 * c + ·)

/-- CH_STATE. -/
def chState (s : State) (c : Nat) : Nat :=
  match (s.slotCh c).st with
  | .off => 0 | .wait => 1 | .ramp => 2 | .on => 3 | .perstWait => 4 | .faultOff => 5 | .latched => 6 | .short => 7

/-- FEED_STATE: a lost feed reads off once the channel leaves RAMP and ON (R283). -/
def feedState (s : State) (f : Nat) : Nat :=
  let x := s.feed f
  let st := (s.slotCh (f / 2)).st
  if !s.feedUsed (f / 2) (f % 2) then 0
  else if x.shorted then 5
  else if x.gate then (if x.enh then 3 else 2)
  else if x.lost ∧ (st = .ramp ∨ st = .on) then 4
  else 1

/-- The start condition of CH_START_MODE (R270). -/
def startCond (s : State) (c : Nat) : Bool :=
  let win := (s.usedFeeds c).any (fun f => (s.feed f).insDone)
  let seat := (s.slotCh c).seatOk && (s.usedFeeds c).any (fun f => (s.feed f).inWin)
  match s.reg Obj.CH_START_MODE c with
  | 0 => win
  | 1 => seat
  | _ => win && seat

/-- The associated port of a channel, if any (R14). -/
def chPort (s : State) (c : Nat) : Option Nat := if s.reg Obj.CH_PORT c < 256 then some (s.reg Obj.CH_PORT c) else none

/-- The port is bound to a partition (R18): it is a bound partition's host port, or an LD behind it is bound. -/
def portBound (s : State) (p : Nat) : Bool :=
  (s.hostPart p).isSome ||
  s.ldsKnown.any (fun ld => s.reg Obj.LD_PORT ld == p && !(s.ldHolders ld).isEmpty)

/-- CH_OFF_LEFT: ms before the channel may start. -/
def offLeftMs (s : State) (c : Nat) : Nat :=
  let x := s.slotCh c
  ceilDiv (if x.st = .faultOff then max x.offLeft x.retryLeft else x.offLeft) 1000

/-! ### Power-good -/

/-- Turn off the gates of every feed of a channel. -/
def gatesOff (s : State) (c : Nat) : State :=
  foldS (fun f (t : State) => t.setFeed f { t.feed f with gate := false, enh := false, gateT := 0, lost := false }) [2 * c, 2 * c + 1] s

/-- BAY_PERST_N of the associated port is driven low, and its link is down (R16, R287). -/
def perstLow (s : State) (c cause : Nat) : State :=
  match s.chPort c with
  | none => s
  | some p => (s.modPort p (fun x => { x with perstReleased := false })).portDown p cause

/-- Power-good falls (R16). -/
def powerGoodFall (s : State) (c : Nat) : State :=
  if s.flag Obj.CH_PG c then (s.setReg Obj.CH_PG c 0).perstLow c 3 else s

/-- The channel has gates that may carry current: RAMP, ON, PERST_WAIT. -/
def powered (s : State) (c : Nat) : Bool :=
  match (s.slotCh c).st with
  | .ramp => true
  | .on => true
  | .perstWait => true
  | _ => false

/-! ### A sample (R268, R269, R277, R289) -/

/-- The current in mA of a shunt voltage in nV over a shunt in µΩ; the input spans 50 mV either way (R289, R290). -/
def shuntCurrent (v : Int) (rs : Nat) : Int := max (-50000000) (min v 50000000) / (rs : Int)

/-- Feed `x` of channel `c` after `n` samples with one reading. -/
def sampleFeed (s : State) (c x n : Nat) (r : Reading) : State :=
  let f := 2 * c + x
  let v := if x = 0 then r.vinA else r.vinB
  let rs := s.reg Obj.FEED_RSHUNT f
  let i := shuntCurrent (if x = 0 then r.shA else r.shB) rs
  let src := if x = 0 then r.srcA else r.srcB
  let enh := if x = 0 then r.enhA else r.enhB
  let y := s.feed f
  let uv := s.reg Obj.CH_UV_MV c
  let ov := s.reg Obj.CH_OV_MV c
  let inside := decide (uv ≤ v ∧ v ≤ ov)
  let back := inside && (y.exit != 6 || decide (uv * 101 ≤ v * 100)) && (y.exit != 7 || decide (v * 100 ≤ ov * 99))
  let inWin := y.inWin || back
  let full := y.gate && (y.enh || enh)
  let good := full && decide (1000 ≤ i)
  let rds : Int := if good then (((v : Int) - (r.vout : Int)) * 1000000 - i * (rs : Int)) / i else 0
  if !s.feedUsed c x then s.setFeed f { feedDflt with energy := y.energy, src := 0, offT := y.offT + n }
  else
    (s.setFeed f { y with
      vin := v, cur := i, src := src, inWin := inWin
      outT := if inside then 0 else y.outT + n
      exit := if inside then y.exit else if v < uv then 6 else 7
      insT := if inWin then y.insT + n else 0
      enh := full
      gateT := if y.gate then y.gateT + n else 0
      offT := if y.gate then 0 else y.offT + n
      revT := if i ≤ -(s.reg Obj.CH_REV_MA c : Int) then y.revT + n else 0
      n := y.n + n, sumV := y.sumV + n * v, sumI := y.sumI + n * i, sumS := y.sumS + n * src
      sumP := y.sumP + n * (r.vout * i), energy := y.energy + n * (r.vout * i)
      rdsSum := if good then y.rdsSum + n * rds else y.rdsSum
      rdsN := if good then y.rdsN + n else y.rdsN
      rdsT := y.rdsT + n }).setReg Obj.FEED_IPEAK f (max (s.reg Obj.FEED_IPEAK f) i.toNat)

/-- `n` samples of a channel with one reading: power-good after a fast trip (R276), its feeds, its timers and its breaker (R268). -/
def sampleChannel (s : State) (c n : Nat) (r : Reading) : State :=
  let s1 := ((if s.powered c then s else s.powerGoodFall c).sampleFeed c 0 n r).sampleFeed c 1 n r
  let y := s1.slotCh c
  let used := s1.usedFeeds c
  let hot := used.any (fun f => decide ((s1.reg Obj.CH_CB_MA c : Int) ≤ (s1.feed f).cur))
  let sum := (s1.feed (2 * c)).cur + (s1.feed (2 * c + 1)).cur
  let diff := (s1.feed (2 * c)).cur - (s1.feed (2 * c + 1)).cur
  let sharing := s1.flag Obj.CH_SHARE c && (s1.feed (2 * c)).gate && (s1.feed (2 * c + 1)).gate &&
    decide ((s1.reg Obj.CH_CB_MA c : Int) < 5 * sum)
  let off := sharing && decide (sum < 20 * (diff.natAbs : Int))
  (s1.setSlotCh c { y with
    vout := r.vout
    seatLow := if r.seatN then 0 else y.seatLow + n
    seatHigh := if r.seatN then y.seatHigh + n else 0
    seatOk := y.seatOk && !r.seatN
    breaker := if hot then y.breaker + n else y.breaker - n
    uvT := if r.vout < s1.reg Obj.CH_PG_MV c then y.uvT + n else 0
    rampT := if y.st = .ramp then y.rampT + n else y.rampT
    pgT := if s1.flag Obj.CH_PG c then y.pgT + n else 0
    offLeft := y.offLeft - n
    retryLeft := y.retryLeft - n
    waitT := if y.st = .perstWait then y.waitT + n else 0
    shareT := if off then y.shareT + n else 0
    n := y.n + n, sumV := y.sumV + n * r.vout }).setReg Obj.CH_SEAT c (if r.seatN then 0 else 1)

/-! ### Off and on -/

/-- A channel's gates go off, for a CH_CAUSE, and it enters a state. -/
def channelDead (s : State) (c cause : Nat) (st : ChSt) : State :=
  let t := (s.gatesOff c).setReg Obj.CH_CAUSE c cause
  t.setSlotCh c { t.slotCh c with st := st, pgT := 0, waitT := 0 }

/-- Turn a channel off into a state, for a CH_CAUSE: gates off, power-good cleared. -/
def channelOff (s : State) (c cause : Nat) (st : ChSt) : State := (s.channelDead c cause st).powerGoodFall c

/-- The channel's gates turn off without a trip, and CH_OFF is raised. -/
def channelOffEvent (s : State) (c cause : Nat) (st : ChSt) : State :=
  (s.channelOff c cause st).raise 0x7002 (slotSrc c) 2 c cause

/-- A trip (R280, R281). Of a fast trip power-good falls in the sample that follows (R276). -/
def trip (s : State) (c cause feed : Nat) : State :=
  let s1 := (if cause = 1 then s.channelDead c 1 .faultOff else s.channelOff c cause .faultOff).bump Obj.CH_TRIPS c
  let s2 := if cause = 5 then s1 else s1.setReg Obj.CH_RETRIES c (min (s1.reg Obj.CH_RETRIES c + 1) 255)
  let y := s2.slotCh c
  let s3 := s2.setSlotCh c { y with offLeft := max y.offLeft 500000, retryLeft := s2.reg Obj.CH_RETRY_MS c * 1000 }
  let s4 := s3.raise 0x7003 (slotSrc c) 3 c (cause + 256 * feed + 65536 * (s3.reg Obj.FEED_IPEAK (2 * c + feed) % 2 ^ 32) +
    2 ^ 48 * s3.reg Obj.CH_RETRIES c)
  let max_ := s4.reg Obj.CH_RETRY_MAX c
  if s4.reg Obj.CH_RETRY_MS c = 0 ∨ (max_ ≠ 0 ∧ max_ ≤ s4.reg Obj.CH_RETRIES c) then
    (s4.setSlotCh c { s4.slotCh c with st := .latched }).raise 0x7004 (slotSrc c) 3 c (s4.reg Obj.CH_TRIPS c)
  else s4

/-- Turn on a feed's gate with the gate current of R272. -/
def gateOn (s : State) (f : Nat) : State :=
  s.setFeed f { s.feed f with gate := true, enh := false, gateT := 0, offT := 0, lost := false, revLost := false }

/-- A feed whose gate the start of a ramp turns on: in window, and not lost to reverse current less than CH_INS_DELAY ago
(R269, R271). -/
def feedMayStart (s : State) (f : Nat) : Bool := (s.feed f).inWin && (!(s.feed f).revLost || (s.feed f).insDone)

/-- The first used feed at or above the breaker threshold: 0 A, 1 B. -/
def breakerFeed (s : State) (c : Nat) : Nat :=
  if s.feedUsed c 0 ∧ (s.reg Obj.CH_CB_MA c : Int) ≤ (s.feed (2 * c)).cur then 0
  else if s.feedUsed c 1 ∧ (s.reg Obj.CH_CB_MA c : Int) ≤ (s.feed (2 * c + 1)).cur then 1 else 0

/-- No used feed reads SRC_x at or above 2 V. -/
def srcLow (s : State) (c : Nat) : Bool := (s.usedFeeds c).all (fun f => (s.feed f).src < 2000)

/-- A feed whose gate is on is lost (R283). -/
def loseFeed (s : State) (c x : Nat) : State :=
  let f := 2 * c + x
  let y := s.feed f
  let cause := if y.inWin then 8 else y.exit
  let s1 := (s.setFeed f { y with
      gate := false, enh := false, gateT := 0, insT := 0, insDone := false, lost := true, revLost := cause == 8, revT := 0 }).raise
    0x7005 (slotSrc c) 2 c (x + 256 * cause + 65536 * y.vin)
  if (s1.usedFeeds c).all (fun g => !(s1.feed g).gate) ∧ (s.slotCh c).st ≠ .perstWait then s1.channelOffEvent c cause .wait else s1

/-! ### Effects of writes -/

/-- CH_ENABLE (R287). -/
def chEnabled (s : State) (c v : Nat) : State :=
  let t := s.setReg Obj.CH_ENABLE c v
  let y := t.slotCh c
  if v = 1 then (if y.st = .off then t.setSlotCh c { y with st := .wait } else t)
  else match y.st with
    | .wait => t.setSlotCh c { y with st := .off }
    | .ramp => (t.setSlotCh c { y with st := .perstWait, waitT := 0 }).perstLow c 5
    | .on => (t.setSlotCh c { y with st := .perstWait, waitT := 0 }).perstLow c 5
    | .faultOff => t.setSlotCh c { y with st := .off, retryLeft := 0 }
    | .latched => t.setSlotCh c { y with st := .off, retryLeft := 0 }
    | _ => t

/-- CH_ENABLE 0 is refused while the port is bound (R18, R287). -/
def chEnableBusy (s : State) (c v : Nat) : Bool :=
  v == 0 && match s.chPort c with
    | some p => s.portBound p
    | none => false

/-- CH_FAULT_CLEAR (R281, R286). -/
def faultClear (s : State) (c v : Nat) : State :=
  let y := s.slotCh c
  if v = 0 then s
  else if y.st = .latched then (s.setSlotCh c { y with st := .wait, retryLeft := 0 }).setReg Obj.CH_RETRIES c 0
  else if y.st = .short ∧ s.srcLow c = true then
    foldS (fun f (t : State) => t.setFeed f { t.feed f with shorted := false }) [2 * c, 2 * c + 1] (s.setSlotCh c { y with st := .wait })
  else s

/-- CH_MEAS_CLEAR (R289). -/
def measClear (s : State) (c v : Nat) : State :=
  if v = 0 then s
  else foldS (fun f (t : State) => ((t.setFeed f { t.feed f with energy := 0 }).setReg Obj.FEED_E f 0).setReg Obj.FEED_IPEAK f 0)
    [2 * c, 2 * c + 1] s

/-- The relations of R290 among a channel's thresholds and shunts. -/
def thresholdsOk (s : State) (c : Nat) : Bool :=
  s.reg Obj.CH_FT_MA c * s.reg Obj.FEED_RSHUNT (2 * c) ≤ 50000000 &&
  s.reg Obj.CH_FT_MA c * s.reg Obj.FEED_RSHUNT (2 * c + 1) ≤ 50000000 &&
  s.reg Obj.CH_CB_MA c < s.reg Obj.CH_FT_MA c && s.reg Obj.CH_UV_MV c < s.reg Obj.CH_OV_MV c

/-- The channel that a threshold object's instance belongs to; `none` for an object of no relation of R290. -/
def thresholdCh (o i : Nat) : Option Nat :=
  if o = Obj.FEED_RSHUNT then some (i / 2)
  else if o = Obj.CH_FT_MA ∨ o = Obj.CH_CB_MA ∨ o = Obj.CH_UV_MV ∨ o = Obj.CH_OV_MV then some i else none

/-- The measurements of a feed are refreshed (R289, R290). -/
def measUpdate (s : State) (f : Nat) : State :=
  let y := s.feed f
  let c := f / 2
  if y.n < 1000 then s
  else
    let n : Int := (y.n : Nat)
    let z := s.slotCh c
    let s1 := ((((s.setReg Obj.FEED_VIN f (y.sumV / y.n)).setReg Obj.FEED_I f (ofSigned 4 (y.sumI / n))).setReg
      Obj.FEED_VSRC f (y.sumS / y.n)).setReg Obj.FEED_P f (min (y.sumP / n / 1000).toNat 0xFFFF_FFFF)).setReg
      Obj.FEED_E f ((y.energy / 1000000).toNat % 2 ^ 64)
    let s2 := if z.n = 0 then s1 else (s1.setReg Obj.CH_VOUT c (z.sumV / z.n)).setSlotCh c { z with n := 0, sumV := 0 }
    let rds := decide (1000000 ≤ y.rdsT)
    let s3 := if rds = true ∧ y.rdsN ≠ 0 then s2.setReg Obj.FEED_RDS f (min (y.rdsSum / (y.rdsN : Nat)).toNat 0xFFFF_FFFF) else s2
    s3.setFeed f { y with
      n := 0, sumV := 0, sumI := 0, sumS := 0, sumP := 0
      rdsSum := if rds then 0 else y.rdsSum, rdsN := if rds then 0 else y.rdsN, rdsT := if rds then 0 else y.rdsT
      rdsNew := y.rdsNew || (rds && y.rdsN != 0) }

end State

/-! ### Commands -/

/-- A command on feed `x` of channel `c`. -/
def onFeed (c x : Nat) (s : State) (f : State → State) : Host.Outcome State Fault Refusal :=
  if c < 32 then (if x < 2 then steady s f else .fault (.absent x)) else .fault (.absent c)

/-- CHANNEL_SAMPLE (R268): `n` samples of 1 µs with one reading. -/
def execChannelSample (ch n : Nat) (r : Reading) (s : State) := onUnit ch 32 s (fun t => t.sampleChannel ch n r)

/-- FEED_WINDOW_EXIT (R269). -/
def execFeedWindowExit (ch feed : Nat) (s : State) := onFeed ch feed s (fun t =>
  let f := 2 * ch + feed
  let y := t.feed f
  if t.feedUsed ch feed = true ∧ y.inWin = true ∧ t.reg Obj.CH_UV_FILT ch ≤ y.outT then
    t.setFeed f { y with inWin := false, insT := 0, insDone := false }
  else t)

/-- INSERTION_TIMER_DONE (R269, R270). -/
def execInsertionTimerDone (ch feed : Nat) (s : State) := onFeed ch feed s (fun t =>
  let f := 2 * ch + feed
  let y := t.feed f
  if t.feedUsed ch feed = true ∧ y.inWin = true ∧ t.reg Obj.CH_INS_DELAY ch * 1000 ≤ y.insT then
    t.setFeed f { y with insDone := true }
  else t)

/-- SEAT_CONFIRMED (R270). -/
def execSeatConfirmed (ch : Nat) (s : State) := onUnit ch 32 s (fun t =>
  let y := t.slotCh ch
  if t.reg Obj.CH_SEAT_CONFIRM ch * 1000 ≤ y.seatLow then t.setSlotCh ch { y with seatOk := true } else t)

/-- RAMP_START (R271, R272). -/
def execRampStart (ch : Nat) (s : State) := onUnit ch 32 s (fun t =>
  let y := t.slotCh ch
  let flushing := match t.chPort ch with
    | some p => (t.port p).st == .flushing
    | none => false
  if y.st = .wait ∧ t.flag Obj.CH_ENABLE ch = true ∧ t.startCond ch = true ∧ y.offLeft = 0 ∧ flushing = false ∧ t.srcLow ch = true ∧
     (t.usedFeeds ch).any t.feedMayStart = true then
    foldS (fun f (u : State) => if u.feedMayStart f then u.gateOn f else u) (t.usedFeeds ch)
      (t.setSlotCh ch { y with st := .ramp, rampT := 0, uvT := 0 })
  else t)

/-- POWER_GOOD_SET (R273, R274). -/
def execPowerGoodSet (ch : Nat) (s : State) := onUnit ch 32 s (fun t =>
  let y := t.slotCh ch
  let on := (t.usedFeeds ch).filter (fun f => (t.feed f).gate)
  let low := on.foldl (fun a f => min a (t.feed f).vin) 65535
  if y.st = .ramp ∧ on ≠ [] ∧ t.reg Obj.CH_PG_MV ch ≤ y.vout ∧ low ≤ y.vout + 500 ∧ y.breaker = 0 then
    ((t.setSlotCh ch { y with st := .on, pgT := 0, uvT := 0 }).setReg Obj.CH_PG ch 1).raise 0x7001 (State.slotSrc ch) 1 ch
      (y.rampT % 2 ^ 32 + (if (t.feed (2 * ch)).gate then 2 ^ 32 else 0) + (if (t.feed (2 * ch + 1)).gate then 2 ^ 33 else 0))
  else t)

/-- PERST_RELEASE (R15): 100 ms after power-good. -/
def execPerstRelease (ch : Nat) (s : State) := onUnit ch 32 s (fun t =>
  match t.chPort ch with
  | none => t
  | some p => if t.flag Obj.CH_PG ch = true ∧ 100000 ≤ (t.slotCh ch).pgT ∧ (t.slotCh ch).st = .on then
      t.modPort p (fun x => { x with perstReleased := true })
    else t)

/-- GATE_TIMEOUT (R275). -/
def execGateTimeout (ch feed : Nat) (s : State) := onFeed ch feed s (fun t =>
  let y := t.feed (2 * ch + feed)
  let st := (t.slotCh ch).st
  if t.feedUsed ch feed = true ∧ (st = .ramp ∨ st = .on) ∧ y.gate = true ∧ y.enh = false ∧ t.reg Obj.CH_GATE_TIMEOUT ch * 1000 ≤ y.gateT then
    t.trip ch 3 feed
  else t)

/-- FAST_TRIP (R276): the comparator acts outside the sample. -/
def execFastTrip (ch feed : Nat) (s : State) := onFeed ch feed s (fun t =>
  if t.powered ch = true ∧ t.feedUsed ch feed = true then t.trip ch 1 feed else t)

/-- BREAKER_TRIP (R277). -/
def execBreakerTrip (ch : Nat) (s : State) := onUnit ch 32 s (fun t =>
  if t.powered ch = true ∧ t.reg Obj.CH_CB_TIME ch ≤ (t.slotCh ch).breaker then t.trip ch 2 (t.breakerFeed ch) else t)

/-- OUTPUT_UV_TRIP (R279). -/
def execOutputUvTrip (ch : Nat) (s : State) := onUnit ch 32 s (fun t =>
  if (t.slotCh ch).st = .on ∧ t.reg Obj.CH_UV_FILT ch ≤ (t.slotCh ch).uvT then t.trip ch 4 0 else t)

/-- RETRY_TIMER_END (R280, R282). -/
def execRetryTimerEnd (ch : Nat) (s : State) := onUnit ch 32 s (fun t =>
  let y := t.slotCh ch
  if y.st = .faultOff ∧ y.offLeft = 0 ∧ y.retryLeft = 0 ∧
     (t.reg Obj.CH_CAUSE ch ≠ 5 ∨ t.slotp.link.get true (ch / 16, 0) = true) then t.setSlotCh ch { y with st := .wait } else t)

/-- RETRIES_RESET (R281). -/
def execRetriesReset (ch : Nat) (s : State) := onUnit ch 32 s (fun t =>
  if t.flag Obj.CH_PG ch = true ∧ 10000000 ≤ (t.slotCh ch).pgT then t.setReg Obj.CH_RETRIES ch 0 else t)

/-- SLOT_LINK_LOST (R10, R282). -/
def execSlotLinkLost (d : Nat) (s : State) := onUnit d 2 s (fun t =>
  if t.reg Obj.SPD_LINK d = 0 then t
  else
    let s1 := ((({ t with slotp := { t.slotp with link := t.slotp.link.set true (d, 0) false } } : State).setReg
      Obj.SPD_LINK d 0).bump Obj.SPD_LINK_LOSS_CNT d).raise 0x700A (if d = 0 then 0x70 else 0x71) 4 0xFFFF d
    foldS (fun k (u : State) => u.trip (16 * d + k) 5 0) (List.range 16) s1)

/-- SLOT_LINK_RESTORED (R282): framing has been back for 10 ms. -/
def execSlotLinkRestored (d : Nat) (s : State) := onUnit d 2 s (fun t =>
  ({ t with slotp := { t.slotp with link := t.slotp.link.set true (d, 0) true } } : State).setReg Obj.SPD_LINK d 1)

/-- FEED_LOST (R283). -/
def execFeedLost (ch feed : Nat) (s : State) := onFeed ch feed s (fun t =>
  let y := t.feed (2 * ch + feed)
  if t.feedUsed ch feed = true ∧ y.gate = true ∧ (y.inWin = false ∨ 2 ≤ y.revT) then t.loseFeed ch feed else t)

/-- FEED_RESTORED (R283). -/
def execFeedRestored (ch feed : Nat) (s : State) := onFeed ch feed s (fun t =>
  let f := 2 * ch + feed
  let y := t.feed f
  let st := (t.slotCh ch).st
  if t.feedUsed ch feed = true ∧ y.gate = false ∧ y.inWin = true ∧ y.insDone = true ∧ (st = .ramp ∨ st = .on) then
    if y.lost then (t.gateOn f).raise 0x7006 (State.slotSrc ch) 1 ch feed else t.gateOn f
  else t)

/-- SHARE_LIMIT (R284): at most once per minute. -/
def execShareLimit (ch : Nat) (s : State) := onUnit ch 32 s (fun t =>
  if 1000000 ≤ (t.slotCh ch).shareT then
    t.raiseLimited 60000000000 ch 0x7009 (State.slotSrc ch) 2 ch
      (ofSigned 4 (t.feed (2 * ch)).cur + 2 ^ 32 * ofSigned 4 (t.feed (2 * ch + 1)).cur)
  else t)

/-- SEAT_OPEN (R285). -/
def execSeatOpen (ch : Nat) (s : State) := onUnit ch 32 s (fun t =>
  if t.powered ch = true ∧ t.reg Obj.CH_START_MODE ch ≠ 0 ∧ t.reg Obj.CH_SEAT_OPEN_FILT ch ≤ (t.slotCh ch).seatHigh then
    t.channelOffEvent ch 9 .wait
  else t)

/-- FAULT_CANCELLED (*Slot-channel state machine*): the reseat rule. -/
def execFaultCancelled (ch : Nat) (s : State) := onUnit ch 32 s (fun t =>
  let y := t.slotCh ch
  if (y.st = .faultOff ∨ y.st = .latched) ∧ t.reg Obj.CH_START_MODE ch ≠ 0 ∧ t.reg Obj.CH_CAUSE ch ≠ 5 ∧ 20000 ≤ y.seatHigh then
    ((t.setSlotCh ch { y with st := .wait, retryLeft := 0 }).setReg Obj.CH_RETRIES ch 0).raise 0x7008 (State.slotSrc ch) 1 ch
      (t.reg Obj.CH_CAUSE ch)
  else t)

/-- FET_SHORT (R286). -/
def execFetShort (ch feed : Nat) (s : State) := onFeed ch feed s (fun t =>
  let f := 2 * ch + feed
  let y := t.feed f
  if t.feedUsed ch feed = true ∧ (t.slotCh ch).st ≠ .short ∧ y.gate = false ∧ 10000 ≤ y.offT ∧ y.inWin = true ∧ 2000 ≤ y.src then
    let u := t.channelOff ch 12 .short
    (u.setFeed f { u.feed f with shorted := true }).raise 0x7007 (State.slotSrc ch) 4 ch (feed + 65536 * y.src)
  else t)

/-- PERST_WAIT_END (R287). -/
def execPerstWaitEnd (ch : Nat) (s : State) := onUnit ch 32 s (fun t =>
  if (t.slotCh ch).st = .perstWait ∧ 1000 ≤ (t.slotCh ch).waitT then t.channelOffEvent ch 10 .off else t)

/-- FEED_MEAS_UPDATE (R289). -/
def execFeedMeasUpdate (f : Nat) (s : State) := onUnit f 64 s (fun t => t.measUpdate f)

end Sys2Proof.Machine
end

