-- ==== Sys2Proof/Machine/TimeCore.lean ====
section
/-!
DEFINITION. The fabric-time counter and its state (R25, R26, R33 to R35): increment, uncertainty, and what the entries to the
states and to HOLD and SENTINEL do. The exchanges are in `Time.lean`.
-/

namespace Sys2Proof.Machine

/-- 1 000 ppm. -/
def maxRate : Rat := 1 / 1000

/-- One cycle of `unit` (2^-32 ns) at the loop's frequency estimate: exact where the 2^-32 ns that the increment holds can hold it,
else one of its two neighbours. -/
def scaled (unit : Nat) (y : Rat) : Nat :=
  let x := ((unit : Nat) : Rat) * (1 + y)
  x.floor.toNat + (if x.den ≠ 1 ∧ Config.incrementRoundsUp y.num y.den = true then 1 else 0)

/-- What a slew of 100 ppm adds in one FCLK cycle, 2^-32 ns. -/
def slewStep : Nat := 268435

namespace State

def setTime (s : State) (t : TimeSt) : State := { s with time := t }

/-- The counter after `d` more, in 80 bits of TIME (R5). -/
def addCtr (s : State) (d : Int) : State :=
  s.setTime { s.time with ctr := (((s.time.ctr : Int) + d) % ((2 ^ 96 : Nat) : Int)).toNat }

/-- The first FCLK cycle, counted from 1, in which a counter that is `need` short of a time has reached it: `inc` a cycle, and a
slew of `slew` in all at `slewStep` a cycle (R26, R37). -/
def cyclesTo (need inc : Nat) (slew : Int) : Nat :=
  if 0 ≤ slew then max (ceilDiv need (inc + slewStep)) (ceilDiv (need - slew.natAbs) inc)
  else min (ceilDiv need (inc - slewStep)) (ceilDiv (need + slew.natAbs) inc)

/-- The cycle in which each armed slot's time came during `n` cycles (R37). -/
def stampDue (s : State) (n : Nat) : Tbl Slot :=
  let inc := scaled fclkUnit s.time.y
  s.time.slots.map (fun e =>
    let need := e.2.time * 65536 - s.time.ctr
    let k := cyclesTo need inc s.time.slew
    if e.2.state = 1 ∧ e.2.kind ≠ 0 ∧ e.2.due = 0 ∧ 0 < need ∧ k ≤ n then (e.1, { e.2 with due := s.clk + k * fclkUnit + 1 }) else e)

/-- `n` FCLK cycles of the counter: the disciplined increment, and a slew in progress until its offset is removed
(R25, R26). -/
def tickFabric (s : State) (n : Nat) : State :=
  let t := s.time
  let m := min (n * slewStep) t.slew.natAbs
  let d : Int := if t.slew < 0 then -(m : Int) else (m : Int)
  (s.addCtr ((n * scaled fclkUnit t.y : Nat) + d)).setTime
    { (s.addCtr ((n * scaled fclkUnit t.y : Nat) + d)).time with slew := t.slew - d, slots := s.stampDue n }

/-- Magnitude of the offset still being slewed, ns, rounded up. -/
def slewNs (s : State) : Nat := ceilDiv s.time.slew.natAbs nsUnit

/-- The current source port of a slave (R30). -/
def timeSource (s : State) : Nat := if s.time.backup then s.reg Obj.TIME_BACKUP 0 else s.reg Obj.TIME_UPSTREAM 0

/-- TIME_UNC (R34). -/
def timeUnc (s : State) : Nat :=
  min 0xFFFF_FFFF (match s.time.st with
    | .locked => if s.reg Obj.TIME_ROLE 0 = 2 then (s.flitDlg s.timeSource).unc + 10 + s.slewNs else 20 + s.slewNs
    | .holdover => s.time.uncBase + ceilDiv (s.reg Obj.TIME_HOLDOVER_RATE 0 * (s.clk - s.time.uncSince)) (1000000000 * nsUnit)
    | .unsync => s.time.uncBase + ceilDiv (s.reg Obj.TIME_HOLDOVER_RATE 0 * (s.clk - s.time.uncSince)) (1000000000 * nsUnit)
    | _ => 0xFFFF_FFFF)

/-- TIME_STATUS.SYNC (R33). -/
def timeSync (s : State) : Bool :=
  match s.time.st with
  | .locked => true
  | .holdover => s.timeUnc ≤ s.reg Obj.TIME_UNC_LIMIT 0
  | _ => false

/-- TIME_STATUS. -/
def timeStatus (s : State) : Nat :=
  (match s.time.st with
   | .freeRun => 0 | .locking => 1 | .locked => 2 | .holdover => 3 | .unsync => 4) +
  (if s.timeSync then 8 else 0) + (if s.time.refSeen && !s.time.refHeld then 16 else 0) + (if s.time.slewing then 32 else 0)

/-- TIME_RATE_ADJ, ppb: y, with the slew while one runs (R409). DESIGN CHOICE: a y between two whole ppb shows the lower one; the
spec states no rounding. -/
def timeRateAdj (s : State) : Int :=
  (s.time.y * 1000000000).floor + 100000 * s.time.slew.sign

/-- End a slew: what remains stays uncorrected (R33, R35). -/
def endSlew (s : State) : State := s.setTime { s.time with slew := 0, slewing := false }

/-- Enter HOLDOVER for a cause (R33): 0 PPS lost, 1 flits lost, 2 HOLD entry. -/
def enterHoldover (s : State) (cause : Nat) : State :=
  let u := s.timeUnc
  (s.endSlew.setTime { s.endSlew.time with st := .holdover, uncBase := u, uncSince := s.clk }).raise 0xE002 0xE0 2 0xFFFF cause

/-- Every PTM dialog loses its timestamps: a wake or a step of fabric time (R31). -/
def clearPtm (s : State) : State := s.setTime { s.time with ptm := [] }

/-- The commit point of an entry to HOLD or SENTINEL (R33, R35): the slew ends, and a LOCKED counter enters HOLDOVER in HOLD;
for SENTINEL the uncertainty at entry is kept and the counter stops. TIME_PPS_OUT is low in SENTINEL (R32). -/
def timeSleep (s : State) (sentinel : Bool) : State :=
  let u := s.timeUnc
  if sentinel then
    s.endSlew.setTime { s.endSlew.time with uncBase := u, uncSince := s.clk, sleepTicks := 0, ppsOut := false, edgeGap := true }
  else
    let t := if s.time.st = .locked then s.enterHoldover 2 else s.endSlew
    t.setTime { t.time with edgeGap := true }

/-- The counter at a wake (R33, R35, R409): after SENTINEL it advances by the ticks counted and TIME_UNC widens; the count of
exchanges in LOCKING starts again, and the next exchange leaves y as it is. -/
def timeWake (s : State) (sentinel : Bool) : State :=
  let t := s.clearPtm
  let t0 := t.setTime { t.time with lockCount := 0, noFreq := true, lastExch := none }
  if !sentinel then t0
  else
    let k := t0.time.sleepTicks
    let t1 := (t0.addCtr (k * xt32Unit : Nat)).setReg Obj.TIME_SLEEP_TICKS 0 (k % 2 ^ 64)
    let unc := t1.time.uncBase + ceilDiv (k * xt32Unit * t1.reg Obj.TIME_XT32_PPM 0) (1000000 * nsUnit) + 30518
    match t1.time.st with
    | .freeRun => t1
    | .locking => t1
    | _ =>
      let t2 := t1.setTime { t1.time with st := .unsync, uncBase := min unc 0xFFFF_FFFF, uncSince := t1.clk }
      t2.raise 0xE003 0xE0 3 0xFFFF (t2.timeUnc + 2 ^ 32)

/-- The commit point of a change of TIME_ROLE (R33). -/
def timeRoleChange (s : State) : State :=
  s.endSlew.setTime { s.endSlew.time with
    st := .freeRun, lockCount := 0, lastExch := none, backup := false, srcAt := s.clk, noFreq := false, ppsOut := false }

end State

/-! ### Commands -/

/-- FABRIC_TIME_ADVANCE (R25): `n` FCLK cycles; FCLK is off in HOLD and SENTINEL, and the counter stays 0 in reset. -/
def execFabricTimeAdvance (n : Nat) (s : State) := steady s (fun t =>
  if t.ridgeClock = false then t
  else if t.rst.step = .inReset then { t with clk := t.clk + n * fclkUnit }
  else { t.tickFabric n with clk := t.clk + n * fclkUnit })

/-- HOLD_TIME_ADVANCE (R35): `n` REFCLK0 cycles of 10 ns in HOLD, scaled by 1 + y. -/
def execHoldTimeAdvance (n : Nat) (s : State) := steady s (fun t =>
  if t.mode = .hold then ({ t with clk := t.clk + n * refclkUnit } : State).addCtr (n * scaled refclkUnit t.time.y : Nat) else t)

/-- XT32_TICK (R35): `n` ticks that Tor counts in SENTINEL. -/
def execXt32Tick (n : Nat) (s : State) := steady s (fun t =>
  if t.mode = .sentinel then
    ({ t with clk := t.clk + n * xt32Unit } : State).setTime { t.time with sleepTicks := t.time.sleepTicks + n }
  else t)

/-- SLEW_END (R26). -/
def execSlewEnd (s : State) := steady s (fun t =>
  if t.time.slewing = true ∧ t.time.slew = 0 then t.setTime { t.time with slewing := false } else t)

/-- TIME_HOLDOVER (R33): no PPS edge for 1.1 s, or three missing exchanges on both ports of a slave; the counter does not run in
SENTINEL, and HOLD is entered in HOLDOVER (R35). -/
def execTimeHoldover (s : State) := steady s (fun t =>
  let gm := t.reg Obj.TIME_ROLE 0 = 1 ∧ t.after t.time.edgeClk 1100000000 = true
  let miss := fun (p : Nat) => 256 ≤ p ∨ t.after (max t.time.srcAt ((t.flitDlg p).lastRx - 1)) 3000000 = true
  let sl := t.reg Obj.TIME_ROLE 0 = 2 ∧ miss (t.reg Obj.TIME_UPSTREAM 0) ∧ miss (t.reg Obj.TIME_BACKUP 0)
  if t.time.st = .locked ∧ t.ridgeClock = true ∧ (gm ∨ sl) then
    let u := t.enterHoldover (if t.reg Obj.TIME_ROLE 0 = 1 then 0 else 1)
    u.setTime { u.time with edgeGap := u.time.edgeGap || t.reg Obj.TIME_ROLE 0 == 1 }
  else t)

/-- TIME_UNSYNC (R33), wherever the counter runs. -/
def execTimeUnsync (s : State) := steady s (fun t =>
  if t.mode ≠ .sentinel ∧ t.time.st = .holdover ∧ t.reg Obj.TIME_UNC_LIMIT 0 < t.timeUnc then
    (t.setTime { t.time with st := .unsync, ppsOut := false }).raise 0xE003 0xE0 3 0xFFFF t.timeUnc
  else t)

/-- TIME_REF_LOST (R29): the increment is held, and the loop goes on from PPS edges. -/
def execTimeRefLost (s : State) := steady s (fun t => t.setTime { t.time with refHeld := true })

/-- TIME_REF_RESTORED (R29). -/
def execTimeRefRestored (s : State) := steady s (fun t =>
  t.setTime { t.time with refHeld := false, refSeen := true, freqClk := t.clk })

/-- TIME_FREQ_UPDATE (R409): once a second a grandmaster with its reference present sets y from the count of reference
edges against the counter over that second. -/
def execTimeFreqUpdate (edges : Nat) (s : State) := steady s (fun t =>
  let f : Nat := if t.reg Obj.TIME_REF_SEL 0 = 0 then 10000000 else 25000000
  let el := t.clk - t.time.freqClk
  if t.reg Obj.TIME_ROLE 0 = 1 ∧ t.time.refSeen = true ∧ t.time.refHeld = false ∧ t.after t.time.freqClk 1000000000 = true ∧
     t.ridgeClock = true then
    let y : Rat := ((edges * 1000000000 * nsUnit : Nat) : Rat) / ((f * el : Nat) : Rat) - 1
    t.setTime { t.time with y := min (max y (-maxRate)) maxRate, freqClk := t.clk }
  else t)

/-- TIME_PPS_OUT_START (R32): a whole second of fabric time plus TIME_PPS_OUT_ADJ is reached, in LOCKED or HOLDOVER. -/
def execTimePpsOutStart (s : State) := steady s (fun t =>
  let pos : Int := (t.now : Int) - toSigned 4 (t.reg Obj.TIME_PPS_OUT_ADJ 0) * 65536
  let sec := (pos / (65536 * 1000000000)).toNat
  if (t.time.st = .locked ∨ t.time.st = .holdover) ∧ t.mode ≠ .sentinel ∧ t.time.ppsOut = false ∧ 0 ≤ pos ∧ t.time.ppsSec ≠ sec + 1 ∧
     pos % (65536 * 1000000000) < 65536 * 1000000 then
    t.setTime { t.time with ppsOut := true, ppsSec := sec + 1, ppsAt := t.clk }
  else t)

/-- TIME_PPS_OUT_END (R32): 1 ms after the rise. -/
def execTimePpsOutEnd (s : State) := steady s (fun t =>
  if t.time.ppsOut = true ∧ t.after t.time.ppsAt 1000000 = true then t.setTime { t.time with ppsOut := false } else t)

end Sys2Proof.Machine
end

