-- ==== Sys2Proof/Machine/Talus.lean ====
section
/-!
DEFINITION. Talus: the margin window, its plan, row retirement and the watch over the pass FETs (R353 to R369).
-/

namespace Sys2Proof.Machine

/-- VCORE_MAX, mV (R359). -/
def vcoreMax : Nat := 774

/-- Insert in ascending order. -/
def insertNat (x : Nat) : List Nat → List Nat
  | [] => [x]
  | h :: r => if x ≤ h then x :: h :: r else h :: insertNat x r

/-- The median of a list; of an even number of values the mean of the middle two, rounded down. -/
def median (l : List Nat) : Nat :=
  let s := l.foldl (fun a x => insertNat x a) []
  let n := s.length
  if n = 0 then 0
  else if n % 2 = 1 then s.getD (n / 2) 0
  else (s.getD (n / 2 - 1) 0 + s.getD (n / 2) 0) / 2

namespace State

def setTalus (s : State) (t : TalusSt) : State := { s with talus := t }

/-- Speed ceiling of a port in the codes of its mode (R70, R93). -/
def ceiling (s : State) (p : Nat) : Nat :=
  if s.drudar p then s.druCeil p else min (s.reg Obj.PORT_CEILING p) 6

/-- The next occurrence of a periodic slot (R39): its first time plus the least number of periods that lies in the future. -/
def nextTime (s : State) (x : Slot) : Nat :=
  let p := x.period * 65536
  if s.now < x.first then x.first else x.first + ((s.now - x.first) / p + 1) * p

/-- Arm a slot that still belongs to its service again, where it is periodic (R39). -/
def rearm (s : State) (k : Nat) : State :=
  let x := s.slot k
  if x.kind = 0 ∨ x.period = 0 then s else s.setSlot k { x with state := 1, time := s.nextTime x, due := 0 }

/-- `n` occurrences of a slot are missed and reported (R38), and a periodic slot is armed again (R39, R410). DEDUCED: the missed
count of SCHED_SKIPPED is the slot's running total, as SCHED_MISSED shows it. -/
def missSlot (s : State) (k n : Nat) : State :=
  let x := s.slot k
  let m := min (x.missed + n) 0xFFFF_FFFF
  ((s.setSlot k { x with missed := m, state := 4 }).raise 0xE010 0xE0 2 k (k + 65536 * x.kind + 2 ^ 24 * m)).rearm k

/-- A window's handle is QUEUED, RUNNING or COMMITTED. -/
def windowOpen (s : State) : Bool := s.talus.lop < 64 && (s.lop s.talus.lop).st.unended

/-- Ridge core 3 runs the window (R13): its handle is past QUEUED, and the core is not halted. -/
def talusRuns (s : State) : Bool := s.coreRuns 3 && (s.lop s.talus.lop).st != .queued

/-- Start a window (R355); `none` where one runs or no handle is free. -/
def startWindow (s : State) (owner : Nat) (fromSlot : Bool) : Option (Nat × State) :=
  if s.windowOpen then none
  else match s.takeLop 5 owner 0 with
    | none => none
    | some (h, t) =>
      some (h, (t.setTalus { t.talus with lop := h, fromSlot := fromSlot, plan := none, left := [], done := 0, retrain := [] }).setReg
        Obj.TALUS_STATE 0 1)

/-- End a window that has not reached its commit point (R356, R357). -/
def endWindow (s : State) (st : LopSt) (result : Nat) : State :=
  let h := s.talus.lop
  ((s.endLop h st result).setReg Obj.TALUS_STATE 0 0).setTalus { (s.endLop h st result).talus with plan := none, lop := 64 }

/-- A window fails before its commit point (R356): cause 1 too many gated pairs, 2 AVS_FAULT. -/
def failWindow (s : State) (cause : Nat) : State :=
  (s.endWindow .failed Ab.OP_FAILED).modLop s.talus.lop (fun l => { l with cause := cause })

/-- A window before its commit point is aborted by an entry to HOLD or SENTINEL, and its occurrence counts as missed (R357). -/
def abortWindow (s : State) : State :=
  if s.windowOpen ∧ (s.lop s.talus.lop).st.live then
    let t := s.endWindow .aborted Ab.ABORTED
    if s.talus.fromSlot ∧ s.talus.slot < 512 then t.missSlot s.talus.slot 1 else t
  else s

/-! ### Measure and plan -/

/-- RO_DEG of a pair, ppm: (1 - stressed / reference) × 10^6 of the counts over one gate (R353). -/
def roDeg (x : Nat × Nat) : Nat := min ((x.2 - x.1) * 1000000 / max 1 x.2) 0xFFFF_FFFF

/-- Window-minimum figures of merit of the window that was closed last: lane and figure (R355). -/
def windowFoms (s : State) : List (Nat × Nat) := s.talus.fomWin.map (fun e => (e.1.1, e.2 - 1))

/-- Take in what the window measured (R353, R354): a gated pair keeps its last value, a probe its last passing supply; the histories
of lanes and feeds are closed for the window (R355). -/
def takeMeasures (s0 : State) (m : TalusMeas) : State :=
  let s := s0.setTalus { s0.talus with fomWin := s0.talus.fomMin, fomMin := [], rdsWin := s0.talus.rds, rds := [] }
  let s1 := foldS (fun i (t : State) => match m.ro.getD i none with
    | some v => t.setReg Obj.RO_DEG i (roDeg v)
    | none => t) (List.range 64) s
  let s2 := foldS (fun i (t : State) => match m.sram[i]? with
    | some n => t.setReg Obj.SRAM_VMIN i (t.pm.avsSet - 5 * n)
    | none => t) (List.range 32) s1
  let s3 := foldS (fun x (t : State) =>
    let h := ((min x.2 65535, t.reg Obj.PORT_SPEED (t.lanePort x.1)) :: t.talus.hist.get [] (x.1, 0)).take 8
    t.setTalus { t.talus with hist := t.talus.hist.set [] (x.1, 0) h }) s.windowFoms s2
  foldS (fun k (t : State) => t.setReg Obj.HBM_CE_WINDOW k
    (min (m.ce.foldl (fun a u => if u.1 = k then a + u.2.2.1 else a) 0) 0xFFFF_FFFF)) [0, 1] s3

/-- The worst lane of a port in this window, with its figure of merit, below the floor and at the ceiling rate (R361). -/
def lowLane (s : State) (p : Nat) : Option (Nat × Nat) :=
  if s.reg Obj.PORT_SPEED p = 0 ∨ s.reg Obj.PORT_SPEED p ≠ s.ceiling p then none
  else
    let l := s.windowFoms.filter (fun x => s.lanePort x.1 == p && x.2 < s.reg Obj.TALUS_FOM_FLOOR 0)
    match l with
    | [] => none
    | h :: r => some (r.foldl (fun a x => if x.2 < a.2 then x else a) h)

/-- LANE_FOM_TARGET that R362 gives a lane, where it gives one. -/
def fomTarget (s : State) (n : Nat) : Option Nat :=
  let rate := s.reg Obj.PORT_SPEED (s.lanePort n)
  let l := ((s.talus.hist.get [] (n, 0)).filter (fun x => x.2 == rate)).take 4
  if s.flag Obj.TALUS_FOM_PIN n ∨ rate = 0 ∨ l.length < 4 then none
  else some (max (s.reg Obj.TALUS_FOM_FLOOR 0) (7 * median (l.map (·.1)) / 8))

/-- Units to retire (R364), at most the free spares of each stack. -/
def toRetire (s : State) (m : TalusMeas) : List (Nat × Nat) :=
  let l := m.ce.filterMap (fun u =>
    if u.1 < 2 ∧ u.2.1 < 65536 ∧ (s.reg Obj.TALUS_HBM_CE_LIMIT 0 ≤ u.2.2.1 ∨ u.2.2.2 = true) ∧ s.talus.remap.get 0 (u.1, u.2.1) = 0
    then some (u.1, u.2.1) else none)
  [0, 1].flatMap (fun k => (l.filter (fun u => u.1 == k)).take (8192 - s.reg Obj.HBM_RETIRED k))

/-- The plan of R359 to R364. -/
def makePlan (s : State) (m : TalusMeas) : MarginPlan :=
  let ro := (List.range 64).foldl (fun a i => max a (s.reg Obj.RO_DEG i)) 0
  let sram := (List.range 32).foldl (fun a i => max a (s.reg Obj.SRAM_VMIN i)) 0
  let req := max (Config.vcoreBase + ceilDiv ro Config.roPpmPerMv) (sram + s.reg Obj.TALUS_SRAM_GUARD 0)
  let old := s.reg Obj.PM_VCORE_PLAN 0
  let low := (List.range 256).filterMap (fun p => (s.lowLane p).map (fun x => (p, x)))
  let lowered := low.filter (fun x => s.talus.low.get false (x.1, 0) &&
    decide ((if s.drudar x.1 then 7 else 3) < s.ceiling x.1))
  { vcore := max (min (min req (old + s.reg Obj.TALUS_VSTEP_MAX 0)) vcoreMax) old
    required := min req 65535
    ceilings := lowered.map (fun x => (x.1, s.ceiling x.1 - 1))
    lowest := lowered.map (·.2)
    targets := (List.range 512).filterMap (fun n => (s.fomTarget n).map (fun v => (n, min v 65535)))
    retire := s.toRetire m }

/-- Remember which ports had a low lane at their ceiling rate in this window (R361). -/
def noteLow (s : State) : State :=
  let l := (List.range 256).filterMap (fun p => (s.lowLane p).map (fun _ => ((p, 0), true)))
  s.setTalus { s.talus with low := l }

/-! ### Commit and apply -/

/-- What the committed plan leaves in force. -/
def planCopy (s : State) : PlanCopy :=
  { vcore := s.reg Obj.PM_VCORE_PLAN 0
    ceilings := s.regs.filterMap (fun e => if e.1.1 = Obj.PORT_CEILING then some ((e.1.2, 0), e.2) else none)
    targets := s.regs.filterMap (fun e => if e.1.1 = Obj.LANE_FOM_TARGET then some ((e.1.2, 0), e.2) else none)
    remap := s.talus.remap }

/-- The commit point of a window (R358). -/
def commitPlan (s : State) (q : MarginPlan) : State :=
  let h := s.talus.lop
  let s1 := foldS (fun c (t : State) => t.setReg Obj.PORT_CEILING c.1 c.2) q.ceilings s
  let s2 := foldS (fun c (t : State) => if t.flag Obj.TALUS_FOM_PIN c.1 then t else t.setReg Obj.LANE_FOM_TARGET c.1 c.2) q.targets s1
  let s3 := (((((s2.setReg Obj.PM_VCORE_PLAN 0 q.vcore).setReg Obj.VCORE_REQUIRED 0 q.required).setReg Obj.TALUS_LAST_TIME 0 s.now).bump
    Obj.TALUS_WINDOW_NUM 0).setReg Obj.TALUS_STATE 0 3).commitLop h
  let ports := if s.flag Obj.TALUS_RETRAIN_EN 0 then
      (List.range 256).filter (fun p => (s3.port p).st == .l0 && s3.dlUp p && s3.ceiling p < s3.reg Obj.PORT_SPEED p) else []
  let s4 := s3.setTalus { s3.talus with left := q.retire, done := 0, retrain := ports, tor := some s3.planCopy }
  let s5 := foldS (fun (c : (Nat × Nat) × (Nat × Nat)) (t : State) =>
    t.raise 0xC003 0xC0 2 c.1.1 (s.ceiling c.1.1 + 256 * c.1.2 + 65536 * c.2.1 + 2 ^ 32 * (c.2.2 % 65536))) (q.ceilings.zip q.lowest) s4
  if vcoreMax < q.required then s5.raise 0xC002 0xC0 4 0xFFFF (q.required + 65536 * vcoreMax) else s5

/-- A unit of the plan is retired into the lowest free spare (R364). -/
def retireUnit (s : State) : State :=
  match s.talus.left with
  | [] => s
  | u :: r =>
    let n := s.reg Obj.HBM_RETIRED u.1
    let t := (s.setTalus { s.talus with left := r, done := s.talus.done + 1, remap := s.talus.remap.set 0 u (n + 1) }).setReg
      Obj.HBM_RETIRED u.1 (n + 1)
    let t1 := t.setTalus { t.talus with tor := t.talus.tor.map (fun (c : PlanCopy) => { c with remap := t.talus.remap }) }
    if n + 1 = 8192 then t1.raise 0xC004 0xC0 4 u.1 (n + 1 + 65536)
    else if n + 1 = 6145 then t1.raise 0xC004 0xC0 3 u.1 (n + 1) else t1

/-- Retrain a port whose speed exceeds its ceiling (R363): through Recovery, or by a RETRAIN at the new rung. -/
def talusRetrain (s : State) (p : Nat) : State :=
  let r := s.ceiling p
  if s.dlUp p = false ∨ (s.port p).st ≠ .l0 ∨ s.reg Obj.PORT_SPEED p ≤ r then s
  else
    let t := s.modPort p (fun x => { x with noRate := 0 })
    let u := if t.drudar p then t.nextFree.startRetrain p (t.freeVal % 256) else t.enterRecovery p
    ((u.modPort p (fun x => { x with rate := r })).setSpeed p r).portRateChange p

/-- A port of the Apply phase's list that is retraining, or that has still to be retrained (R363). -/
def retrainOpen (s : State) (p : Nat) : Bool :=
  s.dlUp p && ((s.port p).st == .recovery || ((s.port p).st == .l0 && decide (s.ceiling p < s.reg Obj.PORT_SPEED p)))

/-- FET_WEAR is queued to the BMC whatever its filters, and elsewhere under R61 (R366). -/
def raiseFetWear (s : State) (f sev drift med : Nat) (crit : Bool) : State :=
  let r : EvtRec := { code := 0xC005, source := 0xC0, sev := sev, dropped := false, inst := f, seq := s.dict.seq, time := s.now,
                      data := drift % 65536 + 65536 * (med % 2 ^ 32) + (if crit then 2 ^ 48 else 0) }
  let s1 := { s with dict := { s.dict with seq := (s.dict.seq + 1) % 65536 } }
  foldS (fun ep (t : State) => if ep = 0 ∨ t.endpointMatches ep r = true then t.enqueueRec ep r else t)
    (0 :: s.subscribers.filter (· != 0)) (s1.setCause 0xC005 0xC0 f)

/-- The window's look at a feed (R366). -/
def fetCheck (s : State) (f : Nat) : State :=
  let l := s.talus.rdsWin.get [] (f, 0)
  if l.isEmpty then s
  else
    let med := median l
    let s1 := if s.reg Obj.FET_RDS_BASE f = 0 ∧ 60 ≤ l.length then s.setReg Obj.FET_RDS_BASE f med else s
    let base := s1.reg Obj.FET_RDS_BASE f
    if base = 0 then s1
    else
      let drift := min (med * 100 / base) 65535
      let s2 := s1.setReg Obj.FET_RDS_DRIFT f drift
      let s3 := if s2.reg Obj.TALUS_RDS_WARN 0 ≤ drift then s2.raiseFetWear f 2 drift med false else s2
      if s3.reg Obj.TALUS_RDS_CRIT 0 ≤ drift then s3.raiseFetWear f 3 drift med true else s3

/-- The record of the window (R367). -/
def windowRecord (s : State) : TalusRecord :=
  { num := s.reg Obj.TALUS_WINDOW_NUM 0, time := s.reg Obj.TALUS_LAST_TIME 0, plan := s.planCopy
    ro := (List.range 64).map (s.reg Obj.RO_DEG), sram := (List.range 32).map (s.reg Obj.SRAM_VMIN), fom := s.talus.fomWin
    ce := (List.range 2).map (s.reg Obj.HBM_CE_WINDOW)
    rds := s.talus.rdsWin.map (fun e => (e.1, median e.2)) }

/-- Write the record into the ring of 2 048; the newest replaces the oldest (R367). -/
def storeRecord (s : State) : State :=
  let r := s.windowRecord
  s.setTalus { s.talus with ring := (r :: s.talus.ring).take 2048, flash := some r.plan, lop := 64, plan := none }

/-! ### Effects of writes -/

/-- TALUS_CEIL_RESET (R361). -/
def ceilReset (s : State) (p v : Nat) : State :=
  if v = 0 then s else s.setReg Obj.PORT_CEILING p (if s.drudar p then 9 else 6)

/-- FET_REBASE (R366). -/
def fetRebase (s : State) (f v : Nat) : State := if v = 0 then s else s.setReg Obj.FET_RDS_BASE f 0

end State

/-! ### Commands -/

/-- TALUS_MEASURE_DONE (R355, R356). -/
def execTalusMeasureDone (m : TalusMeas) (s : State) := steady s (fun t =>
  if t.reg Obj.TALUS_STATE 0 ≠ 1 ∨ t.talusRuns = false then t
  else
    let u := t.takeMeasures m
    let gated := ((List.range 64).filter (fun i => (m.ro.getD i none).isNone)).length
    if 32 < gated then u.failWindow 1
    else if u.pm.avsFault then u.failWindow 2
    else ((u.setTalus { u.talus with plan := some (u.makePlan m) }).noteLow).setReg Obj.TALUS_STATE 0 2)

/-- TALUS_COMMIT_POINT (R356, R358). -/
def execTalusCommitPoint (s : State) := steady s (fun t =>
  match t.talus.plan with
  | some q => if t.reg Obj.TALUS_STATE 0 ≠ 2 ∨ t.talusRuns = false then t else if t.pm.avsFault then t.failWindow 2 else t.commitPlan q
  | none => t)

/-- HBM_UNIT_RETIRED (R364). -/
def execHbmUnitRetired (s : State) := steady s (fun t => if t.reg Obj.TALUS_STATE 0 = 3 ∧ t.talusRuns = true then t.retireUnit else t)

/-- TALUS_APPLY_DONE (R363, R366): the ordered retrains, each once the one before it has ended, then the record phase. -/
def execTalusApplyDone (s : State) := steady s (fun t =>
  if t.reg Obj.TALUS_STATE 0 ≠ 3 ∨ t.talusRuns = false ∨ t.talus.left ≠ [] ∨ t.pm.avsTarget ≠ 0 ∨ t.pm.avsSet ≠ t.reg Obj.PM_VCORE_PLAN 0 then t
  else
    let w := t.setTalus { t.talus with retrain := t.talus.retrain.dropWhile (fun p => !(t.retrainOpen p)) }
    match w.talus.retrain with
    | p :: _ => w.talusRetrain p
    | [] =>
      let u := foldS (fun f (v : State) => v.fetCheck f) (List.range 64) w
      u.setReg Obj.TALUS_STATE 0 4)

/-- TALUS_RECORD_DONE (R367). -/
def execTalusRecordDone (s : State) := steady s (fun t =>
  if t.reg Obj.TALUS_STATE 0 ≠ 4 ∨ t.talusRuns = false then t
  else
    let h := t.talus.lop
    let q := t.talus.plan
    let t1 := (t.setReg Obj.TALUS_HIST_USED 0 (min (t.reg Obj.TALUS_HIST_USED 0 + 1) 2048)).setReg Obj.TALUS_STATE 0 0
    let t2 := (t1.endLop h .done 0).storeRecord
    t2.raise 0xC001 0xC0 1 0xFFFF (h + 65536 * t.reg Obj.PM_VCORE_PLAN 0 + 2 ^ 32 * t.reg Obj.VCORE_REQUIRED 0 +
      2 ^ 48 * ((q.map (fun x => x.ceilings.length)).getD 0 % 256) + 2 ^ 56 * (t.talus.done % 65536)))

/-- FEED_RDS_SAMPLE (R366): every 10 s, the feeds whose FEED_RDS was updated. -/
def execFeedRdsSample (s : State) := steady s (fun t =>
  if t.after t.talus.rdsAt 10000000000 = false then t
  else
    foldS (fun f (u : State) =>
      if u.feedUsed (f / 2) (f % 2) && (u.feed f).rdsNew then
        (u.setTalus { u.talus with rds := u.talus.rds.set [] (f, 0) (u.talus.rds.get [] (f, 0) ++ [u.reg Obj.FEED_RDS f]) }).setFeed f
          { u.feed f with rdsNew := false }
      else u) (List.range 64) (t.setTalus { t.talus with rdsAt := t.clk }))

end Sys2Proof.Machine
end

