-- ==== Sys2Proof/Machine/PowerModes.lean ====
section
/-!
DEFINITION. Power modes (R293 to R309): entry checks, the steps of an entry, its commit point or undo, the core-current ramp,
wakes, and AVSBus. The moment of traffic-ready is in `Sched.lean`, since it takes up missed events.
-/

namespace Sys2Proof.Machine

/-- The number of a mode in PM_MODE. -/
def Mode.num (m : Mode) : Nat :=
  match m with
  | .boot => 0 | .active => 1 | .trim => 2 | .hold => 3 | .sentinel => 4 | .service => 5

/-- The mode of a number of PM_TARGET. -/
def modeOf (n : Nat) : Mode :=
  match n with
  | 1 => .active | 2 => .trim | 3 => .hold | 4 => .sentinel | 5 => .service | _ => .boot

/-- HOLD and SENTINEL. -/
def Mode.sleeps (m : Mode) : Bool :=
  match m with
  | .hold => true | .sentinel => true | _ => false

/-- An entry that *Mode transitions* lists (R293). -/
def entryListed (a b : Mode) : Bool :=
  match a, b with
  | .active, .trim => true | .active, .hold => true | .active, .sentinel => true | .active, .service => true
  | .trim, .trim => true | .trim, .active => true | .trim, .hold => true | .trim, .sentinel => true | .trim, .service => true
  | .service, .active => true | .service, .trim => true
  | _, _ => false

/-- VDD_CORE current of a ramp block, A (*VDD_CORE ramp steps*). -/
def rampAmps (b : Nat) : Nat := if b = 0 then 40 else if b < 3 then 4 else if b < 7 then 15 else if b < 15 then 10 else 3

namespace State

def setPm (s : State) (x : PmSt) : State := { s with pm := x }

/-- Ports that exist as PORT_STATE 0 (NOT_FORMED), 1 (DISABLED), 8 (TRAIN_FAIL) or 9 (GATED). -/
def portQuiet (s : State) (p : Nat) : Bool :=
  s.portState p == 0 || s.portState p == 1 || s.portState p == 8 || s.portState p == 9

/-! ### Entry checks (R294) -/

/-- A handle of kind 6 is QUEUED, RUNNING or COMMITTED. -/
def pmBusy (s : State) : Bool :=
  (List.range 64).any (fun h => (s.lop h).kind == 6 && ((s.lop h).st == .queued || (s.lop h).st == .running || (s.lop h).st == .committed))

/-- Checks 2 to 4 of R294; the abort of the first that fails. -/
def pmChecks (s : State) (target : Mode) : Option Nat :=
  if !(entryListed s.mode target) then some Ab.MODE_FORBIDS
  else if target = .hold ∧ (List.range 256).any (fun p => s.drudar p && !(s.portQuiet p)) = true then some Ab.INVALID_CONFIG
  else if target = .sentinel ∧ (List.range 256).any (fun p => !(s.portQuiet p)) = true then some Ab.INVALID_CONFIG
  else if target.sleeps = true ∧ (List.range 16).any (fun c => s.movePhase c == 4) = true then some Ab.BUSY
  else if target = .sentinel ∧ (List.range 64).any (fun h => (s.lop h).kind == 2 && (s.lop h).st.unended) = true then some Ab.BUSY
  else none

/-! ### Undo (R295, R308) -/

/-- An entry fails, or is aborted (cause 255), before its commit point. -/
def pmFail (s : State) (cause port : Nat) : State :=
  if s.pm.step = .idle ∨ s.pm.undoing = true then s
  else s.setPm { s.pm with undoing := true, cause := cause, causePort := port }

/-- A port in L1 returns to L0. -/
def leaveL1 (s : State) (p : Nat) : State :=
  if (s.port p).st = .l1 then (s.accrue p).modPort p (fun x => { x with st := .l0, l1Req := false })
  else s.modPort p (fun x => { x with l1Req := false })

/-- Credits that a mode withheld are returned. -/
def resumeCredits (s : State) : State :=
  let t := s.setPm { s.pm with stop := false }
  foldS (fun p (u : State) => u.settleCredits p) ((t.fab.owed.map (fun e => e.1.1)).eraseDups) t

/-- The undo ends: L1 ports in L0, credits resumed, the handle FAILED or ABORTED, the mode unchanged. -/
def undoDone (s : State) : State :=
  if s.pm.step = .idle ∨ s.pm.undoing = false then s
  else
    let x := s.pm
    let s1 := foldS (fun e (t : State) => t.leaveL1 e.1.1) x.l1At (s.setPm { x with step := .idle, undoing := false, l1At := [], cause := 0, lop := 64 })
    let s2 := (if s1.mode = .service then s1 else s1.resumeCredits).acceptLate.wakeMoves.dmRelease
    if x.cause = 255 then s2.endLop x.lop .aborted Ab.ABORTED
    else ((s2.endLop x.lop .failed Ab.OP_FAILED).modLop x.lop (fun l => { l with cause := x.cause })).raise 0xA003 0xA0 3 0xFFFF
      (x.lop + 65536 * x.cause + 2 ^ 24 * x.target.num + 2 ^ 32 * x.causePort)

/-! ### Start (R294, R295) -/

/-- Start an entry (R295): step 1 for HOLD and SENTINEL, where a margin window before its commit point is aborted (R357);
step 3 for the other targets. An undo under way ends first. -/
def startEntry (s : State) (h : Nat) (target : Mode) : State :=
  let s0 := if s.pm.undoing then s.undoDone else s
  let s1 := if target.sleeps then s0.abortWindow else s0
  (s1.modLop h (fun l => { l with st := .running })).setPm { s1.pm with
    step := if target.sleeps then .quiesce else .cores
    lop := h, target := target, start := s1.clk, cause := 0, causePort := 0xFFFF, undoing := false
    stop := s1.pm.stop || target.sleeps, l1At := [] }

/-- PM_ENTER written with 1 (R294): the abort code, or the state and the handle. -/
def pmEnter (s : State) (owner : Nat) : Except Nat (State × Nat) :=
  let target := modeOf (s.reg Obj.PM_TARGET 0)
  let time := s.reg Obj.PM_ENTER_TIME 0
  if s.pmBusy ∨ s.freeLop = none ∨ (time ≠ 0 ∧ s.freeSlot = none) then .error Ab.BUSY
  else match s.pmChecks target with
    | some a => .error a
    | none => match s.takeLop 6 owner target.num with
      | none => .error Ab.BUSY
      | some (h, t) =>
        if time = 0 then .ok (t.startEntry h target, h)
        else match t.takeSlot 6 time 0 1 h with
          | none => .error Ab.BUSY
          | some (k, u) => .ok (u.modLop h (fun l => { l with slot := k }), h)

/-- The event of a scheduled entry: checks 2 to 4 run again, and a failure ends the handle with cause 3 (R294, R308). -/
def pmEvent (s : State) (h : Nat) : State :=
  let target := modeOf (s.lop h).arg
  if (s.lop h).st ≠ .running ∨ (s.pm.lop = h ∧ s.pm.step ≠ .idle) then s
  else match s.pmChecks target with
  | none => s.startEntry h target
  | some _ => ((s.endLop h .failed Ab.OP_FAILED).modLop h (fun l => { l with cause := 3 })).raise 0xA003 0xA0 3 0xFFFF
      (h + 65536 * 3 + 2 ^ 24 * target.num + 2 ^ 32 * 0xFFFF)

/-! ### Quiesce and links (R295) -/

/-- Everything that step 1 waits for has ended. -/
def quiet (s : State) : Bool :=
  s.fab.rtt.isEmpty && s.coh.trk.isEmpty && s.coh.evict.isEmpty && s.fab.hold.isEmpty && s.coh.reqs.isEmpty &&
  !(s.link.ports.any (fun e => e.2.st == .flushing)) && s.coh.purges.isEmpty && s.fab.walks.isEmpty &&
  !(s.dict.lops.any (fun e => e.2.kind == 1 && e.2.st == .committed)) && s.reg Obj.TALUS_STATE 0 != 3

/-- CXL-mode ports in L0. -/
def cxlL0 (s : State) : List Nat := (List.range 256).filter (fun p => s.dlUp p && (s.port p).st == .l0 && !(s.drudar p))

/-- Step 1 ends (R295). -/
def quiesceDone (s : State) : State :=
  if s.pm.step ≠ .quiesce ∨ s.pm.undoing = true ∨ s.quiet = false then s
  else if s.pm.target = .hold ∧ s.cxlL0 ≠ [] then
    let l1 := foldS (fun p (m : Tbl Nat) => m.set 0 (p, 0) (s.clk + 1)) s.cxlL0 []
    foldS (fun p (t : State) => t.modPort p (fun x => { x with l1Req := true })) s.cxlL0 (s.setPm { s.pm with step := .links, l1At := l1 })
  else s.setPm { s.pm with step := .cores }

/-- A port of step 2 reaches L1; with the last one the step ends. -/
def portL1 (s : State) (p : Nat) : State :=
  if s.pm.step = .links ∧ s.pm.undoing = false ∧ s.pm.l1At.get 0 (p, 0) ≠ 0 ∧ (s.port p).st = .l0 ∧ s.dlUp p = true then
    let t := (s.accrue p).modPort p (fun x => { x with st := .l1 })
    if (t.pm.l1At.map (fun e => e.1.1)).all (fun q => (t.port q).st == .l1) then t.setPm { t.pm with step := .cores } else t
  else s

/-! ### Gating (R68, R208, R298, R303) -/

/-- An object of a lane cluster's own status, which a gated cluster does not keep: (cluster of an instance). A Talus ceiling (R361),
a rate not attempted again (R74) and a FAILED lane (R82, R105) outlast the gating. -/
def clusterStatus (k : Key) : Option Nat :=
  if 0x200000 ≤ k.1 ∧ k.1 < 0x230000 then
    match objRow k.1 with
    | some r => if r.acc ≠ .ro ∨ k.1 = Obj.PORT_CEILING ∨ k.1 = Obj.PORT_FALLBACK ∨ k.1 = Obj.LANE_STATE then none
        else if r.cnt = 512 then some (k.2 / 16) else if r.cnt = 256 then some (k.2 / 8) else if r.cnt = 32 then some k.2 else none
    | none => none
  else none

/-- A Cairn slice's own status, which a gated slice does not keep: the slice of an instance. -/
def sliceStatus (k : Key) : Option Nat := if k.1 / 256 = 0x5040 ∨ k.1 / 256 = 0x5070 then some k.2 else none

/-- Gate a cluster: its ports go down with cause 7, one that trains leaves off, and its status is lost. -/
def gateCluster (s : State) (k : Nat) : State :=
  let t := foldS (fun i (u : State) => 
    if u.dlUp (8 * k + i) then u.portDown (8 * k + i) 7
    else match (u.port (8 * k + i)).st with
      | .detect | .training | .l0 | .recovery =>
        (u.modPort (8 * k + i) (fun x => { x with st := .detect, phase := .idle, changing := false, rate := 0 })).lanesDown (8 * k + i)
      | _ => u) (List.range 8) s
  ({ t with
     regs := t.regs.filter (fun e => clusterStatus e.1 != some k)
     link := { t.link with lanes := t.link.lanes.map (fun (e : Key × Lane) =>
       (e.1, if e.1.1 / 16 = k then { laneDflt with tries := e.2.tries, droppedAt := e.2.droppedAt } else e.2)) |>.filter (fun e => !(decide (e.2 = laneDflt))) } }).setReg Obj.PM_GATED_LC 0
    (setBit (t.reg Obj.PM_GATED_LC 0) k)

/-- Gate a slice: its directory is lost; no shared-coherent window is active (R208). -/
def gateSlice (s : State) (c : Nat) : State :=
  ({ s with
     regs := s.regs.filter (fun e => sliceStatus e.1 != some c)
     coh := { s.coh with
      dir := s.coh.dir.filter (fun e => e.1.1 / 8388608 != c), frames := s.coh.frames.filter (fun e => e.1.1 / 2048 != c) } }).setReg
    Obj.PM_GATED_SLICES 0 (setBit (s.reg Obj.PM_GATED_SLICES 0) c)

/-- Clusters and slices that TRIM gates (R293). -/
def trimLC (s : State) : Nat := s.reg Obj.PM_TRIM_LC 0
def trimSlices (s : State) : Nat := bitSet ((List.range 8).filter (fun c => s.reg Obj.CAIRN_SLICES 0 ≤ c))

/-- Ramp blocks of clusters and slices, in ramp order. -/
def rampBlocks (slices clusters : Nat) : List Nat := (bitsOf 8 slices).map (7 + ·) ++ (bitsOf 32 clusters).map (15 + ·)

/-- A ramp is announced on DIDT_WARN_N: its rise within 1 µs can exceed PM_DIDT_STEP (R304). -/
def rampLoud (s : State) (l : List Nat) : Bool :=
  s.reg Obj.PM_DIDT_STEP 0 < min ((l.map rampAmps).foldl (· + ·) 0) (s.reg Obj.PM_DIDT_SLEW 0)

/-- Begin a ramp outside a wake (R303, R304): after PM_DIDT_LEAD where it is announced. -/
def startRamp (s : State) (l : List Nat) : State :=
  if l.isEmpty then s
  else
    let loud := s.rampLoud l
    s.setPm { s.pm with
      ramp := l, rampAt := s.clk + (if loud then s.reg Obj.PM_DIDT_LEAD 0 * nsUnit else 0)
      lowAt := if loud then s.clk + 1 else s.pm.lowAt }

/-- A block is on: a cluster's enabled ports start their ladders (R68). -/
def blockOn (s : State) (b : Nat) : State :=
  if 15 ≤ b then
    let k := b - 15
    let t := s.setReg Obj.PM_GATED_LC 0 (clrBit (s.reg Obj.PM_GATED_LC 0) k)
    if bit (s.reg Obj.PM_GATED_LC 0) k then foldS (fun i (u : State) => u.startLadder (8 * k + i)) (List.range 8) t else t
  else if 7 ≤ b then s.setReg Obj.PM_GATED_SLICES 0 (clrBit (s.reg Obj.PM_GATED_SLICES 0) (b - 7))
  else s

/-- The chain of the block in turn closes (R303). -/
def chainClosed (s : State) : State :=
  match s.pm.ramp with
  | [] => s
  | b :: r =>
    let ends := s.pm.rampAt + rampAmps b * 1000 * nsUnit / max 1 (s.reg Obj.PM_DIDT_SLEW 0)
    if s.pm.rampAt = 0 ∨ s.clk < ends then s
    else
      let t := (s.setPm { s.pm with ramp := r, rampAt := ends, rampEnd := ends }).blockOn b
      -- an ACTIVE entry is done when every block is on
      if r.isEmpty ∧ t.mode = .active ∧ t.pm.waking = false ∧ t.pm.lop < 64 ∧ (t.lop t.pm.lop).st = .committed ∧
         (t.lop t.pm.lop).arg = 1 then (t.endLop t.pm.lop .done 0).setPm { t.pm with lop := 64 }
      else t

/-! ### Commit (R295 to R297) -/

/-- Tor answers with MODE_FORBIDS what waits on I3C and at the debug session, the transports that reach it (R50, R295, R350). -/
def torAnswers (s : State) : State :=
  foldS (fun ep (t : State) => foldS (fun r (u : State) => u.respondReq ep r.2 Ab.MODE_FORBIDS []) (s.lateOf ep) (t.setLate ep [])) [0, 321] s

/-- Every request accepted before step 3 has been answered, but for an endpoint whose transport is down (R295). -/
def allAnswered (s : State) : Bool := s.dict.inbox.all (fun e => e.2.isEmpty || !(s.endpointUp e.1.1))

/-- A stage that is sealed or committing holds an object of a block that the entry gates (R299). -/
def trimHeld (s : State) : Bool :=
  s.pm.target == .trim && (List.range 16).any (fun i =>
    let x := s.stage (i + 1)
    (x.st == .sealed || x.st == .committing) && x.entries.any (fun e =>
      match objRow e.1.1 with
      | some r =>
        let k := if r.cnt = 512 then e.1.2 / 16 else if r.cnt = 256 then e.1.2 / 8 else e.1.2
        0x200000 ≤ e.1.1 && e.1.1 < 0x230000 && r.cnt != 1 && bit s.trimLC k
      | none => false))

/-- Nothing keeps the entry from its commit point: the cores have answered what they accepted and reach their wait, with a margin
window's work before its Record phase ended for HOLD and SENTINEL (R295, R299, R347, R357, R377). -/
def mayCommit (s : State) : Bool :=
  s.pm.step == .cores && !s.pm.undoing && s.allAnswered && s.prof.step == .idle && s.reg Obj.RIDGE_HALT 0 == 0 && !s.trimHeld &&
  !(s.pm.target.sleeps && (s.reg Obj.TALUS_STATE 0 == 1 || s.reg Obj.TALUS_STATE 0 == 2 || s.reg Obj.TALUS_STATE 0 == 3))

/-- What the commit point does for its target. -/
def commitTarget (s : State) (target : Mode) : State :=
  match target with
  | .hold =>
    let t := { (s.timeSleep false) with intc := { s.intc with alertHeld := s.alertN } }
    { t with mode := .hold }
  | .sentinel =>
    let s1 := if s.reg Obj.DBG_LEVEL 0 = 0 then s else s.setDbg 0 4
    let t := { (s1.zeroizeKeys.timeSleep true) with intc := { s.intc with alertHeld := s.alertN } }
    { t with mode := .sentinel }
  | .trim =>
    let lc := s.reg Obj.PM_GATED_LC 0
    let sl := s.reg Obj.PM_GATED_SLICES 0
    let s0 := if s.mode = .service then s.resumeCredits else s
    let s1 := foldS (fun k (t : State) => t.gateCluster k) ((bitsOf 32 (maskOut s.trimLC lc)).reverse) { s0 with mode := .trim }
    let s2 := foldS (fun c (t : State) => t.gateSlice c) (bitsOf 8 (maskOut s.trimSlices sl)) s1
    s2.startRamp (rampBlocks (maskOut sl s.trimSlices) (maskOut lc s.trimLC))
  | .service => ({ s with mode := .service }).setPm { s.pm with stop := true }
  | .active =>
    let s0 := if s.mode = .service then s.resumeCredits else s
    ({ s0 with mode := .active }).startRamp (rampBlocks (s.reg Obj.PM_GATED_SLICES 0) (s.reg Obj.PM_GATED_LC 0))
  | .boot => s

/-- Start a wake (R301): bit `b` of PM_LAST_WAKE. While a wake runs a source is recorded and starts nothing further (R300). -/
def startWake (s : State) (b : Nat) : State :=
  if s.mode.sleeps = false then s
  else if s.pm.waking then s.setReg Obj.PM_LAST_WAKE 0 (setBit (s.reg Obj.PM_LAST_WAKE 0) b)
  else
    let sent := s.mode == .sentinel
    let kept := rampBlocks (maskOut 255 (s.reg Obj.PM_GATED_SLICES 0)) (maskOut 0xFFFF_FFFF (s.reg Obj.PM_GATED_LC 0))
    (s.setReg Obj.PM_LAST_WAKE 0 (2 ^ b)).setPm { s.pm with
      waking := true, wakeAt := s.clk, vr := !sent, pll := false, hbm := false, ramp := [0, 1, 2, 3, 4, 5, 6] ++ kept, rampAt := 0
      lowAt := if sent then 0 else s.clk + 1
      avsTarget := if sent then s.reg Obj.PM_VCORE_PLAN 0 else s.pm.avsTarget
      avsTries := if sent then 1 else s.pm.avsTries
      avsAt := if sent then s.clk else s.pm.avsAt }

/-- A source of Tor's wake subset with INT_ENABLE 1 is high (R322). -/
def wakeInt (s : State) : Bool :=
  (s.regs.filterMap (fun e => if e.1.1 = Obj.INT_WAKE_EN ∧ e.2 = 1 then some e.1.2 else none)).any
    (fun n => s.flag Obj.INT_ENABLE n && s.intLevel n)

/-- A supply that does not follow keeps an entry from SENTINEL (R306, R308). -/
def supplyBad (s : State) : Bool := s.pm.target == .sentinel && s.pm.avsFault

/-- The mode after the commit point: the target's, where the entry commits. -/
def commitMode (s : State) : Mode := if s.mayCommit && !s.supplyBad then s.pm.target else s.mode

/-- The commit point of an entry (R295 to R297). -/
def pmCommit (s : State) : State :=
  if s.mayCommit = false then s
  else if s.supplyBad then s.pmFail 5 0xFFFF
  else
    let x := s.pm
    let old := s.mode
    let s1 := (s.commitLop x.lop).setPm { x with step := .idle, prev := old, commitAt := s.clk, l1At := [] }
    let s2 := (s1.commitTarget x.target).setReg Obj.PM_PREV_MODE 0 old.num
    let s3 := s2.raise 0xA001 0xA0 1 0xFFFF (x.target.num + 256 * old.num + 65536 * x.lop + 2 ^ 32 * min (s.usSince x.start) 0xFFFF_FFFF)
    if x.target.sleeps then
      let waits := !(s3.lateOf 0).isEmpty && bit (s3.reg Obj.INT_WAKE_TRANSPORT 0) 0
      let s4 := if waits then s3.torAnswers.startWake 1 else s3.torAnswers
      if s4.wakeInt then s4.startWake 0 else s4
    else
      let s4 := s3.acceptLate
      if x.target = .active ∧ s4.pm.ramp = [] then (s4.endLop x.lop .done 0).setPm { s4.pm with lop := 64 } else s4

/-- The end of a TRIM entry (R296). -/
def trimDone (s : State) : State :=
  let h := s.pm.lop
  if h < 64 ∧ (s.lop h).st = .committed ∧ (s.lop h).arg = 2 ∧ s.mode = .trim ∧ s.pm.waking = false ∧ s.pm.ramp = [] ∧
     (List.range 256).any (fun p => s.gatedLC (p / 8) && (s.port p).st == .flushing) = false then
    (s.endLop h .done 0).setPm { s.pm with lop := 64 }
  else s

/-- The end of a SERVICE entry: no request is open (R307). -/
def serviceDone (s : State) : State :=
  let h := s.pm.lop
  if h < 64 ∧ (s.lop h).st = .committed ∧ (s.lop h).arg = 5 ∧ s.mode = .service ∧ s.fab.rtt.isEmpty = true ∧ s.coh.trk.isEmpty = true ∧
     s.coh.evict.isEmpty = true ∧ s.coh.reqs.isEmpty = true ∧ s.fab.hold.isEmpty = true then
    (s.endLop h .done 0).setPm { s.pm with lop := 64 }
  else s

/-! ### Wakes (R300 to R302) -/

/-- The PLLs lock; the ramp begins at the later of that and DIDT_WARN_N low plus PM_DIDT_LEAD (R301). -/
def pllLocked (s : State) : State :=
  if s.pm.waking = true ∧ s.pm.vr = true ∧ s.pm.pll = false then
    s.setPm { s.pm with pll := true, lockAt := s.clk, rampAt := max s.clk (s.pm.lowAt - 1 + s.reg Obj.PM_DIDT_LEAD 0 * nsUnit) }
  else s

/-- The wake's release of DIDT_WARN_N, with PM_WOKEN and the end of the handle; or that of another announced ramp (R301, R304). -/
def wakeRelease (s : State) : State :=
  if s.pm.lowAt = 0 ∨ s.pm.ramp ≠ [] ∨ s.pm.waking = true ∨ s.after s.pm.rampEnd 2000 = false ∨ s.after s.pm.readyAt 2000 = false then s
  else
    let h := s.pm.lop
    let t := s.setPm { s.pm with lowAt := 0 }
    if h < 64 ∧ (s.lop h).st = .committed ∧ (modeOf (s.lop h).arg).sleeps = true then
      ((t.setPm { t.pm with lop := 64 }).endLop h .done 0).raise 0xA002 0xA0 1 0xFFFF
        (s.mode.num + 256 * (s.reg Obj.PM_LAST_WAKE 0 % 256) + 65536 * s.reg Obj.PM_WAKE_US 0)
    else t

/-! ### AVSBus (R306) -/

/-- AVS_FAULT, and a pending entry to SENTINEL fails with cause 5. -/
def avsFail (s : State) (why target : Nat) : State :=
  let t := (s.setPm { s.pm with avsFault := true }).raise 0xA004 0xA0 4 0xFFFF (why + 256 * target + 2 ^ 24 * s.reg Obj.AVS_VREAD_MV 0)
  if t.pm.target = .sentinel then t.pmFail 5 0xFFFF else t

/-- A voltage write (R306): 650 to 850 mV, PM_VCORE_PLAN or, on the way to SENTINEL and in it, PM_SENT_MV. -/
def avsWrite (s : State) (mv : Nat) (confirmed : Bool) : State :=
  let sent := s.mode = .sentinel ∧ s.pm.waking = false ∨ s.pm.target = .sentinel ∧ s.pm.step = .cores
  if 650 ≤ mv ∧ mv ≤ 850 ∧ (mv = s.reg Obj.PM_VCORE_PLAN 0 ∨ sent ∧ mv = s.reg Obj.PM_SENT_MV 0) then
    if confirmed then s.setPm { s.pm with avsSet := mv, avsTarget := 0, avsTries := 0, avsFault := false }
    else s.setPm { s.pm with avsTarget := mv, avsTries := 1, avsAt := s.clk }
  else s

/-- A write is not confirmed within 1 ms: it is repeated once, and then given up (R306). -/
def avsTimeout (s : State) : State :=
  if s.pm.avsTarget = 0 ∨ s.after s.pm.avsAt 1000000 = false then s
  else
    let t := s.bump Obj.AVS_ERR_CNT 0
    if s.pm.avsTries < 2 then t.setPm { t.pm with avsTries := 2, avsAt := t.clk }
    else
      let v := s.pm.avsTarget
      let u := (t.setPm { t.pm with avsTarget := 0, avsTries := 0, avsSet := v }).avsFail 0 v
      -- a wake goes on at whatever voltage the rail holds
      if u.pm.waking ∧ u.pm.vr = false then u.setPm { u.pm with vr := true, lowAt := u.clk + 1 } else u

/-- Voltage and current are read every 1 ms in ACTIVE, TRIM and SERVICE (R306). -/
def avsRead (s : State) (mv amps : Nat) : State :=
  if s.ridgeClock = false ∨ s.mode = .boot then s
  else
    let t := (s.setReg Obj.AVS_VREAD_MV 0 (mv % 65536)).setReg Obj.AVS_IREAD 0 (amps % 65536)
    if mv ≤ s.pm.avsSet + 25 ∧ s.pm.avsSet ≤ mv + 25 then
      t.setPm { t.pm with avsOff := 0, avsRaised := false, avsFault := t.pm.avsFault && !t.pm.avsRaised }
    else if s.pm.avsOff = 0 then t.setPm { t.pm with avsOff := t.clk + 1 }
    else if s.pm.avsRaised = false ∧ s.after (s.pm.avsOff - 1) 10000000 = true then
      (t.setPm { t.pm with avsRaised := true }).avsFail 1 s.pm.avsSet
    else t

end State

/-! ### Commands -/

/-- PM_QUIESCE_DONE (R295). -/
def execPmQuiesceDone (s : State) := steady s (fun t => t.quiesceDone)

/-- PM_PORT_L1 (R295). -/
def execPmPortL1 (p : Nat) (s : State) := onUnit p 256 s (fun t => t.portL1 p)

/-- PM_COMMIT_POINT (R295 to R297). -/
def execPmCommitPoint (s : State) := modal s.commitMode s (fun t => t.pmCommit)

/-- PM_QUIESCE_TIMEOUT (R295): steps 1 to 3 have not ended within PM_QUIESCE_MAX. -/
def execPmQuiesceTimeout (s : State) := steady s (fun t =>
  if t.pm.step ≠ .idle ∧ t.after t.pm.start (t.reg Obj.PM_QUIESCE_MAX 0 * 1000000) = true then t.pmFail 1 0xFFFF else t)

/-- PM_L1_TIMEOUT (R295). -/
def execPmL1Timeout (p : Nat) (s : State) := onUnit p 256 s (fun t =>
  let a := t.pm.l1At.get 0 (p, 0)
  if t.pm.step = .links ∧ a ≠ 0 ∧ (t.port p).st ≠ .l1 ∧ t.after (a - 1) (t.reg Obj.PM_L1_TIMEOUT 0 * 1000000) = true then
    t.pmFail 2 p else t)

/-- PM_UNDO_DONE (R295, R308). -/
def execPmUndoDone (s : State) := steady s (fun t => t.undoDone)

/-- TRIM_ENTRY_DONE (R296). -/
def execTrimEntryDone (s : State) := steady s (fun t => t.trimDone)

/-- SERVICE_DRAIN_DONE (R296, R307). -/
def execServiceDrainDone (s : State) := steady s (fun t => t.serviceDone)

/-- WAKE_START (R300): an interrupt source of the subset, a transport request, or a partner's L1 exit in HOLD. -/
def execWakeStart (src : WakeSrc) (s : State) := steady s (fun t =>
  match src with
  | .interrupt => if t.wakeInt then t.startWake 0 else t
  | .transport => if bit (t.reg Obj.INT_WAKE_TRANSPORT 0) 0 then t.startWake 1 else t
  | .partner p => if t.mode = .hold ∧ p < 256 ∧ (t.port p).st = .l1 ∧ t.drudar p = false then t.startWake 4 else t)

/-- BAY_WAKE (R268, R300): BAY_WAKE_N of a channel whose port is in L1, in HOLD. -/
def execBayWake (ch : Nat) (s : State) := onUnit ch 32 s (fun t =>
  match t.chPort ch with
  | some p => if t.mode = .hold ∧ (t.port p).st = .l1 then t.startWake 2 else t
  | none => t)

/-- WAKE_TIMER (R300). -/
def execWakeTimer (s : State) := steady s (fun t =>
  if t.mode.sleeps = true ∧ t.reg Obj.PM_WAKE_AFTER 0 ≠ 0 ∧ t.after t.pm.commitAt (t.reg Obj.PM_WAKE_AFTER 0 * 1000000) = true then
    t.startWake 3 else t)

/-- VR_SETTLED (R301): in a wake from SENTINEL, DIDT_WARN_N falls then. -/
def execVrSettled (s : State) := steady s (fun t =>
  if t.pm.waking = true ∧ t.pm.vr = false then
    t.setPm { t.pm with vr := true, lowAt := t.clk + 1, avsSet := t.reg Obj.PM_VCORE_PLAN 0, avsTarget := 0, avsTries := 0 }
  else t)

/-- PLL_LOCKED (R301). -/
def execPllLocked (s : State) := steady s (fun t => t.pllLocked)

/-- RAMP_CHAIN_CLOSED (R303). -/
def execRampChainClosed (s : State) := steady s (fun t => t.chainClosed)

/-- HBM_READY (R301): both stacks, after their controllers are ungated. -/
def execHbmReady (s : State) := steady s (fun t =>
  if t.pm.waking = true ∧ t.pm.pll = true ∧ (t.pm.ramp.contains 1 || t.pm.ramp.contains 2) = false then
    t.setPm { t.pm with hbm := true } else t)

/-- DIDT_WAKE_RELEASE (R301, R304). -/
def execDidtWakeRelease (s : State) := steady s (fun t => t.wakeRelease)

/-- AVS_VOLTAGE_WRITE (R306). -/
def execAvsVoltageWrite (mv : Nat) (confirmed : Bool) (s : State) := steady s (fun t => t.avsWrite mv confirmed)

/-- AVS_WRITE_TIMEOUT (R306). -/
def execAvsWriteTimeout (s : State) := steady s (fun t => t.avsTimeout)

/-- AVS_POLL (R306). -/
def execAvsPoll (mv amps : Nat) (s : State) := steady s (fun t => t.avsRead mv amps)

end Sys2Proof.Machine
end

