-- ==== Sys2Proof/Machine/Commit.lean ====
section
/-!
DEFINITION. Staged commits (R51 to R58, R413): what a stage's values must satisfy, the commit point and what it does for each
object, the drain of epochs, and binding and unbinding (R124 to R138).
-/

namespace Sys2Proof.Machine

namespace State

/-! ### Owning blocks (R20, R68, R208, R298) -/

/-- The cluster that an object instance of chapters 4 and 5, or of one of its lanes and ports, belongs to. -/
def clusterOf (k : Key) : Option Nat :=
  match objRow k.1 with
  | some r =>
    if r.id / 65536 < 0x20 then none
    else if r.cnt = 512 ∧ 0x200000 ≤ r.id ∧ r.id < 0x230000 then some (k.2 / 16)
    else if r.cnt = 256 ∧ 0x200000 ≤ r.id ∧ r.id < 0x500000 then some (k.2 / 8)
    else if r.cnt = 32 ∧ 0x200000 ≤ r.id ∧ r.id < 0x230000 then some k.2
    else if r.id = Obj.GCL_ENTRY then some (k.2 / 1024) else none
  | none => none

/-- The slice that an object instance belongs to. -/
def sliceOf (k : Key) : Option Nat :=
  match objRow k.1 with
  | some r =>
    if r.cnt = 8 ∧ 0x500000 ≤ r.id ∧ r.id < 0x600000 then some k.2
    else if r.id = Obj.WHEEL_SLOT then some (k.2 / 64) else none
  | none => none

/-- The owning block of an object instance has no clock or power (R20); PORT_STATE and LC_STATE of a gated cluster stay
readable (R68). -/
def unpowered (s : State) (k : Key) (read : Bool) : Bool :=
  if read && (k.1 == Obj.PORT_STATE || k.1 == Obj.LC_STATE_CL) then false
  else
    (match clusterOf k with
     | some c => s.gatedLC c
     | none => false) ||
    (match sliceOf k with
     | some c => s.gatedSlice c
     | none => false)

/-! ### Stages -/

/-- Stage a value: a second write of the same object replaces the first (R52). -/
def putStaged (l : Tbl Nat) (k : Key) (v : Nat) : Tbl Nat := Tbl.insert (k, v) (Tbl.erase l k)

/-- The value a stage holds for an object instance. -/
def staged (l : Tbl Nat) (k : Key) : Option Nat := (l.find? (fun e => decide (e.1 = k))).map (·.2)

/-- The stage, open, sealed or committing, that holds an object instance (R52). -/
def heldBy (s : State) (k : Key) : Option Nat :=
  ((List.range 16).map (· + 1)).find? (fun n => (s.stage n).st != .free && (staged (s.stage n).entries k).isSome)

/-! ### The candidate configuration -/

/-- Objects of the ROUTE, BIND and access-control subjects (R130, R248). -/
def subjectOf (o : Nat) : Option Nat :=
  let i := o / 256
  if o = Obj.ROUTE_ENTRY ∨ o = Obj.FID_BASE ∨ o = Obj.PBR_FID_BASE ∨ o = Obj.HG_COUNT ∨ o = Obj.HG_MEMBERS then some 0
  else if i = 0x3300 ∨ i = 0x3400 ∨ i = 0x3500 ∨ i = 0x3600 ∨ o = Obj.RDR_RELEASE then some 1
  else if i = 0x6000 ∨ i = 0x6010 ∨ i = 0x6100 then some 2
  else none

/-- Subjects that a stage touches. -/
def subjects (l : Tbl Nat) : List Nat := (l.filterMap (fun e => subjectOf e.1.1)).eraseDups

/-- Put staged values in place. -/
def putAll (s : State) (l : Tbl Nat) : State := foldS (fun e t => t.setReg e.1.1 e.1.2 e.2) l s

/-- Windows that a window number touches in a stage. -/
def touchedWins (l : Tbl Nat) : List Nat := (l.filterMap (fun e => if e.1.1 / 256 = 0x3600 then some e.1.2 else none)).eraseDups

/-- The window is enabled. -/
def winOn (s : State) (w : Nat) : Bool := bit (s.reg Obj.WIN_ATTR w) 0

/-- vPPBs whose LD a candidate takes away, with that LD. -/
def unbound (s c : State) (l : Tbl Nat) : List (Nat × Nat) :=
  l.filterMap (fun e => if e.1.1 = Obj.VPPB_LD ∧ s.reg Obj.VPPB_LD e.1.2 ≠ 0xFFFF ∧ c.reg Obj.VPPB_LD e.1.2 ≠ s.reg Obj.VPPB_LD e.1.2
    then some (e.1.2, s.reg Obj.VPPB_LD e.1.2) else none)

/-- A partition binds an LD. -/
def partBinds (s : State) (n ld : Nat) : Bool := (s.ldBinders ld).any (fun v => v / 64 == n)

/-- The configuration that a stage makes: its values, the windows of unbound vPPBs disabled (R136), and the sizes of LDs whose
place has changed (R125). -/
def candidate (s : State) (l : Tbl Nat) : State :=
  let c0 := s.putAll l
  let gone := s.unbound c0 l
  let c1 := foldS (fun w (t : State) =>
    let x := t.winCfg w
    if gone.any (fun g => g.1 / 64 == x.part && x.targets.contains g.2 && !(c0.partBinds x.part g.2)) then
      t.setReg Obj.WIN_ATTR w (clrBit (t.reg Obj.WIN_ATTR w) 0) else t) c0.windows c0
  foldS (fun ld (t : State) => t.setReg Obj.LD_SIZE ld (if t.ldLocal ld then (t.ldReported ld).getD 0 else 0))
    ((l.filterMap (fun e => if e.1.1 = Obj.LD_PORT ∨ e.1.1 = Obj.LD_LDID then some e.1.2 else none)).eraseDups) c1

/-- Windows that differ between two configurations. -/
def changedWins (s c : State) : List Nat :=
  (s.windows ++ c.windows).eraseDups.filter (fun w => s.winOn w != c.winOn w || s.winCfg w != c.winCfg w)

/-! ### Validation (check 12 of R49; R53) -/

/-- No two elements are equal. -/
def distinct : List Nat → Bool
  | [] => true
  | a :: r => !(r.contains a) && distinct r

/-- Instances that an object lists. -/
def listed (s : State) (o : Nat) : List (Nat × Nat) := s.regs.filterMap (fun e => if e.1.1 = o then some (e.1.2, e.2) else none)

/-- Division of clusters and enabled ports (R65, R66). -/
def badBifurc (s : State) (l : Tbl Nat) : Bool :=
  l.any (fun e => e.1.1 == Obj.LC_BIFURC && s.reg Obj.LC_BIFURC e.1.2 != e.2 &&
    (List.range 8).any (fun i => s.flag Obj.PORT_ENABLE (8 * e.1.2 + i) ||
      !(s.portState (8 * e.1.2 + i) == 0 || s.portState (8 * e.1.2 + i) == 1)))

/-- A port is enabled that its cluster does not form (R66). -/
def badEnable (c : State) (l : Tbl Nat) : Bool :=
  l.any (fun e => e.1.1 == Obj.PORT_ENABLE && e.2 == 1 && !(c.formed e.1.2))

/-- Privileged lanes (R85). -/
def badPriv (c : State) : Bool :=
  let p := (c.listed Obj.LANE_PRIV).map (·.1)
  decide (32 < p.length) || (List.range 8).any (fun q => decide (4 < (p.filter (fun n => n / 64 == q)).length))

/-- One fabric ID for two uses (R112). -/
def badFids (c : State) : Bool :=
  let own := (List.range 32).map (c.reg Obj.FID_BASE 0 + ·)
  let ids := ((c.listed Obj.PART_FID).map (·.2) ++ (c.listed Obj.LD_FID).map (·.2)).filter (· != 0xFFFF)
  !(distinct ids) || ids.any own.contains

/-- A route entry of a Drudar peer's ID that misses the peer's port (R112). -/
def badPeer (c : State) : Bool :=
  (List.range 256).any (fun p => c.dlUp p && c.drudar p &&
    let e := c.reg Obj.ROUTE_ENTRY (c.reg Obj.DRU_PEER_ID p)
    -- any link to that peer is its own port
    let mine := fun (q : Nat) => c.dlUp q && c.drudar q && c.reg Obj.DRU_PEER_ID q == c.reg Obj.DRU_PEER_ID p
    (rtKind e == 1 && !(mine (rtTarget e % 256))) || (rtKind e == 2 && !((c.hgMembers (rtTarget e)).any mine)))

/-- Route entries (R113, R122). -/
def badRoute (c : State) : Bool :=
  let pbr := fun (p : Nat) => !(c.drudar p) && c.reg Obj.PORT_ROLE p == 2
  let base := c.reg Obj.PBR_FID_BASE 0
  (c.listed Obj.ROUTE_ENTRY).any (fun x =>
    let e := x.2
    let out := !(base ≤ x.1 && x.1 < base + 4096)
    (rtKind e == 1 && (!(c.formed (rtTarget e)) || (out && pbr (rtTarget e)))) ||
    (rtKind e == 2 && (c.reg Obj.HG_COUNT (rtTarget e) == 0 || (out && (c.hgMembers (rtTarget e)).any pbr))))

/-- Hash groups (R116). -/
def badGroup (c : State) : Bool :=
  c.hgUsed.any (fun g => !(distinct (c.hgMembers g)) || (c.hgMembers g).any (fun p => !(c.formed p) || c.reg Obj.PORT_ROLE p != 2))

/-- Partitions (R124). -/
def badPart (c : State) : Bool :=
  let on := (c.listed Obj.PART_ENABLE).map (·.1)
  !(distinct ((on.map (c.reg Obj.PART_HOST_PORT)).filter (· != 0xFFFF))) || on.any (fun n => c.reg Obj.PART_FID n == 0xFFFF)

/-- Logical devices (R125). -/
def badLd (c : State) : Bool :=
  let r := c.ldsKnown.eraseDups.map (fun ld => (c.reg Obj.LD_POOL_BASE ld, c.ldSize ld))
  (c.listed Obj.LD_POOL_BASE).any (fun x => x.2 % mib256 != 0) || r.any (fun x => decide (2 ^ 49 < x.1 + x.2)) ||
  r.zipIdx.any (fun x => (r.drop (x.2 + 1)).any (fun y => meets x.1 y)) ||
  (c.listed Obj.LD_REMOTE_SIZE).any (fun x => c.reg Obj.LD_PORT x.1 != 0xFFFF)

/-- vPPBs (R126). -/
def badVppb (c : State) : Bool :=
  let b := c.listed Obj.VPPB_LD
  b.zipIdx.any (fun x => (b.drop (x.2 + 1)).any (fun y => x.1.2 == y.2 &&
    (!(c.flag Obj.LD_SHARED x.1.2) || x.1.1 / 64 == y.1 / 64)))

/-- Pool ranges of a window. -/
def winRanges (c : State) (w : Nat) : List (Nat × Nat) := (c.winCfg w).ranges (c.winBases (c.winCfg w))

/-- A window that a commit enables (R127); without `sizes`, condition 4 is not asked of an LD that is yet to be enumerated
(R384). -/
def badWin (c : State) (w : Nat) (sizes : Bool) : Bool :=
  let x := c.winCfg w
  let others := c.windows.filter (· != w)
  x.base % mib256 != 0 || x.size % mib256 != 0 || x.size % (x.ways * x.gran) != 0 ||
  others.any (fun v => (c.winCfg v).part == x.part && meets (x.base, x.size) ((c.winCfg v).base, (c.winCfg v).size)) ||
  x.targets.any (fun ld => !(c.partBinds x.part ld) || decide ((if sizes then c.ldSize ld else if c.ldLocal ld then x.dpa + x.size / x.ways else c.reg Obj.LD_REMOTE_SIZE ld) <
      x.dpa + x.size / x.ways) ||
    (c.flag Obj.LD_SHARED ld && !x.shared)) ||
  others.any (fun v => (c.winCfg v).part != x.part && !(x.shared && (c.winCfg v).shared) &&
    (c.winRanges w).any (fun a => (c.winRanges v).any (fun b => meets a b)))

/-- Windows and running moves (R137, R236). -/
def badMove (s c : State) (l : Tbl Nat) : Bool :=
  let run := (List.range 16).filter (fun ch => s.moveLive ch)
  let both := run.flatMap (fun ch => [(s.reg Obj.RDR_SRC (s.moveRdr ch), s.reg Obj.RDR_SIZE (s.moveRdr ch)),
                                      (s.reg Obj.RDR_DST (s.moveRdr ch), s.reg Obj.RDR_SIZE (s.moveRdr ch))])
  let lost := (s.unbound c l).map (fun g => (s.reg Obj.LD_POOL_BASE g.2, s.ldSize g.2))
  let wins := (s.changedWins c).filter (fun w => s.winOn w && (!(c.winOn w) || (s.winCfg w).targets != (c.winCfg w).targets ||
    (s.winCfg w).dpa != (c.winCfg w).dpa))
  let moved := (s.changedWins c).filter (fun w => c.winOn w && ((s.winCfg w).targets != (c.winCfg w).targets ||
    (s.winCfg w).dpa != (c.winCfg w).dpa))
  let old := wins.flatMap s.winRanges ++ moved.flatMap c.winRanges
  let dst := s.redirects.filterMap (fun r => if r.2.2.2.2 = 1 then some (r.2.2.1, r.2.2.2.1) else none)
  both.any (fun b => (lost ++ old).any (meets b)) ||
  ((s.changedWins c).filter c.winOn).any (fun w => (c.winRanges w).any (fun a => dst.any (meets a)))

/-- Class maps (R145). -/
def badClassMap (c : State) (p : Nat) : Bool :=
  let m := fun i => elem (c.reg Obj.CLASS_MAP p) 1 i
  let req := [0, 1, 3, 4, 9].map m
  let rsp := [2, 5, 6, 7, 11].map m
  let snp := [8, 10].map m
  rsp.any (fun k => bit (c.reg Obj.RTT_STOP_MASK 0) k || req.contains k) || snp.any req.contains

/-- Buffer shares (R145, R146, R155, R163). -/
def badBuffer (s c : State) (l : Tbl Nat) : Bool :=
  let rsv := c.reg Obj.BUF_RSV_SYS 0 + c.enabledPorts.foldl (fun a p => a + c.portReserve p) 0
  let ports := (l.filterMap (fun e => if e.1.1 = Obj.CLASS_MAP then some e.1.2 else none)) ++
    (if l.any (fun e => e.1.1 == Obj.RTT_STOP_MASK) then List.range 256 else [])
  ports.any c.badClassMap || decide (393216 < rsv + 65536) || decide (32768 < c.reg Obj.RTT_PORT_MIN 0 * c.enabledPorts.length) ||
  (0 :: (c.listed Obj.Q_MAX).map (·.1)).any (fun p => !(allElems 32 4 (c.reg Obj.Q_MAX p) (fun x => x ≤ c.sharedSize))) ||
  l.any (fun e => (e.1.1 == Obj.IN_GRANT || e.1.1 == Obj.MGMT_GRANT || e.1.1 == Obj.CLASS_MAP) && s.reg e.1.1 e.1.2 != e.2 &&
    s.portState e.1.2 != 1)

/-- Ports whose gate list a stage changes. -/
def gclTouched (s c : State) (l : Tbl Nat) : List Nat :=
  (l.filterMap (fun e =>
    if s.reg e.1.1 e.1.2 = c.reg e.1.1 e.1.2 then none
    else if e.1.1 = Obj.GCL_ENTRY then some (e.1.2 / 128)
    else if e.1.1 = Obj.GCL_ENABLE ∨ e.1.1 = Obj.GCL_BASE_TIME ∨ e.1.1 = Obj.GCL_CYCLE ∨ e.1.1 = Obj.GCL_LEN then some e.1.2 else none)).eraseDups

/-- A gate list (R168). -/
def badGcl (c : State) (p : Nat) : Bool :=
  let n := c.reg Obj.GCL_LEN p
  let es := (List.range n).map (fun k => c.reg Obj.GCL_ENTRY (128 * p + k))
  n == 0 || decide (128 < n) ||
  es.any (fun e => decide (gclInterval e < 64) || decide (1000000000 < gclInterval e) || decide (2 ^ 48 ≤ e)) ||
  es.foldl (fun a e => a + gclInterval e) 0 != c.reg Obj.GCL_CYCLE p ||
  (List.range 8).any (fun k => !(es.any (fun e => bit (gclGates e) k)))

/-- Agents and shared-coherent windows (R186). -/
def badAgents (s c : State) : Bool :=
  let ags := (List.range 64).filter (fun a => c.reg Obj.AGT_KIND a != 0)
  let on := c.windows.filter (fun w => (c.winCfg w).shared)
  let set := ((c.listed Obj.WIN_ATTR).filter (fun x => bit x.2 1)).map (·.1)
  let live := s.windows.filter (fun w => (s.winCfg w).shared)
  ags.any (fun a => ags.any (fun b => decide (a < b) && c.reg Obj.AGT_KIND a == c.reg Obj.AGT_KIND b &&
    c.reg Obj.AGT_REF a == c.reg Obj.AGT_REF b)) ||
  ags.any (fun a => c.reg Obj.AGT_KIND a == 2 && !(c.drudar (c.reg Obj.AGT_REF a) && c.reg Obj.PORT_ROLE (c.reg Obj.AGT_REF a) == 2)) ||
  on.any (fun w =>
    let x := c.winCfg w
    !(ags.any (fun a => c.reg Obj.AGT_KIND a == 1 && c.reg Obj.AGT_REF a == x.part))) ||
  set.any (fun w =>
    let x := c.winCfg w
    x.dpa % mib256 != 0 || x.size % (x.ways * mib256) != 0 || !(distinct x.targets)) ||
  set.any (fun w => set.any (fun v => decide (w < v) && (c.winCfg w).part == (c.winCfg v).part &&
    (c.winRanges w).any (fun a => (c.winRanges v).any (meets a)))) ||
  (List.range 64).any (fun a =>
    (s.reg Obj.AGT_KIND a != c.reg Obj.AGT_KIND a || s.reg Obj.AGT_REF a != c.reg Obj.AGT_REF a) &&
    ((s.reg Obj.AGT_KIND a == 1 && (live.any (fun w => (s.winCfg w).part == s.reg Obj.AGT_REF a) ||
        s.fab.walks.any (fun (k : Walk) => k.cfg.shared && k.cfg.part == s.reg Obj.AGT_REF a))) ||
     (s.reg Obj.AGT_KIND a == 2 && s.portState (s.reg Obj.AGT_REF a) != 1) ||
     (c.reg Obj.AGT_KIND a == 2 && s.portState (c.reg Obj.AGT_REF a) != 1)))

/-- Slot wheels (R197). -/
def badWheel (c : State) : Bool :=
  (List.range 8).any (fun sl =>
    let o := (List.range 64).map (fun j => c.reg Obj.WHEEL_SLOT (64 * sl + j))
    decide ((o.filter (· == 0x22)).length < 2) || (!(o.contains 0x20) && c.enabledPorts.any (fun p => !(o.contains (p / 8)))))

/-- Releases of redirects (R248). -/
def badRelease (c : State) (l : Tbl Nat) : Bool :=
  l.any (fun e => e.1.1 == Obj.RDR_RELEASE && e.2 == 1 && c.reg Obj.RDR_STATE e.1.2 == 2 &&
    c.reachedRanges.any (meets (c.reg Obj.RDR_SRC e.1.2, c.reg Obj.RDR_SIZE e.1.2)))

/-- Slot channels and ports (R291). -/
def badChannels (s c : State) : Bool :=
  !(distinct ((c.listed Obj.CH_PORT).map (·.2))) ||
  (List.range 32).any (fun ch => s.reg Obj.CH_PORT ch != c.reg Obj.CH_PORT ch && (s.slotCh ch).st != .off)

/-- Regions and requester sets (R253, checks 1 and 2). -/
def badRegions (c : State) : Bool :=
  let set := fun v => v < 2 ^ 337
  (c.listed Obj.FL_SLOT).any (fun x => !(set x.2)) || (c.listed Obj.RGN_READ).any (fun x => !(set x.2)) ||
  (c.listed Obj.RGN_WRITE).any (fun x => !(set x.2)) ||
  (c.listed Obj.RGN_ATTR).any (fun x => bit x.2 0 &&
    let size := c.reg Obj.RGN_SIZE x.1
    let base := c.reg Obj.RGN_BASE x.1
    !((List.range 35).any (fun k => size == 8 * 2 ^ (k + 12))) || base % (max 1 (size / 8)) != 0 || decide (2 ^ 49 < base + size)) ||
  c.hgUsed.any (fun g => (c.hgMembers g).any (fun p => c.reg Obj.FL_SLOT p != c.reg Obj.FL_SLOT ((c.hgMembers g).headD 0)))

/-- The enabled sub-regions of a region. -/
def subRegions (c : State) (r : Nat) : List (Nat × Nat) :=
  let n := c.reg Obj.RGN_SIZE r / 8
  ((List.range 8).filter (fun i => !(bit (c.reg Obj.RGN_SUBDIS r) i))).map (fun i => (c.reg Obj.RGN_BASE r + i * n, n))

/-- The two lowest enabled regions that cover a common byte (R253, check 3). -/
def overlap (c : State) : Option (Nat × Nat) :=
  let on := (c.listed Obj.RGN_ATTR).filterMap (fun x => if bit x.2 0 then some x.1 else none)
  (on.flatMap (fun a => on.filterMap (fun b =>
    if a < b ∧ (c.subRegions a).any (fun x => (c.subRegions b).any (meets x)) = true then some (a, b) else none))).head?

/-- The first check between objects that a candidate fails, as an object index (INVALID_CONFIG): each check names the index it is
about. DEDUCED: where the stage holds no value there, the first failing index is that of its first value that the check reads. -/
def configError (s c : State) (l : Tbl Nat) (sizes : Bool) : Option Nat :=
  let on := fun (f : Nat → Bool) => l.any (fun e => f e.1.1)
  let idx := fun (is : List Nat) => l.any (fun e => is.contains (e.1.1 / 256))
  let binds := [0x3300, 0x3400, 0x3500, 0x3600]
  let bind := idx binds
  let wins := ((s.changedWins c) ++ touchedWins l).eraseDups.filter c.winOn
  let route := on (fun o => subjectOf o == some 0)
  let checks : List (Nat × List Nat × Bool) :=
   [(0x2000, [], badBifurc s l), (0x2010, [], badEnable c l), (0x2100, [], on (· == Obj.LANE_PRIV) && c.badPriv),
    (0x3300, [0x3100, 0x3500], (bind || on (· == Obj.FID_BASE)) && c.badFids), (0x3100, [0x3200], route && c.badPeer),
    (0x3100, [0x2000, 0x2010, 0x3200],
      (route || on (fun o => o == Obj.LC_BIFURC || o == Obj.PORT_MODE || o == Obj.PORT_ROLE)) && c.badRoute),
    (0x3200, [0x2000, 0x2010, 0x3100], (route || on (fun o => o == Obj.LC_BIFURC || o == Obj.PORT_ROLE)) && c.badGroup),
    (0x3300, binds, bind && c.badPart), (0x3500, binds, bind && c.badLd), (0x3400, binds, bind && c.badVppb),
    (0x3600, binds, wins.any (fun w => c.badWin w sizes)), (0x3600, binds, bind && badMove s c l),
    (0x3010, [0x2010, 0x3000],
      on (fun o => o == Obj.PORT_ENABLE || o == Obj.PORT_MODE || o / 256 == 0x3000 || o / 256 == 0x3010) && badBuffer s c l),
    (0x4000, [], (gclTouched s c l).any (fun p => (s.flag Obj.GCL_ENABLE p || c.flag Obj.GCL_ENABLE p) && c.badGcl p)),
    (0x5030, 0x2010 :: binds,
      (bind || on (fun o => o == Obj.AGT_KIND || o == Obj.AGT_REF || o == Obj.PORT_MODE || o == Obj.PORT_ROLE)) && badAgents s c),
    (0x5020, [0x2010], on (fun o => o == Obj.WHEEL_SLOT || o == Obj.PORT_ENABLE) && c.badWheel),
    (0x5010, [], s.reg Obj.CAIRN_SLICES 0 != c.reg Obj.CAIRN_SLICES 0 && (s.windows.any (fun w => (s.winCfg w).shared) ||
      s.fab.walks.any (fun (k : Walk) => k.cfg.shared))),
    (0xD200, [], c.badRelease l), (0x7100, [], on (· == Obj.CH_PORT) && badChannels s c),
    (0x6100, [0x3200, 0x6000, 0x6010],
      (idx [0x6000, 0x6010, 0x6100] || on (fun o => o == Obj.HG_COUNT || o == Obj.HG_MEMBERS)) && c.badRegions)]
  (checks.find? (·.2.2)).map (fun k =>
    if idx [k.1] then k.1
    else match l.find? (fun e => k.2.1.contains (e.1.1 / 256)) with
      | some e => e.1.1 / 256
      | none => k.1)

/-- The old epoch of a subject has drained. -/
def drained (s : State) (sub : Nat) : Bool :=
  if sub = 0 then s.routeDrain == 0 else if sub = 1 then s.bindDrain == 0 else s.flDrain == 0

/-- A commit that touches a subject is COMMITTED, or requests are open under its old epoch (R55, R133). -/
def draining (s : State) (sub : Nat) : Bool :=
  s.dict.lops.any (fun e => e.2.kind == 1 && e.2.st == .committed && e.2.subjects.contains sub) || !(s.drained sub)

/-- Free event slots that a stage's commit point needs: one per newly armed gate list and per new lease (R138, R170). -/
def slotsNeeded (s c : State) (l : Tbl Nat) : Nat :=
  ((gclTouched s c l).filter (fun p => c.flag Obj.GCL_ENABLE p && !(s.egr p).pendOn)).length +
  (l.filter (fun e => (e.1.1 == Obj.VPPB_LEASE_END && e.2 != 0) ||
    (e.1.1 == Obj.VPPB_LD && e.2 != 0xFFFF && c.reg Obj.VPPB_LEASE_END e.1.2 != 0))).length

/-- Event slots that are free. -/
def slotsFree (s : State) : Nat := 512 - (s.time.slots.filter (fun e => e.2.kind != 0)).length

/-- The outcome of validating a stage (R53, R54): the abort and the first failing index, or none. `meanwhile` asks for R134,
`sizes` for condition 4 of R127 on every window. -/
def validate (s : State) (l : Tbl Nat) (present : List Nat) (meanwhile sizes : Bool) : Option (Nat × Nat) :=
  let c := s.candidate l
  match configError s c l sizes with
  | some i => some (Ab.INVALID_CONFIG, i)
  | none =>
    if meanwhile && l.any (fun e => e.1.1 == Obj.VPPB_LD && present.contains e.2 && !(s.ldPresent e.2)) then some (Ab.INVALID_CONFIG, 0x3400)
    else if (subjects l).contains 2 && c.overlap.isSome then some (Ab.OVERLAP, 0x6100)
    else if (subjects l).any s.draining then
      some (Ab.EPOCH_DRAINING, ((l.find? (fun e => match subjectOf e.1.1 with
        | some u => s.draining u
        | none => false)).map (fun e => e.1.1 / 256)).getD 0)
    else none

/-! ### Effects at the commit point -/

/-- PORT_ENABLE changes (R75, R82, R89, R105, R159): a port that is enabled may attempt every rate again, and one that is disabled
flushes. DESIGN CHOICE: PORT_FALLBACK keeps the failed rate until another one fails; the spec does not say when it returns to 0. -/
def portEnabled (s : State) (p : Nat) (on : Bool) : State :=
  let x := s.port p
  if on then
    (if x.st = .flushing then s.modPort p (fun y => { y with fails := 0, noRate := 0, spent := false })
     else (s.modPort p (fun y => { y with fails := 0, noRate := 0, spent := false, ladderWaits := s.ladderHalted })).startLadder p)
  else ((s.portDown p 0).modPort p (fun y => { y with fails := 0, spent := false })).lanesDisabled p

/-- PART_STATE follows R124. A change resets the guest counter set (R326); an unbound partition's endpoint ceases to exist (R56). -/
def refreshParts (s : State) : State :=
  foldS (fun n (t : State) =>
    let h := t.reg Obj.PART_HOST_PORT n
    let b := if t.flag Obj.PART_ENABLE n && decide (h < 256) && t.flag Obj.PORT_ENABLE h && t.reg Obj.PORT_ROLE h == 0 then 1 else 0
    if t.reg Obj.PART_STATE n = b then t
    else
      let u := (t.setReg Obj.PART_STATE n b).resetSet n
      if b = 0 then u.endpointGone (257 + n) else u) (List.range 64) s

/-- A commit changes a group: its member count or a member in use (R116, R119). -/
def groupChanged (s c : State) (g : Nat) : Bool := s.hgMembers g != c.hgMembers g

/-- Buckets of a group that a commit changes (R116, R119, R132). -/
def groupCommit (s c : State) (g : Nat) : State :=
  let old := s.reg Obj.HG_BUCKETS g
  let t := c.setReg Obj.HG_BUCKETS g (c.hgAssign g)
  let new := t.reg Obj.HG_BUCKETS g
  let port := fun (u : State) (b k : Nat) => elem (u.reg Obj.HG_MEMBERS g) 1 (elem b 1 k)
  let moved := (List.range 64).filter (fun k => s.reg Obj.HG_COUNT g != 0 && port s old k != port t new k)
  let t1 := foldS (fun k (u : State) => u.noteBucketMove g k) moved t
  if t.reg Obj.HG_COUNT g = 0 then t1 else t1.raise 0x3104 0x31 1 g (g + moved.length * 65536)

/-- A destination whose route entry changes from that of configuration `old` is held for its old messages (R132). -/
def noteRouteMove (s old : State) (fid : Nat) : State :=
  let e := old.reg Obj.ROUTE_ENTRY fid
  let ports := if rtKind e = 2 then (List.range 64).map (fun b =>
      elem (old.reg Obj.HG_MEMBERS (rtTarget e)) 1 (elem (old.reg Obj.HG_BUCKETS (rtTarget e)) 1 b))
    else [rtTarget e % 256]
  let v : Moved := { before := s.fab.uid, ports := ports, drained := 0 }
  { s with fab := { s.fab with moved := s.fab.moved.set none (0, fid) (some v) } }

/-- An unended handle has the slot. -/
def slotInUse (s : State) (k : Nat) : Bool := s.dict.lops.any (fun e => e.2.slot == k && e.2.st.unended)

/-- Free the event slot of a vPPB's lease that has not fired, armed or skipped (R410). -/
def dropLease (s : State) (v : Nat) : State :=
  foldS (fun e (t : State) =>
    if e.2.kind = 2 ∧ e.2.arg % 65536 = v ∧ e.2.state ≠ 3 ∧ t.slotInUse e.1.1 = false then t.dropSlot e.1.1 else t) s.time.slots s

/-- Take the event slot of a vPPB's lease (R138). -/
def takeLease (s : State) (v owner : Nat) : State :=
  let e := s.reg Obj.VPPB_LEASE_END v
  if e = 0 then s
  else match s.takeSlot 2 e 0 0 (v + 65536 * owner) with
    | some (_, t) => t
    | none => s

/-- The vPPB binds an LD (R135): bound, or pending while the LD is absent. -/
def bindVppb (s : State) (v h : Nat) : State :=
  let ld := s.reg Obj.VPPB_LD v
  let here := s.ldPresent ld
  let t := s.setReg Obj.VPPB_STATE v (if here then 2 else 1)
  let u := { t with fab := { t.fab with bindings := t.fab.bindings ++ [{ vppb := v, ld := ld, lop := h, unbind := false, walked := false, since := s.clk }] } }
  if here then u.emit (.hotplug v true) else u

/-- The vPPB unbinds an LD (R136); it stays the partition's until the handle is DONE (R43). -/
def unbindVppb (s : State) (v ld h : Nat) : State :=
  let t := (s.setReg Obj.VPPB_STATE v 3).emit (.hotplug v false)
  { t with fab := { t.fab with
      bindings := t.fab.bindings.filter (fun (b : Binding) => b.vppb != v) ++ [{ vppb := v, ld := ld, lop := h, unbind := true, walked := false, since := s.clk }] } }

/-- A window changes (R136): one that decoded shared-coherent lines retires under a walk of every set. -/
def changeWin (s c : State) (w h : Nat) (gone : List (Nat × Nat)) : State :=
  let old := s.winCfg w
  let on := c.winOn w
  if s.winOn w && old.shared then
    let g := (gone.find? (fun g => g.1 / 64 == old.part && old.targets.contains g.2)).getD (0xFFFF, old.targets.headD 0)
    let k : Walk := { win := w, vppb := g.1, ld := g.2, part := old.part, lop := h, cfg := old, bases := s.winBases old, left := s.allSets, snoops := 0, todo := [] }
    ({ c with fab := { c.fab with walks := c.fab.walks ++ [k] } }).setReg Obj.WIN_STATE w (if on then 1 else 2)
  else c.setReg Obj.WIN_STATE w (if on then 1 else 0)

/-- Effects of one staged object's change of value. -/
def objectCommit (s c : State) (e : Key × Nat) : State :=
  let o := e.1.1
  let i := e.1.2
  if s.reg o i = e.2 then c
  else if o = Obj.PORT_ENABLE then c.portEnabled i (e.2 == 1)
  else if o = Obj.CBS_IDLE_SLOPE then (c.accrue i).shaperSlopes i
  else if o = Obj.TIME_ROLE then c.timeRoleChange
  else if o = Obj.TIME_UPSTREAM ∨ o = Obj.TIME_BACKUP then
    c.setTime { c.time with noFreq := c.time.noFreq || s.timeSource != c.timeSource, srcAt := c.clk }
  else if o = Obj.CH_PORT then
    let p := s.reg Obj.CH_PORT i
    let t := if p < 256 then c.modPort p (fun x => { x with perstReleased := false }) else c
    if e.2 < 256 then t.modPort e.2 (fun x => { x with perstReleased := false }) else t
  else if o = Obj.RTT_STOP_MASK then foldS (fun p (u : State) => u.settleCredits p) ((c.fab.owed.map (fun e => e.1.1)).eraseDups) c
  else if o = Obj.RDR_RELEASE then
    let t := c.setReg Obj.RDR_RELEASE i 0
    if t.reg Obj.RDR_STATE i = 2 then t.releaseRdr i else t
  else c

/-- The gate list of a port changes (R170, R171). -/
def gclChange (s : State) (p : Nat) : State :=
  if s.flag Obj.GCL_ENABLE p then (s.gclCommit p).getD s else s.gclOff p

/-- Keep the old access-control values for requests of the old epoch (R264). -/
def keepOldAcl (s : State) (l : Tbl Nat) : Tbl (Option Nat) :=
  l.foldl (fun (m : Tbl (Option Nat)) e =>
    if subjectOf e.1.1 = some 2 then m.set none e.1 (some (s.reg e.1.1 e.1.2)) else m) []

/-- The active values of P-flagged objects that differ from their defaults (R370). -/
def profValues (s : State) : Tbl Nat := s.regs.filter (fun e => match objRow e.1.1 with
  | some r => r.prof
  | none => false)

/-- A change of a P-flagged object while a store captures the configuration is remembered (R376). -/
def profWatch (s t : State) : State :=
  if t.prof.step = .capture ∧ s.profValues ≠ t.profValues then { t with prof := { t.prof with changed := true } } else t

/-- The windows of a partition as the HDM decoders of its upstream vPPB (R121). -/
def hdmDecoders (s : State) (n : Nat) : List (Nat × Nat × Nat × Nat) :=
  ((s.windows.map s.winCfg).filter (fun w => w.part == n)).map (fun w => (w.base, w.size, w.ways, w.gran))

/-- The commit point (R54, R130): every value in one cycle, the epochs of the touched subjects, and what follows for each. -/
def applyStage (s : State) (h : Nat) (l : Tbl Nat) : State :=
  let c0 := s.candidate l
  let subs := subjects l
  let owner := (s.lop h).owner
  let gone := s.unbound c0 l
  let c1 := if subs.contains 2 then
      ({ c0 with fab := { c0.fab with flOld := s.keepOldAcl l } }).setReg Obj.FL_EPOCH 0 ((s.reg Obj.FL_EPOCH 0 + 1) % 2 ^ 32) else c0
  let c2 := if subs.contains 0 then c1.setReg Obj.ROUTE_EPOCH 0 ((s.reg Obj.ROUTE_EPOCH 0 + 1) % 2 ^ 32) else c1
  let c3 := if subs.contains 1 then c2.setReg Obj.BIND_EPOCH 0 ((s.reg Obj.BIND_EPOCH 0 + 1) % 2 ^ 32) else c2
  let c4 := foldS (fun w (t : State) => s.changeWin t w h gone) (s.changedWins c0) c3
  let c5 := foldS (fun g (t : State) => t.unbindVppb g.1 g.2 h) gone c4
  let news := l.filterMap (fun e => if e.1.1 = Obj.VPPB_LD ∧ e.2 ≠ 0xFFFF ∧ s.reg Obj.VPPB_LD e.1.2 ≠ e.2 then some e.1.2 else none)
  let c6 := foldS (fun v (t : State) => t.bindVppb v h) news c5
  let leases := (l.filterMap (fun e => if e.1.1 = Obj.VPPB_LEASE_END ∨ e.1.1 = Obj.VPPB_LD then some e.1.2 else none)).eraseDups
  let taken := l.filterMap (fun e => if e.1.1 = Obj.VPPB_LEASE_END ∨ (e.1.1 = Obj.VPPB_LD ∧ e.2 ≠ 0xFFFF) then some e.1.2 else none)
  let c7 := foldS (fun v (t : State) => if taken.contains v then (t.dropLease v).takeLease v owner else t.dropLease v) leases c6
  let c8 := foldS (fun e (t : State) => if e.1.1 = Obj.ROUTE_ENTRY ∧ s.reg Obj.ROUTE_ENTRY e.1.2 ≠ e.2 ∧ rtKind (s.reg Obj.ROUTE_ENTRY e.1.2) ≠ 0
    then t.noteRouteMove s e.1.2 else t) l c7
  let groups := ((l.filterMap (fun e => if e.1.1 = Obj.HG_COUNT ∨ e.1.1 = Obj.HG_MEMBERS then some e.1.2 else none)).eraseDups).filter
    (fun g => s.groupChanged c0 g)
  let c9 := foldS (fun g (t : State) => s.groupCommit t g) groups c8
  let c10 := foldS (fun e (t : State) => s.objectCommit t e) l c9
  let c11 := foldS (fun p (t : State) => t.gclChange p) (gclTouched s c0 l) c10
  let c12 := c11.refreshParts.noteMoved
  s.profWatch (foldS (fun n (t : State) => t.emit (.decoders n (t.hdmDecoders n)))
    (((s.changedWins c0).flatMap (fun w => [(s.winCfg w).part, (c0.winCfg w).part])).eraseDups.filter c12.bound) c12)

/-- A commit reaches its commit point with handle `h` and stage `n` (R413): it ends at once where it touches no subject. -/
def commitStage (s : State) (n h : Nat) : State :=
  let x := s.stage n
  let t := s.applyStage h x.entries
  let u := ((t.setStage n { t.stage n with st := .committing }).commitLop h).modLop h (fun l => { l with subjects := subjects x.entries })
  if (subjects x.entries).isEmpty then u.endLop h .done 0 else u

/-- STAGE_COMMIT (R53, R54): the abort, or the state and the handle. A refused commit leaves the stage open; an overlap is
shown in FL_OVERLAP (R253). -/
def stageCommit (s : State) (n time : Nat) : State × (Nat × Nat) :=
  let x := s.stage n
  let c := s.candidate x.entries
  if s.freeLop = none ∨ s.slotsFree < s.slotsNeeded c x.entries + (if time = 0 then 0 else 1) then (s, (Ab.BUSY, 0))
  else match s.validate x.entries [] false true with
    | some (a, _) =>
      ((match (if a = Ab.OVERLAP then c.overlap else none) with
        | some o => s.setReg Obj.FL_OVERLAP 0 (o.1 + 65536 * o.2)
        | none => s), (a, 0))
    | none => match s.takeLop 1 x.owner n with
      | none => (s, (Ab.BUSY, 0))
      | some (h, t) =>
        let pres := x.entries.filterMap (fun e => if e.1.1 = Obj.VPPB_LD ∧ s.ldPresent e.2 = true then some e.2 else none)
        let t1 := t.setStage n { x with st := .sealed, lop := h, present := pres }
        if time = 0 then (if (t1.lop h).st = .queued then t1 else t1.commitStage n h, (0, h))
        else match t1.takeSlot 1 time 0 0 n with
          | none => (s, (Ab.BUSY, 0))
          | some (k, t2) => ((t2.modLop h (fun l => { l with slot := k })).setStage n { x with st := .sealed, lop := h, present := pres, slot := k }, (0, h))

/-- The event of a scheduled commit (R54): validated again, applied or failed. A slot that is armed again after its commit
point finds nothing to apply (R39). -/
def commitEvent (s : State) (n : Nat) : State :=
  let x := s.stage n
  let c := s.candidate x.entries
  let bad := if s.slotsFree < s.slotsNeeded c x.entries then some (Ab.BUSY, 0) else s.validate x.entries x.present true true
  if x.st ≠ .sealed then s
  else match bad with
  | none => s.commitStage n x.lop
  | some (a, i) =>
    let o := match (if a = Ab.OVERLAP then c.overlap else none) with
      | some o => s.setReg Obj.FL_OVERLAP 0 (o.1 + 65536 * o.2)
      | none => s
    (o.raise 0x1002 0x10 3 x.lop (x.lop + 65536 * a + 2 ^ 48 * i)).endLop x.lop .failed a

/-- Commits that waited for the Ridge core of their tables (R13) are carried out. -/
def takeUpCommits (s : State) : State :=
  foldS (fun i (t : State) =>
    let x := t.stage (i + 1)
    if x.st = .sealed ∧ x.slot = 512 ∧ (t.lop x.lop).st = .running then t.commitEvent (i + 1) else t) (List.range 16) s

/-- A lease ends (R138): an unbind of the vPPB and of every window of its partition that targets the LD, as a long operation of
kind 1 owned by the committer; it waits while BIND drains or no handle is free. A missed lease raises LEASE_EXPIRED. -/
def leaseEvent (s : State) (k : Nat) (missed : Bool) : State :=
  let x := s.slot k
  let v := x.arg % 65536
  if s.reg Obj.VPPB_LD v = 0xFFFF then (s.setSlot k { x with state := 3 }).rearm k
  else if s.draining 1 = true ∨ s.freeLop = none then s
  else match s.takeLop 1 (x.arg / 65536) 0 with
    | none => s
    | some (h, t) =>
      let l : Tbl Nat := [((Obj.VPPB_LD, v), 0xFFFF)]
      let t1 := ((t.setSlot k { x with state := 3 }).rearm k).modLop h (fun l => { l with slot := k })
      let t2 := (t1.applyStage h l).commitLop h
      let t3 := t2.modLop h (fun y => { y with subjects := [1] })
      if missed then t3.raise 0x3107 0x31 2 v (v + 65536 * h) else t3

/-! ### Drains and the end of a commit (R55, R133, R135, R136) -/

/-- The bindings of a handle are done: BIND_DONE, UNBIND_DONE (R135, R136). -/
def bindingDone (s : State) (b : Binding) : State :=
  if b.unbind then
    let t := s.raise 0x3102 0x31 1 b.vppb (b.vppb + 65536 * b.ld + 2 ^ 32 * b.lop + (if b.walked then 2 ^ 48 else 0))
    if t.reg Obj.VPPB_STATE b.vppb = 3 then t.setReg Obj.VPPB_STATE b.vppb 0 else t
  else if s.reg Obj.VPPB_STATE b.vppb = 2 then s.raise 0x3101 0x31 1 b.vppb (b.vppb + 65536 * b.ld + 2 ^ 32 * b.lop) else s

/-- EPOCH_DRAIN_END (R55, R264): every old epoch of the handle's subjects has drained, and its walks have ended. An LD that is no
longer bound takes the size that its device now reports (R125). -/
def drainEnd (s : State) (h : Nat) : State :=
  let x := s.lop h
  if x.kind ≠ 1 ∨ x.st ≠ .committed ∨ x.subjects.all s.drained = false ∨ s.fab.walks.any (fun (k : Walk) => k.lop == h) = true then s
  else
    let mine := s.fab.bindings.filter (fun (b : Binding) => b.lop == h)
    let t := foldS (fun b (u : State) => u.bindingDone b) mine s
    -- a binding that still waits for its LD keeps its entry
    let rest := t.fab.bindings.filter (fun (b : Binding) => b.lop != h || (!b.unbind && t.reg Obj.VPPB_STATE b.vppb == 1))
    let u := { t with fab := { t.fab with bindings := rest.map (fun (b : Binding) => if b.lop = h then { b with lop := 0xFFFF } else b)
                                          flOld := if x.subjects.contains 2 then [] else t.fab.flOld } }
    let v := foldS (fun b (w : State) => if b.unbind ∧ w.ldLocal b.ld = true ∧ (w.ldHolders b.ld).isEmpty = true
      then w.setReg Obj.LD_SIZE b.ld ((w.ldReported b.ld).getD 0) else w) mine u
    v.endLop h .done 0

/-- UNBIND_WALK_END (R136): the walk of window `w` has visited every set and its back-invalidates are answered. -/
def walkEnd (s : State) (w : Nat) : State :=
  match s.fab.walks.find? (fun (k : Walk) => k.win == w) with
  | none => s
  | some k =>
    if k.left.all (· == 0) = false ∨ k.todo ≠ [] ∨ k.snoops ≠ 0 then s
    else
      let mark := fun (b : Binding) => if b.lop = k.lop ∧ b.unbind = true ∧ b.vppb / 64 = k.part then { b with walked := true } else b
      let t := { s with fab := { s.fab with walks := s.fab.walks.filter (fun (x : Walk) => x.win != w), bindings := s.fab.bindings.map mark } }
      if t.reg Obj.WIN_STATE w = 2 then t.setReg Obj.WIN_STATE w 0 else t

/-- PENDING_BIND_EFFECT (R135): a binding pending link takes effect with an epoch of BIND once its LD is present and no commit
on BIND drains; Ridge core 2 carries it out (R13). -/
def pendingBind (s : State) (v : Nat) : State :=
  if s.reg Obj.VPPB_STATE v = 1 ∧ s.ldPresent (s.reg Obj.VPPB_LD v) = true ∧ s.draining 1 = false ∧ s.coreRuns 2 = true then
    let t := ((s.setReg Obj.VPPB_STATE v 2).setReg Obj.BIND_EPOCH 0 ((s.reg Obj.BIND_EPOCH 0 + 1) % 2 ^ 32)).emit (.hotplug v true)
    match t.fab.bindings.find? (fun (b : Binding) => b.vppb == v && !b.unbind) with
    | some b =>
      if b.lop = 0xFFFF then
        ({ t with fab := { t.fab with bindings := t.fab.bindings.filter (fun (x : Binding) => x.vppb != v) } }).raise 0x3101 0x31 1 v
          (v + 65536 * b.ld + 2 ^ 32 * 0xFFFF)
      else t
    | none => t
  else s

/-! ### Aborts (R58, R59) -/

/-- Undo of an aborted handle begins; for kinds that nothing else has to undo it ends at once. The abort prevails only before
the commit point. -/
def abortLop (s : State) (h : Nat) : State :=
  let x := s.lop h
  let t := s.setLop h { x with st := .aborting }
  match x.kind with
  | 2 => t.moveAbort x.arg
  | 3 => t
  | 5 => ((t.endLop h .aborted Ab.ABORTED).setReg Obj.TALUS_STATE 0 0).setTalus
      { (t.endLop h .aborted Ab.ABORTED).talus with plan := none, lop := 64 }
  | 6 => if t.pm.lop = h ∧ t.pm.step ≠ .idle then t.pmFail 255 0xFFFF else t.endLop h .aborted Ab.ABORTED
  | _ => t.endLop h .aborted Ab.ABORTED

/-- The commit-point cycle of a scheduled commit has come, whether or not it has been carried out (R37, R58). -/
def commitDue (s : State) (h : Nat) : Bool :=
  let x := s.slot (s.lop h).slot
  (s.lop h).kind == 1 && decide ((s.lop h).slot < 512) && x.kind == 1 && decide (x.time ≤ s.now)

/-- LOP_ABORT by an endpoint (R58, R59): the abort code and the state. DESIGN CHOICE: a number that is no handle's, 64 or more, is
answered as a FREE handle is. -/
def lopAbort (s : State) (ep h : Nat) : Nat × State :=
  let x := s.lop h
  let fm := 1 ≤ ep ∧ ep ≤ 256
  if 64 ≤ h ∨ x.st = .free then (Ab.HANDLE_ABSENT, s)
  else if ep ≠ 0 ∧ x.owner ≠ ep ∧ ¬(x.owner = 0xFFFF ∧ fm) then
    (if 257 ≤ ep ∧ ep < 321 then Ab.HANDLE_ABSENT else Ab.ACCESS_DENIED, s)
  else match x.st with
    | .queued => (0, s.abortLop h)
    | .running => if s.commitDue h then (Ab.TOO_LATE, s) else (0, s.abortLop h)
    | .committed => (Ab.TOO_LATE, s)
    | .done => (Ab.TOO_LATE, s)
    | _ => (0, s)

end State

/-! ### Commands -/

/-- EPOCH_DRAIN_END (R55). -/
def execEpochDrainEnd (h : Nat) (s : State) := onUnit h 64 s (fun t => t.drainEnd h)

/-- UNBIND_WALK_END (R136). -/
def execUnbindWalkEnd (w : Nat) (s : State) := onUnit w 4096 s (fun t => t.walkEnd w)

/-- PENDING_BIND_EFFECT (R17, R135). -/
def execPendingBindEffect (v : Nat) (s : State) := onUnit v 4096 s (fun t => t.pendingBind v)

/-- STAGE_IDLE_DISCARD (R56): 600 s without a write of its owner. -/
def execStageIdleDiscard (st : Nat) (s : State) := steady s (fun t =>
  if 1 ≤ st ∧ st ≤ 16 ∧ (t.stage st).st = .opened ∧ t.after (t.stage st).touched 600000000000 = true then t.discardStage st 0 else t)

/-- LOP_EXPIRE (*Long-operation state machine*): 60 s after its end a handle is free. -/
def execLopExpire (h : Nat) (s : State) := onUnit h 64 s (fun t =>
  let x := t.lop h
  if (x.st = .done ∨ x.st = .aborted ∨ x.st = .failed) ∧ t.after x.ended 60000000000 = true then t.setLop h lopDflt else t)

/-- HOST_CONFIG_WRITE (R121): bus numbers and memory windows of a vPPB are taken; writes to the reported HDM decoders are
ignored. -/
def execHostConfigWrite (p k : Nat) (reg : VppbReg) (value : Nat) (s : State) := onUnit p 256 s (fun t =>
  match t.hostPart p with
  | none => t
  | some n =>
    if 64 ≤ k then t
    else match reg with
      | .busNumbers => { t with fab := { t.fab with vppbBus := t.fab.vppbBus.set 0 (64 * n + k, 0) value } }
      | .memoryWindow => { t with fab := { t.fab with vppbBus := t.fab.vppbBus.set 0 (64 * n + k, 1) value } }
      | .hdmDecoder => t)

end Sys2Proof.Machine
end

