-- ==== Sys2Proof/Machine/Sched.lean ====
section
/-!
DEFINITION. Scheduled events (R37 to R39, R410): firing, missed events, and the moment of traffic-ready, which takes them up
(R301).
-/

namespace Sys2Proof.Machine

namespace State

/-- The order of events due together: kind, then slot (R37). -/
def slotBefore (a b : Nat × Slot) : Bool := a.2.kind < b.2.kind || (a.2.kind == b.2.kind && a.1 < b.1)

/-- When a due event was due: its cycle, or this one where its time was written late. -/
def dueAt (s : State) (x : Slot) : Nat := if x.due = 0 then s.clk + 1 else x.due

/-- The order in which due events fire: by the cycle in which each was due, then kind and slot (R37). -/
def dueBefore (s : State) (a b : Nat × Slot) : Bool :=
  s.dueAt a.2 < s.dueAt b.2 || (s.dueAt a.2 == s.dueAt b.2 && slotBefore a b)

/-- The order of missed events: time, then kind and slot (R38). -/
def missedBefore (a b : Nat × Slot) : Bool := a.2.time < b.2.time || (a.2.time == b.2.time && slotBefore a b)

/-- The first of a list under an order. -/
def leastBy (lt : (Nat × Slot) → (Nat × Slot) → Bool) : List (Nat × Slot) → Option (Nat × Slot)
  | [] => none
  | h :: r => match leastBy lt r with
    | none => some h
    | some x => if lt x h then some x else some h

/-- Armed slots whose time has come. -/
def dueSlots (s : State) : List (Nat × Slot) :=
  s.time.slots.filterMap (fun e => if e.2.state = 1 ∧ e.2.kind ≠ 0 ∧ e.2.time ≤ s.now then some (e.1.1, e.2) else none)

/-- The event can be taken up now: a commit waits for its handle's resources (R57), a lease while BIND drains or no handle is free
(R138), a firmware event for its Ridge core (R13), and a margin window that is to run once for the one that runs (R357). -/
def mayFire (s : State) (x : Slot) : Bool :=
  match x.kind with
  | 1 => (s.lop (s.stage x.arg).lop).st != .queued
  | 2 => !(s.draining 1) && s.freeLop.isSome
  | 5 => s.coreRuns 3 && (x.policy == 1 || (!s.windowOpen && s.freeLop.isSome))
  | 6 => s.coreRuns 0
  | _ => true

/-- Fire a hardware event (R37): a staged commit, a lease, a cut-over, a gate-list swap. A periodic slot is armed again (R39). -/
def fireSlot (s : State) (k : Nat) : State :=
  let x := s.slot k
  match x.kind with
  | 1 => ((s.setSlot k { x with state := 3 }).rearm k).commitEvent x.arg
  | 2 => s.leaseEvent k false
  | 3 => ((s.setSlot k { x with state := 3 }).rearm k).moveEvent x.arg
  | 4 => (s.gclSwap x.arg).dropSlot k
  | _ => s

/-- A Ridge core takes up a firmware event (R37, R355, R294): a margin window, which the refusal of its start turns into a
missed occurrence under SKIP_REPORT, or a power-mode entry. -/
def startSlot (s : State) (k : Nat) : State :=
  let x := s.slot k
  match x.kind with
  | 5 => match s.startWindow 0xFFFF true with
    | some (_, t) => (t.setSlot k { x with state := 3 }).rearm k
    | none => if x.policy = 1 then s.missSlot k 1 else s
  | 6 => ((s.setSlot k { x with state := 3 }).rearm k).pmEvent x.arg
  | _ => s

/-- Occurrences of a slot that the counter has passed. -/
def occurrences (s : State) (x : Slot) : Nat := if x.period = 0 then 1 else (s.now - x.time) / (x.period * 65536) + 1

/-- One missed event, by its policy (R38, R138, R172): RUN_ONCE fires it once, and a firmware event stays due for its core. One whose
slot an earlier missed event has freed or armed anew is no longer there. -/
def missedOne (s : State) (e : Nat × Slot) : State :=
  let x := e.2
  if (s.slot e.1).kind ≠ x.kind ∨ (s.slot e.1).state ≠ 1 ∨ (s.slot e.1).time ≠ x.time then s
  else match x.policy with
  | 0 =>
    if x.kind = 2 then
      -- LEASE_EXPIRED at the wake, also of a lease whose unbind must wait
      (if s.mayFire x then s.leaseEvent e.1 true else s.raise 0x3107 0x31 2 (x.arg % 65536) (x.arg % 65536 + 65536 * 0xFFFF))
    else if x.kind < 5 ∧ s.mayFire x = true then s.fireSlot e.1 else s
  | 1 =>
    let t := s.missSlot e.1 (s.occurrences x)
    if x.kind = 2 then t.raise 0x3107 0x31 2 (x.arg % 65536) (x.arg % 65536 + 65536 * 0xFFFF + 2 ^ 32) else t
  | _ => s.gclArm x.arg true

/-- A list in the order of the events' times. -/
def insertMissed (x : Nat × Slot) : List (Nat × Slot) → List (Nat × Slot)
  | [] => [x]
  | h :: r => if missedBefore x h then x :: h :: r else h :: insertMissed x r

/-- The events that a sleep or a forward step from time `from_` has passed, in order of their times (R38). -/
def missedEvents (s : State) (from_ : Nat) : State :=
  foldS (fun e t => t.missedOne e) ((s.dueSlots.filter (fun e => from_ ≤ e.2.time)).foldl (fun a x => insertMissed x a) []) s

/-- A wake has come to traffic-ready: the clocks run, every block is on, the memories are trained (R301). -/
def readyAgain (s : State) : Bool := s.pm.waking && s.pm.ramp.isEmpty && s.pm.pll && s.pm.hbm

/-- Traffic-ready (R301): the mode of entry, the counter, the credits and the links come back, missed events are handled, and
the mode's entry is reported. -/
def trafficReady (s : State) : State :=
  if s.readyAgain = false then s
  else
    let old := s.mode
    let sent := old == .sentinel
    let s0 := { s with mode := s.pm.prev }
    let s1 := s0.setPm { s0.pm with waking := false, readyAt := s0.clk, wdFrom := s0.clk + 2000000000 * nsUnit }
    let s2 := (((s1.timeWake sent).setReg Obj.PM_WAKE_US 0 (min (s.usSince s.pm.wakeAt) 0xFFFF_FFFF)).setReg Obj.PM_PREV_MODE 0 old.num).resumeCredits
    let s3 :=
      if sent then foldS (fun p (t : State) =>
          if (t.port p).spent then t
          else (t.modPort p (fun x => { x with fails := 0, ladderWaits := false })).startLadder p) s2.enabledPorts s2
      else foldS (fun p (t : State) => if (t.port p).st = .l1 ∧ t.drudar p = false then t.leaveL1 p else t) (List.range 256) s2
    ((s3.acceptLate.missedEvents 0).sampleAllInts).wakeMoves.dmRelease.regroup

end State

/-! ### Commands -/

/-- SCHED_FIRE (R37): the first hardware event that is due fires. -/
def execSchedFire (s : State) := steady s (fun t =>
  if t.ridgeClock = false then t
  else match State.leastBy t.dueBefore (t.dueSlots.filter (fun e => e.2.kind < 5 && t.mayFire e.2)) with
    | some e => t.fireSlot e.1
    | none => t)

/-- FIRMWARE_EVENT_START (R37): the first firmware event that is due is started. -/
def execFirmwareEventStart (s : State) := steady s (fun t =>
  if t.ridgeClock = false then t
  else match State.leastBy t.dueBefore (t.dueSlots.filter (fun e => 5 ≤ e.2.kind && t.mayFire e.2)) with
    | some e => t.startSlot e.1
    | none => t)

/-- WAKE_TRAFFIC_READY (R301, R38). -/
def execWakeTrafficReady (s : State) := modal (if s.readyAgain then s.pm.prev else s.mode) s (fun t => t.trafficReady)

end Sys2Proof.Machine
end

