-- ==== Sys2Proof/Machine/Values.lean ====
section
/-!
DEFINITION. The ranges of objects that depend on more than one number (check 10 of R49): ranges of a special form, and the
relations of R290. Both a write and a profile are held to them.
-/

namespace Sys2Proof.Machine

namespace State

/-- A code that a counter of set `k` may select (R329). -/
def cntEvtOk (k v : Nat) : Bool := v == 0 || cntAttributed.contains v || (k == 64 && cntUnattributed.contains v)

/-- The value lies in the range of an object whose range has a special form; true of every other object. -/
def specialOk (s : State) (o i v : Nat) : Bool :=
  if o = Obj.ROUTE_ENTRY then rtKind v != 3 && v < 4096 && (rtKind v != 1 || rtTarget v < 256)
  else if o = Obj.RGN_SIZE then (List.range 35).any (fun k => v == 8 * 2 ^ (k + 12))
  else if o = Obj.CNT_EVT then cntEvtOk (i / 8) v
  else if o = Obj.CNT_PORT then i / 8 == 64 || v == 0xFFFF || v == s.reg Obj.PART_HOST_PORT (i / 8)
  else if o = Obj.DBG_DROP then v < s.reg Obj.DBG_LEVEL 0
  else if o = Obj.DM_LEN then 4 ≤ v && v ≤ 512 && v % 4 == 0
  else if o = Obj.TALUS_RDS_CRIT then s.reg Obj.TALUS_RDS_WARN 0 < v && v ≤ 500
  else true

/-- The value is one that the object's row admits. -/
def valueOk (s : State) (r : ObjRow) (i v : Nat) : Bool := inRange r v && s.specialOk r.id i v

/-- A write of a threshold keeps the relations of R290. -/
def relationsOk (s : State) (o i v : Nat) : Bool :=
  match thresholdCh o i with
  | some c => (s.setReg o i v).thresholdsOk c
  | none => true

end State

end Sys2Proof.Machine
end

