-- ==== Sys2Proof/Machine/Profile.lean ====
section
/-!
DEFINITION. Stored profiles (R370 to R377): banks and records in flash, what makes a bank valid, and the steps of a store.
-/

namespace Sys2Proof.Machine

/-- MAGIC of a bank. -/
abbrev bankMagic : Nat := 0x47545046

/-- The most record bytes that a bank holds. -/
abbrev maxRecords : Nat := 2097024

/-- DICT_VERSION of the running firmware. -/
abbrev dictVersion : Nat := 0x0100

/-- A record (*Profile record*). -/
def recBytes (e : Key × Nat) : List Byte :=
  match objRow e.1.1 with
  | some r =>
    let v := putVal r.ty (valOf e.2)
    toBytes 2 (e.1.1 / 256) ++ toBytes 1 (e.1.1 % 256) ++ [0] ++ toBytes 2 e.1.2 ++ toBytes 2 v.length ++ v ++
      List.replicate ((4 - v.length % 4) % 4) 0
  | none => []

/-- The records that bytes hold: object, instance, value bytes; `none` where the last one is cut short. -/
def takeRecs : Nat → List Byte → Option (List (Key × List Byte))
  | 0, b => if b.isEmpty then some [] else none
  | n + 1, b =>
    if b.isEmpty then some []
    else
      let len := ofBytes ((b.drop 6).take 2)
      let total := 8 + (len + 3) / 4 * 4
      if b.length < total then none
      else match takeRecs n (b.drop total) with
        | some l => some (((ofBytes (b.take 2) * 256 + ofBytes ((b.drop 2).take 1), ofBytes ((b.drop 4).take 2)), (b.drop 8).take len) :: l)
        | none => none

/-- The value of a record, or the abort that refuses it (R373, R376): no such object or instance, no P flag, a length unlike
the type's. -/
def recValue (x : Key × List Byte) : Except Nat (Key × Nat) :=
  match objRow x.1.1 with
  | none => .error Ab.OBJ_ABSENT
  | some r =>
    if x.1.2 < r.lo ∨ r.lo + r.cnt ≤ x.1.2 then .error Ab.OBJ_ABSENT
    else if r.prof = false then .error Ab.ACCESS_DENIED
    else match takeVal r.ty x.2 with
      | some (v, []) => .ok (x.1, v.num)
      | _ => .error Ab.TYPE_MISMATCH

/-- Header bytes 0 to 79 of a bank (*Profile bank header*). -/
def bankHeader (b : Bank) : List Byte :=
  toBytes 4 b.magic ++ toBytes 2 b.format ++ toBytes 1 b.profile ++ toBytes 1 b.source ++ toBytes 4 b.bytes.length ++
  toBytes 4 b.records ++ toBytes 10 b.created ++ toBytes 6 0 ++ toBytes 48 b.hash

/-- The CRC of a bank (R372). -/
def bankCrc (b : Bank) : Nat := crc32 (bankHeader b ++ b.bytes)

/-- Everything of R373 but SEQ. -/
def bankSound (p : Nat) (b : Bank) : Bool :=
  b.magic == bankMagic && b.profile == p && b.format / 256 == dictVersion / 256 && b.crc == bankCrc b

/-- The bank is valid (R373). -/
def bankValid (p : Nat) (b : Bank) : Bool := bankSound p b && (b.seq ^^^ b.seqInv) == 0xFFFF_FFFF

namespace State

def setProf (s : State) (x : ProfSt) : State := { s with prof := x }

/-- A bank of a profile, if it is valid. -/
def validBank (s : State) (p k : Nat) : Option Bank := (s.prof.banks.get none (p, k)).filter (bankValid p)

/-- The valid banks of a profile, newest first, with their numbers (R373). -/
def banksOf (s : State) (p : Nat) : List (Nat × Bank) :=
  match s.validBank p 0, s.validBank p 1 with
  | some a, some b => if a.seq < b.seq then [(1, b), (0, a)] else [(0, a), (1, b)]
  | some a, none => [(0, a)]
  | none, some b => [(1, b)]
  | none, none => []

/-- The bank that a store writes: not the newest, or 0 when the profile is empty (R375). -/
def targetBank (s : State) (p : Nat) : Nat :=
  match s.banksOf p with
  | x :: _ => 1 - x.1
  | [] => 0

/-- A byte of the image buffer; one never written reads 0xFF. -/
def imgField (s : State) (off n : Nat) : Nat := ofBytes ((List.range n).map (fun i => BitVec.ofNat 8 (s.prof.buffer.get 255 (off + i, 0))))

/-- The image in the buffer as a bank without a sequence number. -/
def imgBank (s : State) : Bank :=
  { magic := s.imgField 0 4, format := s.imgField 4 2, profile := s.imgField 6 1, source := s.imgField 7 1, records := s.imgField 12 4
    created := s.imgField 16 10, hash := s.imgField 32 48, crc := s.imgField 80 4, seq := 0xFFFF_FFFF, seqInv := 0xFFFF_FFFF
    bytes := toBytes (min (s.imgField 8 4) maxRecords) (s.imgField 128 (min (s.imgField 8 4) maxRecords)) }

/-- A value of the image is in range (R376). -/
def recInRange (s : State) (e : Key × Nat) : Bool :=
  match objRow e.1.1 with
  | some r => s.valueOk r e.1.2 e.2
  | none => false

/-- The image in the buffer meets cause 4 of R376. -/
def imgBad (s : State) (p : Nat) : Bool :=
  !(bankSound p s.imgBank) ||
  match takeRecs s.imgBank.bytes.length s.imgBank.bytes with
  | none => true
  | some l => l.any (fun x => match recValue x with
    | .error _ => true
    | .ok e => !(s.recInRange e))

/-- The captured configuration as a bank (R375, step 1). -/
def capture (s : State) (p created : Nat) : Bank :=
  let bytes := s.profValues.flatMap recBytes
  let b : Bank := { magic := bankMagic, format := dictVersion, profile := p, source := 0, records := s.profValues.length
                    created := created, hash := Config.sha384 bytes, crc := 0, seq := 0xFFFF_FFFF, seqInv := 0xFFFF_FFFF, bytes := bytes }
  { b with crc := bankCrc b }

/-- A handle of kind 3 that is QUEUED, RUNNING or COMMITTED. -/
def storeBusy (s : State) : Bool := s.dict.lops.any (fun e => e.2.kind == 3 && (e.2.st.live || e.2.st == .committed))

/-- PROF_STORE written with 1 (R375): the abort code, or the state and the handle. -/
def profStore (s : State) (p owner : Nat) : Except Nat (State × Nat) :=
  if s.storeBusy then .error Ab.BUSY
  else match s.takeLop 3 owner (p + 4 * s.reg Obj.PROF_SRC p) with
    | none => .error Ab.BUSY
    | some (h, t) => .ok (t.setProf { t.prof with
        step := .capture, prof := p, target := t.targetBank p, lop := h, cand := none, changed := false }, h)

/-- PROF_CHUNK (R375): the abort code, 0 for stored. -/
def profChunk (s : State) (bytes : List Byte) : Nat × State :=
  let off := s.reg Obj.PROF_CHUNK_OFF 0
  if 2097152 < off + bytes.length then (Ab.RANGE, s)
  else if s.dict.lops.any (fun e => e.2.kind == 3 && e.2.st.live && e.2.arg / 4 == 1) then (Ab.BUSY, s)
  else
    let buf := foldS (fun (e : Byte × Nat) (m : Tbl Nat) => m.set 255 (off + e.2, 0) e.1.toNat) bytes.zipIdx s.prof.buffer
    (0, s.setProf { s.prof with buffer := buf })

/-- The store fails before its commit point (R376). -/
def storeFail (s : State) (cause : Nat) : State :=
  let h := s.prof.lop
  ((s.endLop h .failed Ab.OP_FAILED).modLop h (fun l => { l with cause := cause })).setProf
    { (s.endLop h .failed Ab.OP_FAILED).prof with step := .idle, cand := none }

/-- Set the bank that a store writes. -/
def putBank (s : State) (b : Option Bank) : State :=
  s.setProf { s.prof with banks := s.prof.banks.set none (s.prof.prof, s.prof.target) b }

/-- An aborted store ends (R376): the target bank, once its erase has begun, has no valid SEQ. -/
def storeAbort (s : State) : State :=
  let u := if s.prof.step = .capture then s else s.putBank none
  let t := u.endLop s.prof.lop .aborted Ab.ABORTED
  t.setProf { t.prof with step := .idle, cand := none }

/-- A step of a store ends (R375, R376): `ok` is the outcome of the flash operation. -/
def storeStep (s : State) (ok : Bool) : State :=
  let x := s.prof
  let l := s.lop x.lop
  if x.step ≠ .idle ∧ l.st = .aborting then s.storeAbort
  else match x.step with
    | .idle => s
    | .capture =>
      let b := if l.arg / 4 = 1 then s.imgBank else s.capture x.prof l.start
      if l.arg / 4 = 0 ∧ x.changed = true then s.storeFail 1
      else if maxRecords < (if l.arg / 4 = 1 then s.imgField 8 4 else b.bytes.length) then s.storeFail 2
      else if l.arg / 4 = 1 ∧ s.imgBad x.prof = true then s.storeFail 4
      else s.setProf { x with step := .erase, cand := some b }
    | .erase => if ok then (s.putBank none).setProf { (s.putBank none).prof with step := .program } else (s.putBank none).storeFail 3
    | .program => if ok then (s.putBank x.cand).setProf { (s.putBank x.cand).prof with step := .verify } else s.storeFail 3
    | .verify => if ok then s.setProf { x with step := .commit } else (s.putBank none).storeFail 3
    | .commit => s

/-- SEQ and SEQ_INV are programmed: the commit point (R375, step 5), and the store is DONE. -/
def storeCommit (s : State) : State :=
  let x := s.prof
  if x.step ≠ .commit then s
  else if (s.lop x.lop).st = .aborting then s.storeAbort
  else
    let n := match s.banksOf x.prof with
      | b :: _ => b.2.seq + 1
      | [] => 1
    let t := (s.putBank (x.cand.map (fun (b : Bank) => { b with seq := n, seqInv := 0xFFFF_FFFF - n }))).commitLop x.lop
    let u := t.endLop x.lop .done 0
    u.setProf { u.prof with step := .idle, cand := none }

/-- PROF_SEQ (R373): SEQ of both banks, 0 for an invalid one. -/
def profSeq (s : State) (p : Nat) : Nat :=
  packElems 4 ([0, 1].map (fun k => match s.validBank p k with
    | some b => b.seq
    | none => 0))

/-- PROF_HASH and PROF_CREATED of the newest bank. -/
def profHash (s : State) (p : Nat) : Nat := ((s.banksOf p).head?.map (fun x => x.2.hash)).getD 0
def profCreated (s : State) (p : Nat) : Nat := ((s.banksOf p).head?.map (fun x => x.2.created)).getD 0

end State

/-! ### Commands -/

/-- PROF_FLASH_STEP_DONE (R375, R376): Ridge core 3 runs the store. -/
def execProfFlashStepDone (ok : Bool) (s : State) := steady s (fun t => if t.coreRuns 3 = true ∧ (t.lop t.prof.lop).st ≠ .queued then t.storeStep ok else t)

/-- PROF_STORE_COMMIT (R375). -/
def execProfStoreCommit (s : State) := steady s (fun t => if t.coreRuns 3 then t.storeCommit else t)

end Sys2Proof.Machine
end

