-- ==== Sys2Proof/Machine/Reset.lean ====
section
/-!
DEFINITION. Reset, boot and wedges (R378 to R388, with R336, R338, R335, R245, R260, R365, R368 and R351): what a full reset
keeps, the boot sequence, and the checks for functions that have stopped.
-/

namespace Sys2Proof.Machine

/-- The magic of a burnt lifecycle word. -/
abbrev burnt : Nat := 0xA5C396E1

namespace State

def setRst (s : State) (x : RstSt) : State := { s with rst := x }

/-! ### Full reset (R378 to R381) -/

/-- What a slot-power die keeps of a feed (R270, R289, R381): the gate is off, the die goes on sampling. -/
def keptFeed (x : Feed) : Feed :=
  { feedDflt with vin := x.vin, cur := x.cur, src := x.src, inWin := x.inWin, outT := x.outT, exit := x.exit, insT := x.insT
                  insDone := x.insDone, revLost := x.revLost, offT := if x.gate then 0 else x.offT, energy := x.energy }

/-- What it keeps of a channel (R269, R280, R381): OFF, with the seating timers and a running minimum off-time. -/
def keptCh (x : SlotCh) : SlotCh :=
  { slotChDflt with vout := x.vout, seatLow := x.seatLow, seatHigh := x.seatHigh, seatOk := x.seatOk, offLeft := x.offLeft }

/-- Copy an object instance from another state. -/
def copyReg (t s : State) (o i : Nat) : State := t.setReg o i (s.reg o i)

/-- The objects that R381 keeps: PROFILE_NEXT and LC_PENDING (Tor), the boot pointer and its confirmation, Talus's count of
windows and of records (flash), and the seats and peaks that the slot-power dies hold; CH_CAUSE reads 11 (R380). -/
def keepRegs (t s : State) : State :=
  let t1 := ((((((t.copyReg s Obj.PROFILE_NEXT 0).copyReg s Obj.LC_PENDING 0).copyReg s Obj.FW_BOOT_PTR 0).copyReg s
    Obj.FW_CONFIRMED 0).copyReg s Obj.TALUS_WINDOW_NUM 0).copyReg s Obj.TALUS_HIST_USED 0).copyReg s Obj.SPD_LINK 0
  let t2 := foldS (fun c (u : State) => (((u.setSlotCh c (keptCh (s.slotCh c))).setReg Obj.CH_CAUSE c 11).copyReg s Obj.CH_SEAT c))
    (List.range 32) (t1.copyReg s Obj.SPD_LINK 1)
  foldS (fun f (u : State) => ((u.setFeed f (keptFeed (s.feed f))).copyReg s Obj.FEED_E f).copyReg s Obj.FEED_IPEAK f) (List.range 64) t2

/-- A store cut short by a reset (R375 to R377): a program of SEQ under way ends first for causes 2 to 4; a bank whose erase or
program was under way holds no record. -/
def cutStore (s : State) (cause : Nat) : State :=
  match s.prof.step with
  | .commit => if 2 ≤ cause ∧ cause ≤ 4 then s.storeCommit else s
  | .erase => s.putBank none
  | .program => s.putBank none
  | _ => s

/-- A full reset starts (R378 to R381), with the reset record that Tor writes. -/
def fullReset (s0 : State) (cause core : Nat) : State :=
  let s := s0.cutStore cause
  let r : State := { State.reset with
    pending := s.pending, clk := s.clk, freeCtr := s.freeCtr, out := s.out
    time := { timeReset with refSeen := s.time.refSeen, refHeld := s.time.refHeld, freqClk := s.clk, srcAt := s.clk, edgeClk := s.clk }
    move := { State.reset.move with torRdr := s.move.torRdr, torOk := s.move.torOk, flashRdr := s.move.flashRdr }
    sec := { secReset with fuse := s.sec.fuse, images := s.sec.images, lcHash := s.sec.lcHash, fwAt := s.sec.fwAt
                           fwDogs := s.sec.fwDogs, fwBack := s.sec.fwBack }
    slotp := { State.reset.slotp with link := s.slotp.link }
    pm := { pmReset with avsSet := s.pm.avsSet }
    talus := { State.reset.talus with hist := s.talus.hist, low := s.talus.low, tor := s.talus.tor, flash := s.talus.flash, ring := s.talus.ring }
    prof := { State.reset.prof with banks := s.prof.banks }
    rst := { State.reset.rst with since := s.clk, aon := s.rst.aon } }
  let t := (r.keepRegs s).setReg Obj.RST_CAUSE 0 cause
  ((t.setReg Obj.RST_WDT_CORE 0 core).setReg Obj.RST_COUNT 0 (min (s.reg Obj.RST_COUNT 0 + 1) 0xFFFF_FFFF)).setReg
    Obj.RST_PREV_TIME 0 s.now

/-- RST_N falls, or a supply of cause 6 does: a full reset, and within one the reset lasts from now (R378, R379). DEDUCED: it is the same
reset, with the cause and the count that it has. -/
def resetBy (s : State) (cause : Nat) : State :=
  if s.rst.step = .inReset then s.setRst { s.rst with since := s.clk } else s.fullReset cause 0xFF

/-- What a loss of VDD_AON takes: PROFILE_NEXT and LC_PENDING, Tor's copies of the redirect table and the plan, the reset record,
and the feeds' energy and peak current (R245, R289, R335, R368, R374). -/
def aonLost (s : State) : State :=
  let t := ((((s.setReg Obj.PROFILE_NEXT 0 0xFF).setReg Obj.LC_PENDING 0 0xFF).setReg Obj.RST_COUNT 0 0).setReg Obj.RST_PREV_TIME 0 0).setReg
    Obj.RST_WDT_CORE 0 0xFF
  let t1 := { t with move := { t.move with torRdr := [], torOk := false }, talus := { t.talus with tor := none } }
  foldS (fun f (u : State) => ((u.setFeed f { u.feed f with energy := 0 }).setReg Obj.FEED_E f 0).setReg Obj.FEED_IPEAK f 0) (List.range 64) t1

/-- 10 ms have passed since the stamp `at_` less 1, where there is one. -/
def delayOver (s : State) (at_ : Nat) : Bool := at_ != 0 && s.after (at_ - 1) 10000000

/-- The watchdog of a core runs (R19, R297, R347): not of a halted core, nor while it is suspended. -/
def watched (s : State) (core : Nat) : Bool :=
  !s.mode.sleeps && s.rst.step != .inReset && !(bit (s.reg Obj.RIDGE_HALT 0) core) && s.pm.wdFrom ≤ s.clk

/-- A watchdog reset (R19, R338): three of an image that is not confirmed turn the boot pointer back. -/
def watchdogReset (s : State) (core : Nat) : State :=
  let trial := s.reg Obj.FW_CONFIRMED 0 == 0 && s.sec.fwAt != 0 && !s.sec.fwBack
  let t := if trial then s.setSec { s.sec with fwDogs := s.sec.fwDogs + 1 } else s
  let u := t.fullReset 3 core
  if trial ∧ 3 ≤ u.sec.fwDogs then u.fwTurnBack 4 else u

/-! ### Reset release and image verification (R335, R336, R338, R374) -/

/-- A change that *Lifecycle transitions* lists. -/
def lcListed (old new : Nat) : Bool := (old == 0 && new == 4) || (lcNeeds old new).isSome

/-- Carry out a lifecycle change (*Lifecycle transitions*): the fuses it burns, and what it erases; one that is not listed from the
state in force does nothing. -/
def carryOut (s : State) (target : Nat) : State :=
  let f := s.sec.fuse
  if lcListed s.lcState target = false then s
  else match target with
  | 1 => s.nextFree.setSec { s.sec with fuse := { f with identity := some s.freeVal, provisioned := burnt } }
  | 2 => s.setSec { s.sec with fuse := { f with ownerHash := s.sec.lcHash, secured := burnt } }
  | 3 => (s.setSec { s.sec with fuse := { f with rma := burnt } }).setProf { s.prof with banks := [] }
  | 4 => s.setSec { s.sec with fuse := { f with identity := none, scrapped := burnt } }
  | _ => s

/-- The reset ends (R374, R335): `psel` has PSEL0 in bit 0 and PSEL1 in bit 1. -/
def release (s : State) (psel : Nat) : State :=
  let nx := s.reg Obj.PROFILE_NEXT 0
  let s1 := (s.setReg Obj.PROFILE_PSEL 0 (psel % 4)).setReg Obj.PROFILE_NEXT 0 0xFF
  let lc := s.reg Obj.LC_PENDING 0
  let s2 := if lc = 0xFF then s1 else (s1.carryOut lc).setReg Obj.LC_PENDING 0 0xFF
  s2.setRst { s2.rst with
    step := .rom, relAt := s.clk, chosen := if nx < 4 then nx else psel % 4, byNext := decide (nx < 4)
    lcOld := if lc = 0xFF then 255 else s.lcState }

/-- An image of an area is valid (R336); `crypto` is the verdict on its key, signature and hash. -/
def imageValid (s : State) (a : Nat) (crypto : Bool) : Bool := s.fwHeaderOk a && crypto && decide (s.sec.fuse.svn ≤ s.fwSvn a)

/-- An image runs: 0 and 1 the areas, 2 the recovery flash. -/
def runImage (s : State) (n svn version : Nat) : State :=
  let ptr := s.reg Obj.FW_BOOT_PTR 0
  let t := ((s.setReg Obj.FW_ACTIVE 0 n).setReg Obj.FW_VERSION 0 version).setReg Obj.BOOT_TIMES 0 (s.usSince s.rst.relAt % 2 ^ 32)
  let back := s.sec.fwBack && n == ptr
  let t1 := if back then t.setReg Obj.FW_CONFIRMED 0 1 else t
  let u := (t1.nextFree.setSec { t1.sec with
    alias_ := t1.freeVal, fwBack := t1.sec.fwBack && !back
    fwAt := if n = ptr ∧ t1.reg Obj.FW_CONFIRMED 0 = 0 ∧ t1.sec.fwAt = 0 then t1.clk + 1 else t1.sec.fwAt })
  u.setRst { u.rst with step := .firmware, fwRun := svn * 2 ^ 32 + version, alertLow := false }

/-- Image verification ends (R336): the pointed image, else the other, else the recovery flash; else ALERT_N stays low. -/
def verified (s : State) (cryptoA cryptoB : Bool) (rec_ : Option RecImage) : State :=
  let ptr := s.reg Obj.FW_BOOT_PTR 0
  let crypto := fun (a : Nat) => if a = 0 then cryptoA else cryptoB
  let cause := if s.fwHeaderOk ptr && crypto ptr then 2 else 1
  let other := 1 - ptr
  if s.imageValid ptr (crypto ptr) then s.runImage ptr (s.fwSvn ptr) (s.fwField ptr 4 4)
  else if s.imageValid other (crypto other) then
    (s.runImage other (s.fwSvn other) (s.fwField other 4 4)).raise 0xB002 0xB0 3 0xFFFF (other + 256 * cause)
  else match rec_ with
    | some r =>
      if r.headerOk ∧ r.crypto = true ∧ s.sec.fuse.svn ≤ r.svn then
        (s.runImage 2 r.svn (r.version % 2 ^ 32)).raise 0xB002 0xB0 3 0xFFFF (2 + 256 * cause)
      else s.setRst { s.rst with alertLow := true }
    | none => s.setRst { s.rst with alertLow := true }

/-! ### Profile (R368, R382 to R384) -/

/-- The plan in force at boot (R365, R368): Tor's copy, else the newest record, else the fused first plan. DESIGN CHOICE: LANE_FOM_TARGET is an
object of the profile too, and the plan's target stands for a lane that the profile does not write (R7, R368). -/
def loadPlan (s : State) : State :=
  let copy := match s.talus.tor with
    | some c => some c
    | none => s.talus.flash
  let mv := (copy.map (fun (c : PlanCopy) => c.vcore)).getD Config.vcoreBase
  let t := (s.setReg Obj.PM_VCORE_PLAN 0 mv).setPm { s.pm with avsTarget := mv, avsTries := 1, avsAt := s.clk }
  match copy with
  | none => t
  | some c =>
    let t1 := foldS (fun e (u : State) => u.setReg Obj.PORT_CEILING e.1.1 e.2) c.ceilings t
    let t2 := foldS (fun e (u : State) => u.setReg Obj.LANE_FOM_TARGET e.1.1 e.2) c.targets t1
    let t3 := foldS (fun k (u : State) => u.setReg Obj.HBM_RETIRED k (c.remap.filter (fun e => e.1.1 == k)).length) [0, 1] t2
    t3.setTalus { t3.talus with remap := c.remap }

/-- The redirect table at boot (R245): Tor's copy when its CRC is good, else flash. -/
def loadRedirects (s : State) : State :=
  let l := if s.move.torOk then s.move.torRdr else s.move.flashRdr
  foldS (fun e (u : State) => match e.2 with
    | some r => (((u.setReg Obj.RDR_SRC e.1.1 r.1).setReg Obj.RDR_DST e.1.1 r.2.1).setReg Obj.RDR_SIZE e.1.1 r.2.2).setReg
        Obj.RDR_STATE e.1.1 2
    | none => u) l s

/-- A bank's values, or the abort and the index that refuse it (R373, R383, R290). -/
def bankValues (s : State) (b : Bank) : Except (Nat × Nat) (Tbl Nat) :=
  match takeRecs b.bytes.length b.bytes with
  | none => .error (Ab.TYPE_MISMATCH, 0)
  | some l =>
    match l.findSome? (fun x => match recValue x with
      | .error a => some (a, x.1.1 / 256)
      | .ok _ => none) with
    | some e => .error e
    | none =>
      let v := l.foldl (fun (t : Tbl Nat) x => match recValue x with
        | .ok e => putStaged t e.1 e.2
        | .error _ => t) []
      let c := s.candidate v
      match v.find? (fun e => !(c.recInRange e)) with
      | some e => .error (Ab.RANGE, e.1.1 / 256)
      | none =>
        if (List.range 32).any (fun ch => !(c.thresholdsOk ch)) then .error (Ab.RANGE, 0x7101)
        else match s.validate v [] false false with
          | some e => .error e
          | none => .ok v

/-- A bank is refused (R383, R388). -/
def rejectBank (s : State) (p k : Nat) (e : Nat × Nat) (last : Bool) : State :=
  (s.setReg Obj.PROFILE_RESULT 0 e.1).raise 0x1005 0x10 4 p (k + 256 * e.1 + 2 ^ 40 * e.2 + (if last then 2 ^ 56 else 0))

/-- Choose the bank that applies: the newest that passes (R383). A device in RMA starts with every profile object at its default
(R335). -/
def chooseBank (s : State) (p : Nat) : State :=
  let pass := fun (t : State) (x : Nat × Bank) (v : Tbl Nat) => t.setRst { t.rst with bank := x.1, applied := v, hashApplied := x.2.hash }
  match (if s.lcState = 3 then [] else s.banksOf p) with
  | [] => s
  | [x] => match s.bankValues x.2 with
    | .ok v => pass s x v
    | .error e => s.rejectBank p x.1 e true
  | x :: y :: _ => match s.bankValues x.2 with
    | .ok v => pass s x v
    | .error e => match s.bankValues y.2 with
      | .ok v => pass (s.rejectBank p x.1 e false) y v
      | .error d => (s.rejectBank p x.1 e false).rejectBank p y.1 d true

/-- Steps 5 and 6 of the boot (R382, R384): plan, tables and profile are loaded, and the slot-power objects take effect. -/
def validateProfile (s : State) : State :=
  let t := (s.loadPlan.loadRedirects).chooseBank s.rst.chosen
  let slot := t.rst.applied.filter (fun e => 0x700000 ≤ e.1.1 && e.1.1 < 0x800000)
  let u := foldS (fun c (w : State) => if w.flag Obj.CH_ENABLE c then w.chEnabled c 1 else w) (List.range 32) (t.putAll slot)
  u.setRst { u.rst with step := .validated }

/-- The tags of TAG_INIT, ascending (R260). -/
def initTags (s : State) : List TagFill :=
  (List.range 256).foldl (fun l i =>
    if s.reg Obj.TI_COUNT i = 0 then l else { base := s.reg Obj.TI_BASE i, count := s.reg Obj.TI_COUNT i, value := s.reg Obj.TI_VALUE i } :: l) []

/-- Both stacks are trained (R382, steps 7 to 9): the directory is INVALID, the tags are set, and the ramp of the blocks that the
new mode keeps begins (R303). -/
def hbmTrained (s : State) : State :=
  let c := s.putAll s.rst.applied
  let pm := (c.startRamp ([0, 1, 2, 3, 4, 5, 6] ++ rampBlocks (maskOut 255 c.trimSlices) (maskOut 0xFFFF_FFFF c.trimLC))).pm
  ({ s with pm := pm, fab := { s.fab with tagFills := c.initTags, tagCache := [] },
            coh := { s.coh with dir := [], frames := [] } }).setRst { s.rst with step := .trained }

/-- The margin window's event slot (R355). -/
def takeTalusSlot (s : State) : State :=
  let p := s.reg Obj.TALUS_PERIOD 0
  let f := s.reg Obj.TALUS_FIRST 0
  let first := if f = 0 then s.now + p * 65536 else f
  match s.takeSlot 5 first p 1 0 with
  | some (k, t) => (if first ≤ t.now then t.rearm k else t).setTalus { t.talus with slot := k }
  | none => s

/-- The profile can be applied: the memories are trained and the ramp has ended (R382). -/
def mayApply (s : State) : Bool := s.rst.step == .trained && s.pm.ramp.isEmpty && s.mode == .boot

/-- The mode in which BOOT ends: TRIM where the profile gates a cluster or a slice (R293). -/
def bootMode (s : State) : Mode :=
  let c := s.putAll s.rst.applied
  if c.trimLC != 0 || c.trimSlices != 0 then .trim else .active

/-- The rest of the profile is applied, and BOOT ends in ACTIVE or TRIM (R293, R382, R388). -/
def applyProfile (s : State) : State :=
  let c := s.putAll s.rst.applied
  let trim := s.bootMode == .trim
  let s1 := if trim then (s.setReg Obj.PM_GATED_LC 0 c.trimLC).setReg Obj.PM_GATED_SLICES 0 c.trimSlices else s
  let s2 := { s1 with mode := s.bootMode }
  let s3 := s2.applyStage 0xFFFF s.rst.applied
  let s4 := ((s3.setReg Obj.ROUTE_EPOCH 0 0).setReg Obj.BIND_EPOCH 0 0).setReg Obj.FL_EPOCH 0 0
  let keep := s4.fab.bindings.filter (fun (b : Binding) => s4.reg Obj.VPPB_STATE b.vppb == 1)
  let s5 := ({ s4 with fab := { s4.fab with flOld := [], bindings := keep } }).takeTalusSlot
  let none_ := s.rst.bank = 255
  let p := if none_ then 0xFF else s.rst.chosen
  let seq := if none_ then 0 else ((s.prof.banks.get none (s.rst.chosen, s.rst.bank)).map (fun (b : Bank) => b.seq)).getD 0
  let us := s.usSince s.rst.relAt % 2 ^ 32
  let s6 := (((s5.setReg Obj.PROFILE_ACTIVE 0 p).setReg Obj.PROFILE_BANK 0 s.rst.bank).setReg Obj.PM_PREV_MODE 0 0).setReg
    Obj.BOOT_TIMES 0 (s.reg Obj.BOOT_TIMES 0 % 2 ^ 32 + us * 2 ^ 32)
  let s7 := s6.setRst { s6.rst with step := .done, applied := [], wdAt := s.clk }
  let s8 := (s7.raise 0x1004 0x10 1 p (p + 256 * s.rst.bank + 65536 * seq + (if s.rst.byNext then 2 ^ 48 else 0))).raise 0x1006 0xF0 2 0xFFFF
    (s.reg Obj.RST_CAUSE 0 + 256 * s.reg Obj.RST_WDT_CORE 0 + 65536 * s.reg Obj.RST_COUNT 0)
  if s.rst.lcOld = 255 then s8
  else (s8.raise 0xB001 0xB0 2 0xFFFF (s.lcState + 256 * s.rst.lcOld)).setRst { s8.rst with lcOld := 255 }

/-! ### Wedges (R387) -/

/-- DIR_TIMEOUT plus `ms` milliseconds, in ns. -/
def wedgeLimit (s : State) (ms : Nat) : Nat := s.reg Obj.DIR_TIMEOUT 0 * 1000 + ms * 1000000

/-- The oldest request of an endpoint is unanswered for `ns`. -/
def oldRequest (s : State) (e ns : Nat) : Bool :=
  match s.dict.inbox.get [] (e, 0) with
  | x :: _ => s.after x.1 ns
  | [] => false

/-- The wedges that the check finds: kind and number (*Wedge checks*). -/
def wedges (s : State) : List (Nat × Nat) :=
  (s.dict.inbox.filterMap (fun e => if s.oldRequest e.1.1 100000000 then some (0, e.1.1) else none)) ++
  (s.dict.inbox.filterMap (fun e => if 257 ≤ e.1.1 ∧ e.1.1 < 321 ∧ s.oldRequest e.1.1 1000000000 = true then
    some (1, s.reg Obj.PART_HOST_PORT (e.1.1 - 257)) else none)) ++
  (s.fab.bindings.filterMap (fun (b : Binding) => if b.unbind = true ∧ s.reg Obj.VPPB_STATE b.vppb = 3 ∧ s.after b.since (s.wedgeLimit 200) = true
    then some (2, b.vppb / 64) else none)) ++
  (s.dict.lops.filterMap (fun e =>
    if (e.2.st = .queued ∧ s.after e.2.since 10000000000 = true) ∨
       (e.2.kind = 1 ∧ e.2.st = .committed ∧ s.after e.2.since (s.wedgeLimit 100) = true) then some (3, e.1.1) else none))

/-- A wedge is raised once, and where WEDGE_AUTO_RESET is set a full reset follows. -/
def raiseWedge (s : State) (w : Nat × Nat) : State :=
  if s.rst.wedged.get false w then s
  else
    let auto := s.flag Obj.WEDGE_AUTO_RESET 0
    let t := (s.setReg Obj.WEDGE_STATUS 0 (setBit (s.reg Obj.WEDGE_STATUS 0) w.1)).setRst { s.rst with
      wedged := s.rst.wedged.set false w true, wedgeAt := if auto && s.rst.wedgeAt == 0 then s.clk + 1 else s.rst.wedgeAt }
    t.raise 0x1007 0x10 4 0xFFFF (w.1 + 65536 * w.2 + (if auto then 2 ^ 32 else 0))

end State

/-! ### Commands -/

/-- RESET_NOW_DELAY_END (R379): 10 ms after the answer to RESET_NOW. -/
def execResetNowDelayEnd (s : State) := modal (if s.delayOver s.rst.nowAt then .boot else s.mode) s (fun t =>
  if t.delayOver t.rst.nowAt then t.fullReset 4 0xFF else t)

/-- RST_N_ASSERT (R378): cause 2. -/
def execRstNAssert (s : State) := modal (if s.rst.aon then .boot else s.mode) s (fun t => if t.rst.aon then t.resetBy 2 else t)

/-- POWER_ON (R378): VDD_AON rises, cause 1. -/
def execPowerOn (s : State) := modal .boot s (fun t =>
  let u := (t.aonLost.fullReset 1 0xFF).setReg Obj.RST_PREV_TIME 0 0
  (u.setRst { u.rst with aon := true }).setPm { u.pm with avsSet := 750 })

/-- VDD_AON_LOSS (R335, R374): nothing runs until VDD_AON rises again. -/
def execVddAonLoss (s : State) := modal .boot s (fun t =>
  let u := (t.fullReset 1 0xFF).aonLost
  u.setRst { u.rst with aon := false })

/-- SUPPLY_UNDERVOLTAGE (R378): cause 6. -/
def execSupplyUndervoltage (s : State) := modal (if s.rst.aon then .boot else s.mode) s (fun t => if t.rst.aon then t.resetBy 6 else t)

/-- WATCHDOG_EXPIRY (R19, R297, R347): not of a halted core, nor while the watchdog is suspended. -/
def execWatchdogExpiry (core : Nat) (s : State) :=
  if core < 4 then modal (if s.watched core then .boot else s.mode) s (fun t =>
    if t.watched core then t.watchdogReset core else t)
  else .fault (.absent core)

/-- RESET_RELEASE (R379, R382): 1 ms after the reset's cause has ended; a lifecycle change burns its fuses. -/
def execResetRelease (psel : Nat) (s : State) := burning s (fun t =>
  if t.rst.step = .inReset ∧ t.rst.aon = true ∧ t.after t.rst.since 1000000 = true then t.release psel else t)

/-- BOOT_IMAGE_VERIFIED (R336). -/
def execBootImageVerified (cryptoA cryptoB : Bool) (recovery : Option RecImage) (s : State) := steady s (fun t =>
  if t.rst.step = .rom then t.verified cryptoA cryptoB recovery else t)

/-- PROFILE_VALIDATE (R383, R384, R368): never in SCRAPPED (R334). -/
def execProfileValidate (s : State) := steady s (fun t =>
  if t.rst.step = .firmware ∧ t.lcState ≠ 4 then t.validateProfile else t)

/-- HBM_TRAINING_DONE (R382). -/
def execHbmTrainingDone (s : State) := steady s (fun t => if t.rst.step = .validated then t.hbmTrained else t)

/-- PROFILE_APPLIED (R293, R382): once the ramp has ended. -/
def execProfileApplied (s : State) := modal (if s.mayApply then s.bootMode else s.mode) s (fun t =>
  if t.mayApply then t.applyProfile else t)

/-- WEDGE_CHECK (R387): every 100 ms, by Ridge core 0. -/
def execWedgeCheck (s : State) := steady s (fun t =>
  if t.rst.step ≠ .done ∨ t.ridgeClock = false ∨ t.pm.step = .cores ∨ t.after t.rst.wdAt 100000000 = false then t
  else foldS (fun w (u : State) => u.raiseWedge w) t.wedges (t.setRst { t.rst with wdAt := t.clk }))

/-- WEDGE_RESET_DELAY_END (R387): cause 5. -/
def execWedgeResetDelayEnd (s : State) := modal (if s.delayOver s.rst.wedgeAt then .boot else s.mode) s (fun t =>
  if t.delayOver t.rst.wedgeAt then t.fullReset 5 0xFF else t)

end Sys2Proof.Machine
end

