-- ==== Sys2Proof/Machine/Read.lean ====
section
/-!
DEFINITION. What a read of a dictionary object returns: stored registers, and the objects that show the state of a block
(*Objects of* tables), with the reads that have an effect (INT_CLAIM, the nonces, EVT_DROPPED).
-/

namespace Sys2Proof.Machine

/-- "Vangekin". -/
def vendorName : List Byte := [0x56, 0x61, 0x6E, 0x67, 0x65, 0x6B, 0x69, 0x6E]

/-- "GT9-512". -/
def partName : List Byte := [0x47, 0x54, 0x39, 0x2D, 0x35, 0x31, 0x32]

/-- Rows of one index. -/
def indexRows (i : Nat) : List ObjRow := objRows.filter (fun r => r.id / 256 == i)

/-- The row's object has instance `i` (R42); the reserved interrupt sources have no objects (R310). -/
def ObjRow.has (r : ObjRow) (i : Nat) : Bool := r.lo ≤ i && i < r.lo + r.cnt && !(r.id / 256 == 0x8010 && intReserved i)

/-- The object at an address and instance; subindex 0 is made from the rows of its index (R411). -/
def dictRow (o i : Nat) : Option ObjRow :=
  if o % 256 = 0 then
    let rs := indexRows (o / 256)
    if rs.any (fun r => r.has i) then
      some { id := o, ty := .uint 1, acc := .const, priv := rs.foldl (fun a r => a ||| r.priv) 0, prof := false, lo := i, cnt := 1
             rng := .any, dflt := rs.foldl (fun a r => max a (r.id % 256)) 0 }
    else none
  else match objRow o with
    | some r => if r.has i then some r else none
    | none => none

/-- The number of a LopSt in LOP_STATE. -/
def LopSt.num (x : LopSt) : Nat :=
  match x with
  | .free => 0 | .queued => 1 | .running => 2 | .committed => 3 | .done => 4 | .aborting => 5 | .aborted => 6 | .failed => 7

/-- The number of a StageSt in STAGE_STATE. -/
def StageSt.num (x : StageSt) : Nat :=
  match x with
  | .free => 0 | .opened => 1 | .sealed => 2 | .committing => 3

namespace State

/-- Objects of 0x1000 to 0x1FFF that show state. -/
def viewService (s : State) (o i : Nat) : Option Nat :=
  if o = Obj.SILICON_REV then some (Config.siliconRev % 2 ^ 16)
  else if o = Obj.IANA_ENT then some (Config.ianaEnt % 2 ^ 32)
  else if o = Obj.SERIAL then some (Config.serial % 2 ^ 128)
  else if o = Obj.LOP_KIND then some (s.lop i).kind
  else if o = Obj.LOP_STATE then some (s.lop i).st.num
  else if o = Obj.LOP_PROGRESS then some (s.lop i).progress
  else if o = Obj.LOP_RESULT then some (s.lop i).result
  else if o = Obj.LOP_OWNER then some (s.lop i).owner
  else if o = Obj.LOP_START_TIME then some (s.lop i).start
  else if o = Obj.LOP_COMMIT_TIME then some (s.lop i).commit
  else if o = Obj.STAGE_STATE then some (s.stage i).st.num
  else if o = Obj.STAGE_OWNER then some (s.stage i).owner
  else if o = Obj.STAGE_COUNT then some (s.stage i).entries.length
  else if o = Obj.STAGE_LOP then some (s.stage i).lop
  else if o = Obj.PROF_SEQ then some (s.profSeq i)
  else if o = Obj.PROF_HASH then some (s.profHash i)
  else if o = Obj.PROF_CREATED then some (s.profCreated i)
  else none

/-- Objects of lanes and links that show state. -/
def viewLink (s : State) (o i : Nat) : Option Nat :=
  if o = Obj.LC_STATE_CL then some (if s.gatedLC i then 0 else 1)
  else if o = Obj.PORT_STATE then some (s.portState i)
  else if o = Obj.PORT_CEILING then some (s.ceiling i)
  else if o = Obj.LANE_ERR_PAIR then some (s.lanePair i)
  else if o = Obj.QZ_LOAD then some (s.privLanes i).length
  else if o = Obj.DRU_RX_CREDITS then some (packElems 2 (s.dru i).grant)
  else if o = Obj.DRU_TX_CREDITS then some (packElems 2 (s.dru i).txCr)
  else none

/-- Cells of port `p` by class that `f` accepts, as eight U32. -/
def cellsByClass (s : State) (p : Nat) (f : Cell → Bool) : Nat :=
  packElems 4 ((List.range 8).map (fun c => s.countCells (fun x => x.port == p && x.cls == c && f x)))

/-- Objects of switching, routing and scheduling that show state. -/
def viewFabric (s : State) (o i : Nat) : Option Nat :=
  if o = Obj.BUF_FREE then some (393216 - s.fab.cells.length)
  else if o = Obj.BUF_SHARED_SIZE then some s.sharedSize
  else if o = Obj.BUF_SHARED_USED then some s.sharedUsed
  else if o = Obj.DESC_FREE then some (458752 - s.fab.descs.length)
  else if o = Obj.RTT_FREE then some (65536 - s.fab.rtt.length)
  else if o = Obj.Q_DEPTH then some (packElems 4 ((List.range 8).map (fun c => s.queueDepth (8 * i + c))))
  else if o = Obj.IN_HELD then some (s.cellsByClass i (fun x => !x.shared && !x.sys))
  else if o = Obj.IN_SHARED then some (s.cellsByClass i (·.shared))
  else if o = Obj.RTT_USED then some (s.rttUsed i)
  else if o = Obj.ROUTE_ENTRY then
    (if s.reg Obj.FID_BASE 0 ≤ i ∧ i < s.reg Obj.FID_BASE 0 + 32 then some (3 * 2 ^ 10) else none)
  else if o = Obj.HG_LIVE then some (bitSet (s.hgLiveIdx i))
  else if o = Obj.LD_SIZE then some (s.ldSize i)
  else if o = Obj.LD_STATE then some (s.ldState i)
  else if o = Obj.ROUTE_DRAIN then some s.routeDrain
  else if o = Obj.BIND_DRAIN then some s.bindDrain
  else if o = Obj.GCL_OPER_ENTRY then some ((s.egr (i / 128)).oper.getD (i % 128) 0)
  else if o = Obj.CBS_CREDIT then some (packElems 8 (((s.accrue i).egr i).credit.map (fun (c : Rat) => ofSigned 8 c.floor)))
  else if o = Obj.WFQ_VTIME then some (s.egr i).vtime
  else none

/-- A hold entry (R214): a request with a NAK, a route hold, or 0 when it is free. -/
def holdEntry (s : State) (p k : Nat) : Nat :=
  let first := fun (m : Msg) => ((s.fab.chains.get none (m.uid, 0)).map (fun (c : Chain) => c.first)).getD 0
  let age := fun (since : Nat) => min (s.usSince since) (2 ^ 22 - 1) * 2 ^ 42
  match s.held p k with
  | some h => first h.msg + 7 * 2 ^ 22 + 0xFFF * 2 ^ 30 + age h.since
  | none =>
    match s.coh.reqs.find? (fun r => r.msg.inPort == p && !r.msg.internal && r.entry == k) with
    | some r => first r.msg + r.slice * 2 ^ 19 + r.cause * 2 ^ 22 + min r.ncnt 15 * 2 ^ 25 + (if r.rsv < 64 then 2 ^ 29 else 0) +
        (if r.wait = 4094 then 4095 else r.wait % 4096) * 2 ^ 30 + age r.since
    | none => 0

/-- Objects of coherence, access control and region moves that show state. -/
def viewMemory (s : State) (o i : Nat) : Option Nat :=
  if o = Obj.DIR_ENTRIES then some (s.reg Obj.CAIRN_SLICES 0 * 100663296)
  else if o = Obj.DIR_VALID then some s.dirValid
  else if o = Obj.DIR_LOOKUP_RESULT then s.coh.lookup.map s.lookupValue
  else if o = Obj.TRK_USED then some (s.trkUsed i)
  else if o = Obj.EVICT_USED then some (s.evictUsed i)
  else if o = Obj.HOLD_USED then some (s.holdUsed i)
  else if o = Obj.HOLD_ENTRY then some (s.holdEntry (i / 256) (i % 256))
  else if o = Obj.FL_DRAIN then some s.flDrain
  else if o = Obj.MOVE_RATE_USED then some s.moveRateUsed
  else if o = Obj.MOVE_DIRTY then some ((s.move.bitmap.row i).filter (·.2)).length
  else none

/-- Objects of power, interrupts, counters, security and time that show state. -/
def viewSystem (s : State) (o i : Nat) : Option Nat :=
  if o = Obj.CH_STATE then some (s.chState i)
  else if o = Obj.CH_OFF_LEFT then some (s.offLeftMs i)
  else if o = Obj.FEED_STATE then some (s.feedState i)
  else if Obj.FEED_VIN ≤ o ∧ o ≤ Obj.FEED_IPEAK ∧ s.feedUsed (i / 2) (i % 2) = false then some 0
  else if o = Obj.INT_CAUSE then some (s.intCause i)
  else if o = Obj.INT_STATE then some (s.intStateView i)
  else if o = Obj.INT_TGT_STATE then some (s.tgtState i)
  else if o = Obj.CNT_SNAPSHOT then
    some (packElems 8 (s.reg Obj.CNT_CYCLES i :: (List.range 8).map (fun j => s.reg Obj.CNT_VALUE (8 * i + j))))
  else if o = Obj.PM_MODE then some s.mode.num
  else if o = Obj.LC_STATE then some s.lcState
  else if o = Obj.FW_SVN then some s.sec.fuse.svn
  else if o = Obj.LANE_FOM_HIST then some (packElems 2 ((s.talus.hist.get [] (i, 0)).map (·.1)))
  else if o = Obj.VCORE_BASE then some (Config.vcoreBase % 2 ^ 16)
  else if o = Obj.RO_PPM_PER_MV then some (Config.roPpmPerMv % 2 ^ 16)
  else if o = Obj.TIME_NOW then some s.now
  else if o = Obj.TIME_STATUS then some s.timeStatus
  else if o = Obj.TIME_UNC then some s.timeUnc
  else if o = Obj.TIME_RATE_ADJ then some (ofSigned 4 s.timeRateAdj)
  else if o = Obj.SCHED_TIME then some (s.slot i).time
  else if o = Obj.SCHED_KIND then some (s.slot i).kind
  else if o = Obj.SCHED_POLICY then some (s.slot i).policy
  else if o = Obj.SCHED_PERIOD then some (s.slot i).period
  else if o = Obj.SCHED_STATE then some (s.slot i).state
  else if o = Obj.SCHED_MISSED then some (s.slot i).missed
  else none

/-- The view of the block that owns the object: by its index range (R41). -/
def viewOf (s : State) (o i : Nat) : Option Nat :=
  if o < 0x200000 then s.viewService o i
  else if o < 0x300000 then s.viewLink o i
  else if o < 0x500000 then s.viewFabric o i
  else if o < 0x700000 ∨ (0xD00000 ≤ o ∧ o < 0xE00000) then s.viewMemory o i
  else s.viewSystem o i

/-- The active value of an object instance: subindex 0 is the highest subindex (R411). -/
def view (s : State) (o i : Nat) : Nat :=
  if o % 256 = 0 then ((dictRow o i).map (·.dflt)).getD 0
  else (s.viewOf o i).getD (s.reg o i)

/-- A read by endpoint `ep`: the value, and the state after reads that have an effect: a claim (R315), a fresh nonce
(R335, R345), the drop count of the reader (*Objects of the dictionary service*). -/
def readObj (s : State) (ep o i : Nat) : Val × State :=
  if o = Obj.VENDOR then ({ num := 0, bytes := vendorName }, s)
  else if o = Obj.PART then ({ num := 0, bytes := partName }, s)
  else if o = Obj.DM_DATA then ({ num := ofBytes s.sec.dmData, bytes := s.sec.dmData }, s)
  else if o = Obj.INT_CLAIM then (valOf (s.claim i).1, (s.claim i).2)
  else if o = Obj.LC_NONCE then
    (valOf (s.freeVal % 2 ^ 256), ({ s with sec := { s.sec with lcNonce := some (s.freeVal % 2 ^ 256) } } : State).nextFree)
  else if o = Obj.DBG_CHALLENGE then
    (valOf (s.freeVal % 2 ^ 384), ({ s with sec := { s.sec with dbgNonce := some (s.freeVal % 2 ^ 384) } } : State).nextFree)
  else if o = Obj.LANE_ERR_PAIR then (valOf (s.view o i), s.settleLane i)
  else if o = Obj.EVT_DROPPED ∧ i = ep then (valOf (s.reg o i), s.setReg o i 0)
  else (valOf (s.view o i), s)

end State

end Sys2Proof.Machine
end

