-- ==== Sys2Proof/Machine/Access.lean ====
section
/-!
DEFINITION. The access checks of a dictionary request: checks 1 to 10 of R49, in their order. Checks 11 and 12 are made where
the request is carried out (`Writes.lean`, `Dictionary.lean`).
-/

namespace Sys2Proof.Machine

namespace Op

/-! Opcodes of *Operations*. -/

abbrev READ : Nat := 0x01
abbrev WRITE : Nat := 0x02
abbrev BLOCK_READ : Nat := 0x03
abbrev BLOCK_WRITE : Nat := 0x04
abbrev READ_INSTANCES : Nat := 0x05
abbrev STAGE_OPEN : Nat := 0x10
abbrev STAGE_COMMIT : Nat := 0x11
abbrev STAGE_DISCARD : Nat := 0x12
abbrev LOP_ABORT : Nat := 0x20
abbrev SUBSCRIBE : Nat := 0x30
abbrev UNSUBSCRIBE : Nat := 0x31
abbrev EVENT : Nat := 0x32
abbrev EVT_FETCH : Nat := 0x33

/-- Opcodes that a request may carry (check 2). -/
def known (op : Nat) : Bool :=
  [READ, WRITE, BLOCK_READ, BLOCK_WRITE, READ_INSTANCES, STAGE_OPEN, STAGE_COMMIT, STAGE_DISCARD, LOP_ABORT, SUBSCRIBE,
   UNSUBSCRIBE, EVT_FETCH].contains op

/-- The three reads. -/
def reads (op : Nat) : Bool := op == READ || op == BLOCK_READ || op == READ_INSTANCES

/-- The two writes. -/
def writes (op : Nat) : Bool := op == WRITE || op == BLOCK_WRITE

/-- The operations on events. -/
def events (op : Nat) : Bool := op == SUBSCRIBE || op == UNSUBSCRIBE || op == EVT_FETCH

end Op

/-- Endpoints (*Requester endpoints*): the class as a bit of a privilege list, 0 FM, 1 BMC, 2 TEN, 3 DBG. -/
def epClass (ep : Nat) : Nat := if ep = 0 then 1 else if ep ≤ 256 then 0 else if ep < 321 then 2 else 3

/-- The endpoint of a tenant. -/
def isTenant (ep : Nat) : Bool := 257 ≤ ep && ep < 321

/-- The object address of a request. -/
def reqObj (r : Req) : Nat := r.index * 256 + r.sub

/-- The object instances that a request names; an address past subindex 0xFF names no object. A payload whose count cannot be
read names the one of the header. -/
def targets (r : Req) : List Key :=
  if r.op = Op.READ ∨ r.op = Op.WRITE then [(reqObj r, r.inst)]
  else if r.op = Op.BLOCK_READ ∨ r.op = Op.BLOCK_WRITE then
    (List.range (max 1 (ofBytes (r.payload.take 1)))).map (fun i => (if r.sub + i < 256 then reqObj r + i else 0, r.inst))
  else if r.op = Op.READ_INSTANCES then
    (if r.payload.length < 4 then [(reqObj r, r.inst)]
     else (List.range (max 1 (ofBytes ((r.payload.drop 2).take 2)))).map (fun i => (reqObj r, ofBytes (r.payload.take 2) + i)))
  else []

/-- Take one value per object off a payload, to its end (check 9). -/
def takeVals : List Key → List Byte → Option (List Val)
  | [], b => if b.isEmpty then some [] else none
  | k :: r, b =>
    match dictRow k.1 k.2 with
    | none => none
    | some x => match takeVal x.ty b with
      | none => none
      | some (v, rest) => (takeVals r rest).map (v :: ·)

/-- The values of a WRITE or BLOCK_WRITE; `none` where sizes do not match (R46). -/
def writeVals (r : Req) : Option (List Val) :=
  if r.op = Op.WRITE then takeVals (targets r) r.payload
  else if r.payload.isEmpty then none
  else if ofBytes (r.payload.take 1) = 0 then (if r.payload.length = 1 then some [] else none)
  else takeVals (targets r) (r.payload.drop 1)

/-- The payload of any other operation has the size of *Operations* (R46). -/
def sizeOk (r : Req) : Bool :=
  if Op.writes r.op then (writeVals r).isSome
  else
    r.payload.length ==
      (if r.op = Op.BLOCK_READ ∨ r.op = Op.UNSUBSCRIBE ∨ r.op = Op.EVT_FETCH then 1
       else if r.op = Op.READ_INSTANCES then 4 else if r.op = Op.STAGE_COMMIT then 10
       else if r.op = Op.LOP_ABORT then 2 else if r.op = Op.SUBSCRIBE then 6 else 0)

/-- STAGE may be other than 0 (R412). -/
def mayNameStage (r : Req) : Bool :=
  Op.writes r.op || r.op == Op.STAGE_COMMIT || r.op == Op.STAGE_DISCARD || (Op.reads r.op && bit r.flags 1)

/-- Check 1: the header is consistent. -/
def headerOk (r : Req) : Bool :=
  r.ver == 1 && (r.flags == 0 || r.flags == 2) && r.len == r.payload.length && decide (12 + r.payload.length ≤ 1024) &&
  decide (r.stage ≤ 16) && (r.stage == 0 || mayNameStage r)

namespace State

/-- An object instance of a row belongs to partition `n` (R43). -/
def ownedBy (s : State) (n : Nat) (r : ObjRow) (i : Nat) : Bool :=
  let x := r.id / 256
  bit r.priv 2 && r.has i &&
  (r.cnt == 1 ||
   (if x = 0x1100 then (s.lop i).st != .free && (s.lop i).owner == 257 + n
    else if x = 0x1200 then (s.stage i).st != .free && (s.stage i).owner == 257 + n
    else if x = 0x1300 then i == 257 + n
    else if x = 0x3300 then i == n
    else if x = 0x3400 then i / 64 == n && s.vppbOwned i
    else if x = 0x3500 then (s.ldHolders i).any (fun v => v / 64 == n)
    else if x = 0x3600 then s.reg Obj.WIN_PART i == n &&
      (s.reg Obj.WIN_STATE i == 1 || s.reg Obj.WIN_STATE i == 2)
    else if x = 0x4040 then i / 8 == s.reg Obj.PART_HOST_PORT n
    else if x = 0x9000 then i == n
    else if x = 0x9100 then i / 8 == n
    else r.cnt == 256 && i == s.reg Obj.PART_HOST_PORT n))

/-- A tenant sees an object instance only while its partition is bound (R43, R411). -/
def tenantSees (s : State) (n o i : Nat) : Bool :=
  s.bound n &&
  (if o % 256 = 0 then (indexRows (o / 256)).any (fun r => s.ownedBy n r i)
   else match objRow o with
     | some r => s.ownedBy n r i
     | none => false)

/-- Check 3: the object and the instance exist and are visible. -/
def visible (s : State) (ep : Nat) (k : Key) : Bool :=
  (dictRow k.1 k.2).isSome && (!(isTenant ep) || s.tenantSees (ep - 257) k.1 k.2)

/-- The class may reach the object instance; the claim registers are each target's own (R315). -/
def privOk (r : ObjRow) (ep i : Nat) : Bool :=
  bit r.priv (epClass ep) &&
  (if r.id = Obj.INT_CLAIM ∨ r.id = Obj.INT_COMPLETE then (if ep = 0 then i == 4 else i == 5) else true)

/-- An object instance that its row lets be written is not: an own fabric ID's route entry (R113), a free event slot, and a
policy that is not writable (R410, *Event kinds*). -/
def writeBarred (s : State) (o i : Nat) : Bool :=
  if o = Obj.ROUTE_ENTRY then decide (s.reg Obj.FID_BASE 0 ≤ i) && decide (i < s.reg Obj.FID_BASE 0 + 32)
  else if o = Obj.SCHED_TIME ∨ o = Obj.SCHED_PERIOD then (s.slot i).kind == 0
  else if o = Obj.SCHED_POLICY then (s.slot i).kind == 0 || (s.slot i).kind == 3 || (s.slot i).kind == 4
  else false

/-- Check 4 on one object: privilege and access right. -/
def accessOk (s : State) (ep : Nat) (write : Bool) (k : Key) : Bool :=
  match dictRow k.1 k.2 with
  | none => false
  | some r =>
    privOk r ep k.2 &&
    (if write then (r.acc == .rw || r.acc == .wo || r.acc == .rws) && !(s.writeBarred k.1 k.2) else r.acc != .wo)

/-- Check 4 on the stage: it is owned by the endpoint; a commit or discard names one (R412). -/
def stageOk (s : State) (ep : Nat) (r : Req) : Bool :=
  if r.stage = 0 then r.op != Op.STAGE_COMMIT && r.op != Op.STAGE_DISCARD
  else (s.stage r.stage).st != .free && (s.stage r.stage).owner == ep

/-- Check 5: a write of an RWS object names a stage. -/
def staged_ (r : Req) (k : Key) : Bool :=
  r.stage != 0 || !(match dictRow k.1 k.2 with
    | some x => x.acc == .rws
    | none => false)

/-- Check 6: the power mode, and SCRAPPED (R50, R307). HOLD and SENTINEL do not reach the checks. -/
def modeOk (s : State) (ep : Nat) (r : Req) : Bool :=
  let ks := targets r
  if s.lcState = 4 then Op.reads r.op && ks.all (fun k => k.1 == Obj.LC_STATE)
  else match s.mode with
    | .boot => Op.reads r.op && ks.all (fun k => (0x100000 ≤ k.1 && k.1 < 0x200000) || k.1 == Obj.LC_STATE)
    | .service => !(isTenant ep && (Op.writes r.op || r.op == Op.STAGE_OPEN || r.op == Op.STAGE_COMMIT))
    | _ => true

/-- Reads and writes that need no debug level. -/
def debugFree (r : Req) (k : Key) : Bool :=
  if Op.reads r.op then (0x100001 ≤ k.1 && k.1 ≤ 0x100007) || k.1 == Obj.LC_STATE || k.1 == Obj.DBG_LEVEL || k.1 == Obj.DBG_CHALLENGE
  else Op.writes r.op && k.1 == Obj.DBG_RESPONSE

/-- What OBSERVE adds for one object: every read, DBG_DROP, and what a read of the debug master needs. -/
def debugObserve (r : Req) (k : Key) (v : Option Val) : Bool :=
  debugFree r k || Op.reads r.op ||
  (Op.writes r.op && (k.1 == Obj.DBG_DROP || k.1 == Obj.DM_ADDR || k.1 == Obj.DM_LEN || (k.1 == Obj.DM_GO && v != some (valOf 2))))

/-- Check 7: the debug level, for the debug session only (R344). -/
def debugOk (s : State) (ep : Nat) (r : Req) : Bool :=
  let ks := targets r
  let vs := (writeVals r).getD []
  ep != 321 ||
  match s.reg Obj.DBG_LEVEL 0 with
  | 0 => !ks.isEmpty && ks.all (debugFree r)
  | 1 => Op.events r.op || (!ks.isEmpty && ks.zipIdx.all (fun x => debugObserve r x.1 vs[x.2]?))
  | _ => true

/-- Check 8: the owning blocks have clock and power (R20, R299). -/
def powerOk (s : State) (r : Req) : Bool :=
  (targets r).all (fun k => !(s.unpowered k (Op.reads r.op))) &&
  (r.op != Op.STAGE_COMMIT || (s.stage r.stage).entries.all (fun e => !(s.unpowered e.1 false)))

/-- Range of a value of open size: DM_DATA, LC_AUTH and the chunks take any bytes. -/
def valRangeOk (s : State) (k : Key) (v : Nat) : Bool :=
  match objRow k.1 with
  | some r => s.valueOk r k.2 v
  | none => false

/-- Values in range, each with the relations of R290 that hold once those before it are written. -/
def valsOk : State → List (Key × Val) → Bool
  | _, [] => true
  | s, x :: r => s.valRangeOk x.1 x.2.num && s.relationsOk x.1.1 x.1.2 x.2.num && valsOk (s.setReg x.1.1 x.1.2 x.2.num) r

/-- Check 10: values, and the counts, filter numbers and filters of R46 and R61. -/
def rangeOk (s : State) (r : Req) : Bool :=
  let n := ofBytes (r.payload.take 1)
  if Op.writes r.op then
    (r.op == Op.WRITE || n != 0) && s.valsOk ((targets r).zip ((writeVals r).getD []))
  else if r.op = Op.BLOCK_READ then n != 0
  else if r.op = Op.READ_INSTANCES then ofBytes ((r.payload.drop 2).take 2) != 0
  else if r.op = Op.SUBSCRIBE then
    n < 16 && (takeFilter r.payload).2.first ≤ (takeFilter r.payload).2.last && (takeFilter r.payload).2.minSev ≤ 5
  else if r.op = Op.UNSUBSCRIBE then n < 16
  else true

/-- Checks 1 to 10 of R49: the abort of the first that fails, 0 where all pass. -/
def precheck (s : State) (ep : Nat) (r : Req) : Nat :=
  let ks := targets r
  if !(headerOk r) then Ab.MALFORMED
  else if !(Op.known r.op) then Ab.OPCODE_UNKNOWN
  else if !(ks.all (s.visible ep)) then Ab.OBJ_ABSENT
  else if !(ks.all (s.accessOk ep (Op.writes r.op)) && s.stageOk ep r) then Ab.ACCESS_DENIED
  else if Op.writes r.op && !(ks.all (staged_ r)) then Ab.NOT_STAGED
  else if !(s.modeOk ep r) then Ab.MODE_FORBIDS
  else if !(s.debugOk ep r) then Ab.DEBUG_LOCKED
  else if !(s.powerOk r) then Ab.BLOCK_UNPOWERED
  else if !(sizeOk r) then Ab.TYPE_MISMATCH
  else if !(s.rangeOk r) then Ab.RANGE
  else 0

end State

end Sys2Proof.Machine
end

