-- ==== Sys2Proof/Machine/Writes.lean ====
section
/-!
DEFINITION. What a write of a dictionary object does once its access checks have passed: the stored value, the effect of the
objects that are commands, and checks 11 and 12 of R49 where a command has its own. A write of 0 to a command of type BOOL does
nothing.
-/

namespace Sys2Proof.Machine

/-- The outcome of a write or of a whole request: the abort code, 0 for success, the state after it, and the response payload.
Where it aborts, the state is what it leaves: the state before it, but for a nonce that is consumed. -/
structure Effect where
  abort : Nat
  state : State
  payload : List Byte

/-- Verdicts on the signatures that a request carries: the vendor's and the owner's. -/
abbrev Verdict := Option (Bool × Bool)

def done (s : State) : Effect := { abort := 0, state := s, payload := [] }

def refuse (s : State) (a : Nat) : Effect := { abort := a, state := s, payload := [] }

/-- A command that answers an abort code and a state. -/
def verdictOf (x : Nat × State) : Effect := { abort := x.1, state := x.2, payload := [] }

/-- A command after which halted cores may run: the commits that wait for them are taken up (R13). -/
def resumed (x : Nat × State) : Effect := { abort := x.1, state := if x.1 = 0 then x.2.takeUpCommits else x.2, payload := [] }

/-- A command of type BOOL: writing 1 runs it. -/
def command (v : Nat) (s : State) (e : Effect) : Effect := if v = 1 then e else done s

/-- A command that starts a long operation: the response gives the handle (*Operations*). -/
def starts (s : State) (x : Except Nat (State × Nat)) : Effect :=
  match x with
  | .error a => refuse s a
  | .ok (t, h) => { abort := 0, state := t, payload := toBytes 2 h }

namespace State

/-- The verdicts on LC_AUTH: those given with the command, or those of the keys that the part trusts (R335). The vendor's
signature stands first where two are carried. -/
def lcVerdict (s : State) (x : Verdict) : Bool × Bool :=
  x.getD
    (let msg := toBytes 32 (s.sec.lcNonce.getD 0) ++ toBytes 16 (Config.serial % 2 ^ 128) ++ toBytes 1 s.lcState ++
       toBytes 1 (s.reg Obj.LC_TARGET 0)
     let own := if s.sec.lcAuth.length = 192 then s.sec.lcAuth.drop 96 else s.sec.lcAuth
     (Config.signatureOk 0 msg (s.sec.lcAuth.take 96), Config.signatureOk 1 msg own))

/-- The verdicts on a debug response (R345): its key is the one whose hash is fused, and its signature verifies. -/
def dbgVerdict (s : State) (bytes : List Byte) (x : Verdict) : Bool × Bool :=
  x.getD
    (let msg := toBytes 48 (s.sec.dbgNonce.getD 0) ++ toBytes 16 (Config.serial % 2 ^ 128) ++ toBytes 1 s.lcState ++ bytes.take 1
     (Config.signatureOk 2 msg (bytes.drop 1), Config.signatureOk 3 msg (bytes.drop 1)))

/-- LANE_PRBS_MODE (R83): accepted only on a lane that carries nothing, or in SERVICE; the counters are cleared and the checker
has to lock again. -/
def prbsMode (s : State) (n v : Nat) : Effect :=
  let st := s.portState (s.lanePort n)
  if st = 0 ∨ st = 1 ∨ st = 8 ∨ s.mode = .service then
    done (((s.setReg Obj.LANE_PRBS_MODE n v).clearPrbs n).modLane n (fun l => { l with prbsLocked := false }))
  else refuse s Ab.BUSY

/-- AGT_REVIVE (R230): refused while the agent is LOST or its purge runs. -/
def revive (s : State) (a : Nat) : Effect :=
  if s.reg Obj.AGT_STATE a = 1 ∨ s.reg Obj.AGT_STATE a = 2 then refuse s Ab.BUSY else done (agentRevive s a)

/-- A fill of another endpoint runs (R259). -/
def fillBusy (s : State) (ep : Nat) : Bool :=
  match s.fab.filling with
  | some (e, t) => e != ep && s.clk < t
  | none => false

/-- FL_TAG_FILL (R259): 64 granules take two FCLK cycles. DEDUCED: the tags change, and the response is given, with the
command. -/
def fillTags (s : State) (ep : Nat) : Effect :=
  let base := s.reg Obj.FL_TAG_BASE 0
  let count := s.reg Obj.FL_TAG_COUNT 0
  if 2 ^ 49 < base + count * 2097152 then refuse s Ab.RANGE
  else if s.fillBusy ep = true then refuse s Ab.BUSY
  else
    let t := s.tagFill (base / 2097152) count (s.reg Obj.FL_TAG_VALUE 0)
    done { t with fab := { t.fab with filling := some (ep, s.clk + (count + 63) / 64 * (2 * fclkUnit)) } }

/-- CH_ENABLE (R18, R287). -/
def writeChEnable (s : State) (c v : Nat) : Effect := if s.chEnableBusy c v then refuse s Ab.BUSY else done (s.chEnabled c v)

/-- INT_WAKE_EN (R321). -/
def wakeEn (s : State) (n v : Nat) : Effect :=
  if v = 1 ∧ wakeEligible n = false then refuse s Ab.RANGE else done (s.setReg Obj.INT_WAKE_EN n v)

/-- INT_COMPLETE over the dictionary (R317). -/
def writeComplete (s : State) (t n : Nat) : Effect :=
  match s.complete t n with
  | some u => done u
  | none => refuse s Ab.RANGE

/-- TALUS_WINDOW_NOW (R355). -/
def windowNow (s : State) (ep : Nat) : Effect :=
  match s.startWindow ep false with
  | some (h, t) => { abort := 0, state := t, payload := toBytes 2 h }
  | none => refuse s Ab.BUSY

/-- SCHED_TIME re-arms a slot (R410). -/
def schedTime (s : State) (k v : Nat) : State := s.setSlot k { s.slot k with time := v, first := v, state := 1, due := 0 }

/-- Commands of 0x1000 to 0x5FFF. -/
def writeLow (s : State) (ep o i : Nat) (v : Val) : Option Effect :=
  if o = Obj.PROF_STORE then some (command v.num s (starts s (s.profStore i ep)))
  else if o = Obj.PROF_CHUNK then some (verdictOf (s.profChunk v.bytes))
  else if o = Obj.RESET_NOW then some (command v.num s (done (s.setRst { s.rst with nowAt := s.clk + 1 })))
  else if o = Obj.LANE_CLEAR then some (command v.num s (done (s.clearPrbs i)))
  else if o = Obj.LANE_PRBS_MODE then some (s.prbsMode i v.num)
  else if o = Obj.HG_REBALANCE then some (command v.num s (done (s.hgRebalance i)))
  else if o = Obj.HIST_CLEAR then some (command v.num s (done (s.histClear i)))
  else if o = Obj.DIR_LOOKUP then some (done (dirLookup s v.num))
  else if o = Obj.DIR_SET_CLEAR then some (done (dirSetClear s v.num))
  else if o = Obj.AGT_REVIVE then some (command v.num s (s.revive i))
  else none

/-- Commands of 0x6000 to 0x9FFF. -/
def writeMid (s : State) (ep o i : Nat) (v : Val) : Option Effect :=
  if o = Obj.FL_TAG_FILL then some (command v.num s (s.fillTags ep))
  else if o = Obj.FL_TAG_PROBE then some (done (s.setReg Obj.FL_TAG_PROBE_RESULT 0 (s.tagProbe v.num)))
  else if o = Obj.CH_ENABLE then some (s.writeChEnable i v.num)
  else if o = Obj.CH_FAULT_CLEAR then some (command v.num s (done (s.faultClear i 1)))
  else if o = Obj.CH_MEAS_CLEAR then some (command v.num s (done (s.measClear i 1)))
  else if o = Obj.INT_GLOBAL_EN ∨ o = Obj.INT_TARGET ∨ o = Obj.INT_TGT_EN ∨ o = Obj.INT_TGT_THRESH then
    some (done (s.setReg o i v.num).withdraw)
  else if o = Obj.INT_ENABLE then some (done (s.intEnabled i v.num))
  else if o = Obj.INT_CAUSE_EN then some (done ((s.setReg o i v.num).sampleInt i))
  else if o = Obj.INT_CAUSE_CLR then some (done (s.clearCause i v.num))
  else if o = Obj.INT_WAKE_EN then some (s.wakeEn i v.num)
  else if o = Obj.INT_COMPLETE then some (s.writeComplete i v.num)
  else if o = Obj.CNT_EVT ∨ o = Obj.CNT_MODE ∨ o = Obj.CNT_PORT ∨ o = Obj.CNT_AUX then some (done ((s.setReg o i v.num).clearHist i))
  else if o = Obj.CNT_VALUE then some (done (s.setCounter i v.num))
  else if o = Obj.CNT_OVF_CLR then some (done (s.clearOvf i v.num))
  else if o = Obj.SMP_RELEASE then some (command v.num s (done (s.releaseRecord i)))
  else none

/-- Commands of 0xA000 to 0xEFFF. -/
def writeHigh (s : State) (x : Verdict) (ep o i : Nat) (v : Val) : Option Effect :=
  if o = Obj.PM_ENTER then some (command v.num s (starts s (s.pmEnter ep)))
  else if o = Obj.LC_AUTH then some (done (s.setSec { s.sec with lcAuth := v.bytes }))
  else if o = Obj.LC_REQUEST then some (command v.num s (verdictOf (s.lcRequest (s.lcVerdict x).1 (s.lcVerdict x).2)))
  else if o = Obj.FW_CHUNK then some (verdictOf (s.fwChunk v.bytes))
  else if o = Obj.FW_UPDATE then some (command v.num s (starts s (s.fwUpdate ep)))
  else if o = Obj.FW_CONFIRM then some (command v.num s (done s.fwConfirm))
  else if o = Obj.DBG_RESPONSE then
    (let b := toBytes 194 v.num
     some (verdictOf (s.dbgResponse b (s.dbgVerdict b x).1 (s.dbgVerdict b x).2)))
  else if o = Obj.DBG_DROP then some (resumed (s.dbgDrop v.num))
  else if o = Obj.DBG_ALLOW then some (resumed (0, s.dbgAllow v.num))
  else if o = Obj.DM_DATA then some (done (s.setSec { s.sec with dmData := v.bytes }))
  else if o = Obj.DM_GO then some (verdictOf (s.dmStart (v.num == 2)))
  else if o = Obj.RIDGE_HALT then some (resumed (s.ridgeHalt v.num))
  else if o = Obj.TALUS_WINDOW_NOW then some (command v.num s (s.windowNow ep))
  else if o = Obj.TALUS_CEIL_RESET then some (command v.num s (done (s.ceilReset i 1)))
  else if o = Obj.FET_REBASE then some (command v.num s (done (s.fetRebase i 1)))
  else if o = Obj.MOVE_START then some (command v.num s (starts s (s.moveStart i ep)))
  else if o = Obj.TIME_SECONDS_NEXT then some (done (s.setTime { s.time with secNext := some v.num }))
  else if o = Obj.SCHED_TIME then some (done (s.schedTime i v.num))
  else if o = Obj.SCHED_POLICY then some (done (s.setSlot i { s.slot i with policy := v.num }))
  else if o = Obj.SCHED_PERIOD then some (done (s.setSlot i { s.slot i with period := v.num }))
  else none

/-- A write that takes effect at once, of an RW or WO object: a command, or the value stored (R50). -/
def writeObj (s : State) (x : Verdict) (ep o i : Nat) (v : Val) : Effect :=
  (if o < 0x600000 then s.writeLow ep o i v else if o < 0xA00000 then s.writeMid ep o i v else s.writeHigh x ep o i v).getD
    (done (s.setReg o i v.num))

/-- Stage a value (R51, R52): an object is in one stage, and a stage holds at most 1 024. -/
def stageValue (s : State) (n : Nat) (k : Key) (v : Nat) : Effect :=
  let x := s.stage n
  let held := (s.heldBy k).getD n
  if held ≠ n then refuse s Ab.BUSY
  else if (staged x.entries k).isNone && decide (1024 ≤ x.entries.length) then refuse s Ab.NO_RESOURCE
  else done (s.setStage n { x with entries := putStaged x.entries k v, touched := s.clk })

/-- Write one object: an RWS object into the stage, any other at once (R412). -/
def writeOne (s : State) (x : Verdict) (ep n : Nat) (k : Key) (v : Val) : Effect :=
  match dictRow k.1 k.2 with
  | some r => if r.acc = .rws then s.stageValue n k v.num else s.writeObj x ep k.1 k.2 v
  | none => refuse s Ab.OBJ_ABSENT

/-- Write a run of objects in order: all of them or none (R49). What an aborted command leaves of its own is kept where it
aborts by itself. -/
def writeRun (s0 : State) (x : Verdict) (ep n : Nat) : State → List (Key × Val) → Effect
  | s, [] => done s
  | s, e :: r =>
    let y := s.writeOne x ep n e.1 e.2
    if y.abort = 0 then (if r.isEmpty then y else writeRun s0 x ep n y.state r)
    else
      let z := s0.writeOne x ep n e.1 e.2
      if z.abort = 0 then refuse s0 y.abort else { z with abort := y.abort, payload := [] }

end State

end Sys2Proof.Machine
end

