-- ==== Sys2Proof/Machine/Dictionary.lean ====
section
/-!
DEFINITION. The dictionary service (R41 to R64): its endpoints, the requests that wait, and the operations. Every row that
writes or reads one object is the WRITE or READ of that object.
-/

namespace Sys2Proof.Machine

namespace State

/-! ### Requests that arrive -/

/-- Tor answers a request on I3C in HOLD and SENTINEL (R50, R323), and starts a wake where the subset says so. -/
def torAnswer (s : State) (r : Req) : State :=
  let t := s.respondReq 0 r Ab.MODE_FORBIDS []
  if bit (s.reg Obj.INT_WAKE_TRANSPORT 0) 0 then t.startWake 1 else t

/-- A request joins the others of its endpoint, in its transport from step 3 of a mode entry on (R295); a seventeenth is answered
with BUSY, or with the check that it fails before (R47, R49). -/
def enqueueReq (s : State) (ep : Nat) (r : Req) : State :=
  if 16 ≤ (s.inboxOf ep).length + (s.lateOf ep).length then
    s.respondReq ep r (let a := s.precheck ep r
                   if a = 0 then Ab.BUSY else a) []
  else if s.coresWait then s.setLate ep (s.lateOf ep ++ [(s.clk, r)])
  else s.setInbox ep (s.inboxOf ep ++ [(s.clk, r)])

/-- A whole message has arrived on a transport: Tor answers it on I3C and from the debug session (R50, R350), or it waits for the
service. -/
def arrive (s : State) (ep : Nat) (r : Req) : State :=
  if s.firmwareUp = false ∨ s.endpointUp ep = false then s
  else if s.mode.sleeps then (if ep = 0 then s.torAnswer r else if ep = 321 then s.respondReq 321 r Ab.MODE_FORBIDS [] else s)
  else s.enqueueReq ep r

/-! ### Operations -/

/-- One value read: the staged one where the request asks for it (R50), else the active one. -/
def readOne (s : State) (ep : Nat) (r : Req) (k : Key) : Val × State :=
  match (if bit r.flags 1 && r.stage != 0 then staged (s.stage r.stage).entries k else none) with
  | some v => (valOf v, s)
  | none => s.readObj ep k.1 k.2

/-- The values of a run of objects, one after another (R48). -/
def readRun (ep : Nat) (r : Req) : State → List Key → List Byte × State
  | s, [] => ([], s)
  | s, k :: ks =>
    let x := s.readOne ep r k
    let b := match dictRow k.1 k.2 with
      | some row => putVal row.ty x.1
      | none => []
    let y := readRun ep r x.2 ks
    (b ++ y.1, y.2)

/-- A READ, BLOCK_READ or READ_INSTANCES; a response past 1 024 bytes is refused whole (R46). -/
def doRead (s : State) (ep : Nat) (r : Req) : Effect :=
  let x := readRun ep r s (targets r)
  if 1024 < 16 + x.1.length then refuse s Ab.LENGTH else { abort := 0, state := x.2, payload := x.1 }

/-- A WRITE or BLOCK_WRITE (R49, R412): a stage that it names is open (R413). -/
def doWrite (s : State) (x : Verdict) (ep : Nat) (r : Req) : Effect :=
  if r.stage ≠ 0 ∧ (s.stage r.stage).st ≠ .opened then refuse s Ab.BUSY
  else
    let e := s.writeRun x ep r.stage s ((targets r).zip ((writeVals r).getD []))
    { e with state := s.profWatch e.state, payload := if r.op = Op.WRITE then e.payload else [] }

/-- STAGE_OPEN (R51). -/
def doOpen (s : State) (ep : Nat) : Effect :=
  match s.freeStage with
  | some n => { abort := 0, state := s.setStage n { stageDflt with st := .opened, owner := ep, touched := s.clk }, payload := toBytes 1 n }
  | none => refuse s Ab.BUSY

/-- STAGE_COMMIT (R53, R54). -/
def doCommit (s : State) (r : Req) : Effect :=
  if (s.stage r.stage).st ≠ .opened then refuse s Ab.BUSY
  else
    let x := s.stageCommit r.stage (ofBytes r.payload)
    { abort := x.2.1, state := x.1, payload := toBytes 2 x.2.2 }

/-- STAGE_DISCARD (R51, R413). -/
def doDiscard (s : State) (r : Req) : Effect :=
  if (s.stage r.stage).st ≠ .opened then refuse s Ab.BUSY else done (s.setStage r.stage stageDflt)

/-- SUBSCRIBE and UNSUBSCRIBE (R61). -/
def setFilter (s : State) (ep n : Nat) (f : Option Filter) : State :=
  { s with dict := { s.dict with filters := s.dict.filters.set none (ep, n) f } }

/-- Take up to `n` records of an endpoint, oldest first; the first says whether records were dropped before it (R60, R62). -/
def takeRecords (s : State) (ep n : Nat) : List EvtRec × State :=
  let q := s.dict.queues.get [] (ep, 0)
  let mark := s.dict.dropMark.get false (ep, 0)
  let l := match q.take n with
    | [] => []
    | e :: r => { e with dropped := mark } :: r
  (l, { s with dict := { s.dict with
    queues := s.dict.queues.set [] (ep, 0) (q.drop n)
    dropMark := if l.isEmpty then s.dict.dropMark else s.dict.dropMark.set false (ep, 0) false } })

/-- EVT_FETCH (R62): at most 31 records. -/
def doFetch (s : State) (ep : Nat) (r : Req) : Effect :=
  let x := s.takeRecords ep (min (ofBytes r.payload) 31)
  { abort := 0, state := x.2, payload := x.1.flatMap evtBytes }

/-- Carry out a request that has passed checks 1 to 10 (*Operations*). -/
def carryReq (s : State) (x : Verdict) (ep : Nat) (r : Req) : Effect :=
  if Op.reads r.op then s.doRead ep r
  else if Op.writes r.op then s.doWrite x ep r
  else if r.op = Op.STAGE_OPEN then s.doOpen ep
  else if r.op = Op.STAGE_COMMIT then s.doCommit r
  else if r.op = Op.STAGE_DISCARD then s.doDiscard r
  else if r.op = Op.LOP_ABORT then verdictOf (s.lopAbort ep (ofBytes r.payload))
  else if r.op = Op.SUBSCRIBE then done (s.setFilter ep (takeFilter r.payload).1 (some (takeFilter r.payload).2))
  else if r.op = Op.UNSUBSCRIBE then done (s.setFilter ep (ofBytes r.payload) none)
  else s.doFetch ep r

/-- A request of the debug session restarts its idle time (R346). -/
def noteDebug (s : State) (ep : Nat) : State := if ep = 321 then s.setSec { s.sec with dbgAt := s.clk } else s

/-- Serve a request: check it, carry it out, answer it. -/
def serveReq (s0 : State) (x : Verdict) (ep : Nat) (r : Req) : State :=
  let s := s0.noteDebug ep
  let a := s.precheck ep r
  if a = 0 then
    let e := s.carryReq x ep r
    e.state.respondReq ep r e.abort e.payload
  else s.respondReq ep r a []

/-- A request is served: the oldest that waits at its endpoint, or one that arrives while none waits (R47). Any other one that
arrives waits, and so does every one that arrives in step 3 of a mode entry (R295). -/
def submit (s : State) (x : Verdict) (ep : Nat) (r : Req) : State :=
  if s.firmwareUp = false ∨ s.endpointUp ep = false ∨ s.mode.sleeps = true then s.arrive ep r
  else match s.inboxOf ep with
    | [] => if s.coresWait then s.arrive ep r else s.serveReq x ep r
    | h :: rest => if h.2 = r then (s.setInbox ep rest).serveReq x ep r else s.arrive ep r

end State

/-- Run a dictionary command of an endpoint: it leaves the mode, the queue and every fuse as they are, but that it may raise the
security version counter (R338). -/
def onEp (ep : Nat) (s : State) (f : State → State) : Host.Outcome State Fault Refusal :=
  let t := f s
  if ep < 322 then
    .next { t with pending := s.pending, mode := s.mode, sec := { t.sec with fuse := { s.sec.fuse with svn := max s.sec.fuse.svn t.sec.fuse.svn } } }
  else .fault (.absent ep)

/-- The request of an operation row: its opcode is the row's. -/
def withOp (r : Req) (op : Nat) : Req := { r with op := op }

/-- The payload of a value of an object. -/
def objBytes (o v : Nat) : List Byte :=
  match objRow o with
  | some r => toBytes r.ty.size v
  | none => []

/-- The WRITE of one object by an endpoint. -/
def writeCmd (x : Verdict) (ep o i : Nat) (payload : List Byte) (s : State) : Host.Outcome State Fault Refusal :=
  onEp ep s (fun t => t.submit x ep (writeReq o i payload))

/-- The READ of one object by an endpoint. -/
def readCmd (ep o i : Nat) (s : State) : Host.Outcome State Fault Refusal :=
  onEp ep s (fun t => t.submit none ep (readReq o i))

/-! ### Operation rows -/

/-- READ (R48, R50). -/
def execRead (ep : Nat) (r : Req) (s : State) := onEp ep s (fun t => t.submit none ep (withOp r Op.READ))

/-- WRITE (R49). -/
def execWrite (ep : Nat) (r : Req) (s : State) := onEp ep s (fun t => t.submit none ep (withOp r Op.WRITE))

/-- BLOCK_READ (R48). -/
def execBlockRead (ep : Nat) (r : Req) (s : State) := onEp ep s (fun t => t.submit none ep (withOp r Op.BLOCK_READ))

/-- BLOCK_WRITE (R49). -/
def execBlockWrite (ep : Nat) (r : Req) (s : State) := onEp ep s (fun t => t.submit none ep (withOp r Op.BLOCK_WRITE))

/-- READ_INSTANCES (R48). -/
def execReadInstances (ep : Nat) (r : Req) (s : State) := onEp ep s (fun t => t.submit none ep (withOp r Op.READ_INSTANCES))

/-- STAGE_OPEN (R51). -/
def execStageOpen (ep : Nat) (r : Req) (s : State) := onEp ep s (fun t => t.submit none ep (withOp r Op.STAGE_OPEN))

/-- STAGE_COMMIT (R53). -/
def execStageCommit (ep : Nat) (r : Req) (s : State) := onEp ep s (fun t => t.submit none ep (withOp r Op.STAGE_COMMIT))

/-- STAGE_DISCARD (R56). -/
def execStageDiscard (ep : Nat) (r : Req) (s : State) := onEp ep s (fun t => t.submit none ep (withOp r Op.STAGE_DISCARD))

/-- LOP_ABORT (R58, R59). -/
def execLopAbort (ep : Nat) (r : Req) (s : State) := onEp ep s (fun t => t.submit none ep (withOp r Op.LOP_ABORT))

/-- SUBSCRIBE (R61). -/
def execSubscribe (ep : Nat) (r : Req) (s : State) := onEp ep s (fun t => t.submit none ep (withOp r Op.SUBSCRIBE))

/-- UNSUBSCRIBE (R61). -/
def execUnsubscribe (ep : Nat) (r : Req) (s : State) := onEp ep s (fun t => t.submit none ep (withOp r Op.UNSUBSCRIBE))

/-- EVT_FETCH (R62). -/
def execEvtFetch (ep : Nat) (r : Req) (s : State) := onEp ep s (fun t => t.submit none ep (withOp r Op.EVT_FETCH))

/-- OPCODE_UNKNOWN_REQUEST (R49): a request with any other opcode, EVENT among them. -/
def execOpcodeUnknownRequest (ep : Nat) (r : Req) (s : State) :=
  onEp ep s (fun t => if Op.known r.op then t else t.submit none ep r)

/-! ### Transports -/

/-- Take an MCTP packet (R44, R45): the first packet of a message carries the type 0x7F and the enterprise number; of a message past
1 024 bytes only the header is remembered, for its answer. PRESUMED: a packet longer than the transport's unit is dropped, as MCTP
base has it. -/
def mctpIn (s0 : State) (ep : Nat) (pkt : MctpPacket) : State :=
  let s : State := { s0 with dict := { s0.dict with peers := s0.dict.peers.set 0 (ep, 0) pkt.src } }
  let key : Key := (ep, pkt.tag)
  let put := fun (t : State) (x : Option Reasm) => ({ t with dict := { t.dict with reasm := t.dict.reasm.set none key x } } : State)
  let start : Option Reasm :=
    if pkt.som then (if pkt.bytes.take 5 = mctpType then some { bytes := [], tooLong := false, started := s.clk } else none)
    else s.dict.reasm.get none key
  if s0.mctpUnit ep < pkt.bytes.length then s0
  else match start with
  | none => if pkt.som then put s none else s
  | some x =>
    let b := x.bytes ++ (if pkt.som then pkt.bytes.drop 5 else pkt.bytes)
    let long := x.tooLong || decide (1024 < b.length)
    let y : Reasm := { x with bytes := if long then b.take 12 else b, tooLong := long }
    if pkt.eom then
      (let t := put s none
       let r := { parseReq y.bytes with mtag := pkt.tag }
       t.arrive ep (if y.tooLong then { r with ver := 0 } else r))
    else put s (some y)

/-- MCTP_PACKET_RX (R44, R45): on I3C (endpoint 0), or in-band on the port of an FM endpoint. -/
def execMctpPacketRx (ep : Nat) (pkt : MctpPacket) (s : State) :=
  onEp ep s (fun t => if ep ≤ 256 ∧ t.endpointUp ep = true ∧ t.firmwareUp = true then mctpIn t ep pkt else t)

/-- MSG_REASSEMBLY_TIMEOUT (R45). -/
def execMsgReassemblyTimeout (ep tag : Nat) (s : State) := onEp ep s (fun t =>
  match t.dict.reasm.get none (ep, tag) with
  | some x => if t.after x.started 100000000 then { t with dict := { t.dict with reasm := t.dict.reasm.set none (ep, tag) none } } else t
  | none => t)

/-- I3C_ENTDAA (R44). -/
def execI3cEntdaa (addr : Nat) (s : State) := steady s (fun t =>
  if t.rst.step = .inReset then t else { t with dict := { t.dict with i3cAddr := addr % 128 } })

/-- TENANT_MAILBOX_COMMAND (R44): opcode 0xC001 on the switch mailbox of a host port carries a whole message. -/
def execTenantMailboxCommand (p opcode : Nat) (bytes : List Byte) (s : State) := onUnit p 256 s (fun t =>
  match t.hostPart p with
  | some n => if opcode = 0xC001 ∧ t.flag Obj.TEN_MAILBOX_EN p = true ∧ t.dlUp p = true then t.arrive (257 + n) (parseReq bytes) else t
  | none => t)

/-- DBG_MAILBOX (R343): carried only under that TAP instruction. -/
def execDbgMailbox (bytes : List Byte) (s : State) := steady s (fun t =>
  if t.sec.tapIr = 3 then t.arrive 321 (parseReq bytes) else t)

/-- EVENT_SEND (R62): up to 31 records to an FM endpoint in an EVENT message, under a tag of the GT9's own. -/
def execEventSend (ep : Nat) (s : State) := onEp ep s (fun t =>
  if 1 ≤ ep ∧ ep ≤ 256 ∧ t.endpointUp ep = true ∧ t.ridgeClock = true ∧ (t.dict.queues.get [] (ep, 0)).isEmpty = false then
    (t.takeRecords ep 31).2.sendMessage ep 8 (eventBytes (t.takeRecords ep 31).1)
  else t)

/-! ### Rows that read or write one object -/

/-- SCHED_TIME_WRITE (R410). -/
def execSchedTimeWrite (ep slot value : Nat) (s : State) := writeCmd none ep Obj.SCHED_TIME slot (objBytes Obj.SCHED_TIME value) s

/-- LANE_PRBS_MODE_WRITE (R83). -/
def execLanePrbsModeWrite (ep lane value : Nat) (s : State) :=
  writeCmd none ep Obj.LANE_PRBS_MODE lane (objBytes Obj.LANE_PRBS_MODE value) s

/-- LANE_CLEAR_WRITE (R84). -/
def execLaneClearWrite (ep lane value : Nat) (s : State) := writeCmd none ep Obj.LANE_CLEAR lane (objBytes Obj.LANE_CLEAR value) s

/-- HG_REBALANCE_WRITE (R119). -/
def execHgRebalanceWrite (ep g value : Nat) (s : State) := writeCmd none ep Obj.HG_REBALANCE g (objBytes Obj.HG_REBALANCE value) s

/-- HIST_CLEAR_WRITE (R183). -/
def execHistClearWrite (ep p value : Nat) (s : State) := writeCmd none ep Obj.HIST_CLEAR p (objBytes Obj.HIST_CLEAR value) s

/-- DIR_LOOKUP_WRITE (R191). -/
def execDirLookupWrite (ep value : Nat) (s : State) := writeCmd none ep Obj.DIR_LOOKUP 0 (objBytes Obj.DIR_LOOKUP value) s

/-- DIR_SET_CLEAR_WRITE (R193). -/
def execDirSetClearWrite (ep value : Nat) (s : State) := writeCmd none ep Obj.DIR_SET_CLEAR 0 (objBytes Obj.DIR_SET_CLEAR value) s

/-- AGT_REVIVE_WRITE (R230). -/
def execAgtReviveWrite (ep a value : Nat) (s : State) := writeCmd none ep Obj.AGT_REVIVE a (objBytes Obj.AGT_REVIVE value) s

/-- MOVE_START (R235). -/
def execMoveStart (ep c value : Nat) (s : State) := writeCmd none ep Obj.MOVE_START c (objBytes Obj.MOVE_START value) s

/-- FL_TAG_FILL_WRITE (R259). -/
def execFlTagFillWrite (ep value : Nat) (s : State) := writeCmd none ep Obj.FL_TAG_FILL 0 (objBytes Obj.FL_TAG_FILL value) s

/-- FL_TAG_PROBE_WRITE (R258). -/
def execFlTagProbeWrite (ep value : Nat) (s : State) := writeCmd none ep Obj.FL_TAG_PROBE 0 (objBytes Obj.FL_TAG_PROBE value) s

/-- DM_GO_READ (R348). -/
def execDmGoRead (ep : Nat) (s : State) := writeCmd none ep Obj.DM_GO 0 (objBytes Obj.DM_GO 1) s

/-- DM_GO_WRITE (R348). -/
def execDmGoWrite (ep : Nat) (s : State) := writeCmd none ep Obj.DM_GO 0 (objBytes Obj.DM_GO 2) s

/-- CH_ENABLE_WRITE (R18, R287). -/
def execChEnableWrite (ep ch value : Nat) (s : State) := writeCmd none ep Obj.CH_ENABLE ch (objBytes Obj.CH_ENABLE value) s

/-- CH_FAULT_CLEAR_WRITE (R281, R286). -/
def execChFaultClearWrite (ep ch value : Nat) (s : State) := writeCmd none ep Obj.CH_FAULT_CLEAR ch (objBytes Obj.CH_FAULT_CLEAR value) s

/-- CH_MEAS_CLEAR_WRITE (R289). -/
def execChMeasClearWrite (ep ch value : Nat) (s : State) := writeCmd none ep Obj.CH_MEAS_CLEAR ch (objBytes Obj.CH_MEAS_CLEAR value) s

/-- SLOT_THRESHOLD_WRITE (R290): of FEED_RSHUNT or a threshold; of no other object. -/
def execSlotThresholdWrite (ep obj inst value : Nat) (s : State) :=
  onEp ep s (fun t => if (State.thresholdCh obj inst).isSome then t.submit none ep (writeReq obj inst (objBytes obj value)) else t)

/-- PM_ENTER_WRITE (R294). -/
def execPmEnterWrite (ep value : Nat) (s : State) := writeCmd none ep Obj.PM_ENTER 0 (objBytes Obj.PM_ENTER value) s

/-- INT_CAUSE_CLR_WRITE (R311). -/
def execIntCauseClrWrite (ep src value : Nat) (s : State) := writeCmd none ep Obj.INT_CAUSE_CLR src (objBytes Obj.INT_CAUSE_CLR value) s

/-- INT_ENABLE_WRITE (R313). -/
def execIntEnableWrite (ep src value : Nat) (s : State) := writeCmd none ep Obj.INT_ENABLE src (objBytes Obj.INT_ENABLE value) s

/-- INT_GLOBAL_EN_WRITE (R318). -/
def execIntGlobalEnWrite (ep value : Nat) (s : State) := writeCmd none ep Obj.INT_GLOBAL_EN 0 (objBytes Obj.INT_GLOBAL_EN value) s

/-- INT_ROUTING_WRITE (R319): of INT_TARGET, INT_TGT_EN or INT_TGT_THRESH. -/
def execIntRoutingWrite (ep obj inst value : Nat) (s : State) :=
  onEp ep s (fun t => if obj = Obj.INT_TARGET ∨ obj = Obj.INT_TGT_EN ∨ obj = Obj.INT_TGT_THRESH then
    t.submit none ep (writeReq obj inst (objBytes obj value)) else t)

/-- INT_WAKE_EN_WRITE (R321). -/
def execIntWakeEnWrite (ep src value : Nat) (s : State) := writeCmd none ep Obj.INT_WAKE_EN src (objBytes Obj.INT_WAKE_EN value) s

/-- SMP_RELEASE_WRITE (R332). -/
def execSmpReleaseWrite (ep k value : Nat) (s : State) := writeCmd none ep Obj.SMP_RELEASE k (objBytes Obj.SMP_RELEASE value) s

/-- CNT_CONFIG_WRITE (R328): of CNT_EVT, CNT_MODE, CNT_PORT or CNT_AUX. -/
def execCntConfigWrite (ep obj inst value : Nat) (s : State) :=
  onEp ep s (fun t => if obj = Obj.CNT_EVT ∨ obj = Obj.CNT_MODE ∨ obj = Obj.CNT_PORT ∨ obj = Obj.CNT_AUX then
    t.submit none ep (writeReq obj inst (objBytes obj value)) else t)

/-- CNT_VALUE_WRITE (R328). -/
def execCntValueWrite (ep i value : Nat) (s : State) := writeCmd none ep Obj.CNT_VALUE i (objBytes Obj.CNT_VALUE value) s

/-- CNT_OVF_CLR_WRITE (R330). -/
def execCntOvfClrWrite (ep k value : Nat) (s : State) := writeCmd none ep Obj.CNT_OVF_CLR k (objBytes Obj.CNT_OVF_CLR value) s

/-- LC_NONCE_READ (R335). -/
def execLcNonceRead (ep : Nat) (s : State) := readCmd ep Obj.LC_NONCE 0 s

/-- LC_REQUEST_WRITE (R335): `vendorOk` and `ownerOk` are the verdicts on the signatures in LC_AUTH. -/
def execLcRequestWrite (ep value : Nat) (vendorOk ownerOk : Bool) (s : State) :=
  writeCmd (some (vendorOk, ownerOk)) ep Obj.LC_REQUEST 0 (objBytes Obj.LC_REQUEST value) s

/-- FW_CHUNK_WRITE (R337). -/
def execFwChunkWrite (ep : Nat) (bytes : List Byte) (s : State) :=
  writeCmd none ep Obj.FW_CHUNK 0 (toBytes 2 bytes.length ++ bytes) s

/-- FW_UPDATE_WRITE (R337). -/
def execFwUpdateWrite (ep value : Nat) (s : State) := writeCmd none ep Obj.FW_UPDATE 0 (objBytes Obj.FW_UPDATE value) s

/-- FW_CONFIRM_WRITE (R338): confirmation raises the fused counter. -/
def execFwConfirmWrite (ep value : Nat) (s : State) := writeCmd none ep Obj.FW_CONFIRM 0 (objBytes Obj.FW_CONFIRM value) s

/-- DBG_CHALLENGE_READ (R345). -/
def execDbgChallengeRead (ep : Nat) (s : State) := readCmd ep Obj.DBG_CHALLENGE 0 s

/-- DBG_RESPONSE_WRITE (R345): `vendorOk` and `ownerOk` are the verdicts on the response's key and signature. -/
def execDbgResponseWrite (ep : Nat) (bytes : List Byte) (vendorOk ownerOk : Bool) (s : State) :=
  writeCmd (some (vendorOk, ownerOk)) ep Obj.DBG_RESPONSE 0 (toBytes 2 bytes.length ++ bytes) s

/-- DBG_DROP_WRITE (R346). -/
def execDbgDropWrite (ep value : Nat) (s : State) := writeCmd none ep Obj.DBG_DROP 0 (objBytes Obj.DBG_DROP value) s

/-- DBG_ALLOW_WRITE (R346). -/
def execDbgAllowWrite (ep value : Nat) (s : State) := writeCmd none ep Obj.DBG_ALLOW 0 (objBytes Obj.DBG_ALLOW value) s

/-- RIDGE_HALT_WRITE (R347). -/
def execRidgeHaltWrite (ep value : Nat) (s : State) := writeCmd none ep Obj.RIDGE_HALT 0 (objBytes Obj.RIDGE_HALT value) s

/-- TALUS_WINDOW_NOW_WRITE (R355). -/
def execTalusWindowNowWrite (ep value : Nat) (s : State) :=
  writeCmd none ep Obj.TALUS_WINDOW_NOW 0 (objBytes Obj.TALUS_WINDOW_NOW value) s

/-- TALUS_CEIL_RESET_WRITE (R361). -/
def execTalusCeilResetWrite (ep p value : Nat) (s : State) :=
  writeCmd none ep Obj.TALUS_CEIL_RESET p (objBytes Obj.TALUS_CEIL_RESET value) s

/-- FET_REBASE_WRITE (R366). -/
def execFetRebaseWrite (ep f value : Nat) (s : State) := writeCmd none ep Obj.FET_REBASE f (objBytes Obj.FET_REBASE value) s

/-- PROF_STORE_WRITE (R375). -/
def execProfStoreWrite (ep p value : Nat) (s : State) := writeCmd none ep Obj.PROF_STORE p (objBytes Obj.PROF_STORE value) s

/-- PROF_CHUNK_WRITE (R375). -/
def execProfChunkWrite (ep : Nat) (bytes : List Byte) (s : State) :=
  writeCmd none ep Obj.PROF_CHUNK 0 (toBytes 2 bytes.length ++ bytes) s

/-- RESET_NOW_WRITE (R379): answered, and a full reset follows 10 ms later. -/
def execResetNowWrite (ep value : Nat) (s : State) := writeCmd none ep Obj.RESET_NOW 0 (objBytes Obj.RESET_NOW value) s

end Sys2Proof.Machine
end

