-- ==== Sys2Proof/Machine/FmApi.lean ====
section
/-!
DEFINITION. CXL FM API commands on in-band FM endpoints (R139): each is the dictionary operations that the table *FM API commands
and their translation* lists, under the same checks. Return codes: 0 success, 1 background command started, 3 Unsupported, and
for a dictionary abort a code that the spec leaves open.
-/

namespace Sys2Proof.Machine

namespace State

/-- Send an FM API response or background completion. -/
def fmAnswer (s : State) (ep code : Nat) (bytes : List Byte) : State := s.emit (.fmApi ep code bytes)

/-- The command is refused with a dictionary abort. -/
def fmRefuse (s : State) (ep abort : Nat) : State := s.fmAnswer ep (Config.fmApiCode abort) []

/-- The BLOCK_READ of `n` subindexes from an object. -/
def fmRead (o i n : Nat) : Req :=
  { ver := 1, op := Op.BLOCK_READ, tag := 0, flags := 0, index := o / 256, sub := o % 256, stage := 0, inst := i, len := 1
    payload := toBytes 1 n }

/-- Read runs of objects one after another; the first abort refuses the command. -/
def fmReads (s : State) (ep : Nat) : List Req → Except Nat (List Byte)
  | [] => .ok []
  | r :: rest =>
    let a := s.precheck ep r
    if a ≠ 0 then .error a
    else match fmReads s ep rest with
      | .ok b => .ok ((readRun ep r s (targets r)).1 ++ b)
      | .error e => .error e

/-- Answer a reading command. -/
def fmReadCmd (s : State) (ep : Nat) (l : List Req) (extra : List Byte) : State :=
  match s.fmReads ep l with
  | .ok b => s.fmAnswer ep 0 (b ++ extra)
  | .error a => s.fmRefuse ep a

/-- Stage one value and commit it at once on the endpoint's behalf: the abort, or the state and the handle. -/
def fmStage (s : State) (ep o i v : Nat) : Except Nat (State × Nat) :=
  match s.freeStage with
  | none => .error Ab.BUSY
  | some n =>
    let t := s.setStage n { stageDflt with st := .opened, owner := ep, touched := s.clk }
    let r := { writeReq o i (objBytes o v) with stage := n }
    let a := t.precheck ep r
    if a ≠ 0 then .error a
    else
      let e := t.doWrite none ep r
      if e.abort ≠ 0 then .error e.abort
      else
        let x := e.state.stageCommit n 0
        if x.2.1 ≠ 0 then .error x.2.1 else .ok (x.1, x.2.2)

/-- The background completion of a command with handle `h`: now if the handle has ended, else when it does. -/
def fmTrack (s : State) (ep h : Nat) : State :=
  if (s.lop h).st = .done then s.fmAnswer ep 0 [] else s.modLop h (fun l => { l with fm := true })

/-- A command that stages one value: answered that it has started, and completed in the background. -/
def fmStageCmd (s : State) (ep o i v : Nat) : State :=
  match s.fmStage ep o i v with
  | .error a => s.fmRefuse ep a
  | .ok (t, h) => (t.fmAnswer ep 1 []).fmTrack ep h

/-- Physical Port Control, reset: PORT_ENABLE 0 and then 1. -/
def fmPortReset (s : State) (ep p : Nat) : State :=
  match s.fmStage ep Obj.PORT_ENABLE p 0 with
  | .error a => s.fmRefuse ep a
  | .ok (t, _) => match t.fmStage ep Obj.PORT_ENABLE p 1 with
    | .error a => t.fmRefuse ep a
    | .ok (u, h) => (u.fmAnswer ep 1 []).fmTrack ep h

/-- The LD behind a port with an LD-ID (0xFFFF a single-logical device). -/
def ldOf (s : State) (port ldid : Nat) : Option Nat :=
  s.ldsKnown.find? (fun ld => s.reg Obj.LD_PORT ld == port && s.reg Obj.LD_LDID ld == ldid)

/-- A multi-logical device on which some LD_PORT names this port is there. -/
def mldOn (s : State) (port : Nat) : Bool :=
  port < 256 && s.dlUp port && (match s.fab.enumd.get none (port, 0) with
    | some e => e.found && !e.lds.isEmpty
    | none => false) && s.ldsKnown.any (fun ld => s.reg Obj.LD_PORT ld == port)

/-- A command passed through to the device on a port: its response is returned unchanged (R139). PRESUMED: the opcodes are those of
CXL's FM API. -/
def fmPass (s : State) (ep port code : Nat) (payload response : List Byte) (f : State → State) : State :=
  if s.mldOn port then (f (s.emit (.fmDevice port code payload))).fmAnswer ep 0 response else s.fmRefuse ep Ab.OBJ_ABSENT

/-- The allocations of a device have changed: they are read again, and LDs bound to no vPPB take their new size (R125). -/
def takeAllocations (s : State) (port : Nat) (l : List (Nat × Nat)) : State :=
  let e : EnumResult := (s.fab.enumd.get none (port, 0)).getD { found := true, single := 0, lds := [] }
  ({ s with fab := { s.fab with enumd := s.fab.enumd.set none (port, 0) (some { e with lds := l }) } } : State).takeLdSizes port false

end State

/-- Run an FM API command on an in-band endpoint, while the dictionary serves requests and none of the endpoint waits. -/
def onFm (ep : Nat) (s : State) (f : State → State) : Host.Outcome State Fault Refusal :=
  onEp ep s (fun t =>
    if 1 ≤ ep ∧ ep ≤ 256 ∧ t.endpointUp ep = true ∧ t.firmwareUp = true ∧ t.mode.sleeps = false ∧ t.coresWait = false ∧
       (t.inboxOf ep).isEmpty = true
    then f t else t)

/-! ### Commands -/

/-- IDENTIFY_SWITCH_DEVICE (R139): identity, the number of formed ports, and PART_ENABLE of the 64 partitions. -/
def execIdentifySwitchDevice (ep : Nat) (s : State) := onFm ep s (fun t =>
  t.fmReadCmd ep [State.fmRead Obj.VENDOR 0 7]
    (toBytes 2 ((List.range 256).filter t.formed).length ++ (List.range 64).flatMap (fun n => toBytes 1 (t.reg Obj.PART_ENABLE n))))

/-- GET_PHYSICAL_PORT_STATE (R139). -/
def execGetPhysicalPortState (ep : Nat) (ports : List Nat) (s : State) := onFm ep s (fun t =>
  t.fmReadCmd ep (ports.map (fun p => State.fmRead Obj.PORT_STATE p 6)) [])

/-- PHYSICAL_PORT_CONTROL (R139). -/
def execPhysicalPortControl (ep p : Nat) (o : PortOp) (s : State) := onFm ep s (fun t =>
  match o with
  | .assertPerst => t.fmStageCmd ep Obj.PORT_ENABLE p 0
  | .deassertPerst => t.fmStageCmd ep Obj.PORT_ENABLE p 1
  | .reset => t.fmPortReset ep p)

/-- GET_VIRTUAL_CXL_SWITCH_INFO (R139): PART_ENABLE to PART_STATE of each partition, then VPPB_LD and VPPB_STATE of its vPPBs. -/
def execGetVirtualCxlSwitchInfo (ep : Nat) (parts : List Nat) (s : State) := onFm ep s (fun t =>
  t.fmReadCmd ep (parts.flatMap (fun n =>
    State.fmRead Obj.PART_ENABLE n 4 :: (List.range 64).map (fun k => State.fmRead Obj.VPPB_LD (64 * n + k) 2))) [])

/-- BIND_VPPB (R139). -/
def execBindVppb (ep part k port ldid : Nat) (s : State) := onFm ep s (fun t =>
  match t.ldOf port ldid with
  | some ld => if part < 64 ∧ k < 64 then t.fmStageCmd ep Obj.VPPB_LD (64 * part + k) ld else t.fmRefuse ep Ab.OBJ_ABSENT
  | none => t.fmRefuse ep Ab.OBJ_ABSENT)

/-- UNBIND_VPPB (R139). -/
def execUnbindVppb (ep part k : Nat) (s : State) := onFm ep s (fun t =>
  if part < 64 ∧ k < 64 then t.fmStageCmd ep Obj.VPPB_LD (64 * part + k) 0xFFFF else t.fmRefuse ep Ab.OBJ_ABSENT)

/-- GET_LD_INFO (R139). -/
def execGetLdInfo (ep port : Nat) (payload response : List Byte) (s : State) := onFm ep s (fun t =>
  t.fmPass ep port 0x5400 payload response id)

/-- GET_LD_ALLOCATIONS (R139). -/
def execGetLdAllocations (ep port : Nat) (payload response : List Byte) (s : State) := onFm ep s (fun t =>
  t.fmPass ep port 0x5401 payload response id)

/-- SET_LD_ALLOCATIONS (R125, R139): `allocs` is what the device reports when the command has completed. -/
def execSetLdAllocations (ep port : Nat) (payload response : List Byte) (allocs : List (Nat × Nat)) (s : State) := onFm ep s (fun t =>
  t.fmPass ep port 0x5402 payload response (fun u => u.takeAllocations port allocs))

/-- TUNNEL_MANAGEMENT_COMMAND (R139). -/
def execTunnelManagementCommand (ep port : Nat) (payload response : List Byte) (s : State) := onFm ep s (fun t =>
  t.fmPass ep port 0x5300 payload response id)

/-- FM_API_UNSUPPORTED (R139): any other command. -/
def execFmApiUnsupported (ep _opcode : Nat) (s : State) := onFm ep s (fun t => t.fmAnswer ep 3 [])

end Sys2Proof.Machine
end

