-- ==== Sys2Proof/Machine/Mgmt.lean ====
section
/-!
DEFINITION. Management frames of Drudar links (R44, R99), the MAC frames that check what arrived (R107, R108), and the end of an
idle debug session.
-/

namespace Sys2Proof.Machine

/-- The MCTP packet a management frame carries: four bytes of MCTP header, whose last holds the start and end marks and the
message tag with its owner bit, then the packet's part of the message. -/
def mgmtPacket (f : Frame) : Option MctpPacket :=
  match f.body.take f.len with
  | _ :: _ :: src :: b :: rest =>
    some {
      som := bit b.toNat 7
      eom := bit b.toNat 6
      tag := b.toNat % 16
      bytes := rest
      src := src.toNat }
  | _ => none

/-- Deliver a management frame: its class 8 credit goes back, and its packet is taken where the port is an FM endpoint. -/
def mgmtDeliver (p : Nat) (f : Frame) (s : State) : State :=
  let t := s.sendCredit p 24
  match mgmtPacket f with
  | some k => if t.endpointUp (p + 1) = true ∧ t.firmwareUp = true then mctpIn t (p + 1) k else t
  | none => t

/-- MGMT_FRAME_RX (R99, R107, R108): the body is decrypted; in containment the frame waits for its MAC frame. -/
def execMgmtFrameRx (p : Nat) (f : Frame) (s : State) := onUnit p 256 s (fun t =>
  if t.druLive p = false then t
  else
    let x := t.receiveSeq p f
    if x.1 = false ∨ f.ftype ≠ 2 then x.2
    else if x.2.contained p then x.2.contain p (t.openBody p f)
    else mgmtDeliver p (t.openBody p f) x.2)

/-- MAC_FRAME_RX (R107, R108): a tag that checks releases what containment holds and settles what skid forwarded. -/
def execMacFrameRx (p : Nat) (f : Frame) (tagOk : Bool) (s : State) := onUnit p 256 s (fun t =>
  if t.druLive p = false then t
  else
    let x := t.receiveSeq p f
    if x.1 = false ∨ f.ftype ≠ 5 ∨ x.2.druIde p = false then x.2
    else if tagOk = false then x.2.druIdeFault p f
    else
      let held := (x.2.dru p).held
      let u := x.2.modDru p (fun d => { d with held := [], skid := [] })
      held.foldl (fun v h => if h.ftype = 2 then mgmtDeliver p h v else v.handFlit p h) u)

/-- DBG_IDLE_TIMEOUT (R346): commits that waited for a halted core are taken up. -/
def execDbgIdleTimeout (s : State) := steady s (fun t =>
  if t.reg Obj.DBG_LEVEL 0 ≠ 0 ∧ t.ridgeClock = true ∧ t.after t.sec.dbgAt (t.reg Obj.DBG_IDLE_S 0 * 1000000000) = true then
    (t.setDbg 0 2).takeUpCommits
  else t)

end Sys2Proof.Machine
end

