-- ==== Sys2Proof/Machine/Time.lean ====
section
/-!
DEFINITION. Exchanges of fabric time (R26 to R31, R106, R409): PPS edges, time flits, PTM, and what each does to the counter,
the loop and the time state.
-/

namespace Sys2Proof.Machine

/-- One second in units of the counter, 2^-32 ns. -/
def secUnit : Nat := 1000000000 * nsUnit

namespace State

/-- The second that TIME_PPS_OUT pulses for at this fabric time (R32): whole seconds of fabric time plus TIME_PPS_OUT_ADJ. -/
def ppsSecond (s : State) : Int := ((s.now : Int) - toSigned 4 (s.reg Obj.TIME_PPS_OUT_ADJ 0) * 65536) / (65536 * 1000000000)

/-- After a backward step a second that lies ahead again is pulsed again (R32). -/
def ppsBack (s : State) : State :=
  if s.ppsSecond + 1 < (s.time.ppsSec : Int) then s.setTime { s.time with ppsSec := 0 } else s

/-- After a backward step a time that lies ahead again is not yet reached (R37). -/
def undoDue (s : State) : State :=
  s.setTime { s.time with slots := s.time.slots.map (fun e => if s.now < e.2.time then (e.1, { e.2 with due := 0 }) else e) }

/-- Correct an offset by one step (R26, R27): the PTM dialogs lose their timestamps (R31), and events that a forward step passes
are missed (R38); the boundaries of gate lists are grouped afresh (R180). -/
def stepCtr (s : State) (off : Int) : State :=
  let old := s.now
  let t := (s.endSlew.addCtr off).clearPtm
  (if 0 < off then t.missedEvents old else t.ppsBack.undoDue).regroup

/-- Correct an offset by a slew (R26). -/
def startSlew (s : State) (off : Int) : State := s.setTime { s.time with slew := off, slewing := off != 0 }

/-- An offset is corrected by a step (R26, R27): beyond TIME_STEP_LIMIT, in either direction in FREE_RUN and LOCKING or while
TIME_MONO is 0, otherwise forward only. -/
def stepsBy (s : State) (off : Int) : Bool :=
  decide (s.reg Obj.TIME_STEP_LIMIT 0 * nsUnit < off.natAbs) &&
  (match s.time.st with
   | .freeRun => true
   | .locking => true
   | _ => decide (0 < off) || !(s.flag Obj.TIME_MONO 0))

/-- The frequency estimate after an exchange (R409): integral gain 1/4, within 1 000 ppm; a step, and the first exchange after a
full reset, a wake or a change of source, leave it. With the reference present only TIME_FREQ_UPDATE sets it. -/
def newRate (s : State) (off : Int) (stepped : Bool) : Rat :=
  match s.time.lastExch with
  | none => s.time.y
  | some a =>
    if stepped ∨ s.time.noFreq = true ∨ s.clk ≤ a ∨ (s.reg Obj.TIME_ROLE 0 = 1 ∧ s.time.refSeen = true ∧ s.time.refHeld = false) then s.time.y
    else min (max (s.time.y + (off : Rat) / ((4 * (s.clk - a) : Nat) : Rat)) (-maxRate)) maxRate

/-- Enter LOCKED (R33). -/
def enterLocked (s : State) : State :=
  let t := s.setTime { s.time with st := .locked }
  t.raise 0xE001 0xE0 1 0xFFFF t.timeUnc

/-- An exchange with an offset in 2^-32 ns (R26, R27, R33, R409). -/
def exchange (s : State) (off : Int) : State :=
  let stepped := s.stepsBy off
  let y := s.newRate off stepped
  let s1 := s.setTime { s.time with y := y, lastExch := some s.clk, noFreq := false }
  let far := decide (s.reg Obj.TIME_STEP_LIMIT 0 * nsUnit < off.natAbs)
  let old := s.time.st
  let count := if off.natAbs ≤ 100 * nsUnit then s.time.lockCount + 1 else 0
  let s2 := match old with
    | .freeRun => s1.setTime { s1.time with st := .locking, lockCount := 0 }
    | .locking => s1.setTime { s1.time with lockCount := count }
    | _ => s1
  let s3 := if stepped then s2.stepCtr off else s2.startSlew off
  match old with
  | .freeRun => s3
  | .locking => if 3 ≤ count then s3.enterLocked else s3
  | _ =>
    let s4 := if far then s3.raise 0xE004 0xE0 2 0xFFFF (ofSigned 8 (off / ((nsUnit : Nat) : Int))) else s3
    if old = .locked then s4 else s4.enterLocked

/-! ### Grandmaster (R28) -/

/-- The time assigned to a PPS edge, ns (R28). DESIGN CHOICE: of two whole seconds that are equally near, the later. -/
def edgeTime (s : State) : Nat :=
  match s.time.secNext with
  | some n => n * 1000000000
  | none => match s.time.edge with
    | none => 0
    | some a =>
      if s.time.edgeGap = true ∨ s.after s.time.edgeClk 1100000000 = true then
        let d : Int := (s.time.ctr : Int) - ((a * nsUnit : Nat) : Int)
        let k : Int := (2 * d + (secUnit : Int)) / ((2 * secUnit : Nat) : Int)
        ((a : Int) + k * 1000000000).toNat
      else a + 1000000000

/-- A rising edge on TIME_PPS_IN (R28): of a grandmaster, outside HOLD and SENTINEL (R409). -/
def ppsIn (s : State) : State :=
  if s.ridgeClock = false ∨ s.reg Obj.TIME_ROLE 0 ≠ 1 then s
  else
    let a := s.edgeTime
    let t := s.setTime { s.time with edge := some a, edgeClk := s.clk, edgeGap := false, secNext := none }
    t.exchange (((a * nsUnit : Nat) : Int) - (s.time.ctr : Int))

/-! ### Time flits (R30, R106) -/

/-- The hop count that a slave serves, one more than its source's; 0 at the grandmaster (R30). -/
def hopCount (s : State) : Nat :=
  if s.reg Obj.TIME_ROLE 0 = 1 then 0
  else if s.reg Obj.TIME_ROLE 0 = 2 then min 255 ((s.flitDlg s.timeSource).hops + 1)
  else s.freeVal % 256

/-- A slave's current source port. -/
def isSource (s : State) (p : Nat) : Bool := s.reg Obj.TIME_ROLE 0 == 2 && s.timeSource == p

/-- Send a time flit (R106, *Time flit*). With Drudar IDE on, its TAG is the GMAC over bytes 0 to 31 under the key in use. DESIGN CHOICE:
its vector is that of the key's current count. -/
def sendTimeFlit (s : State) (p : Nat) : State :=
  let d := s.flitDlg p
  let tid := (d.txTid + 1) % 65536
  let serving := s.flag Obj.TIME_PORT_SERVE p
  let t := if s.reg Obj.TIME_ROLE 0 = 0 then s.nextFree else s
  let head := toBytes 10 s.now ++ toBytes 10 d.rxT ++ toBytes 2 tid ++ toBytes 2 d.rxTid ++ toBytes 4 s.timeUnc ++
    toBytes 1 s.hopCount ++ toBytes 1 ((if serving then 1 else 0) + (if s.timeSync then 2 else 0)) ++ [0, 0]
  let key := s.txKey p (s.dru p).ideSlot
  let body := head ++ (if t.druIde p then gcmTag key.key (ideIv key) head [] else [])
  let u := t.setFlitDlg p { d with
    txTid := tid, txT := s.now, lastTx := s.clk + 1, exT1 := d.peerT1, exT2 := d.rxT, exT3 := s.now, have3 := d.rxT != 0 }
  (u.putFrame p (plainFrame 3 body)).frameTime p

/-- The offset that a flit with T_RX_LAST `t4` closes (*Roles and sources*, R106), 2^-16 ns: the path delay is the measured one
plus DRU_TIME_ASYM. -/
def flitOffset (s : State) (p t4 : Nat) : Int :=
  let d := s.flitDlg p
  let delay : Int := (((t4 : Int) - (d.exT1 : Int)) - ((d.exT3 : Int) - (d.exT2 : Int))) / 2 + toSigned 4 (s.reg Obj.DRU_TIME_ASYM p) * 65536
  (d.exT1 : Int) + delay - (d.exT2 : Int)

/-- A flit closes an exchange: SERVING, fewer than 16 hops, and it times our last flit (R30, R106). -/
def flitCloses (s : State) (p : Nat) (b : List Byte) : Bool :=
  let d := s.flitDlg p
  bit (ofBytes ((b.drop 29).take 1)) 0 && ofBytes ((b.drop 28).take 1) < 16 && d.have3 &&
  ofBytes ((b.drop 22).take 2) == d.txTid && ofBytes ((b.drop 10).take 10) != 0

/-- A good time flit is taken: its exchange where it closes one, and the times of the next (R106). -/
def takeTimeFlit (s : State) (p : Nat) (b : List Byte) : State :=
  let d := s.flitDlg p
  let closes := s.flitCloses p b
  let off := s.flitOffset p (ofBytes ((b.drop 10).take 10))
  let soon := d.lastRx != 0 && !(s.after (d.lastRx - 1) 2000000)
  let e := if closes then { d with
      valid := if soon then d.valid + 1 else 1, lastRx := s.clk + 1
      unc := ofBytes ((b.drop 24).take 4), hops := ofBytes ((b.drop 28).take 1) } else { d with valid := 0 }
  let s1 := s.setFlitDlg p e
  let s2 := if closes ∧ s.isSource p = true then s1.exchange (off * 65536) else s1
  s2.setFlitDlg p { s2.flitDlg p with rxT := s2.now, peerT1 := ofBytes (b.take 10), rxTid := ofBytes ((b.drop 20).take 2) }

/-- The slave's source changes (R30): the first exchange with it leaves y as it is (R409). -/
def switchSource (s : State) (backup : Bool) : State :=
  let t := s.setTime { s.time with backup := backup, noFreq := true, lastExch := none }
  t.raise 0xE005 0xE0 2 0xFFFF t.timeSource

end State

/-! ### Commands -/

/-- PPS_EDGE (R28, R29, R409). -/
def execPpsEdge (s : State) := steady s (fun t => t.ppsIn)

/-- TIME_FLIT_TX (R106): every 1 ms on a Drudar port that serves time or is a time source. -/
def execTimeFlitTx (p : Nat) (s : State) := onUnit p 256 s (fun t =>
  let d := t.flitDlg p
  if t.druUp p = true ∧ t.ridgeClock = true ∧ (d.lastTx = 0 ∨ t.after (d.lastTx - 1) 1000000 = true) ∧
     (t.flag Obj.TIME_PORT_SERVE p = true ∨ t.reg Obj.TIME_UPSTREAM 0 = p ∨ t.reg Obj.TIME_BACKUP 0 = p) then
    t.sendTimeFlit p
  else t)

/-- TIME_FLIT_RX (R106): a bad CRC or a bad TAG is a missing exchange. -/
def execTimeFlitRx (p : Nat) (f : Frame) (tagOk : Bool) (s : State) := onUnit p 256 s (fun t =>
  if t.druLive p = false ∨ t.ridgeClock = false then t
  else
    let x := t.receivePlain p f
    if x.1 = true ∧ f.ftype = 3 ∧ (tagOk = true ∨ x.2.druIde p = false) then x.2.takeTimeFlit p f.body
    else x.2.setFlitDlg p { x.2.flitDlg p with valid := 0 })

/-- The last 10 exchanges on TIME_UPSTREAM were valid, and none is missing since (R30). -/
def State.upstreamBack (s : State) : Bool :=
  let d := s.flitDlg (s.reg Obj.TIME_UPSTREAM 0)
  10 ≤ d.valid && !(s.after (d.lastRx - 1) 2000000)

/-- TIME_SOURCE_SWITCH (R30): to TIME_BACKUP after three missing exchanges, and back after 10 valid ones on TIME_UPSTREAM. -/
def execTimeSourceSwitch (s : State) := steady s (fun t =>
  if t.reg Obj.TIME_ROLE 0 ≠ 2 ∨ t.ridgeClock = false then t
  else if t.time.backup then
    if t.upstreamBack then t.switchSource false else t
  else if t.reg Obj.TIME_BACKUP 0 < 256 ∧
      t.after (max t.time.srcAt ((t.flitDlg (t.reg Obj.TIME_UPSTREAM 0)).lastRx - 1)) 3000000 = true then t.switchSource true
  else t)

/-- PTM_REQUEST (R31): `turn` is the time in ns from the request's arrival to the departure of its response. -/
def execPtmRequest (p turn : Nat) (s : State) := onUnit p 256 s (fun t =>
  if t.drudar p = true ∨ t.dlUp p = false ∨ (t.port p).st ≠ .l0 then t
  else
    let d := t.ptmDlg p
    let u := t.setPtmDlg p { valid := true, arrival := t.clk, departure := t.clk + turn * nsUnit }
    if d.valid then u.emit (.ptm p true (t.now / 65536) ((d.departure - d.arrival) / nsUnit % 2 ^ 32))
    else u.emit (.ptm p false 0 0))

end Sys2Proof.Machine
end

