-- ==== Sys2Proof/Machine/Dispatch.lean ====
section
/-!
DEFINITION. One arm per command: a direct call of its meaning.
-/

namespace Sys2Proof.Machine

def exec (i : Instr) (s : State) : Host.Outcome State Fault Refusal :=
  match i with
  | .fabricTimeAdvance n => Sys2Proof.Machine.execFabricTimeAdvance n s
  | .ppsEdge => Sys2Proof.Machine.execPpsEdge s
  | .timeRefLost => Sys2Proof.Machine.execTimeRefLost s
  | .timeFreqUpdate edges => Sys2Proof.Machine.execTimeFreqUpdate edges s
  | .slewEnd => Sys2Proof.Machine.execSlewEnd s
  | .timeFlitTx p => Sys2Proof.Machine.execTimeFlitTx p s
  | .timeFlitRx p f tagOk => Sys2Proof.Machine.execTimeFlitRx p f tagOk s
  | .timeSourceSwitch => Sys2Proof.Machine.execTimeSourceSwitch s
  | .timeHoldover => Sys2Proof.Machine.execTimeHoldover s
  | .timeUnsync => Sys2Proof.Machine.execTimeUnsync s
  | .ptmRequest p turn => Sys2Proof.Machine.execPtmRequest p turn s
  | .timePpsOutStart => Sys2Proof.Machine.execTimePpsOutStart s
  | .timePpsOutEnd => Sys2Proof.Machine.execTimePpsOutEnd s
  | .schedFire => Sys2Proof.Machine.execSchedFire s
  | .firmwareEventStart => Sys2Proof.Machine.execFirmwareEventStart s
  | .schedTimeWrite ep slot value => Sys2Proof.Machine.execSchedTimeWrite ep slot value s
  | .mctpPacketRx ep pkt => Sys2Proof.Machine.execMctpPacketRx ep pkt s
  | .msgReassemblyTimeout ep tag => Sys2Proof.Machine.execMsgReassemblyTimeout ep tag s
  | .i3cEntdaa addr => Sys2Proof.Machine.execI3cEntdaa addr s
  | .tenantMailboxCommand p opcode bytes => Sys2Proof.Machine.execTenantMailboxCommand p opcode bytes s
  | .read ep r => Sys2Proof.Machine.execRead ep r s
  | .write ep r => Sys2Proof.Machine.execWrite ep r s
  | .blockRead ep r => Sys2Proof.Machine.execBlockRead ep r s
  | .blockWrite ep r => Sys2Proof.Machine.execBlockWrite ep r s
  | .readInstances ep r => Sys2Proof.Machine.execReadInstances ep r s
  | .stageOpen ep r => Sys2Proof.Machine.execStageOpen ep r s
  | .stageCommit ep r => Sys2Proof.Machine.execStageCommit ep r s
  | .stageDiscard ep r => Sys2Proof.Machine.execStageDiscard ep r s
  | .stageIdleDiscard st => Sys2Proof.Machine.execStageIdleDiscard st s
  | .lopAbort ep r => Sys2Proof.Machine.execLopAbort ep r s
  | .lopExpire h => Sys2Proof.Machine.execLopExpire h s
  | .subscribe ep r => Sys2Proof.Machine.execSubscribe ep r s
  | .unsubscribe ep r => Sys2Proof.Machine.execUnsubscribe ep r s
  | .evtFetch ep r => Sys2Proof.Machine.execEvtFetch ep r s
  | .opcodeUnknownRequest ep r => Sys2Proof.Machine.execOpcodeUnknownRequest ep r s
  | .eventSend ep => Sys2Proof.Machine.execEventSend ep s
  | .epochDrainEnd h => Sys2Proof.Machine.execEpochDrainEnd h s
  | .ladderStart p => Sys2Proof.Machine.execLadderStart p s
  | .receiverDetect p => Sys2Proof.Machine.execReceiverDetect p s
  | .rungEqDone p r => Sys2Proof.Machine.execRungEqDone p r s
  | .configurationEnd p c => Sys2Proof.Machine.execConfigurationEnd p c s
  | .trainTimeout p => Sys2Proof.Machine.execTrainTimeout p s
  | .trainBackoffEnd p => Sys2Proof.Machine.execTrainBackoffEnd p s
  | .linkLayerInit p => Sys2Proof.Machine.execLinkLayerInit p s
  | .enumerationDone p e => Sys2Proof.Machine.execEnumerationDone p e s
  | .aspmL1Request p => Sys2Proof.Machine.execAspmL1Request p s
  | .laneLockLost lane uncorrectable => Sys2Proof.Machine.execLaneLockLost lane uncorrectable s
  | .recoveryEnd p ok r => Sys2Proof.Machine.execRecoveryEnd p ok r s
  | .laneFailWindowEnd lane => Sys2Proof.Machine.execLaneFailWindowEnd lane s
  | .widthChangeDone w => Sys2Proof.Machine.execWidthChangeDone w s
  | .widenAttempt p => Sys2Proof.Machine.execWidenAttempt p s
  | .lanePrbsModeWrite ep lane value => Sys2Proof.Machine.execLanePrbsModeWrite ep lane value s
  | .laneClearWrite ep lane value => Sys2Proof.Machine.execLaneClearWrite ep lane value s
  | .quartzRound q margins scan => Sys2Proof.Machine.execQuartzRound q margins scan s
  | .quartzPrivSlot lane f0 f1 doubled f2 => Sys2Proof.Machine.execQuartzPrivSlot lane f0 f1 doubled f2 s
  | .marginCommand lane c => Sys2Proof.Machine.execMarginCommand lane c s
  | .druSignalDetect p mask => Sys2Proof.Machine.execDruSignalDetect p mask s
  | .trainingWordRx p lane word => Sys2Proof.Machine.execTrainingWordRx p lane word s
  | .druSyncTimeout p => Sys2Proof.Machine.execDruSyncTimeout p s
  | .druEqTimeout p => Sys2Proof.Machine.execDruEqTimeout p s
  | .druFecLock p skews => Sys2Proof.Machine.execDruFecLock p skews s
  | .initTx p => Sys2Proof.Machine.execInitTx p s
  | .initRx p f => Sys2Proof.Machine.execInitRx p f s
  | .dataFrameRx p f => Sys2Proof.Machine.execDataFrameRx p f s
  | .mgmtFrameRx p f => Sys2Proof.Machine.execMgmtFrameRx p f s
  | .idleFrameRx p f => Sys2Proof.Machine.execIdleFrameRx p f s
  | .macFrameRx p f tagOk => Sys2Proof.Machine.execMacFrameRx p f tagOk s
  | .macFrameTx p => Sys2Proof.Machine.execMacFrameTx p s
  | .nakRx p f => Sys2Proof.Machine.execNakRx p f s
  | .druReplayTimeout p => Sys2Proof.Machine.execDruReplayTimeout p s
  | .retrainRx p f => Sys2Proof.Machine.execRetrainRx p f s
  | .retrainStart p cause => Sys2Proof.Machine.execRetrainStart p cause s
  | .druRetrainDone p => Sys2Proof.Machine.execDruRetrainDone p s
  | .druRetrainTimeout p => Sys2Proof.Machine.execDruRetrainTimeout p s
  | .alignmentMarkerTx p => Sys2Proof.Machine.execAlignmentMarkerTx p s
  | .alignmentMarkerRx p m => Sys2Proof.Machine.execAlignmentMarkerRx p m s
  | .druMarkersLost p => Sys2Proof.Machine.execDruMarkersLost p s
  | .druLaneLost p lane cause => Sys2Proof.Machine.execDruLaneLost p lane cause s
  | .dropRx p f => Sys2Proof.Machine.execDropRx p f s
  | .addRx p f => Sys2Proof.Machine.execAddRx p f s
  | .dropAddResend p => Sys2Proof.Machine.execDropAddResend p s
  | .druLaneRestoreAttempt p lane clean => Sys2Proof.Machine.execDruLaneRestoreAttempt p lane clean s
  | .messageIngress p m => Sys2Proof.Machine.execMessageIngress p m s
  | .cellIngress p cls last stomp => Sys2Proof.Machine.execCellIngress p cls last stomp s
  | .tagReadDone line lost => Sys2Proof.Machine.execTagReadDone line lost s
  | .completionRx p c => Sys2Proof.Machine.execCompletionRx p c s
  | .rttEntryGrant p => Sys2Proof.Machine.execRttEntryGrant p s
  | .rttTimeout entry => Sys2Proof.Machine.execRttTimeout entry s
  | .routeHoldRelease p k => Sys2Proof.Machine.execRouteHoldRelease p k s
  | .egressDecision p eccBad => Sys2Proof.Machine.execEgressDecision p eccBad s
  | .msgTailTimeout p cls => Sys2Proof.Machine.execMsgTailTimeout p cls s
  | .multicastEnqueue => Sys2Proof.Machine.execMulticastEnqueue s
  | .portDlDown p cause => Sys2Proof.Machine.execPortDlDown p cause s
  | .flushDone p => Sys2Proof.Machine.execFlushDone p s
  | .portFlushExit p => Sys2Proof.Machine.execPortFlushExit p s
  | .hgRebalanceWrite ep g value => Sys2Proof.Machine.execHgRebalanceWrite ep g value s
  | .hostConfigWrite p k reg value => Sys2Proof.Machine.execHostConfigWrite p k reg value s
  | .pendingBindEffect v => Sys2Proof.Machine.execPendingBindEffect v s
  | .unbindWalkEnd w => Sys2Proof.Machine.execUnbindWalkEnd w s
  | .identifySwitchDevice ep => Sys2Proof.Machine.execIdentifySwitchDevice ep s
  | .getPhysicalPortState ep ports => Sys2Proof.Machine.execGetPhysicalPortState ep ports s
  | .physicalPortControl ep p o => Sys2Proof.Machine.execPhysicalPortControl ep p o s
  | .getVirtualCxlSwitchInfo ep parts => Sys2Proof.Machine.execGetVirtualCxlSwitchInfo ep parts s
  | .bindVppb ep part k port ldid => Sys2Proof.Machine.execBindVppb ep part k port ldid s
  | .unbindVppb ep part k => Sys2Proof.Machine.execUnbindVppb ep part k s
  | .getLdInfo ep port payload response => Sys2Proof.Machine.execGetLdInfo ep port payload response s
  | .getLdAllocations ep port payload response => Sys2Proof.Machine.execGetLdAllocations ep port payload response s
  | .setLdAllocations ep port payload response allocs => Sys2Proof.Machine.execSetLdAllocations ep port payload response allocs s
  | .tunnelManagementCommand ep port payload response => Sys2Proof.Machine.execTunnelManagementCommand ep port payload response s
  | .fmApiUnsupported ep opcode => Sys2Proof.Machine.execFmApiUnsupported ep opcode s
  | .gateEntryChange p => Sys2Proof.Machine.execGateEntryChange p s
  | .didtGclWarnStart => Sys2Proof.Machine.execDidtGclWarnStart s
  | .didtGclWarnEnd => Sys2Proof.Machine.execDidtGclWarnEnd s
  | .histSample => Sys2Proof.Machine.execHistSample s
  | .histClearWrite ep p value => Sys2Proof.Machine.execHistClearWrite ep p value s
  | .cohRdS slice slot => Sys2Proof.Machine.execCohRdS slice slot s
  | .cohRdO slice slot => Sys2Proof.Machine.execCohRdO slice slot s
  | .cohUpg slice slot => Sys2Proof.Machine.execCohUpg slice slot s
  | .cohRdNc slice slot => Sys2Proof.Machine.execCohRdNc slice slot s
  | .cohWrNc slice slot => Sys2Proof.Machine.execCohWrNc slice slot s
  | .cohWbI slice slot => Sys2Proof.Machine.execCohWbI slice slot s
  | .cohWbS slice slot => Sys2Proof.Machine.execCohWbS slice slot s
  | .cohWbO slice slot => Sys2Proof.Machine.execCohWbO slice slot s
  | .cohEvc slice slot => Sys2Proof.Machine.execCohEvc slice slot s
  | .birspi p biid bitag => Sys2Proof.Machine.execBirspi p biid bitag s
  | .birsps p biid bitag => Sys2Proof.Machine.execBirsps p biid bitag s
  | .birspe p biid bitag => Sys2Proof.Machine.execBirspe p biid bitag s
  | .dirSetReadDone slice set corrected lost => Sys2Proof.Machine.execDirSetReadDone slice set corrected lost s
  | .memReadDataReturn slice trk poison data => Sys2Proof.Machine.execMemReadDataReturn slice trk poison data s
  | .memWriteCompletion slice trk => Sys2Proof.Machine.execMemWriteCompletion slice trk s
  | .homeTimeout slice entry => Sys2Proof.Machine.execHomeTimeout slice entry s
  | .rsvExpired slice reg => Sys2Proof.Machine.execRsvExpired slice reg s
  | .holdTimeout p k => Sys2Proof.Machine.execHoldTimeout p k s
  | .walkerSetVisit slice => Sys2Proof.Machine.execWalkerSetVisit slice s
  | .deviceBisnp p ld addr snp => Sys2Proof.Machine.execDeviceBisnp p ld addr snp s
  | .dirLookupWrite ep value => Sys2Proof.Machine.execDirLookupWrite ep value s
  | .dirSetClearWrite ep value => Sys2Proof.Machine.execDirSetClearWrite ep value s
  | .agtReviveWrite ep a value => Sys2Proof.Machine.execAgtReviveWrite ep a value s
  | .moveStart ep c value => Sys2Proof.Machine.execMoveStart ep c value s
  | .granuleCopy c searchBad clearBad setNow => Sys2Proof.Machine.execGranuleCopy c searchBad clearBad setNow s
  | .movePassEnd c => Sys2Proof.Machine.execMovePassEnd c s
  | .moveFreezeLimit c => Sys2Proof.Machine.execMoveFreezeLimit c s
  | .moveCommitPoint c => Sys2Proof.Machine.execMoveCommitPoint c s
  | .redirectFlashWritten => Sys2Proof.Machine.execRedirectFlashWritten s
  | .moveUndoDone c => Sys2Proof.Machine.execMoveUndoDone c s
  | .flTagFillWrite ep value => Sys2Proof.Machine.execFlTagFillWrite ep value s
  | .flTagProbeWrite ep value => Sys2Proof.Machine.execFlTagProbeWrite ep value s
  | .dmGoRead ep => Sys2Proof.Machine.execDmGoRead ep s
  | .dmGoWrite ep => Sys2Proof.Machine.execDmGoWrite ep s
  | .dmAccessEnd k l m => Sys2Proof.Machine.execDmAccessEnd k l m s
  | .channelSample ch n r => Sys2Proof.Machine.execChannelSample ch n r s
  | .feedWindowExit ch feed => Sys2Proof.Machine.execFeedWindowExit ch feed s
  | .insertionTimerDone ch feed => Sys2Proof.Machine.execInsertionTimerDone ch feed s
  | .seatConfirmed ch => Sys2Proof.Machine.execSeatConfirmed ch s
  | .rampStart ch => Sys2Proof.Machine.execRampStart ch s
  | .powerGoodSet ch => Sys2Proof.Machine.execPowerGoodSet ch s
  | .perstRelease ch => Sys2Proof.Machine.execPerstRelease ch s
  | .gateTimeout ch feed => Sys2Proof.Machine.execGateTimeout ch feed s
  | .fastTrip ch feed => Sys2Proof.Machine.execFastTrip ch feed s
  | .breakerTrip ch => Sys2Proof.Machine.execBreakerTrip ch s
  | .outputUvTrip ch => Sys2Proof.Machine.execOutputUvTrip ch s
  | .retryTimerEnd ch => Sys2Proof.Machine.execRetryTimerEnd ch s
  | .retriesReset ch => Sys2Proof.Machine.execRetriesReset ch s
  | .slotLinkLost d => Sys2Proof.Machine.execSlotLinkLost d s
  | .slotLinkRestored d => Sys2Proof.Machine.execSlotLinkRestored d s
  | .feedLost ch feed => Sys2Proof.Machine.execFeedLost ch feed s
  | .feedRestored ch feed => Sys2Proof.Machine.execFeedRestored ch feed s
  | .shareLimit ch => Sys2Proof.Machine.execShareLimit ch s
  | .seatOpen ch => Sys2Proof.Machine.execSeatOpen ch s
  | .faultCancelled ch => Sys2Proof.Machine.execFaultCancelled ch s
  | .fetShort ch feed => Sys2Proof.Machine.execFetShort ch feed s
  | .perstWaitEnd ch => Sys2Proof.Machine.execPerstWaitEnd ch s
  | .chEnableWrite ep ch value => Sys2Proof.Machine.execChEnableWrite ep ch value s
  | .chFaultClearWrite ep ch value => Sys2Proof.Machine.execChFaultClearWrite ep ch value s
  | .chMeasClearWrite ep ch value => Sys2Proof.Machine.execChMeasClearWrite ep ch value s
  | .slotThresholdWrite ep obj inst value => Sys2Proof.Machine.execSlotThresholdWrite ep obj inst value s
  | .feedMeasUpdate f => Sys2Proof.Machine.execFeedMeasUpdate f s
  | .bayWake ch => Sys2Proof.Machine.execBayWake ch s
  | .pmEnterWrite ep value => Sys2Proof.Machine.execPmEnterWrite ep value s
  | .pmQuiesceDone => Sys2Proof.Machine.execPmQuiesceDone s
  | .pmPortL1 p => Sys2Proof.Machine.execPmPortL1 p s
  | .pmCommitPoint => Sys2Proof.Machine.execPmCommitPoint s
  | .pmQuiesceTimeout => Sys2Proof.Machine.execPmQuiesceTimeout s
  | .pmL1Timeout p => Sys2Proof.Machine.execPmL1Timeout p s
  | .pmUndoDone => Sys2Proof.Machine.execPmUndoDone s
  | .trimEntryDone => Sys2Proof.Machine.execTrimEntryDone s
  | .serviceDrainDone => Sys2Proof.Machine.execServiceDrainDone s
  | .wakeStart src => Sys2Proof.Machine.execWakeStart src s
  | .wakeTimer => Sys2Proof.Machine.execWakeTimer s
  | .vrSettled => Sys2Proof.Machine.execVrSettled s
  | .pllLocked => Sys2Proof.Machine.execPllLocked s
  | .rampChainClosed => Sys2Proof.Machine.execRampChainClosed s
  | .hbmReady => Sys2Proof.Machine.execHbmReady s
  | .wakeTrafficReady => Sys2Proof.Machine.execWakeTrafficReady s
  | .didtWakeRelease => Sys2Proof.Machine.execDidtWakeRelease s
  | .avsVoltageWrite mv confirmed => Sys2Proof.Machine.execAvsVoltageWrite mv confirmed s
  | .avsWriteTimeout => Sys2Proof.Machine.execAvsWriteTimeout s
  | .avsPoll mv amps => Sys2Proof.Machine.execAvsPoll mv amps s
  | .intDeliver d => Sys2Proof.Machine.execIntDeliver d s
  | .intClaim t => Sys2Proof.Machine.execIntClaim t s
  | .intComplete t src => Sys2Proof.Machine.execIntComplete t src s
  | .intCauseClrWrite ep src value => Sys2Proof.Machine.execIntCauseClrWrite ep src value s
  | .intEnableWrite ep src value => Sys2Proof.Machine.execIntEnableWrite ep src value s
  | .intGlobalEnWrite ep value => Sys2Proof.Machine.execIntGlobalEnWrite ep value s
  | .intRoutingWrite ep obj inst value => Sys2Proof.Machine.execIntRoutingWrite ep obj inst value s
  | .intWakeEnWrite ep src value => Sys2Proof.Machine.execIntWakeEnWrite ep src value s
  | .doorbellSet core level => Sys2Proof.Machine.execDoorbellSet core level s
  | .counterTick => Sys2Proof.Machine.execCounterTick s
  | .cntOverflow k => Sys2Proof.Machine.execCntOverflow k s
  | .captureClose k => Sys2Proof.Machine.execCaptureClose k s
  | .smpReleaseWrite ep k value => Sys2Proof.Machine.execSmpReleaseWrite ep k value s
  | .cntConfigWrite ep obj inst value => Sys2Proof.Machine.execCntConfigWrite ep obj inst value s
  | .cntValueWrite ep k value => Sys2Proof.Machine.execCntValueWrite ep k value s
  | .cntOvfClrWrite ep k value => Sys2Proof.Machine.execCntOvfClrWrite ep k value s
  | .lcNonceRead ep => Sys2Proof.Machine.execLcNonceRead ep s
  | .lcRequestWrite ep value vendorOk ownerOk => Sys2Proof.Machine.execLcRequestWrite ep value vendorOk ownerOk s
  | .fwChunkWrite ep bytes => Sys2Proof.Machine.execFwChunkWrite ep bytes s
  | .fwUpdateWrite ep value => Sys2Proof.Machine.execFwUpdateWrite ep value s
  | .fwVerifyDone keyOk sigOk bodyOk flashOk => Sys2Proof.Machine.execFwVerifyDone keyOk sigOk bodyOk flashOk s
  | .fwConfirmWrite ep value => Sys2Proof.Machine.execFwConfirmWrite ep value s
  | .fwConfirmTimeout => Sys2Proof.Machine.execFwConfirmTimeout s
  | .spdmGetVersion via => Sys2Proof.Machine.execSpdmGetVersion via s
  | .spdmGetCapabilities via => Sys2Proof.Machine.execSpdmGetCapabilities via s
  | .spdmNegotiateAlgorithms via => Sys2Proof.Machine.execSpdmNegotiateAlgorithms via s
  | .spdmGetDigests via => Sys2Proof.Machine.execSpdmGetDigests via s
  | .spdmGetCertificate via slot offset length => Sys2Proof.Machine.execSpdmGetCertificate via slot offset length s
  | .spdmChallenge via slot => Sys2Proof.Machine.execSpdmChallenge via slot s
  | .spdmGetMeasurements via index => Sys2Proof.Machine.execSpdmGetMeasurements via index s
  | .spdmKeyExchange via => Sys2Proof.Machine.execSpdmKeyExchange via s
  | .spdmFinish session ok => Sys2Proof.Machine.execSpdmFinish session ok s
  | .spdmHeartbeat session => Sys2Proof.Machine.execSpdmHeartbeat session s
  | .spdmKeyUpdate session => Sys2Proof.Machine.execSpdmKeyUpdate session s
  | .spdmEndSession session => Sys2Proof.Machine.execSpdmEndSession session s
  | .spdmVendorDefinedRequest session port k => Sys2Proof.Machine.execSpdmVendorDefinedRequest session port k s
  | .ideRekey p => Sys2Proof.Machine.execIdeRekey p s
  | .ideIntegrityFail p io => Sys2Proof.Machine.execIdeIntegrityFail p io s
  | .dbgChallengeRead ep => Sys2Proof.Machine.execDbgChallengeRead ep s
  | .dbgResponseWrite ep bytes vendorOk ownerOk => Sys2Proof.Machine.execDbgResponseWrite ep bytes vendorOk ownerOk s
  | .dbgDropWrite ep value => Sys2Proof.Machine.execDbgDropWrite ep value s
  | .dbgAllowWrite ep value => Sys2Proof.Machine.execDbgAllowWrite ep value s
  | .dbgIdleTimeout => Sys2Proof.Machine.execDbgIdleTimeout s
  | .ridgeHaltWrite ep value => Sys2Proof.Machine.execRidgeHaltWrite ep value s
  | .tapInstructionLoad ir => Sys2Proof.Machine.execTapInstructionLoad ir s
  | .talusWindowNowWrite ep value => Sys2Proof.Machine.execTalusWindowNowWrite ep value s
  | .talusMeasureDone m => Sys2Proof.Machine.execTalusMeasureDone m s
  | .talusCommitPoint => Sys2Proof.Machine.execTalusCommitPoint s
  | .hbmUnitRetired => Sys2Proof.Machine.execHbmUnitRetired s
  | .talusApplyDone => Sys2Proof.Machine.execTalusApplyDone s
  | .talusRecordDone => Sys2Proof.Machine.execTalusRecordDone s
  | .feedRdsSample => Sys2Proof.Machine.execFeedRdsSample s
  | .talusCeilResetWrite ep p value => Sys2Proof.Machine.execTalusCeilResetWrite ep p value s
  | .fetRebaseWrite ep f value => Sys2Proof.Machine.execFetRebaseWrite ep f value s
  | .profStoreWrite ep p value => Sys2Proof.Machine.execProfStoreWrite ep p value s
  | .profChunkWrite ep bytes => Sys2Proof.Machine.execProfChunkWrite ep bytes s
  | .profFlashStepDone ok => Sys2Proof.Machine.execProfFlashStepDone ok s
  | .profStoreCommit => Sys2Proof.Machine.execProfStoreCommit s
  | .resetNowWrite ep value => Sys2Proof.Machine.execResetNowWrite ep value s
  | .resetNowDelayEnd => Sys2Proof.Machine.execResetNowDelayEnd s
  | .rstNAssert => Sys2Proof.Machine.execRstNAssert s
  | .powerOn => Sys2Proof.Machine.execPowerOn s
  | .supplyUndervoltage => Sys2Proof.Machine.execSupplyUndervoltage s
  | .watchdogExpiry core => Sys2Proof.Machine.execWatchdogExpiry core s
  | .resetRelease psel => Sys2Proof.Machine.execResetRelease psel s
  | .bootImageVerified cryptoA cryptoB recovery => Sys2Proof.Machine.execBootImageVerified cryptoA cryptoB recovery s
  | .profileValidate => Sys2Proof.Machine.execProfileValidate s
  | .hbmTrainingDone => Sys2Proof.Machine.execHbmTrainingDone s
  | .profileApplied => Sys2Proof.Machine.execProfileApplied s
  | .wedgeCheck => Sys2Proof.Machine.execWedgeCheck s
  | .wedgeResetDelayEnd => Sys2Proof.Machine.execWedgeResetDelayEnd s
  | .timeRefRestored => Sys2Proof.Machine.execTimeRefRestored s
  | .holdTimeAdvance n => Sys2Proof.Machine.execHoldTimeAdvance n s
  | .xt32Tick n => Sys2Proof.Machine.execXt32Tick n s
  | .linkLayerRetry p seq => Sys2Proof.Machine.execLinkLayerRetry p seq s
  | .partnerRecoveryEntry p => Sys2Proof.Machine.execPartnerRecoveryEntry p s
  | .prbsPatternLock lane => Sys2Proof.Machine.execPrbsPatternLock lane s
  | .prbsPatternLockLost lane => Sys2Proof.Machine.execPrbsPatternLockLost lane s
  | .dbgMailbox bytes => Sys2Proof.Machine.execDbgMailbox bytes s
  | .vddAonLoss => Sys2Proof.Machine.execVddAonLoss s

end Sys2Proof.Machine
end

