-- ==== Sys2Proof/WellFormed.lean ====
section
/-!
DEFINITION. Which commands the outside world can send: unit numbers that name a unit of the block, request, frame and packet
fields that fit their widths, and operands within what the spec lets them name. `exec` does not consult these checks: it stops
on the unit numbers by name and takes every other operand as it stands.
-/

namespace Sys2Proof

/-- The header fields of a request fit *Message format*, and the payload has the length it states or less (R48). -/
def Req.wf (r : Req) : Bool :=
  decide (r.ver < 256) && decide (r.op < 256) && decide (r.tag < 65536) && decide (r.flags < 256) && decide (r.index < 65536) &&
  decide (r.sub < 256) && decide (r.stage < 256) && decide (r.inst < 65536) && decide (r.len < 65536) &&
  decide (r.payload.length ≤ 1012)

/-- A packet carries a tag of four bits and at most the 252 bytes that follow the MCTP header in a management frame (R44). -/
def MctpPacket.wf (k : MctpPacket) : Bool := decide (k.tag < 16) && decide (k.bytes.length ≤ 252)

/-- The fields of a Drudar frame fit the *Frame trailer* (R98). -/
def Frame.wf (f : Frame) : Bool :=
  decide (f.body.length = 256) && decide (f.ftype < 16) && decide (f.keySlot < 2) && decide (f.seq < 4096) && decide (f.ack < 4096) &&
  decide (f.crClass < 16) && decide (f.crTotal < 4096) && decide (f.len < 65536) && decide (f.fclass < 16) && decide (f.crc < 4294967296)

/-- At most 16 lanes answer, and the rate is one of seven. -/
def CfgResult.wf (c : CfgResult) : Bool := decide (c.lanes < 65536) && decide (c.invert < 65536) && decide (c.maxRate ≤ 7)

/-- A multi-logical device has at most 16 logical devices, each once (R125). -/
def EnumResult.wf (e : EnumResult) : Bool := e.lds.all (fun x => decide (x.1 < 16)) && decide ((e.lds.map Prod.fst).Nodup)

/-- A message is at least one cell, in one of eight classes, between fabric IDs of twelve bits. -/
def MsgIn.wf (m : MsgIn) : Bool :=
  decide (1 ≤ m.len) && decide (m.cls < 8) && decide (m.srcFid < 65536) && decide (m.dstFid < 65536) && decide (m.p2pPart ≤ 64)

/-- A response channel. -/
def Chan.response : Chan → Bool
  | .ioCpl => true | .memBiRsp => true | .memNdr => true | .memDrs => true | .cacheRsp => true | .druRsp => true
  | _ => false

/-- A completion names a tracking entry of 16 bits and arrives on a response channel. -/
def CplIn.wf (c : CplIn) : Bool := decide (c.entry < 65536) && decide (1 ≤ c.len) && c.chan.response

/-- Keys of 256 bits and salts of 32 (R107). -/
def IdeKeys.wf (k : IdeKeys) : Bool :=
  decide (k.txKey < 2 ^ 256) && decide (k.txSalt < 2 ^ 32) && decide (k.rxKey < 2 ^ 256) && decide (k.rxSalt < 2 ^ 32)

/-- The kind of transport of an SPDM request names an endpoint, a partition or a port. -/
def SpdmVia.wf : SpdmVia → Bool
  | .mctp ep => decide (ep ≤ 256)
  | .doe part => decide (part < 64)
  | .peer port => decide (port < 256)

/-- The check of a command's operands. -/
def Instr.wf : Instr → Bool
  | .fabricTimeAdvance _ => true
  | .ppsEdge => true
  | .timeRefLost => true
  | .timeFreqUpdate _ => true
  | .slewEnd => true
  | .timeFlitTx p => decide (p < 256)
  | .timeFlitRx p f _ => decide (p < 256) && f.wf
  | .timeSourceSwitch => true
  | .timeHoldover => true
  | .timeUnsync => true
  | .ptmRequest p _ => decide (p < 256)
  | .timePpsOutStart => true
  | .timePpsOutEnd => true
  | .schedFire => true
  | .firmwareEventStart => true
  | .schedTimeWrite ep _ _ => decide (ep < 322)
  | .mctpPacketRx ep pkt => decide (ep < 322) && pkt.wf
  | .msgReassemblyTimeout ep tag => decide (ep < 322) && decide (tag < 16)
  | .i3cEntdaa addr => decide (addr < 128)
  | .tenantMailboxCommand p _ bytes => decide (p < 256) && decide (bytes.length ≤ 1024)
  | .read ep r => decide (ep < 322) && r.wf
  | .write ep r => decide (ep < 322) && r.wf
  | .blockRead ep r => decide (ep < 322) && r.wf
  | .blockWrite ep r => decide (ep < 322) && r.wf
  | .readInstances ep r => decide (ep < 322) && r.wf
  | .stageOpen ep r => decide (ep < 322) && r.wf
  | .stageCommit ep r => decide (ep < 322) && r.wf
  | .stageDiscard ep r => decide (ep < 322) && r.wf
  | .stageIdleDiscard st => decide (st < 17)
  | .lopAbort ep r => decide (ep < 322) && r.wf
  | .lopExpire h => decide (h < 64)
  | .subscribe ep r => decide (ep < 322) && r.wf
  | .unsubscribe ep r => decide (ep < 322) && r.wf
  | .evtFetch ep r => decide (ep < 322) && r.wf
  | .opcodeUnknownRequest ep r => decide (ep < 322) && r.wf
  | .eventSend ep => decide (ep < 322)
  | .epochDrainEnd h => decide (h < 64)
  | .ladderStart p => decide (p < 256)
  | .receiverDetect p => decide (p < 256)
  | .rungEqDone p _ => decide (p < 256)
  | .configurationEnd p c => decide (p < 256) && c.wf
  | .trainTimeout p => decide (p < 256)
  | .trainBackoffEnd p => decide (p < 256)
  | .linkLayerInit p => decide (p < 256)
  | .enumerationDone p e => decide (p < 256) && e.wf
  | .aspmL1Request p => decide (p < 256)
  | .laneLockLost lane _ => decide (lane < 512)
  | .recoveryEnd p _ _ => decide (p < 256)
  | .laneFailWindowEnd lane => decide (lane < 512)
  | .widthChangeDone w => decide (w.port < 256)
  | .widenAttempt p => decide (p < 256)
  | .lanePrbsModeWrite ep lane _ => decide (ep < 322) && decide (lane < 512)
  | .laneClearWrite ep lane _ => decide (ep < 322) && decide (lane < 512)
  | .quartzRound q _ _ => decide (q < 8)
  | .quartzPrivSlot lane _ _ _ _ => decide (lane < 512)
  | .marginCommand lane _ => decide (lane < 512)
  | .druSignalDetect p _ => decide (p < 256)
  | .trainingWordRx p lane _ => decide (p < 256) && decide (lane < 512)
  | .druSyncTimeout p => decide (p < 256)
  | .druEqTimeout p => decide (p < 256)
  | .druFecLock p _ => decide (p < 256)
  | .initTx p => decide (p < 256)
  | .initRx p f => decide (p < 256) && f.wf
  | .dataFrameRx p f => decide (p < 256) && f.wf
  | .mgmtFrameRx p f => decide (p < 256) && f.wf
  | .idleFrameRx p f => decide (p < 256) && f.wf
  | .macFrameRx p f _ => decide (p < 256) && f.wf
  | .macFrameTx p => decide (p < 256)
  | .nakRx p f => decide (p < 256) && f.wf
  | .druReplayTimeout p => decide (p < 256)
  | .retrainRx p f => decide (p < 256) && f.wf
  | .retrainStart p _ => decide (p < 256)
  | .druRetrainDone p => decide (p < 256)
  | .druRetrainTimeout p => decide (p < 256)
  | .alignmentMarkerTx p => decide (p < 256)
  | .alignmentMarkerRx p _ => decide (p < 256)
  | .druMarkersLost p => decide (p < 256)
  | .druLaneLost p lane _ => decide (p < 256) && decide (lane < 512)
  | .dropRx p f => decide (p < 256) && f.wf
  | .addRx p f => decide (p < 256) && f.wf
  | .dropAddResend p => decide (p < 256)
  | .druLaneRestoreAttempt p lane _ => decide (p < 256) && decide (lane < 512)
  | .messageIngress p m => decide (p < 256) && m.wf
  | .cellIngress p cls _ _ => decide (p < 256) && decide (cls < 32)
  | .tagReadDone _ _ => true
  | .completionRx p c => decide (p < 256) && c.wf
  | .rttEntryGrant p => decide (p < 256) || p == 0xFFFF
  | .rttTimeout entry => decide (entry < 65536)
  | .routeHoldRelease p _ => decide (p < 256) || p == 0xFFFF
  | .egressDecision p _ => decide (p < 256)
  | .msgTailTimeout p cls => decide (p < 256) && decide (cls < 32)
  | .multicastEnqueue => true
  | .portDlDown p _ => decide (p < 256)
  | .flushDone p => decide (p < 256)
  | .portFlushExit p => decide (p < 256)
  | .hgRebalanceWrite ep _ _ => decide (ep < 322)
  | .hostConfigWrite p k _ _ => decide (p < 256) && decide (k < 64)
  | .pendingBindEffect v => decide (v < 4096)
  | .unbindWalkEnd w => decide (w < 4096)
  | .identifySwitchDevice ep => decide (ep < 322)
  | .getPhysicalPortState ep _ => decide (ep < 322)
  | .physicalPortControl ep p _ => decide (ep < 322) && decide (p < 256)
  | .getVirtualCxlSwitchInfo ep _ => decide (ep < 322)
  | .bindVppb ep part k port _ => decide (ep < 322) && decide (part < 64) && decide (k < 64) && decide (port < 256)
  | .unbindVppb ep part k => decide (ep < 322) && decide (part < 64) && decide (k < 64)
  | .getLdInfo ep port _ _ => decide (ep < 322) && decide (port < 256)
  | .getLdAllocations ep port _ _ => decide (ep < 322) && decide (port < 256)
  | .setLdAllocations ep port _ _ _ => decide (ep < 322) && decide (port < 256)
  | .tunnelManagementCommand ep port _ _ => decide (ep < 322) && decide (port < 256)
  | .fmApiUnsupported ep _ => decide (ep < 322)
  | .gateEntryChange p => decide (p < 256)
  | .didtGclWarnStart => true
  | .didtGclWarnEnd => true
  | .histSample => true
  | .histClearWrite ep p _ => decide (ep < 322) && decide (p < 256)
  | .cohRdS slice _ => decide (slice < 8)
  | .cohRdO slice _ => decide (slice < 8)
  | .cohUpg slice _ => decide (slice < 8)
  | .cohRdNc slice _ => decide (slice < 8)
  | .cohWrNc slice _ => decide (slice < 8)
  | .cohWbI slice _ => decide (slice < 8)
  | .cohWbS slice _ => decide (slice < 8)
  | .cohWbO slice _ => decide (slice < 8)
  | .cohEvc slice _ => decide (slice < 8)
  | .birspi p _ _ => decide (p < 256)
  | .birsps p _ _ => decide (p < 256)
  | .birspe p _ _ => decide (p < 256)
  | .dirSetReadDone slice _ _ _ => decide (slice < 8)
  | .memReadDataReturn slice _ _ _ => decide (slice < 8)
  | .memWriteCompletion slice _ => decide (slice < 8)
  | .homeTimeout slice entry => decide (slice < 8) && decide (entry < 2112)
  | .rsvExpired slice _ => decide (slice < 8)
  | .holdTimeout p k => decide (p < 256) && decide (k < 512)
  | .walkerSetVisit slice => decide (slice < 8)
  | .deviceBisnp p _ _ _ => decide (p < 256)
  | .dirLookupWrite ep _ => decide (ep < 322)
  | .dirSetClearWrite ep _ => decide (ep < 322)
  | .agtReviveWrite ep _ _ => decide (ep < 322)
  | .moveStart ep c _ => decide (ep < 322) && decide (c < 16)
  | .granuleCopy c _ _ _ => decide (c < 16)
  | .movePassEnd c => decide (c < 16)
  | .moveFreezeLimit c => decide (c < 16)
  | .moveCommitPoint c => decide (c < 16)
  | .redirectFlashWritten => true
  | .moveUndoDone c => decide (c < 16)
  | .flTagFillWrite ep _ => decide (ep < 322)
  | .flTagProbeWrite ep _ => decide (ep < 322)
  | .dmGoRead ep => decide (ep < 322)
  | .dmGoWrite ep => decide (ep < 322)
  | .dmAccessEnd _ _ _ => true
  | .channelSample ch _ _ => decide (ch < 32)
  | .feedWindowExit ch feed => decide (ch < 32) && decide (feed < 2)
  | .insertionTimerDone ch feed => decide (ch < 32) && decide (feed < 2)
  | .seatConfirmed ch => decide (ch < 32)
  | .rampStart ch => decide (ch < 32)
  | .powerGoodSet ch => decide (ch < 32)
  | .perstRelease ch => decide (ch < 32)
  | .gateTimeout ch feed => decide (ch < 32) && decide (feed < 2)
  | .fastTrip ch feed => decide (ch < 32) && decide (feed < 2)
  | .breakerTrip ch => decide (ch < 32)
  | .outputUvTrip ch => decide (ch < 32)
  | .retryTimerEnd ch => decide (ch < 32)
  | .retriesReset ch => decide (ch < 32)
  | .slotLinkLost d => decide (d < 2)
  | .slotLinkRestored d => decide (d < 2)
  | .feedLost ch feed => decide (ch < 32) && decide (feed < 2)
  | .feedRestored ch feed => decide (ch < 32) && decide (feed < 2)
  | .shareLimit ch => decide (ch < 32)
  | .seatOpen ch => decide (ch < 32)
  | .faultCancelled ch => decide (ch < 32)
  | .fetShort ch feed => decide (ch < 32) && decide (feed < 2)
  | .perstWaitEnd ch => decide (ch < 32)
  | .chEnableWrite ep ch _ => decide (ep < 322) && decide (ch < 32)
  | .chFaultClearWrite ep ch _ => decide (ep < 322) && decide (ch < 32)
  | .chMeasClearWrite ep ch _ => decide (ep < 322) && decide (ch < 32)
  | .slotThresholdWrite ep _ _ _ => decide (ep < 322)
  | .feedMeasUpdate f => decide (f < 64)
  | .bayWake ch => decide (ch < 32)
  | .pmEnterWrite ep _ => decide (ep < 322)
  | .pmQuiesceDone => true
  | .pmPortL1 p => decide (p < 256)
  | .pmCommitPoint => true
  | .pmQuiesceTimeout => true
  | .pmL1Timeout p => decide (p < 256)
  | .pmUndoDone => true
  | .trimEntryDone => true
  | .serviceDrainDone => true
  | .wakeStart _ => true
  | .wakeTimer => true
  | .vrSettled => true
  | .pllLocked => true
  | .rampChainClosed => true
  | .hbmReady => true
  | .wakeTrafficReady => true
  | .didtWakeRelease => true
  | .avsVoltageWrite _ _ => true
  | .avsWriteTimeout => true
  | .avsPoll _ _ => true
  | .intDeliver d => decide (d.src < 1024)
  | .intClaim t => decide (t < 6)
  | .intComplete t src => decide (t < 6) && decide (src < 1024)
  | .intCauseClrWrite ep src _ => decide (ep < 322) && decide (src < 1024)
  | .intEnableWrite ep src _ => decide (ep < 322) && decide (src < 1024)
  | .intGlobalEnWrite ep _ => decide (ep < 322)
  | .intRoutingWrite ep _ _ _ => decide (ep < 322)
  | .intWakeEnWrite ep src _ => decide (ep < 322) && decide (src < 1024)
  | .doorbellSet core _ => decide (core < 4)
  | .counterTick => true
  | .cntOverflow i => decide (i < 520)
  | .captureClose k => decide (k < 65)
  | .smpReleaseWrite ep _ _ => decide (ep < 322)
  | .cntConfigWrite ep _ _ _ => decide (ep < 322)
  | .cntValueWrite ep _ _ => decide (ep < 322)
  | .cntOvfClrWrite ep _ _ => decide (ep < 322)
  | .lcNonceRead ep => decide (ep < 322)
  | .lcRequestWrite ep _ _ _ => decide (ep < 322)
  | .fwChunkWrite ep bytes => decide (ep < 322) && decide (bytes.length ≤ 1024)
  | .fwUpdateWrite ep _ => decide (ep < 322)
  | .fwVerifyDone _ _ _ _ => true
  | .fwConfirmWrite ep _ => decide (ep < 322)
  | .fwConfirmTimeout => true
  | .spdmGetVersion via => via.wf
  | .spdmGetCapabilities via => via.wf
  | .spdmNegotiateAlgorithms via => via.wf
  | .spdmGetDigests via => via.wf
  | .spdmGetCertificate via _ _ _ => via.wf
  | .spdmChallenge via _ => via.wf
  | .spdmGetMeasurements via _ => via.wf
  | .spdmKeyExchange via => via.wf
  | .spdmFinish session _ => decide (session < 65536)
  | .spdmHeartbeat session => decide (session < 65536)
  | .spdmKeyUpdate session => decide (session < 65536)
  | .spdmEndSession session => decide (session < 65536)
  | .spdmVendorDefinedRequest session port k => decide (session < 65536) && decide (port < 256) && decide (k.slot < 2) && k.keys.wf
  | .ideRekey p => decide (p < 256)
  | .ideIntegrityFail p _ => decide (p < 256)
  | .dbgChallengeRead ep => decide (ep < 322)
  | .dbgResponseWrite ep bytes _ _ => decide (ep < 322) && decide (bytes.length ≤ 1024)
  | .dbgDropWrite ep _ => decide (ep < 322)
  | .dbgAllowWrite ep _ => decide (ep < 322)
  | .dbgIdleTimeout => true
  | .ridgeHaltWrite ep _ => decide (ep < 322)
  | .tapInstructionLoad _ => true
  | .talusWindowNowWrite ep _ => decide (ep < 322)
  | .talusMeasureDone _ => true
  | .talusCommitPoint => true
  | .hbmUnitRetired => true
  | .talusApplyDone => true
  | .talusRecordDone => true
  | .feedRdsSample => true
  | .talusCeilResetWrite ep p _ => decide (ep < 322) && decide (p < 256)
  | .fetRebaseWrite ep _ _ => decide (ep < 322)
  | .profStoreWrite ep p _ => decide (ep < 322) && decide (p < 256)
  | .profChunkWrite ep bytes => decide (ep < 322) && decide (bytes.length ≤ 1024)
  | .profFlashStepDone _ => true
  | .profStoreCommit => true
  | .resetNowWrite ep _ => decide (ep < 322)
  | .resetNowDelayEnd => true
  | .rstNAssert => true
  | .powerOn => true
  | .supplyUndervoltage => true
  | .watchdogExpiry core => decide (core < 4)
  | .resetRelease psel => decide (psel < 16)
  | .bootImageVerified _ _ _ => true
  | .profileValidate => true
  | .hbmTrainingDone => true
  | .profileApplied => true
  | .wedgeCheck => true
  | .wedgeResetDelayEnd => true
  | .timeRefRestored => true
  | .holdTimeAdvance _ => true
  | .xt32Tick _ => true
  | .linkLayerRetry p _ => decide (p < 256)
  | .partnerRecoveryEntry p => decide (p < 256)
  | .prbsPatternLock lane => decide (lane < 512)
  | .prbsPatternLockLost lane => decide (lane < 512)
  | .dbgMailbox bytes => decide (bytes.length ≤ 1024)
  | .vddAonLoss => true

end Sys2Proof
end

