-- ==== Sys2Proof/Safety.lean ====
section
/-!
DEFINITION. The terms in which claims are stated: what an event changes, when a request of an endpoint is served, and what every
step keeps.
-/

namespace Sys2Proof.Machine

namespace State

/-- `t` is `s` but for event records, the cause bits of interrupts and their pending state (R60 to R62, R310 to R313). -/
def EventOnly (s t : State) : Prop :=
  t = { s with
    regs := t.regs
    dict := { s.dict with seq := t.dict.seq, queues := t.dict.queues, dropMark := t.dict.dropMark, limited := t.dict.limited }
    intc := t.intc } ∧
  ∀ o i, o ≠ Obj.INT_CAUSE → o ≠ Obj.EVT_DROPPED → t.reg o i = s.reg o i

/-- Every object of `t` reads as in `s`, but for those of `l` and for what raising events writes (R60 to R62, R311). -/
def SameRegs (s t : State) (l : List Nat) : Prop :=
  ∀ o i, o ∉ l → o ≠ Obj.INT_CAUSE → o ≠ Obj.EVT_DROPPED → t.reg o i = s.reg o i

/-- `t` is `s` with one more control frame sent on port `p`, of CTYPE `ct` with `rest` from byte 2 of its body on; its CRC holds (R98). -/
def SentCtrl (s t : State) (p ct : Nat) (rest : List Byte) : Prop :=
  ∃ f, t.out = .frame p f :: s.out ∧ f.ftype = 4 ∧ f.body = frameBody (toBytes 2 ct ++ rest) ∧ frameGood f = true

/-- A RETRAIN has begun at port `p` (R101): new frames wait, the peer is told the cause, and Recovery is counted. -/
def Retrains (s t : State) (p cause : Nat) : Prop :=
  t.port p = { s.port p with st := .recovery, phase := .retrain, phaseAt := s.clk, lastRetrain := cause } ∧
  t.reg Obj.PORT_RECOVERY_CNT p = min (s.reg Obj.PORT_RECOVERY_CNT p + 1) 0xFFFF_FFFF ∧ s.SentCtrl t p 5 (toBytes 1 cause) ∧
  s.SameRegs t [Obj.PORT_RECOVERY_CNT]

/-- Only queues of the fabric differ from `s` in `t`, and only those of port `p` (its shapers' credits are brought up to date). -/
def FabKept (s t : State) (p : Nat) : Prop :=
  t.fab = { s.fab with egress := t.fab.egress } ∧ ∀ q, q ≠ p → t.egr q = s.egr q

/-- A round of Quartz engine `q` ends now (R86): it has run for 1 ms, every privileged lane of the group has had its slot, and no
margining command waits. -/
def RoundEnds (s : State) (q : Nat) : Prop :=
  q < 8 ∧ s.ridgeClock = true ∧ ((s.quartz q).roundAt = 0 ∨ s.after ((s.quartz q).roundAt - 1) 1000000 = true) ∧
  s.slotsDue q = [] ∧ (s.quartz q).margins = []

/-- The 100 µs slot of privileged lane `n` ends now (R86), with no margining command for it, and its engine may adapt it (R87, R88). -/
def SlotEnds (s : State) (n : Nat) : Prop :=
  n < 512 ∧ s.ridgeClock = true ∧ (s.slotsDue (n / 64)).head? = some n ∧ s.after (s.quartz (n / 64)).freeAt 100000 = true ∧
  (∀ m ∈ (s.quartz (n / 64)).margins, m.1 ≠ n) ∧ (s.lane n).margining = false ∧ s.gatedLC (n / 16) = false

/-- The flit of class `cls` of a command of the ingress is there, and is not stomped: on a Drudar port the oldest accepted DATA frame
brought it (R100, R152). -/
def FlitGood (s : State) (p cls : Nat) (stomp : Bool) : Prop :=
  s.dlUp p = true ∧ s.flitHere p cls = true ∧ (if s.drudar p then (s.nextFlit p).any (·.stomp) else stomp) = false

/-- A message `a` arrives whole at port `p` in one flit, and no message of its class is in progress there (R150). -/
def Arrives (s : State) (p : Nat) (a : MsgIn) : Prop :=
  p < 256 ∧ s.FlitGood p a.cls a.stomp ∧ a.len ≤ 1 ∧ s.inMsg p (s.classOf p a.chan a.cls) = none

/-- A message from port `p` to fabric ID `k`, which is neither an LD's nor the GT9's own, leaves by port `q`, DL_Up, by the route entry of
`k` of KIND 1; nothing that waits stands before it (R114, R120, R132, R255). -/
def RoutedTo (s : State) (p k q src : Nat) : Prop :=
  src ≠ 0xFFFF ∧ k ≠ 0xFFFF ∧ (k < s.reg Obj.FID_BASE 0 ∨ s.reg Obj.FID_BASE 0 + 32 ≤ k) ∧
  field (s.reg Obj.ROUTE_ENTRY k) 10 2 = 1 ∧ field (s.reg Obj.ROUTE_ENTRY k) 0 8 = q ∧ q ≠ p ∧ s.dlUp q = true ∧
  s.fab.rttWait.get [] (p, 0) = [] ∧ s.fab.tagWait = []

/-- No agent, reservation, incomplete message or live move hangs on port `p`. -/
def Calm (s : State) (p : Nat) : Prop :=
  s.agentsOfPort p = [] ∧ s.coh.rsv = [] ∧ s.fab.inMsgs.row p = [] ∧ ∀ c < 16, s.moveLive c = false

/-- Port `p`, which was DL_Up and calm, has gone DL_Down (R89, R159): it is FLUSHING, its speed, widths and stripes read 0, and its
Drudar link state is as new. -/
def WentDown (s t : State) (p : Nat) : Prop :=
  (t.port p).st = .flushing ∧ (t.port p).dlUp = false ∧ (t.port p).flushAt = s.clk ∧ t.reg Obj.PORT_SPEED p = 0 ∧
  t.reg Obj.PORT_WIDTH p = 0 ∧ t.reg Obj.PORT_ACTIVE_WIDTH p = 0 ∧ t.dru p = druDflt ∧
  (∀ n ∈ s.portLanes p, t.reg Obj.LANE_STATE n = if s.reg Obj.LANE_STATE n = 4 ∨ (s.lane n).restoring = true then 4 else 0) ∧
  (∀ q, q ≠ p → t.port q = s.port q)

/-- The dictionary serves a request of endpoint `ep` at once: firmware runs, the endpoint exists, the part is awake, and no other
request of the endpoint waits (R44, R47, R50, R295). -/
def Serves (s : State) (ep : Nat) : Prop :=
  ep < 322 ∧ s.firmwareUp = true ∧ s.endpointUp ep = true ∧ s.mode.sleeps = false ∧ s.coresWait = false ∧ s.inboxOf ep = []

/-- A request of endpoint `ep`, which is not the debug session, is served at once and passes checks 1 to 10 of R49. -/
def Accepts (s : State) (ep : Nat) (r : Req) : Prop := ep ≠ 321 ∧ s.Serves ep ∧ s.precheck ep r = 0

/-- A request of the debug session, which restarts its idle time (R346), is served at once and passes checks 1 to 10. -/
def AcceptsDebug (s : State) (r : Req) : Prop := s.Serves 321 ∧ (s.noteDebug 321).precheck 321 r = 0

/-- The state after a served write whose effect made `u` of `s`: a profile store in its capture step notes a changed value
(R375), and the response carries status 0 and `payload`. -/
def wrote (s u : State) (ep : Nat) (r : Req) (payload : List Byte) : State :=
  (s.profWatch u).respondReq ep r 0 payload

/-- The request that writes value `v` to object `o`, instance `i`. -/
def writeOf (o i v : Nat) : Req := writeReq o i (objBytes o v)

/-- The bytes in which endpoint `ep` reads an object instance (R46, R48). -/
def valueBytes (s : State) (ep : Nat) (k : Key) : List Byte :=
  match dictRow k.1 k.2 with
  | some row => putVal row.ty (s.readObj ep k.1 k.2).1
  | none => []

/-- The bytes of `n` subindexes from an object on. -/
def runBytes (s : State) (ep o i n : Nat) : List Byte := (List.range n).flatMap (fun k => s.valueBytes ep (o + k, i))

/-- An in-band fabric manager is served (R44, R139). -/
def ServesFm (s : State) (ep : Nat) : Prop := 1 ≤ ep ∧ ep ≤ 256 ∧ s.Serves ep

/-- Endpoint `ep` has just opened stage `n`, which holds `entries`. -/
def staging (s : State) (ep n : Nat) (entries : Tbl Nat) : State :=
  s.setStage n { stageDflt with st := .opened, owner := ep, touched := s.clk, entries := entries }

/-- One value, staged in the lowest free stage `n` by endpoint `ep` and committed at once with the lowest free handle `h`, passes
every check of R49 and R53. -/
def CommitsNow (s : State) (ep n h o i v : Nat) : Prop :=
  s.freeStage = some n ∧ s.freeLop = some h ∧
  (s.staging ep n []).precheck ep { writeReq o i (objBytes o v) with stage := n } = 0 ∧
  s.heldBy (o, i) = none ∧ s.coreRuns (if 0x310000 ≤ o ∧ o < 0x380000 then 2 else 0) = true ∧
  (s.staging ep n [((o, i), v)]).validate [((o, i), v)] [] false true = none ∧
  (s.staging ep n [((o, i), v)]).slotsNeeded ((s.staging ep n [((o, i), v)]).candidate [((o, i), v)]) [((o, i), v)] ≤ s.slotsFree

/-- Slot `slot` of slice `c` is a slot of the present cycle that nothing has used, and its wheel gives it to request `i` of the list, `r` of
type `ty` to that slice, under owner code `code` (R194, R195). -/
def Offered (s : State) (ty c slot code i : Nat) (r : CohReq) : Prop :=
  c < 8 ∧ c < s.reg Obj.CAIRN_SLICES 0 ∧ (s.slotOpen c slot).isSome = true ∧ s.wheelPick c slot = some (.req code i r) ∧ r.ty = ty ∧
  r.slice = c

/-- Such a request of agent `a`, which is LIVE, with its line's set `set` in the directory cache and no other set read for it (R191, R198). -/
def AtSet (s : State) (ty c slot code i : Nat) (r : CohReq) (a set tag : Nat) : Prop :=
  s.Offered ty c slot code i r ∧ s.agentOfMsg r.msg = a ∧ a < 64 ∧ s.reg Obj.AGT_STATE a = 0 ∧
  place (s.reg Obj.CAIRN_SLICES 0) r.msg.home = (c, set, tag) ∧ s.coh.reads.contains (c, set) = false ∧ (s.findFrame c set).isSome = true

/-- Nothing is open on such a request's line, and no line is reserved (R200). -/
def Hits (s : State) (ty c slot code i : Nat) (r : CohReq) (a set tag : Nat) : Prop :=
  s.AtSet ty c slot code i r a set tag ∧ r.rsv = 64 ∧ s.coh.rsv = [] ∧ s.lineEvict c (r.msg.home / 64 * 64) = none ∧
  s.lineTracker c (r.msg.home / 64 * 64) = none

/-- Such a request whose line is in way `w`. -/
def HitsWay (s : State) (ty c slot code i : Nat) (r : CohReq) (a set w : Nat) : Prop :=
  ∃ tag, s.Hits ty c slot code i r a set tag ∧ s.findWay c set tag = some w

/-- A one-flit message that the GT9 itself consumes, not stomped, is there at port `p` (R147). -/
def Consumes (s : State) (p : Nat) (ch : Chan) : Prop := ∃ v, s.consumeFlit p ch = some (false, v)

/-- An open transaction of slice `c` in tracker `n` that awaits nothing but agent `a`, which has answered no other wait, and at its port
`p` a back-invalidate response for the slice. -/
def AwaitsOnly (s : State) (p c n a : Nat) (t : Trk) : Prop :=
  p < 256 ∧ c < 8 ∧ n < 2048 ∧ s.Consumes p .memBiRsp ∧ s.deviceHomed p c = none ∧
  ((s.agentsOfPort p).find? (fun a => s.reg Obj.AGT_KIND a != 0)) = some a ∧ s.tracker c n = some t ∧
  bit t.await a = true ∧ clrBit t.await a = 0 ∧ t.wbs = [] ∧ t.lost = false ∧ t.asPoison = false

/-- WALKER is admitted in the first slot of the present cycle in slice `c`: a job runs there, and its wheel gives WALKER the slot (R195). -/
def WalkerTurn (s : State) (c : Nat) : Prop :=
  c < 8 ∧ c < s.reg Obj.CAIRN_SLICES 0 ∧ (s.slotOpen c (s.slotBase % 64)).isSome = true ∧
  s.wheelPick c (s.slotBase % 64) = some .walker ∧ s.coh.reads.contains (c, s.reg Obj.WALK_POS c) = false

/-- No power-good is up for channel `c`, or no port belongs to it: turning it off drives no reset of a bay (R14, R16). -/
def NoBay (s : State) (c : Nat) : Prop := s.flag Obj.CH_PG c = false ∨ s.chPort c = none

/-- Channel `c` has been turned off for a cause (R280, R287): its gates are off and power-good is low, of a fast trip in the
sample that follows (R276). -/
def TurnedOff (s t : State) (c cause : Nat) (st : ChSt) (l : List Nat) : Prop :=
  (t.slotCh c).st = st ∧ t.reg Obj.CH_CAUSE c = cause ∧ t.flag Obj.CH_PG c = (cause == 1 && s.flag Obj.CH_PG c) ∧
  (t.feed (2 * c)).gate = false ∧ (t.feed (2 * c + 1)).gate = false ∧ s.SameRegs t ([Obj.CH_CAUSE, Obj.CH_PG] ++ l)

/-- Channel `c` has tripped (R280, R281): it is off for at least 500 ms, the trip is counted, and so is the retry unless the cause is
5; it is LATCHED where retries are not allowed or are used up. -/
def Trips (s t : State) (c cause : Nat) : Prop :=
  s.TurnedOff t c cause
    (if s.reg Obj.CH_RETRY_MS c = 0 ∨ (s.reg Obj.CH_RETRY_MAX c ≠ 0 ∧ s.reg Obj.CH_RETRY_MAX c ≤ t.reg Obj.CH_RETRIES c) then .latched
     else .faultOff) [Obj.CH_TRIPS, Obj.CH_RETRIES] ∧
  t.reg Obj.CH_TRIPS c = min (s.reg Obj.CH_TRIPS c + 1) 0xFFFF_FFFF ∧
  t.reg Obj.CH_RETRIES c = (if cause = 5 then s.reg Obj.CH_RETRIES c else min (s.reg Obj.CH_RETRIES c + 1) 255) ∧
  500000 ≤ (t.slotCh c).offLeft ∧ (t.slotCh c).retryLeft = s.reg Obj.CH_RETRY_MS c * 1000

/-- The objects whose values a full reset does not set to those at reset (R378 to R381, R338, R368, R374, R335, R289). -/
def resetKeeps : List Nat :=
  [Obj.PROFILE_NEXT, Obj.LC_PENDING, Obj.FW_BOOT_PTR, Obj.FW_CONFIRMED, Obj.TALUS_WINDOW_NUM, Obj.TALUS_HIST_USED, Obj.SPD_LINK,
   Obj.CH_CAUSE, Obj.CH_SEAT, Obj.FEED_IPEAK, Obj.FEED_E, Obj.RST_CAUSE, Obj.RST_WDT_CORE, Obj.RST_COUNT, Obj.RST_PREV_TIME]

/-- What every full reset leaves (R378 to R381): BOOT, the reset record of its cause, everything of the fabric as at reset, and the fuses
and the flash as they were. -/
def FullReset (s t : State) (cause core : Nat) : Prop :=
  t.mode = .boot ∧ t.rst.step = .inReset ∧ t.rst.since = s.clk ∧ t.reg Obj.RST_CAUSE 0 = cause ∧ t.reg Obj.RST_WDT_CORE 0 = core ∧
  t.link = State.reset.link ∧ t.fab = State.reset.fab ∧ t.coh = State.reset.coh ∧ t.dict = State.reset.dict ∧ t.intc = State.reset.intc ∧
  t.cnt = State.reset.cnt ∧ t.sec.fuse = s.sec.fuse ∧ t.sec.images = s.sec.images ∧ t.sec.sessions = [] ∧ t.sec.ide = [] ∧
  t.prof.banks = s.prof.banks ∧ t.move.flashRdr = s.move.flashRdr ∧ t.talus.flash = s.talus.flash ∧ t.clk = s.clk ∧ t.out = s.out ∧
  (∀ c < 32, (t.slotCh c).st = .off ∧ t.reg Obj.CH_CAUSE c = 11) ∧ (∀ f < 64, (t.feed f).gate = false) ∧
  (∀ o i, o ∉ resetKeeps → t.reg o i = State.reset.reg o i)

/-- The fuses hold a lifecycle that *Lifecycle transitions* can have made (R334, R335): every word is blank or burnt, SECURED and RMA
follow PROVISIONED, the identity secret exists from PROVISIONED on, and SCRAPPED has destroyed it. -/
def LifecycleSound (s : State) : Prop :=
  (∀ w ∈ [s.sec.fuse.provisioned, s.sec.fuse.secured, s.sec.fuse.rma, s.sec.fuse.scrapped], w = 0 ∨ w = burnt) ∧
  (s.sec.fuse.secured = burnt → s.sec.fuse.provisioned = burnt) ∧ (s.sec.fuse.rma = burnt → s.sec.fuse.provisioned = burnt) ∧
  (s.sec.fuse.scrapped = burnt → s.sec.fuse.identity = none) ∧
  (s.sec.fuse.provisioned = burnt → s.sec.fuse.scrapped ≠ burnt → s.sec.fuse.identity.isSome = true)

end State

end Sys2Proof.Machine
end

