-- ==== Sys2Proof/Certificates/Slice0/Obligations.lean ====
section
/-!
DEFINITION. The statements for the provers, subject by subject: each says what commands do, and when they complete; the last ones
speak of the whole block.
-/

open Sys2Proof Sys2Proof.Machine

/-! ### Fabric time -/

/-- R25, R35, R37: the counter advances by the disciplined increment for every FCLK cycle, which notes the slots whose times come, by the scaled REFCLK0 period in HOLD, and
stands in SENTINEL while Tor counts ticks; nothing else of the state changes. Where the increment cannot hold the exact value, its rounding is a free value. -/
def Obligations.TimeCounterAdvances : Prop :=
  (∀ (s : State) (n : Nat), s.ridgeClock = true → s.rst.step ≠ .inReset → s.time.slew = 0 →
    exec (.fabricTimeAdvance n) s = .next { s with
      clk := s.clk + n * fclkUnit
      time := { s.time with ctr := (s.time.ctr + n * scaled fclkUnit s.time.y) % 2 ^ 96, slots := s.stampDue n } }) ∧
  (∀ (s : State) (n : Nat), s.mode = .hold →
    exec (.holdTimeAdvance n) s = .next { s with
      clk := s.clk + n * refclkUnit
      time := { s.time with ctr := (s.time.ctr + n * scaled refclkUnit s.time.y) % 2 ^ 96 } }) ∧
  (∀ (s : State) (n : Nat), s.mode = .sentinel →
    exec (.xt32Tick n) s = .next { s with
      clk := s.clk + n * xt32Unit
      time := { s.time with sleepTicks := s.time.sleepTicks + n } })

/-- R26, R29, R409: a slew that has removed its offset ends; the loss of TIME_REF_IN holds the increment and its return lets it go;
a frequency update sets y from the count of reference edges over the time since the last one, within 1 000 ppm. -/
def Obligations.TimeLoopCommands : Prop :=
  (∀ s : State, s.time.slewing = true → s.time.slew = 0 →
    exec .slewEnd s = .next { s with time := { s.time with slewing := false } }) ∧
  (∀ s : State, exec .timeRefLost s = .next { s with time := { s.time with refHeld := true } }) ∧
  (∀ s : State, exec .timeRefRestored s = .next { s with
    time := { s.time with refHeld := false, refSeen := true, freqClk := s.clk } }) ∧
  (∀ (s : State) (edges : Nat), s.reg Obj.TIME_ROLE 0 = 1 → s.time.refSeen = true → s.time.refHeld = false →
    s.after s.time.freqClk 1000000000 = true → s.ridgeClock = true →
    exec (.timeFreqUpdate edges) s = .next { s with time := { s.time with
      y := min (max (((edges * 1000000000 * nsUnit : Nat) : Rat) /
        (((if s.reg Obj.TIME_REF_SEL 0 = 0 then 10000000 else 25000000) * (s.clk - s.time.freqClk) : Nat) : Rat) - 1)
        (-(1 / 1000))) (1 / 1000)
      freqClk := s.clk } })

/-- R30, R33: a grandmaster that sees no edge for 1.1 s enters HOLDOVER and keeps the uncertainty it had; HOLDOVER whose uncertainty
passes the limit becomes UNSYNC; a slave that misses three exchanges on TIME_UPSTREAM takes TIME_BACKUP as its source, and goes back
after ten valid ones on TIME_UPSTREAM. Each raises
its event, and every other part of the state is unchanged but for the record and its cause bit. -/
def Obligations.TimeStateTransitions : Prop :=
  (∀ s : State, s.time.st = .locked → s.ridgeClock = true → s.reg Obj.TIME_ROLE 0 = 1 → s.after s.time.edgeClk 1100000000 = true →
    ∃ t, exec .timeHoldover s = .next t ∧ t.time.st = .holdover ∧ t.time.uncBase = s.timeUnc ∧ t.time.uncSince = s.clk ∧
      t.time.slewing = false ∧ t.time.edgeGap = true ∧ t.time.ctr = s.time.ctr ∧ t.time.y = s.time.y ∧
      t.dict.seq = (s.dict.seq + 1) % 65536 ∧ State.EventOnly { s with time := t.time } t) ∧
  (∀ s : State, s.mode ≠ .sentinel → s.time.st = .holdover → s.reg Obj.TIME_UNC_LIMIT 0 < s.timeUnc →
    exec .timeUnsync s = .next (State.raise { s with time := { s.time with st := .unsync, ppsOut := false } }
      0xE003 0xE0 3 0xFFFF s.timeUnc)) ∧
  (∀ s : State, s.reg Obj.TIME_ROLE 0 = 2 → s.ridgeClock = true → s.time.backup = false → s.reg Obj.TIME_BACKUP 0 < 256 →
    s.after (max s.time.srcAt ((s.flitDlg (s.reg Obj.TIME_UPSTREAM 0)).lastRx - 1)) 3000000 = true →
    exec .timeSourceSwitch s = .next (State.raise
      { s with time := { s.time with backup := true, noFreq := true, lastExch := none } }
      0xE005 0xE0 2 0xFFFF (s.reg Obj.TIME_BACKUP 0))) ∧
  (∀ s : State, s.reg Obj.TIME_ROLE 0 = 2 → s.ridgeClock = true → s.time.backup = true →
    10 ≤ (s.flitDlg (s.reg Obj.TIME_UPSTREAM 0)).valid → s.after ((s.flitDlg (s.reg Obj.TIME_UPSTREAM 0)).lastRx - 1) 2000000 = false →
    exec .timeSourceSwitch s = .next (State.raise
      { s with time := { s.time with backup := false, noFreq := true, lastExch := none } }
      0xE005 0xE0 2 0xFFFF (s.reg Obj.TIME_UPSTREAM 0)))

/-- R28, R33: in FREE_RUN a PPS edge whose offset is not beyond TIME_STEP_LIMIT is given its time, starts a slew over its whole
offset, and moves the state to LOCKING. R31: a PTM request is answered without data while no dialog is kept, and with the fabric
time in ns and the previous dialog's turnaround afterwards. R32: TIME_PPS_OUT rises at a whole second and falls 1 ms later. -/
def Obligations.TimeEdgesAndRequests : Prop :=
  (∀ s : State, s.ridgeClock = true → s.reg Obj.TIME_ROLE 0 = 1 → s.time.st = .freeRun →
    s.stepsBy (((s.edgeTime * nsUnit : Nat) : Int) - (s.time.ctr : Int)) = false →
    exec .ppsEdge s = .next { s with time := { s.time with
      edge := some s.edgeTime, edgeClk := s.clk, edgeGap := false, secNext := none
      y := s.newRate (((s.edgeTime * nsUnit : Nat) : Int) - (s.time.ctr : Int)) false
      lastExch := some s.clk, noFreq := false, st := .locking, lockCount := 0
      slew := ((s.edgeTime * nsUnit : Nat) : Int) - (s.time.ctr : Int)
      slewing := ((s.edgeTime * nsUnit : Nat) : Int) - (s.time.ctr : Int) != 0 } }) ∧
  (∀ (s : State) (p turn : Nat), p < 256 → s.drudar p = false → s.dlUp p = true → (s.port p).st = .l0 →
    (s.ptmDlg p).valid = false →
    exec (.ptmRequest p turn) s = .next ((s.setPtmDlg p
      { valid := true, arrival := s.clk, departure := s.clk + turn * nsUnit }).emit (.ptm p false 0 0))) ∧
  (∀ (s : State) (p turn : Nat), p < 256 → s.drudar p = false → s.dlUp p = true → (s.port p).st = .l0 →
    (s.ptmDlg p).valid = true →
    exec (.ptmRequest p turn) s = .next ((s.setPtmDlg p
      { valid := true, arrival := s.clk, departure := s.clk + turn * nsUnit }).emit
        (.ptm p true (s.now / 65536) (((s.ptmDlg p).departure - (s.ptmDlg p).arrival) / nsUnit % 2 ^ 32)))) ∧
  (∀ (s : State) (sec ns : Nat), (s.time.st = .locked ∨ s.time.st = .holdover) → s.mode ≠ .sentinel →
    s.time.ppsOut = false → s.reg Obj.TIME_PPS_OUT_ADJ 0 = 0 → s.now / 65536 = sec * 1000000000 + ns → ns < 1000000 → s.time.ppsSec ≠ sec + 1 →
    exec .timePpsOutStart s = .next { s with time := { s.time with ppsOut := true, ppsSec := sec + 1, ppsAt := s.clk } }) ∧
  (∀ s : State, s.time.ppsOut = true → s.after s.time.ppsAt 1000000 = true →
    exec .timePpsOutEnd s = .next { s with time := { s.time with ppsOut := false } })

/-- R106, R166: a Drudar port in use for time sends a time flit whose T_TX is the fabric time and whose TID is the next one; a good time
flit at a port that is not the current source sets what the next flit reports, and corrects nothing. -/
def Obligations.TimeFlits : Prop :=
  (∀ (s : State) (p : Nat), p < 256 → s.druUp p = true → s.ridgeClock = true → s.flag Obj.TIME_PORT_SERVE p = true →
    ((s.flitDlg p).lastTx = 0 ∨ s.after ((s.flitDlg p).lastTx - 1) 1000000 = true) →
    ∃ t f, exec (.timeFlitTx p) s = .next t ∧ t.out = .frame p f :: s.out ∧ f.ftype = 3 ∧ f.body.take 10 = toBytes 10 s.now ∧
      f.crc = frameCrc f ∧
      (t.flitDlg p).txTid = ((s.flitDlg p).txTid + 1) % 65536 ∧ (t.flitDlg p).txT = s.now ∧ (t.flitDlg p).lastTx = s.clk + 1 ∧
      t.regs = s.regs ∧ t.fab = { s.fab with egress := t.fab.egress } ∧ t.time.ctr = s.time.ctr) ∧
  (∀ (s : State) (p : Nat) (f : Frame) (tagOk : Bool), p < 256 → s.druLive p = true → s.ridgeClock = true → frameGood f = true →
    f.ftype = 3 → (tagOk = true ∨ s.druIde p = false) → s.isSource p = false →
    ∃ t, exec (.timeFlitRx p f tagOk) s = .next t ∧ (t.flitDlg p).rxT = s.now ∧ (t.flitDlg p).peerT1 = ofBytes (f.body.take 10) ∧
      (t.flitDlg p).rxTid = ofBytes ((f.body.drop 20).take 2) ∧ t.time.ctr = s.time.ctr ∧ t.time.y = s.time.y ∧
      t.time.slew = s.time.slew ∧ t.time.st = s.time.st ∧ t.regs = s.regs ∧ t.fab = s.fab ∧ t.out = s.out)

/-! ### Commands that write one object of the dictionary -/

/-- Served writes of the lane, routing, histogram, directory, agent, access-control and ageing commands (R83, R84, R119, R183, R191, R193,
R194, R230, R258, R259, R361, R366): each answers status 0 and has its effect, and the rest that the clause names stays as it was. A lookup
of the directory is done in a slot of the wheel; while its set is being read from HBM it waits. -/
def Obligations.UnitCommandWrites : Prop :=
  (∀ (s : State) (ep p : Nat), s.Accepts ep (State.writeOf Obj.HIST_CLEAR p 1) →
    ∃ u, exec (.histClearWrite ep p 1) s = .next (s.wrote u ep (State.writeOf Obj.HIST_CLEAR p 1) []) ∧
      (∀ c, c < 8 → u.reg Obj.HIST_DEPTH (8 * p + c) = 0 ∧ u.reg Obj.HIST_SOJOURN (8 * p + c) = 0 ∧
        u.reg Obj.Q_DEPTH_MAX (8 * p + c) = 0 ∧ u.reg Obj.Q_SOJOURN_MAX (8 * p + c) = 0) ∧
      u = { s with regs := u.regs } ∧
      ∀ o i, (o, i / 8) ∉ [(Obj.HIST_DEPTH, p), (Obj.HIST_SOJOURN, p), (Obj.Q_DEPTH_MAX, p), (Obj.Q_SOJOURN_MAX, p)] →
        u.reg o i = s.reg o i) ∧
  (∀ (s : State) (ep n : Nat), s.Accepts ep (State.writeOf Obj.LANE_CLEAR n 1) →
    exec (.laneClearWrite ep n 1) s = .next (s.wrote ((s.setReg Obj.LANE_ERR_PAIR n 0).setLane n
      { s.lane n with errs := 0, bits := 0, countAt := s.clk }) ep (State.writeOf Obj.LANE_CLEAR n 1) [])) ∧
  (∀ (s : State) (ep n v : Nat), s.Accepts ep (State.writeOf Obj.LANE_PRBS_MODE n v) → v < 256 →
    (s.portState (s.lanePort n) = 1 ∨ s.mode = .service) →
    ∃ u, exec (.lanePrbsModeWrite ep n v) s = .next (s.wrote u ep (State.writeOf Obj.LANE_PRBS_MODE n v) []) ∧
      u.lane n = { s.lane n with errs := 0, bits := 0, countAt := s.clk, prbsLocked := false } ∧ u.reg Obj.LANE_PRBS_MODE n = v ∧
      u.reg Obj.LANE_ERR_PAIR n = 0 ∧ (∀ m, m ≠ n → u.lane m = s.lane m) ∧ u.link.ports = s.link.ports ∧ u.fab = s.fab ∧ u.coh = s.coh ∧
      ∀ o i, (o, i) ≠ (Obj.LANE_PRBS_MODE, n) → (o, i) ≠ (Obj.LANE_ERR_PAIR, n) → u.reg o i = s.reg o i) ∧
  (∀ (s : State) (ep g : Nat), s.Accepts ep (State.writeOf Obj.HG_REBALANCE g 1) →
    ∃ u, exec (.hgRebalanceWrite ep g 1) s = .next (s.wrote u ep (State.writeOf Obj.HG_REBALANCE g 1) []) ∧
      u.reg Obj.HG_BUCKETS g = s.hgAssign g ∧ u.dict.seq = (s.dict.seq + 1) % 65536 ∧ u.link = s.link ∧ u.coh = s.coh) ∧
  (∀ (s t : State) (ep a c set tag code : Nat), s.Accepts ep (State.writeOf Obj.DIR_LOOKUP 0 a) → a < 2 ^ 64 →
    place (s.reg Obj.CAIRN_SLICES 0) a = (c, set, tag) → t = { s with coh := { s.coh with lookup := some a } } →
    (t.slotOpen c (t.slotBase % 64)).isSome = true → t.wheelPick c (t.slotBase % 64) = some (.lookup code) →
    (s.findFrame c set).isSome = true → s.findWay c set tag = none →
    ∃ u w, exec (.dirLookupWrite ep a) s = .next (s.wrote u ep (State.writeOf Obj.DIR_LOOKUP 0 a) []) ∧
      u.reg Obj.DIR_LOOKUP_RESULT 0 = w ∧ field w 0 128 = 0 ∧ field w 128 8 = c % 256 ∧ field w 136 8 = 0xFF ∧
      field w 144 23 = set % 2 ^ 23 ∧ u.coh.lookup = none ∧ u.coh.dir = s.coh.dir ∧
      u.reg Obj.DIR_HIT c = (s.reg Obj.DIR_HIT c + 1) % 2 ^ 64) ∧
  (∀ (s : State) (ep a c set tag : Nat), s.Accepts ep (State.writeOf Obj.DIR_LOOKUP 0 a) → a < 2 ^ 64 →
    place (s.reg Obj.CAIRN_SLICES 0) a = (c, set, tag) → s.coh.reads.contains (c, set) = true →
    exec (.dirLookupWrite ep a) s = .next (s.wrote { s with coh := { s.coh with lookup := some a } }
      ep (State.writeOf Obj.DIR_LOOKUP 0 a) [])) ∧
  (∀ (s : State) (ep a : Nat), s.Accepts ep (State.writeOf Obj.AGT_REVIVE a 1) → s.reg Obj.AGT_STATE a = 3 →
    exec (.agtReviveWrite ep a 1) s = .next (s.wrote (s.setReg Obj.AGT_STATE a 0) ep (State.writeOf Obj.AGT_REVIVE a 1) [])) ∧
  (∀ (s : State) (ep : Nat), s.Accepts ep (State.writeOf Obj.FL_TAG_FILL 0 1) →
    s.reg Obj.FL_TAG_BASE 0 + s.reg Obj.FL_TAG_COUNT 0 * 2097152 ≤ 2 ^ 49 → (∀ e t, s.fab.filling = some (e, t) → e = ep ∨ t ≤ s.clk) →
    exec (.flTagFillWrite ep 1) s = .next (s.wrote { s with fab := { s.fab with
      filling := some (ep, s.clk + (s.reg Obj.FL_TAG_COUNT 0 + 63) / 64 * (2 * fclkUnit)), tagFills :=
      { base := s.reg Obj.FL_TAG_BASE 0 / 2097152, count := s.reg Obj.FL_TAG_COUNT 0, value := s.reg Obj.FL_TAG_VALUE 0 } ::
        s.fab.tagFills } } ep (State.writeOf Obj.FL_TAG_FILL 0 1) [])) ∧
  (∀ (s : State) (ep a : Nat), s.Accepts ep (State.writeOf Obj.FL_TAG_PROBE 0 a) → a < 2 ^ 49 →
    exec (.flTagProbeWrite ep a) s = .next (s.wrote (s.setReg Obj.FL_TAG_PROBE_RESULT 0 (s.tagOf (a / 2097152)))
      ep (State.writeOf Obj.FL_TAG_PROBE 0 a) [])) ∧
  (∀ (s : State) (ep p : Nat), s.Accepts ep (State.writeOf Obj.TALUS_CEIL_RESET p 1) →
    exec (.talusCeilResetWrite ep p 1) s = .next (s.wrote (s.setReg Obj.PORT_CEILING p (if s.drudar p = true then 9 else 6))
      ep (State.writeOf Obj.TALUS_CEIL_RESET p 1) [])) ∧
  (∀ (s : State) (ep f : Nat), s.Accepts ep (State.writeOf Obj.FET_REBASE f 1) →
    exec (.fetRebaseWrite ep f 1) s = .next (s.wrote (s.setReg Obj.FET_RDS_BASE f 0) ep (State.writeOf Obj.FET_REBASE f 1) [])) ∧
  (∀ (s : State) (ep c set : Nat), s.Accepts ep (State.writeOf Obj.DIR_SET_CLEAR 0 (set + c * 2 ^ 24)) → c < 8 → set < 2 ^ 23 →
    ∃ u, exec (.dirSetClearWrite ep (set + c * 2 ^ 24)) s =
        .next (s.wrote u ep (State.writeOf Obj.DIR_SET_CLEAR 0 (set + c * 2 ^ 24)) []) ∧
      (∀ w, w < 16 → (s.dirEntry c set w).state = 3 → (s.dirEntry c set w).pcause = 2 → (u.dirEntry c set w).state = 0) ∧
      (∀ w, ¬ ((s.dirEntry c set w).state = 3 ∧ (s.dirEntry c set w).pcause = 2) → u.dirEntry c set w = s.dirEntry c set w) ∧
      u.link = s.link ∧ u.fab = s.fab ∧ u.dict = s.dict ∧ u.regs = s.regs)

/-- Served writes of interrupt and counter objects (R311, R313, R318, R319, R321, R328, R330, R332). -/
def Obligations.InterruptAndCounterWrites : Prop :=
  (∀ (s : State) (ep n v : Nat), s.Accepts ep (State.writeOf Obj.INT_CAUSE_CLR n v) → v < 2 ^ 64 →
    exec (.intCauseClrWrite ep n v) s = .next (s.wrote
      (s.setReg Obj.INT_CAUSE n (s.reg Obj.INT_CAUSE n - (s.reg Obj.INT_CAUSE n &&& v))) ep (State.writeOf Obj.INT_CAUSE_CLR n v) [])) ∧
  (∀ (s : State) (ep n : Nat), s.Accepts ep (State.writeOf Obj.INT_ENABLE n 0) → (s.intSrc n).owner = none →
    exec (.intEnableWrite ep n 0) s = .next (s.wrote ((s.setReg Obj.INT_ENABLE n 0).setIntSrc n intDflt)
      ep (State.writeOf Obj.INT_ENABLE n 0) [])) ∧
  (∀ (s : State) (ep n : Nat), s.Accepts ep (State.writeOf Obj.INT_ENABLE n 1) → s.intLevel n = true → (s.intSrc n).pending = false →
    exec (.intEnableWrite ep n 1) s = .next (s.wrote ((s.setReg Obj.INT_ENABLE n 1).setIntSrc n { s.intSrc n with pending := true })
      ep (State.writeOf Obj.INT_ENABLE n 1) [])) ∧
  (∀ (s : State) (ep v : Nat), s.Accepts ep (State.writeOf Obj.INT_GLOBAL_EN 0 v) → v < 2 →
    exec (.intGlobalEnWrite ep v) s = .next (s.wrote (s.setReg Obj.INT_GLOBAL_EN 0 v).withdraw
      ep (State.writeOf Obj.INT_GLOBAL_EN 0 v) [])) ∧
  (∀ (s : State) (ep o i v : Nat), o ∈ [Obj.INT_TARGET, Obj.INT_TGT_EN, Obj.INT_TGT_THRESH] → s.Accepts ep (State.writeOf o i v) →
    v < 256 → exec (.intRoutingWrite ep o i v) s = .next (s.wrote (s.setReg o i v).withdraw ep (State.writeOf o i v) [])) ∧
  (∀ (s : State) (ep n : Nat), s.Accepts ep (State.writeOf Obj.INT_WAKE_EN n 1) → State.wakeEligible n = true →
    exec (.intWakeEnWrite ep n 1) s = .next (s.wrote (s.setReg Obj.INT_WAKE_EN n 1) ep (State.writeOf Obj.INT_WAKE_EN n 1) [])) ∧
  (∀ (s : State) (ep i v : Nat), s.Accepts ep (State.writeOf Obj.CNT_VALUE i v) → v < 2 ^ 64 →
    exec (.cntValueWrite ep i v) s = .next (s.wrote
      { s.setReg Obj.CNT_VALUE i v with cnt := { s.cnt with fresh := s.cnt.fresh.set false (i, 0) true } }
      ep (State.writeOf Obj.CNT_VALUE i v) [])) ∧
  (∀ (s : State) (ep k v : Nat), s.Accepts ep (State.writeOf Obj.CNT_OVF_CLR k v) → v < 256 →
    exec (.cntOvfClrWrite ep k v) s = .next (s.wrote (s.setReg Obj.CNT_OVF k (s.reg Obj.CNT_OVF k - (s.reg Obj.CNT_OVF k &&& v)))
      ep (State.writeOf Obj.CNT_OVF_CLR k v) [])) ∧
  (∀ (s : State) (ep k : Nat), s.Accepts ep (State.writeOf Obj.SMP_RELEASE k 1) →
    ∃ u, exec (.smpReleaseWrite ep k 1) s = .next (s.wrote u ep (State.writeOf Obj.SMP_RELEASE k 1) []) ∧
      u.cnt.recValid.get false (k, 0) = false ∧ bit (u.reg Obj.SMP_RECORD k) 584 = false ∧ u.link = s.link ∧ u.fab = s.fab ∧
      ∀ o i, (o, i) ≠ (Obj.SMP_RECORD, k) → u.reg o i = s.reg o i) ∧
  (∀ (s : State) (ep o i v : Nat), o ∈ [Obj.CNT_EVT, Obj.CNT_MODE, Obj.CNT_PORT, Obj.CNT_AUX] → s.Accepts ep (State.writeOf o i v) →
    v < 256 → exec (.cntConfigWrite ep o i v) s = .next (s.wrote
      { s.setReg o i v with cnt := { s.cnt with hist := s.cnt.hist.set false (i, 0) false } } ep (State.writeOf o i v) []))

/-- Served writes of slot-power, schedule and reset objects (R281, R286, R287, R289, R290, R379, R410). -/
def Obligations.SlotAndResetWrites : Prop :=
  (∀ (s : State) (ep c : Nat), s.Accepts ep (State.writeOf Obj.CH_ENABLE c 1) → (s.slotCh c).st = .off →
    exec (.chEnableWrite ep c 1) s = .next (s.wrote ((s.setReg Obj.CH_ENABLE c 1).setSlotCh c { s.slotCh c with st := .wait })
      ep (State.writeOf Obj.CH_ENABLE c 1) [])) ∧
  (∀ (s : State) (ep c : Nat), s.Accepts ep (State.writeOf Obj.CH_FAULT_CLEAR c 1) → (s.slotCh c).st = .latched →
    exec (.chFaultClearWrite ep c 1) s = .next (s.wrote
      ((s.setSlotCh c { s.slotCh c with st := .wait, retryLeft := 0 }).setReg Obj.CH_RETRIES c 0)
      ep (State.writeOf Obj.CH_FAULT_CLEAR c 1) [])) ∧
  (∀ (s : State) (ep c : Nat), s.Accepts ep (State.writeOf Obj.CH_MEAS_CLEAR c 1) →
    ∃ u, exec (.chMeasClearWrite ep c 1) s = .next (s.wrote u ep (State.writeOf Obj.CH_MEAS_CLEAR c 1) []) ∧
      (∀ f, f / 2 = c → u.reg Obj.FEED_E f = 0 ∧ u.reg Obj.FEED_IPEAK f = 0 ∧ u.feed f = { s.feed f with energy := 0 }) ∧
      (∀ f, f / 2 ≠ c → u.feed f = s.feed f) ∧
      (∀ o i, (o, i / 2) ∉ [(Obj.FEED_E, c), (Obj.FEED_IPEAK, c)] → u.reg o i = s.reg o i)) ∧
  (∀ (s : State) (ep o i v : Nat) (row : ObjRow), (State.thresholdCh o i).isSome = true → objRow o = some row →
    s.Accepts ep (State.writeOf o i v) → v < 256 ^ row.ty.size →
    exec (.slotThresholdWrite ep o i v) s = .next (s.wrote (s.setReg o i v) ep (State.writeOf o i v) [])) ∧
  (∀ (s : State) (ep k v : Nat), s.Accepts ep (State.writeOf Obj.SCHED_TIME k v) → v < 2 ^ 80 →
    exec (.schedTimeWrite ep k v) s = .next (s.wrote (s.setSlot k { s.slot k with time := v, first := v, state := 1, due := 0 })
      ep (State.writeOf Obj.SCHED_TIME k v) [])) ∧
  (∀ (s : State) (ep : Nat), s.Accepts ep (State.writeOf Obj.RESET_NOW 0 1) →
    exec (.resetNowWrite ep 1) s = .next (s.wrote { s with rst := { s.rst with nowAt := s.clk + 1 } }
      ep (State.writeOf Obj.RESET_NOW 0 1) []))

/-! ### Commands that start long operations; security, debug and image writes -/

/-- R57, R235, R294, R337, R355, R375: a served write that starts a long operation takes the lowest free handle, returns it in the
response, and starts its kind, which is QUEUED while the Ridge core that runs it is halted; the mode, the links and the fabric are as
they were. (That what it waits for is the core: the model's choice, log entry 101.) -/
def Obligations.LongOperationStarts : Prop :=
  (∀ (s : State) (ep h : Nat), s.Accepts ep (State.writeOf Obj.PM_ENTER 0 1) → s.reg Obj.PM_ENTER_TIME 0 = 0 →
    (modeOf (s.reg Obj.PM_TARGET 0)).sleeps = false → entryListed s.mode (modeOf (s.reg Obj.PM_TARGET 0)) = true →
    s.pmBusy = false → s.pm.undoing = false → s.freeLop = some h →
    ∃ u, exec (.pmEnterWrite ep 1) s = .next (s.wrote u ep (State.writeOf Obj.PM_ENTER 0 1) (toBytes 2 h)) ∧
      u.lop h = { lopDflt with kind := 6, st := .running, owner := ep, start := s.now,
                               arg := (modeOf (s.reg Obj.PM_TARGET 0)).num, since := s.clk } ∧
      (∀ k, k ≠ h → u.lop k = s.lop k) ∧ u.pm.step = .cores ∧ u.pm.lop = h ∧ u.pm.target = modeOf (s.reg Obj.PM_TARGET 0) ∧
      u.mode = s.mode ∧ u.regs = s.regs ∧ u.link = s.link ∧ u.fab = s.fab ∧ u.coh = s.coh) ∧
  (∀ (s : State) (ep h : Nat), s.Accepts ep (State.writeOf Obj.FW_UPDATE 0 1) → s.fwLop = none → s.freeLop = some h →
    ∃ u, exec (.fwUpdateWrite ep 1) s = .next (s.wrote u ep (State.writeOf Obj.FW_UPDATE 0 1) (toBytes 2 h)) ∧
      u.lop h = { lopDflt with kind := 4, st := if s.coreRuns 0 = true then .running else .queued, owner := ep, start := s.now,
                               arg := s.fwIdleArea, since := s.clk } ∧
      (∀ k, k ≠ h → u.lop k = s.lop k) ∧ u = { s with dict := { s.dict with lops := u.dict.lops } }) ∧
  (∀ (s : State) (ep p h : Nat), s.Accepts ep (State.writeOf Obj.PROF_STORE p 1) → s.storeBusy = false → s.freeLop = some h →
    ∃ u, exec (.profStoreWrite ep p 1) s = .next (s.wrote u ep (State.writeOf Obj.PROF_STORE p 1) (toBytes 2 h)) ∧
      u.lop h = { lopDflt with kind := 3, st := if s.coreRuns 3 = true then .running else .queued, owner := ep, start := s.now,
                               arg := p + 4 * s.reg Obj.PROF_SRC p, since := s.clk } ∧
      (∀ k, k ≠ h → u.lop k = s.lop k) ∧ u.prof.step = .capture ∧ u.prof.prof = p ∧ u.prof.lop = h ∧ u.prof.changed = false ∧
      u.prof.banks = s.prof.banks ∧ u.prof.buffer = s.prof.buffer ∧ u.regs = s.regs ∧ u.link = s.link ∧ u.fab = s.fab) ∧
  (∀ (s : State) (ep h : Nat), s.Accepts ep (State.writeOf Obj.TALUS_WINDOW_NOW 0 1) → s.windowOpen = false → s.freeLop = some h →
    ∃ u, exec (.talusWindowNowWrite ep 1) s = .next (s.wrote u ep (State.writeOf Obj.TALUS_WINDOW_NOW 0 1) (toBytes 2 h)) ∧
      u.lop h = { lopDflt with kind := 5, st := if s.coreRuns 3 = true then .running else .queued, owner := ep, start := s.now, arg := 0, since := s.clk } ∧
      (∀ k, k ≠ h → u.lop k = s.lop k) ∧ u.talus.lop = h ∧ u.reg Obj.TALUS_STATE 0 = 1 ∧ u.talus.plan = none ∧ u.link = s.link ∧
      u.fab = s.fab ∧ ∀ o i, (o, i) ≠ (Obj.TALUS_STATE, 0) → u.reg o i = s.reg o i) ∧
  (∀ (s : State) (ep c h : Nat), s.Accepts ep (State.writeOf Obj.MOVE_START c 1) → s.moveCheck c = none → s.freeLop = some h →
    s.reg Obj.MOVE_CUTOVER_TIME c = 0 →
    ∃ u r, exec (.moveStart ep c 1) s = .next (s.wrote u ep (State.writeOf Obj.MOVE_START c 1) (toBytes 2 h)) ∧
      u.lop h = { lopDflt with kind := 2, st := if s.coreRuns 2 = true then .running else .queued, owner := ep, start := s.now, arg := c, since := s.clk } ∧
      s.reg Obj.RDR_STATE r = 0 ∧ u.reg Obj.RDR_STATE r = 1 ∧ u.reg Obj.RDR_SRC r = s.reg Obj.MOVE_SRC c ∧
      u.reg Obj.RDR_DST r = s.reg Obj.MOVE_DST c ∧ u.reg Obj.RDR_SIZE r = s.reg Obj.MOVE_SIZE c ∧ u.reg Obj.MOVE_PHASE c = 1 ∧
      u.reg Obj.MOVE_HANDLE c = h ∧ u.reg Obj.MOVE_RDR c = r ∧ (u.mover c).running = true ∧ u.link = s.link ∧ u.fab = s.fab ∧
      u.coh = s.coh)

/-- R335, R337, R338, R346, R375: a nonce is drawn and kept; an accepted lifecycle request waits in LC_PENDING and uses up the nonce;
firmware and profile chunks land at their offset and nowhere else; a confirmation raises the fused security version to that of the
running image; DBG_ALLOW is stored. Nonces are free values. -/
def Obligations.SecurityAndImageWrites : Prop :=
  (∀ (s : State) (ep : Nat), ep ≠ 321 → s.Serves ep → s.precheck ep (readReq Obj.LC_NONCE 0) = 0 →
    exec (.lcNonceRead ep) s = .next (State.respondReq
      { s with sec := { s.sec with lcNonce := some (s.freeVal % 2 ^ 256) }, freeCtr := s.freeCtr + 1 }
      ep (readReq Obj.LC_NONCE 0) 0 (toBytes 2 32 ++ toBytes 32 (s.freeVal % 2 ^ 256)))) ∧
  (∀ (s : State) (ep : Nat) (vendorOk : Bool), s.Accepts ep (State.writeOf Obj.LC_REQUEST 0 1) → s.lcState = 1 →
    s.reg Obj.LC_TARGET 0 = 2 → s.sec.lcNonce.isSome = true → s.sec.lcAuth.length = 96 → s.reg Obj.LC_PENDING 0 = 0xFF →
    exec (.lcRequestWrite ep 1 vendorOk true) s = .next (s.wrote
      { s.setReg Obj.LC_PENDING 0 2 with sec := { s.sec with lcNonce := none, lcHash := s.reg Obj.LC_OWNER_HASH 0 } }
      ep (State.writeOf Obj.LC_REQUEST 0 1) [])) ∧
  (∀ (s : State) (ep : Nat) (bytes : List Byte),
    s.Accepts ep (writeReq Obj.FW_CHUNK 0 (toBytes 2 bytes.length ++ bytes)) → s.fwLop = none →
    s.reg Obj.FW_CHUNK_OFF 0 + bytes.length ≤ fwArea →
    ∃ u, exec (.fwChunkWrite ep bytes) s = .next (s.wrote u ep (writeReq Obj.FW_CHUNK 0 (toBytes 2 bytes.length ++ bytes)) []) ∧
      (∀ k b, bytes[k]? = some b → u.sec.images.get 255 (s.fwIdleArea, s.reg Obj.FW_CHUNK_OFF 0 + k) = b.toNat) ∧
      (∀ a n, ¬ (a = s.fwIdleArea ∧ s.reg Obj.FW_CHUNK_OFF 0 ≤ n ∧ n < s.reg Obj.FW_CHUNK_OFF 0 + bytes.length) →
        u.sec.images.get 255 (a, n) = s.sec.images.get 255 (a, n)) ∧
      u = { s with sec := { s.sec with images := u.sec.images } }) ∧
  (∀ (s : State) (ep : Nat) (bytes : List Byte),
    s.Accepts ep (writeReq Obj.PROF_CHUNK 0 (toBytes 2 bytes.length ++ bytes)) → s.dict.lops = [] →
    s.reg Obj.PROF_CHUNK_OFF 0 + bytes.length ≤ 2097152 →
    ∃ u, exec (.profChunkWrite ep bytes) s = .next (s.wrote u ep (writeReq Obj.PROF_CHUNK 0 (toBytes 2 bytes.length ++ bytes)) []) ∧
      (∀ k b, bytes[k]? = some b → u.prof.buffer.get 255 (s.reg Obj.PROF_CHUNK_OFF 0 + k, 0) = b.toNat) ∧
      (∀ n, ¬ (s.reg Obj.PROF_CHUNK_OFF 0 ≤ n ∧ n < s.reg Obj.PROF_CHUNK_OFF 0 + bytes.length) →
        u.prof.buffer.get 255 (n, 0) = s.prof.buffer.get 255 (n, 0)) ∧
      u = { s with prof := { s.prof with buffer := u.prof.buffer } }) ∧
  (∀ (s : State) (ep : Nat), s.Accepts ep (State.writeOf Obj.FW_CONFIRM 0 1) → s.reg Obj.FW_CONFIRMED 0 = 0 →
    s.reg Obj.FW_ACTIVE 0 = s.reg Obj.FW_BOOT_PTR 0 → s.sec.fwBack = false →
    exec (.fwConfirmWrite ep 1) s = .next (s.wrote
      { s.setReg Obj.FW_CONFIRMED 0 1 with sec := { s.sec with
        fwAt := 0, fwDogs := 0, fuse := { s.sec.fuse with svn := max s.sec.fuse.svn (s.rst.fwRun / 2 ^ 32) } } }
      ep (State.writeOf Obj.FW_CONFIRM 0 1) [])) ∧
  (∀ (s : State) (ep v : Nat), s.Accepts ep (State.writeOf Obj.DBG_ALLOW 0 v) → v ≤ 2 → s.reg Obj.DBG_LEVEL 0 ≤ v →
    (∀ n, (s.stage n).st ≠ .sealed) →
    exec (.dbgAllowWrite ep v) s = .next (s.wrote (s.setReg Obj.DBG_ALLOW 0 v) ep (State.writeOf Obj.DBG_ALLOW 0 v) []))

/-- R345 to R348: what the debug session commands. A challenge is drawn and kept; a response that passes sets the level and uses up the
challenge; DBG_DROP lowers the level; RIDGE_HALT halts the cores that it names; DM_GO starts one access of the debug master, BUSY
until its end; to an address of no LD it is answered at once with poison. -/
def Obligations.DebugSession : Prop :=
  (∀ s : State, s.Serves 321 → (s.noteDebug 321).precheck 321 (readReq Obj.DBG_CHALLENGE 0) = 0 →
    exec (.dbgChallengeRead 321) s = .next (State.respondReq
      { s with sec := { s.sec with dbgAt := s.clk, dbgNonce := some (s.freeVal % 2 ^ 384) }, freeCtr := s.freeCtr + 1 }
      321 (readReq Obj.DBG_CHALLENGE 0) 0 (toBytes 2 48 ++ toBytes 48 (s.freeVal % 2 ^ 384)))) ∧
  (∀ (s : State) (bytes : List Byte) (ownerOk : Bool), bytes.length = 194 →
    s.AcceptsDebug (writeReq Obj.DBG_RESPONSE 0 (toBytes 2 bytes.length ++ bytes)) → s.lcState = 1 → s.sec.dbgFails < 8 →
    s.sec.dbgNonce.isSome = true → ofBytes (bytes.take 1) = 2 → s.reg Obj.DBG_ALLOW 0 = 2 → s.reg Obj.DBG_LEVEL 0 < 2 →
    ∃ u, exec (.dbgResponseWrite 321 bytes true ownerOk) s =
        .next ((s.noteDebug 321).wrote u 321 (writeReq Obj.DBG_RESPONSE 0 (toBytes 2 bytes.length ++ bytes)) []) ∧
      u.reg Obj.DBG_LEVEL 0 = 2 ∧ u.sec.dbgNonce = none ∧ u.sec.dbgFails = 0 ∧ u.sec.dbgTop = max s.sec.dbgTop 2 ∧
      u.dict.seq = (s.dict.seq + 1) % 65536 ∧ u.link = s.link ∧ u.fab = s.fab) ∧
  (∀ s : State, s.AcceptsDebug (State.writeOf Obj.DBG_DROP 0 0) → s.reg Obj.DBG_LEVEL 0 = 1 → s.reg Obj.RIDGE_HALT 0 = 0 →
    (∀ n, (s.stage n).st ≠ .sealed) →
    ∃ u, exec (.dbgDropWrite 321 0) s = .next ((s.noteDebug 321).wrote u 321 (State.writeOf Obj.DBG_DROP 0 0) []) ∧
      u.reg Obj.DBG_LEVEL 0 = 0 ∧ u.dict.seq = (s.dict.seq + 1) % 65536 ∧ u.link = s.link ∧ u.fab = s.fab) ∧
  (∀ (s : State) (v : Nat), s.AcceptsDebug (State.writeOf Obj.RIDGE_HALT 0 v) → v < 16 → bit v 0 = false →
    (∀ n, (s.stage n).st ≠ .sealed) →
    ∃ u, exec (.ridgeHaltWrite 321 v) s = .next ((s.noteDebug 321).wrote u 321 (State.writeOf Obj.RIDGE_HALT 0 v) []) ∧
      u.reg Obj.RIDGE_HALT 0 = v ∧ (∀ o i, (o, i) ≠ (Obj.RIDGE_HALT, 0) → u.reg o i = s.reg o i) ∧ u.fab = s.fab ∧ u.coh = s.coh) ∧
  (∀ s : State, s.AcceptsDebug (State.writeOf Obj.DM_GO 0 1) → s.sec.dm = none → s.pm.stop = false →
    s.ldAt (s.reg Obj.DM_ADDR 0) = none → s.fab.chains.get none (s.fab.uid, 0) = none →
    ∃ u, exec (.dmGoRead 321) s = .next ((s.noteDebug 321).wrote u 321 (State.writeOf Obj.DM_GO 0 1) []) ∧
      u.sec.dm = some { uid := s.fab.uid, write := false, got := some (true, []), parts := [(s.reg Obj.DM_LEN 0, 0)], at_ := s.clk } ∧
      u.reg Obj.DM_STATUS 0 = 1 ∧ u.link = s.link ∧ u.coh = s.coh) ∧
  (∀ s : State, s.AcceptsDebug (State.writeOf Obj.DM_GO 0 2) → s.sec.dm = none → s.pm.stop = false →
    s.ldAt (s.reg Obj.DM_ADDR 0) = none → s.fab.chains.get none (s.fab.uid, 0) = none →
    ∃ u, exec (.dmGoWrite 321) s = .next ((s.noteDebug 321).wrote u 321 (State.writeOf Obj.DM_GO 0 2) []) ∧
      u.sec.dm = some { uid := s.fab.uid, write := true, got := some (true, []), parts := [(s.reg Obj.DM_LEN 0, 0)], at_ := s.clk } ∧
      u.reg Obj.DM_STATUS 0 = 1 ∧ u.link = s.link ∧ u.coh = s.coh)

/-! ### Operations of the dictionary service -/

/-- R46, R48, R50: READ, BLOCK_READ and READ_INSTANCES answer the values of the objects they name, one after another, and change
nothing where a read of those objects has no effect of its own; an answer past 1 024 bytes is refused with LENGTH; a read that asks
for staged values answers the one its stage holds. -/
def Obligations.DictionaryReads : Prop :=
  (∀ (s : State) (ep : Nat) (r : Req) (c : Instr) (op : Nat),
    (c, op) ∈ [(Instr.read ep r, Op.READ), (Instr.blockRead ep r, Op.BLOCK_READ), (Instr.readInstances ep r, Op.READ_INSTANCES)] →
    s.Accepts ep (withOp r op) → bit r.flags 1 = false → (∀ k ∈ targets (withOp r op), (s.readObj ep k.1 k.2).2 = s) →
    exec c s = .next (if 16 + ((targets (withOp r op)).flatMap (s.valueBytes ep)).length ≤ 1024 then
      s.respondReq ep (withOp r op) 0 ((targets (withOp r op)).flatMap (s.valueBytes ep))
      else s.respondReq ep (withOp r op) Ab.LENGTH [])) ∧
  (∀ r : Req, targets (withOp r Op.READ) = [(reqObj r, r.inst)]) ∧
  (∀ (r : Req) (n : Byte), n.toNat ≠ 0 → r.payload = [n] → r.sub + n.toNat ≤ 256 →
    targets (withOp r Op.BLOCK_READ) = (List.range n.toNat).map (fun i => (reqObj r + i, r.inst))) ∧
  (∀ (r : Req) (a n : Nat), n ≠ 0 → n < 65536 → a < 65536 → r.payload = toBytes 2 a ++ toBytes 2 n →
    targets (withOp r Op.READ_INSTANCES) = (List.range n).map (fun i => (reqObj r, a + i))) ∧
  (∀ (s : State) (ep : Nat) (r : Req) (row : ObjRow) (v : Nat), s.Accepts ep (withOp r Op.READ) → bit r.flags 1 = true → r.stage ≠ 0 →
    dictRow (reqObj r) r.inst = some row → (putVal row.ty (valOf v)).length ≤ 1008 →
    State.staged (s.stage r.stage).entries (reqObj r, r.inst) = some v →
    exec (.read ep r) s = .next (s.respondReq ep (withOp r Op.READ) 0 (putVal row.ty (valOf v))))

/-- R49, R51, R52, R412, R413: WRITE and BLOCK_WRITE of staged objects put their values into the open stage that they name, a second
value of an object in place of the first, and leave the active values alone; an object that another stage holds is refused with BUSY
and nothing is written. -/
def Obligations.DictionaryWrites : Prop :=
  (∀ (s : State) (ep : Nat) (r : Req) (c : Instr) (op : Nat) (vs : List Val),
    (c, op) ∈ [(Instr.write ep r, Op.WRITE), (Instr.blockWrite ep r, Op.BLOCK_WRITE)] →
    s.Accepts ep (withOp r op) → r.stage ≠ 0 → (s.stage r.stage).st = .opened →
    (∀ k ∈ targets (withOp r op), ∃ row, dictRow k.1 k.2 = some row ∧ row.acc = .rws) →
    writeVals (withOp r op) = some vs → (∀ k ∈ targets (withOp r op), (s.heldBy k).getD r.stage = r.stage) →
    (s.stage r.stage).entries.length + vs.length ≤ 1024 →
    exec c s = .next (s.wrote (s.setStage r.stage { s.stage r.stage with
      entries := ((targets (withOp r op)).zip vs).foldl (fun l e => State.putStaged l e.1 e.2.num) (s.stage r.stage).entries,
      touched := s.clk }) ep (withOp r op) [])) ∧
  (∀ (s : State) (ep : Nat) (r : Req) (row : ObjRow), s.Accepts ep (withOp r Op.WRITE) → r.stage ≠ 0 →
    (s.stage r.stage).st = .opened → dictRow (reqObj r) r.inst = some row → row.acc = .rws →
    (s.heldBy (reqObj r, r.inst)).getD r.stage ≠ r.stage →
    exec (.write ep r) s = .next (s.respondReq ep (withOp r Op.WRITE) Ab.BUSY [])) ∧
  (∀ (s : State) (ep : Nat) (r : Req), s.Accepts ep (withOp r Op.WRITE) → r.stage ≠ 0 → (s.stage r.stage).st ≠ .opened →
    exec (.write ep r) s = .next (s.respondReq ep (withOp r Op.WRITE) Ab.BUSY []))

/-- R51, R53, R54, R56, R130, R413: a stage is opened, committed at a time or at once, and discarded. A commit at a time seals its
stage, takes the lowest free handle and an event slot armed for that time; one at once of a read set of a region has its new value in
place, the old one kept for the old epoch, FL_EPOCH one further, and its handle committed. -/
def Obligations.StageCommands : Prop :=
  (∀ (s : State) (ep n : Nat) (r : Req), s.Accepts ep (withOp r Op.STAGE_OPEN) → s.freeStage = some n →
    exec (.stageOpen ep r) s = .next ((s.setStage n { stageDflt with st := .opened, owner := ep, touched := s.clk }).respondReq ep
      (withOp r Op.STAGE_OPEN) 0 (toBytes 1 n))) ∧
  (∀ (s : State) (ep : Nat) (r : Req), s.Accepts ep (withOp r Op.STAGE_OPEN) → s.freeStage = none →
    exec (.stageOpen ep r) s = .next (s.respondReq ep (withOp r Op.STAGE_OPEN) Ab.BUSY [])) ∧
  (∀ (s : State) (ep time h k : Nat) (r : Req), s.Accepts ep (withOp r Op.STAGE_COMMIT) → ofBytes r.payload = time → time ≠ 0 →
    (s.stage r.stage).st = .opened → s.freeLop = some h → s.freeSlot = some k →
    s.slotsNeeded (s.candidate (s.stage r.stage).entries) (s.stage r.stage).entries < s.slotsFree →
    s.validate (s.stage r.stage).entries [] false true = none →
    ∃ u : State, exec (.stageCommit ep r) s = .next (u.respondReq ep (withOp r Op.STAGE_COMMIT) 0 (toBytes 2 h)) ∧
      u.lop h = { lopDflt with kind := 1, st := if s.coreRuns (s.lopCore 1 r.stage) = true then .running else .queued,
                               owner := (s.stage r.stage).owner, start := s.now, arg := r.stage, since := s.clk, slot := k } ∧
      (u.stage r.stage).st = .sealed ∧ (u.stage r.stage).lop = h ∧ (u.stage r.stage).entries = (s.stage r.stage).entries ∧
      (u.slot k).kind = 1 ∧ (u.slot k).state = 1 ∧ (u.slot k).time = time ∧ (u.slot k).arg = r.stage ∧
      u.regs = s.regs ∧ u.link = s.link ∧ u.fab = s.fab ∧ u.coh = s.coh) ∧
  (∀ (s : State) (ep h i v : Nat) (r : Req), s.Accepts ep (withOp r Op.STAGE_COMMIT) → ofBytes r.payload = 0 →
    (s.stage r.stage).st = .opened → (s.stage r.stage).entries = [((Obj.RGN_READ, i), v)] → s.freeLop = some h →
    s.coreRuns 0 = true →
    s.validate (s.stage r.stage).entries [] false true = none →
    ∃ u : State, exec (.stageCommit ep r) s = .next (u.respondReq ep (withOp r Op.STAGE_COMMIT) 0 (toBytes 2 h)) ∧
      u.reg Obj.RGN_READ i = v ∧ u.fab.flOld.get none (Obj.RGN_READ, i) = some (s.reg Obj.RGN_READ i) ∧
      u.reg Obj.FL_EPOCH 0 = (s.reg Obj.FL_EPOCH 0 + 1) % 2 ^ 32 ∧ (u.lop h).st = .committed ∧ (u.lop h).subjects = [2] ∧
      (u.stage r.stage).st = .committing ∧ u.link = s.link ∧ u.coh = s.coh) ∧
  (∀ (s : State) (ep : Nat) (r : Req), s.Accepts ep (withOp r Op.STAGE_DISCARD) → (s.stage r.stage).st = .opened →
    exec (.stageDiscard ep r) s = .next ((s.setStage r.stage stageDflt).respondReq ep (withOp r Op.STAGE_DISCARD) 0 [])) ∧
  (∀ (s : State) (n : Nat), 1 ≤ n → n ≤ 16 → (s.stage n).st = .opened → s.after (s.stage n).touched 600000000000 = true →
    exec (.stageIdleDiscard n) s =
      .next ((s.raise 0x1001 0x10 2 n (n + 256 * (s.stage n).owner)).setStage n stageDflt))

/-- R55, R58, R59: LOP_ABORT of a running commit whose time has not come ends its handle as ABORTED and frees its stage; past the commit point it is too late,
and of another's handle it is refused; a drained commit's handle is DONE; an ended handle is free after 60 s. -/
def Obligations.HandleCommands : Prop :=
  (∀ (s : State) (ep h : Nat) (r : Req), s.Accepts ep (withOp r Op.LOP_ABORT) → ofBytes r.payload = h → h < 64 →
    (s.lop h).owner = ep → (s.lop h).kind = 1 → (s.lop h).fm = false → (s.lop h).st = .running → 1 ≤ (s.lop h).arg →
    (s.lop h).arg ≤ 16 → (s.stage (s.lop h).arg).lop = h → s.commitDue h = false →
    ∃ u : State, exec (.lopAbort ep r) s = .next (u.respondReq ep (withOp r Op.LOP_ABORT) 0 []) ∧
      (u.lop h).st = .aborted ∧ (u.lop h).result = Ab.ABORTED ∧ u.stage (s.lop h).arg = stageDflt ∧
      (∀ k, k ≠ h → u.lop k = s.lop k) ∧ u.link = s.link ∧ u.fab = s.fab ∧ u.coh = s.coh) ∧
  (∀ (s : State) (ep h : Nat) (r : Req), s.Accepts ep (withOp r Op.LOP_ABORT) → ofBytes r.payload = h → h < 64 →
    (s.lop h).owner = ep → ((s.lop h).st = .committed ∨ ((s.lop h).st = .running ∧ s.commitDue h = true)) →
    exec (.lopAbort ep r) s = .next (s.respondReq ep (withOp r Op.LOP_ABORT) Ab.TOO_LATE [])) ∧
  (∀ (s : State) (ep h : Nat) (r : Req), s.Accepts ep (withOp r Op.LOP_ABORT) → ofBytes r.payload = h → h < 64 → ep ≠ 0 → ep < 257 →
    (s.lop h).owner ≠ ep → (s.lop h).owner ≠ 0xFFFF → (s.lop h).st ≠ .free →
    exec (.lopAbort ep r) s = .next (s.respondReq ep (withOp r Op.LOP_ABORT) Ab.ACCESS_DENIED [])) ∧
  (∀ (s : State) (h : Nat), h < 64 → (s.lop h).kind = 1 → (s.lop h).st = .committed → (s.lop h).subjects.all s.drained = true →
    s.fab.walks.any (fun (k : Walk) => k.lop == h) = false → s.fab.bindings = [] →
    ∃ u : State, exec (.epochDrainEnd h) s = .next u ∧ (u.lop h).st = .done ∧ (u.lop h).result = 0 ∧ (u.lop h).progress = 1000 ∧
      (2 ∈ (s.lop h).subjects → u.fab.flOld = []) ∧ (∀ k, k ≠ h → u.lop k = s.lop k) ∧ u.link = s.link ∧ u.coh = s.coh) ∧
  (∀ (s : State) (h : Nat), h < 64 → ((s.lop h).st = .done ∨ (s.lop h).st = .aborted ∨ (s.lop h).st = .failed) →
    s.after (s.lop h).ended 60000000000 = true → exec (.lopExpire h) s = .next (s.setLop h lopDflt))

/-- R46, R49, R60 to R62: a filter is set and taken away; EVT_FETCH answers the oldest records, at most as many as it asks for, and
takes them off the queue; EVENT_SEND sends up to 31 to an in-band endpoint; an unknown opcode is answered with OPCODE_UNKNOWN. -/
def Obligations.EventCommands : Prop :=
  (∀ (s : State) (ep : Nat) (r : Req), s.Accepts ep (withOp r Op.SUBSCRIBE) →
    ∃ u : State, exec (.subscribe ep r) s = .next (u.respondReq ep (withOp r Op.SUBSCRIBE) 0 []) ∧
      u.dict.filters.get none (ep, ofBytes (r.payload.take 1)) =
        some { first := ofBytes ((r.payload.drop 1).take 2), last := ofBytes ((r.payload.drop 3).take 2),
               minSev := ofBytes ((r.payload.drop 5).take 1) } ∧
      (∀ k, k ≠ (ep, ofBytes (r.payload.take 1)) → u.dict.filters.get none k = s.dict.filters.get none k) ∧
      u = { s with dict := { s.dict with filters := u.dict.filters } }) ∧
  (∀ (s : State) (ep : Nat) (r : Req), s.Accepts ep (withOp r Op.UNSUBSCRIBE) →
    ∃ u : State, exec (.unsubscribe ep r) s = .next (u.respondReq ep (withOp r Op.UNSUBSCRIBE) 0 []) ∧
      u.dict.filters.get none (ep, ofBytes r.payload) = none ∧
      (∀ k, k ≠ (ep, ofBytes r.payload) → u.dict.filters.get none k = s.dict.filters.get none k) ∧
      u = { s with dict := { s.dict with filters := u.dict.filters } }) ∧
  (∀ (s : State) (ep : Nat) (r : Req) (e : EvtRec) (rest : List EvtRec), s.Accepts ep (withOp r Op.EVT_FETCH) →
    ofBytes r.payload ≠ 0 → s.dict.queues.get [] (ep, 0) = e :: rest →
    ∃ u : State, exec (.evtFetch ep r) s = .next (u.respondReq ep (withOp r Op.EVT_FETCH) 0
        (evtBytes { e with dropped := s.dict.dropMark.get false (ep, 0) } ++
          (rest.take (min (ofBytes r.payload) 31 - 1)).flatMap evtBytes)) ∧
      u.dict.queues.get [] (ep, 0) = rest.drop (min (ofBytes r.payload) 31 - 1) ∧ u.dict.dropMark.get false (ep, 0) = false ∧
      (∀ k, k ≠ (ep, 0) → u.dict.queues.get [] k = s.dict.queues.get [] k) ∧ u.regs = s.regs ∧ u.link = s.link ∧ u.fab = s.fab) ∧
  (∀ (s : State) (ep : Nat) (e : EvtRec) (rest : List EvtRec), 1 ≤ ep → ep ≤ 256 → s.endpointUp ep = true → s.ridgeClock = true →
    s.dict.queues.get [] (ep, 0) = e :: rest →
    ∃ u : State, exec (.eventSend ep) s = .next (u.sendMessage ep 8 (eventBytes
        ({ e with dropped := s.dict.dropMark.get false (ep, 0) } :: rest.take 30))) ∧
      u.dict.queues.get [] (ep, 0) = rest.drop 30 ∧ u.dict.dropMark.get false (ep, 0) = false ∧
      (∀ k, k ≠ (ep, 0) → u.dict.queues.get [] k = s.dict.queues.get [] k) ∧ u.regs = s.regs ∧ u.link = s.link ∧ u.fab = s.fab) ∧
  (∀ (s : State) (ep : Nat) (r : Req), s.Serves ep → ep ≠ 321 → headerOk r = true → Op.known r.op = false →
    exec (.opcodeUnknownRequest ep r) s = .next (s.respondReq ep r Ab.OPCODE_UNKNOWN []))

/-- R44, R45, R343: a request of one MCTP packet reaches its endpoint, a fragment waits for the rest of its message and is dropped
after 100 ms, I3C assigns the BMC's address, and the mailboxes of a tenant and of the debug port carry whole requests.
From step 3 of a mode entry on, a request waits in its transport (R295). -/
def Obligations.Transports : Prop :=
  (∀ (s : State) (ep : Nat) (pkt : MctpPacket) (r : List Byte), ep ≤ 256 → s.endpointUp ep = true → s.firmwareUp = true →
    s.mode.sleeps = false → (s.inboxOf ep).length + (s.lateOf ep).length < 16 → s.coresWait = false → pkt.som = true → pkt.eom = true →
    pkt.bytes.length ≤ s.mctpUnit ep → pkt.bytes = [(0x7F : Byte)] ++ (toBytes 4 (Config.ianaEnt % 2 ^ 32)).reverse ++ r →
    exec (.mctpPacketRx ep pkt) s = .next ({ s with dict := { s.dict with
      peers := s.dict.peers.set 0 (ep, 0) pkt.src, reasm := s.dict.reasm.set none (ep, pkt.tag) none } }.setInbox ep
        (s.inboxOf ep ++ [(s.clk, { parseReq r with mtag := pkt.tag })]))) ∧
  (∀ (s : State) (ep : Nat) (pkt : MctpPacket) (r : List Byte), ep ≤ 256 → s.endpointUp ep = true → s.firmwareUp = true →
    pkt.som = true → pkt.eom = false → pkt.bytes.length ≤ s.mctpUnit ep →
    pkt.bytes = [(0x7F : Byte)] ++ (toBytes 4 (Config.ianaEnt % 2 ^ 32)).reverse ++ r →
    exec (.mctpPacketRx ep pkt) s = .next { s with dict := { s.dict with
      peers := s.dict.peers.set 0 (ep, 0) pkt.src
      reasm := s.dict.reasm.set none (ep, pkt.tag) (some { bytes := r, tooLong := false, started := s.clk }) } }) ∧
  (∀ (s : State) (ep tag : Nat) (x : Reasm), ep < 322 → s.dict.reasm.get none (ep, tag) = some x →
    s.after x.started 100000000 = true →
    exec (.msgReassemblyTimeout ep tag) s = .next { s with dict := { s.dict with reasm := s.dict.reasm.set none (ep, tag) none } }) ∧
  (∀ (s : State) (a : Nat), s.rst.step ≠ .inReset →
    exec (.i3cEntdaa a) s = .next { s with dict := { s.dict with i3cAddr := a % 128 } }) ∧
  (∀ (s : State) (p n : Nat) (bytes : List Byte), p < 256 → s.hostPart p = some n → s.flag Obj.TEN_MAILBOX_EN p = true →
    s.dlUp p = true → s.firmwareUp = true → s.endpointUp (257 + n) = true → s.mode.sleeps = false →
    (s.inboxOf (257 + n)).length + (s.lateOf (257 + n)).length < 16 → s.coresWait = false →
    exec (.tenantMailboxCommand p 0xC001 bytes) s =
      .next (s.setInbox (257 + n) (s.inboxOf (257 + n) ++ [(s.clk, parseReq bytes)]))) ∧
  (∀ (s : State) (bytes : List Byte), s.sec.tapIr = 3 → s.firmwareUp = true → s.mode.sleeps = false →
    (s.inboxOf 321).length + (s.lateOf 321).length < 16 → s.coresWait = false →
    exec (.dbgMailbox bytes) s = .next (s.setInbox 321 (s.inboxOf 321 ++ [(s.clk, parseReq bytes)]))) ∧
  (∀ (s : State) (bytes : List Byte), s.sec.tapIr = 3 → s.firmwareUp = true → s.mode.sleeps = false →
    (s.inboxOf 321).length + (s.lateOf 321).length < 16 → s.coresWait = true →
    exec (.dbgMailbox bytes) s = .next (s.setLate 321 (s.lateOf 321 ++ [(s.clk, parseReq bytes)])))

/-! ### Bindings, CXL FM API, scheduled events -/

/-- R13, R121, R135, R136: a pending binding takes effect with an epoch of BIND once its LD is there and Ridge core 2 runs; the walk of a retiring window ends; a
host's bus numbers and memory window are kept, and what it writes to an HDM decoder is ignored. -/
def Obligations.BindingCommands : Prop :=
  (∀ (s : State) (v : Nat) (b : Binding), v < 4096 → s.reg Obj.VPPB_STATE v = 1 → s.ldPresent (s.reg Obj.VPPB_LD v) = true →
    s.draining 1 = false → s.coreRuns 2 = true → s.fab.bindings.find? (fun (b : Binding) => b.vppb == v && !b.unbind) = some b →
    b.lop = 0xFFFF →
    exec (.pendingBindEffect v) s = .next
      ({ (((s.setReg Obj.VPPB_STATE v 2).setReg Obj.BIND_EPOCH 0 ((s.reg Obj.BIND_EPOCH 0 + 1) % 2 ^ 32)).emit (.hotplug v true)) with
         fab := { s.fab with bindings := s.fab.bindings.filter (fun (x : Binding) => x.vppb != v) } }.raise 0x3101 0x31 1 v
        (v + 65536 * b.ld + 2 ^ 32 * 0xFFFF))) ∧
  (∀ (s : State) (v : Nat) (b : Binding), v < 4096 → s.reg Obj.VPPB_STATE v = 1 → s.ldPresent (s.reg Obj.VPPB_LD v) = true →
    s.draining 1 = false → s.coreRuns 2 = true → s.fab.bindings.find? (fun (b : Binding) => b.vppb == v && !b.unbind) = some b →
    b.lop ≠ 0xFFFF →
    exec (.pendingBindEffect v) s = .next
      (((s.setReg Obj.VPPB_STATE v 2).setReg Obj.BIND_EPOCH 0 ((s.reg Obj.BIND_EPOCH 0 + 1) % 2 ^ 32)).emit (.hotplug v true))) ∧
  (∀ (s : State) (w : Nat) (k : Walk), w < 4096 → s.fab.walks.find? (fun (k : Walk) => k.win == w) = some k →
    k.left.all (· == 0) = true → k.todo = [] → k.snoops = 0 → s.reg Obj.WIN_STATE w = 2 →
    ∃ u : State, exec (.unbindWalkEnd w) s = .next u ∧ u.reg Obj.WIN_STATE w = 0 ∧
      u.fab.walks = s.fab.walks.filter (fun (x : Walk) => x.win != w) ∧
      (∀ b ∈ s.fab.bindings, b.lop = k.lop → b.unbind = true → b.vppb / 64 = k.part → { b with walked := true } ∈ u.fab.bindings) ∧
      (∀ o i, (o, i) ≠ (Obj.WIN_STATE, w) → u.reg o i = s.reg o i) ∧ u.link = s.link ∧ u.coh = s.coh ∧ u.dict = s.dict) ∧
  (∀ (s : State) (p n k value : Nat), p < 256 → s.hostPart p = some n → k < 64 →
    exec (.hostConfigWrite p k .busNumbers value) s =
      .next { s with fab := { s.fab with vppbBus := s.fab.vppbBus.set 0 (64 * n + k, 0) value } } ∧
    exec (.hostConfigWrite p k .memoryWindow value) s =
      .next { s with fab := { s.fab with vppbBus := s.fab.vppbBus.set 0 (64 * n + k, 1) value } } ∧
    exec (.hostConfigWrite p k .hdmDecoder value) s = .next s)

/-- R139: the CXL FM API commands that only read answer the dictionary's values and change nothing else; those for a device go with their
payload to a multi-logical device that is there and its response is returned; any other command is Unsupported. Which bytes a response holds
in which order, and the codes 0 and 3, are the model's (log entry 59). -/
def Obligations.FmApiQueries : Prop :=
  (∀ (s : State) (ep : Nat), s.ServesFm ep → s.precheck ep (State.fmRead Obj.VENDOR 0 7) = 0 →
    exec (.identifySwitchDevice ep) s = .next (s.emit (.fmApi ep 0 (s.runBytes ep Obj.VENDOR 0 7 ++
      (toBytes 2 ((List.range 256).filter s.formed).length ++ (List.range 64).flatMap (fun n => toBytes 1 (s.reg Obj.PART_ENABLE n))))))) ∧
  (∀ (s : State) (ep : Nat) (ports : List Nat), s.ServesFm ep →
    (∀ p ∈ ports, s.precheck ep (State.fmRead Obj.PORT_STATE p 6) = 0) →
    exec (.getPhysicalPortState ep ports) s =
      .next (s.emit (.fmApi ep 0 (ports.flatMap (fun p => s.runBytes ep Obj.PORT_STATE p 6))))) ∧
  (∀ (s : State) (ep : Nat) (parts : List Nat), s.ServesFm ep →
    (∀ n ∈ parts, s.precheck ep (State.fmRead Obj.PART_ENABLE n 4) = 0 ∧
      ∀ k < 64, s.precheck ep (State.fmRead Obj.VPPB_LD (64 * n + k) 2) = 0) →
    exec (.getVirtualCxlSwitchInfo ep parts) s = .next (s.emit (.fmApi ep 0 (parts.flatMap (fun n =>
      s.runBytes ep Obj.PART_ENABLE n 4 ++ (List.range 64).flatMap (fun k => s.runBytes ep Obj.VPPB_LD (64 * n + k) 2)))))) ∧
  (∀ (s : State) (ep port code : Nat) (payload response : List Byte) (c : Instr),
    (c, code) ∈ [(Instr.getLdInfo ep port payload response, 0x5400), (.getLdAllocations ep port payload response, 0x5401),
         (.tunnelManagementCommand ep port payload response, 0x5300)] →
    s.ServesFm ep → s.mldOn port = true →
    exec c s = .next ((s.emit (.fmDevice port code payload)).emit (.fmApi ep 0 response))) ∧
  (∀ (s : State) (ep opcode : Nat), s.ServesFm ep → exec (.fmApiUnsupported ep opcode) s = .next (s.emit (.fmApi ep 3 [])))

/-- R125, R135, R136, R139: the CXL FM API commands that change something stage one value and commit it at once: PORT_ENABLE of a
port, VPPB_LD of a vPPB. A bind of a present LD is answered that it has started; its handle is committed and reports to the endpoint.
Set LD Allocations takes what the device reports then. -/
def Obligations.FmApiControls : Prop :=
  (∀ (s : State) (ep p n h : Nat), s.ServesFm ep → s.CommitsNow ep n h Obj.PORT_ENABLE p 1 → s.reg Obj.PORT_ENABLE p = 0 →
    (s.port p).st = .disabled →
    ∃ u : State, exec (.physicalPortControl ep p .deassertPerst) s = .next u ∧ u.reg Obj.PORT_ENABLE p = 1 ∧ (u.lop h).st = .done ∧
      (u.lop h).kind = 1 ∧ (u.lop h).owner = ep ∧ u.out.take 2 = [.fmApi ep 0 [], .fmApi ep 1 []]) ∧
  (∀ (s : State) (ep part k port ldid ld n h : Nat), s.ServesFm ep → s.ldOf port ldid = some ld → ld < 320 → part < 64 → k < 64 →
    s.reg Obj.VPPB_LD (64 * part + k) = 0xFFFF → s.reg Obj.VPPB_LEASE_END (64 * part + k) = 0 → s.ldPresent ld = true →
    s.CommitsNow ep n h Obj.VPPB_LD (64 * part + k) ld →
    ∃ u : State, exec (.bindVppb ep part k port ldid) s = .next u ∧ u.reg Obj.VPPB_LD (64 * part + k) = ld ∧
      u.reg Obj.VPPB_STATE (64 * part + k) = 2 ∧ u.reg Obj.BIND_EPOCH 0 = (s.reg Obj.BIND_EPOCH 0 + 1) % 2 ^ 32 ∧
      (u.lop h).st = .committed ∧ (u.lop h).owner = ep ∧ (u.lop h).fm = true ∧ u.out.take 1 = [.fmApi ep 1 []] ∧
      u.link = s.link) ∧
  (∀ (s : State) (ep part k n h : Nat), s.ServesFm ep → part < 64 → k < 64 → s.reg Obj.VPPB_LD (64 * part + k) ≠ 0xFFFF →
    s.CommitsNow ep n h Obj.VPPB_LD (64 * part + k) 0xFFFF → s.windows = [] →
    ∃ u : State, exec (.unbindVppb ep part k) s = .next u ∧ u.reg Obj.VPPB_LD (64 * part + k) = 0xFFFF ∧
      u.reg Obj.VPPB_STATE (64 * part + k) = 3 ∧ u.reg Obj.BIND_EPOCH 0 = (s.reg Obj.BIND_EPOCH 0 + 1) % 2 ^ 32 ∧
      (u.lop h).st = .committed ∧ (u.lop h).owner = ep ∧ (u.lop h).fm = true ∧ u.out.take 1 = [.fmApi ep 1 []] ∧
      u.link = s.link) ∧
  (∀ (s : State) (ep port : Nat) (payload response : List Byte) (allocs : List (Nat × Nat)) (e : EnumResult), s.ServesFm ep →
    s.mldOn port = true → s.fab.enumd.get none (port, 0) = some e →
    ∃ u : State, exec (.setLdAllocations ep port payload response allocs) s = .next (u.emit (.fmApi ep 0 response)) ∧
      u.fab.enumd.get none (port, 0) = some { e with lds := allocs } ∧
      (∀ o i, o ≠ Obj.LD_SIZE → u.reg o i = s.reg o i) ∧ (∀ ld, s.reg Obj.LD_PORT ld ≠ port → u.reg Obj.LD_SIZE ld = s.reg Obj.LD_SIZE ld) ∧
      u.link = s.link ∧ u.coh = s.coh ∧ u.dict = s.dict) ∧
  (∀ (s : State) (ep part k : Nat), s.ServesFm ep → part < 64 → k < 64 → s.freeStage = none →
    exec (.unbindVppb ep part k) s = .next (s.emit (.fmApi ep (Config.fmApiCode Ab.BUSY) [])))

/-- R37, R39, R171, R355, R410: of the hardware events that are due the first by FCLK cycle, then by kind and then by slot fires, a gate-list swap putting
its pending list in force and freeing its slot; a due margin window starts on a handle of no endpoint, and a periodic slot is armed
for its next time. -/
def Obligations.ScheduledEvents : Prop :=
  (∀ (s : State) (k : Nat) (x : Slot), s.ridgeClock = true → (k, x) ∈ s.dueSlots → s.slot k = x → k < 512 → x.kind = 4 →
    (∀ e ∈ s.dueSlots, e.2.kind < 5 → s.mayFire e.2 = true → e = (k, x) ∨ s.dueBefore (k, x) e = true) →
    (s.egr x.arg).pendOn = true →
    ∃ u : State, exec .schedFire s = .next u ∧ u.slot k = slotDflt ∧ (u.egr x.arg).oper = (s.egr x.arg).pendList ∧
      (u.egr x.arg).gclOn = true ∧ (u.egr x.arg).pendOn = false ∧ u.reg Obj.GCL_OPER_BASE x.arg = s.reg Obj.GCL_SWAP_TIME x.arg ∧
      u.reg Obj.GCL_OPER_CYCLE x.arg = gclCycle (s.egr x.arg).pendList ∧ u.reg Obj.GCL_STATE x.arg = 1 ∧
      u.reg Obj.GCL_SWAP_TIME x.arg = 0 ∧ (∀ j, j ≠ k → u.slot j = s.slot j) ∧ u.link = s.link ∧ u.coh = s.coh) ∧
  (∀ (s : State) (k h : Nat) (x : Slot), s.ridgeClock = true → (k, x) ∈ s.dueSlots → s.slot k = x → k < 512 → x.kind = 5 →
    (∀ e ∈ s.dueSlots, 5 ≤ e.2.kind → s.mayFire e.2 = true → e = (k, x) ∨ s.dueBefore (k, x) e = true) →
    s.coreRuns 3 = true → s.windowOpen = false → s.freeLop = some h →
    ∃ u : State, exec .firmwareEventStart s = .next u ∧
      u.lop h = { lopDflt with kind := 5, st := .running, owner := 0xFFFF, start := s.now, since := s.clk } ∧
      u.reg Obj.TALUS_STATE 0 = 1 ∧ u.talus.lop = h ∧
      (x.period = 0 → u.slot k = { x with state := 3 }) ∧
      (x.period ≠ 0 → s.now < (u.slot k).time ∧ (u.slot k).state = 1) ∧
      (∀ j, j ≠ k → u.slot j = s.slot j) ∧ u.link = s.link ∧ u.fab = s.fab ∧ u.coh = s.coh)

/-- R301: at traffic-ready after HOLD the part is again in the mode of entry, the ports in L1 return to L0, and the mode it left and the
length of the wake stand in PM_PREV_MODE and PM_WAKE_US. -/
def Obligations.TrafficReady : Prop :=
  ∀ s : State, s.pm.waking = true → s.pm.ramp = [] → s.pm.pll = true → s.pm.hbm = true → s.mode = .hold → s.time.slots = [] →
    (∀ c < 16, s.movePhase c ≠ 3) → (∀ a, s.sec.dm = some a → a.held = none) →
    ∃ u : State, exec .wakeTrafficReady s = .next u ∧ u.mode = s.pm.prev ∧ u.pm.waking = false ∧ u.pm.stop = false ∧
      u.reg Obj.PM_PREV_MODE 0 = Mode.hold.num ∧ u.reg Obj.PM_WAKE_US 0 = min (s.usSince s.pm.wakeAt) 0xFFFF_FFFF ∧
      (∀ p < 256, (s.port p).st = .l1 → s.drudar p = false → (u.port p).st = .l0) ∧
      (∀ p < 256, (s.port p).st ≠ .l1 → (u.port p).st = (s.port p).st)

/-! ### CXL-mode links and lanes -/

/-- R69, R70, R73 to R75: the ladder's steps. A port leaves its wait in Detect, then Detect for Polling at 2.5 GT/s; a rung that trains
sets PORT_SPEED and PORT_SKEW and leads on to the next rung or to the link layer; a first failed equalization is retried and a second
settles the port below; 200 ms without DL_Up fail the training, the back-off ends it, and a port whose tries are spent stays; an L1
request of the partner is refused. Only where Ridge core 1 may take the step (R13). -/
def Obligations.LadderSteps : Prop :=
  (∀ (s : State) (p : Nat), p < 256 → (s.port p).st = .detect → (s.port p).phase = .idle → s.trainable p = true →
    s.ladderRuns = true → s.perstFree p = true → s.link.halted = false →
    exec (.ladderStart p) s = .next (s.setPort p { s.port p with phase := .detecting, ladderWaits := false })) ∧
  (∀ (s : State) (p : Nat), p < 256 → (s.port p).st = .detect → (s.port p).phase = .detecting → s.drudar p = false →
    s.stepping p = true →
    ∃ u : State, exec (.receiverDetect p) s = .next u ∧ u.reg Obj.PORT_SPEED p = 1 ∧ s.SameRegs u [Obj.PORT_SPEED] ∧ u.fab = s.fab ∧
      u.port p = { s.port p with st := .training, phase := .polling, rate := 1, leftDetect := s.clk, eqTries := 0 } ∧
      ∀ q, q ≠ p → u.port q = s.port q) ∧
  (∀ (s : State) (p r skew : Nat), p < 256 → (s.port p).st = .training → (s.port p).phase = .eq → s.drudar p = false →
    s.stepping p = true → s.climbing p = r → skew ≤ 200 →
    ∃ u : State, exec (.rungEqDone p ⟨true, skew⟩) s = .next u ∧ u.reg Obj.PORT_SPEED p = r ∧ u.reg Obj.PORT_SKEW p = skew ∧ (u.port p).rate = r ∧
      (u.port p).st = .training ∧ (u.port p).phase = (if r < s.targetRate p then .eq else .linkInit) ∧
      (∀ n ∈ s.trained p, (u.lane n).codes = laneDflt.codes) ∧ (∀ q, q ≠ p → u.port q = s.port q) ∧
      s.SameRegs u [Obj.PORT_SPEED, Obj.PORT_SKEW, Obj.PORT_CELL_RATE, Obj.CBS_SLOPE_OPER]) ∧
  (∀ (s : State) (p skew : Nat) (ok : Bool), p < 256 → (s.port p).st = .training → (s.port p).phase = .eq → s.drudar p = false →
    s.stepping p = true → (s.port p).eqTries = 0 → s.climbing p ≠ 2 → (ok = false ∨ 200 < skew) →
    exec (.rungEqDone p ⟨ok, skew⟩) s = .next ((s.setReg Obj.PORT_SKEW p skew).setPort p { s.port p with eqTries := 1 })) ∧
  (∀ (s : State) (p skew : Nat) (ok : Bool), p < 256 → (s.port p).st = .training → (s.port p).phase = .eq → s.drudar p = false →
    s.stepping p = true → ((s.port p).eqTries ≠ 0 ∨ s.climbing p = 2) → (ok = false ∨ 200 < skew) →
    exec (.rungEqDone p ⟨ok, skew⟩) s = .next ((((s.setReg Obj.PORT_SKEW p skew).setPort p { s.port p with noRate := s.climbing p, eqTries := 0, phase := .linkInit }).setReg
      Obj.PORT_FALLBACK p (s.climbing p)).raise 0x2004 0x20 2 p (s.climbing p % 256 + 256 * (s.port p).rate))) ∧
  (∀ (s : State) (p : Nat), p < 256 → (s.port p).st = .training → (s.port p).dlUp = false → s.stepping p = true →
    s.after (s.port p).leftDetect 200000000 = true →
    ∃ u : State, exec (.trainTimeout p) s = .next u ∧ (u.port p).st = .trainFail ∧ (u.port p).fails = (s.port p).fails + 1 ∧
      (u.port p).failedAt = s.clk ∧ ((u.port p).spent = true ↔ s.reg Obj.PORT_TRAIN_TRIES p ≤ (s.port p).fails + 1) ∧
      u.reg Obj.PORT_SPEED p = 0 ∧ u.reg Obj.PORT_WIDTH p = 0 ∧ u.reg Obj.PORT_ACTIVE_WIDTH p = 0 ∧
      (∀ n ∈ s.portLanes p, u.reg Obj.LANE_STATE n = if s.reg Obj.LANE_STATE n = 4 ∨ (s.lane n).restoring = true then 4 else 0) ∧
      u.dict.seq = (s.dict.seq + 1) % 65536 ∧ (∀ q, q ≠ p → u.port q = s.port q)) ∧
  (∀ (s : State) (p : Nat), p < 256 → (s.port p).st = .trainFail → (s.port p).spent = true → exec (.trainBackoffEnd p) s = .next s) ∧
  (∀ (s : State) (p : Nat), p < 256 → (s.port p).st = .trainFail → (s.port p).spent = false →
    s.after (s.port p).failedAt (min (100000000 * 2 ^ ((s.port p).fails - 1)) 10000000000) = true → s.stepping p = true →
    exec (.trainBackoffEnd p) s = .next (s.setPort p { s.port p with st := .detect, phase := .idle })) ∧
  (∀ (s : State) (p : Nat), p < 256 → s.drudar p = false → (s.port p).st = .l0 → (s.port p).l1Req = false →
    exec (.aspmL1Request p) s = .next (s.emit (.l1Refused p)))

/-- R1, R67, R70 to R73, R75, R76, R80, R125: the end of Configuration sets the widths, the order and the skew, and agrees CXL.cache only
where the virtual hierarchy has no other such device, or fails the training where no
width forms, no flit size is common or the skew passes 20 ns; after the link layer a downstream-facing port enumerates and any other is
DL_Up; what enumeration found is taken in and the port is DL_Up. LINK_UP carries speed, width and protocols. -/
def Obligations.LinkBringUp : Prop :=
  (∀ (s : State) (p : Nat) (c : CfgResult) (w : Nat × Bool), p < 256 → (s.port p).st = .training → (s.port p).phase = .polling →
    s.drudar p = false → s.stepping p = true →
    s.widest p (fun n => s.laneOk n && bit c.lanes (n - s.firstLane p)) c.reversed = w → w.1 ≠ 0 → c.skew ≤ 200 → s.reg Obj.PORT_FLIT p = 0 →
    c.flit256 = true → c.flitMode = true →
    ∃ u : State, exec (.configurationEnd p c) s = .next u ∧ u.reg Obj.PORT_WIDTH p = w.1 ∧ u.reg Obj.PORT_ACTIVE_WIDTH p = w.1 ∧
      u.reg Obj.PORT_REVERSED p = (if w.2 then 1 else 0) ∧ u.reg Obj.PORT_SKEW p = c.skew ∧ u.reg Obj.PORT_FLIT_ACTIVE p = 1 ∧
      u.reg Obj.PORT_SPEED p = 1 ∧ (u.port p).rate = 1 ∧ (u.port p).st = .training ∧ (u.port p).partnerMax = c.maxRate ∧
      (u.port p).respond = c.lanes ∧ bit (u.reg Obj.PORT_PROTOCOLS p) 2 = (c.cache && s.cacheAllowed p) ∧
      (∀ q, q ≠ p → u.port q = s.port q)) ∧
  (∀ (s : State) (p : Nat) (c : CfgResult), p < 256 → (s.port p).st = .training → (s.port p).phase = .polling →
    s.drudar p = false → s.stepping p = true → 200 < c.skew →
    ∃ u : State, exec (.configurationEnd p c) s = .next u ∧ (u.port p).st = .trainFail ∧ (u.port p).fails = (s.port p).fails + 1 ∧
      u.reg Obj.PORT_WIDTH p = 0 ∧ (∀ q, q ≠ p → u.port q = s.port q)) ∧
  (∀ (s : State) (p : Nat), p < 256 → (s.port p).st = .training → (s.port p).phase = .linkInit → s.drudar p = false →
    s.stepping p = true → s.reg Obj.PORT_ROLE p = 1 →
    exec (.linkLayerInit p) s = .next (s.setPort p { s.port p with st := .l0, phase := .enumerating })) ∧
  (∀ (s : State) (p : Nat), p < 256 → (s.port p).st = .training → (s.port p).phase = .linkInit → s.drudar p = false →
    s.stepping p = true → s.reg Obj.PORT_ROLE p ≠ 1 →
    ∃ v : State, exec (.linkLayerInit p) s = .next (v.raise 0x2001 0x20 1 p (s.reg Obj.PORT_SPEED p % 256 + 256 * s.reg Obj.PORT_WIDTH p +
        65536 * (s.reg Obj.PORT_PROTOCOLS p % 256))) ∧
      v.port p = { s.port p with st := .l0, phase := .idle, dlUp := true, fails := 0 } ∧ (∀ q, q ≠ p → v.port q = s.port q) ∧
      (v.egr p).credit = egressDflt.credit ∧ (v.egr p).vtime = 0 ∧ s.SameRegs v [Obj.PORT_CELL_RATE, Obj.CBS_SLOPE_OPER]) ∧
  (∀ (s : State) (p : Nat) (e : EnumResult), p < 256 → (s.port p).st = .l0 → (s.port p).phase = .enumerating → s.drudar p = false →
    s.stepping p = true →
    ∃ v : State, exec (.enumerationDone p e) s = .next (v.raise 0x2001 0x20 1 p (s.reg Obj.PORT_SPEED p % 256 +
        256 * s.reg Obj.PORT_WIDTH p + 65536 * (s.reg Obj.PORT_PROTOCOLS p % 256))) ∧
      v.port p = { s.port p with st := .l0, phase := .idle, dlUp := true, fails := 0 } ∧ v.fab.enumd.get none (p, 0) = some e ∧
      (∀ q, q ≠ p → v.port q = s.port q) ∧ s.SameRegs v [Obj.PORT_CELL_RATE, Obj.CBS_SLOPE_OPER, Obj.LD_SIZE])

/-- R77 to R82: an active lane that loses lock becomes SUSPECT and its port enters Recovery, the second loss within the window makes it
FAILED; Recovery with every lane locked leads back to L0 with the skew measured again, and a failed one to DL_Down; a lane that keeps lock for the window is ACTIVE again; an L0p narrowing ends
with the new active width; a widening is tried 60 s later and puts the FAILED lanes on trial; a retry resends; the partner's Recovery is followed. -/
def Obligations.LaneLossAndWidth : Prop :=
  (∀ (s : State) (n p : Nat) (unc : Bool), n < 512 → s.lanePort n = p → s.drudar p = false → s.gatedLC (p / 8) = false →
    (s.port p).st = .l0 → (s.port p).changing = false → n ∈ s.activeLanes p → s.reg Obj.LANE_STATE n = 1 → (s.lane n).restoring = false →
    ∃ u : State, exec (.laneLockLost n unc) s = .next u ∧ u.reg Obj.LANE_STATE n = 3 ∧ (u.lane n).lossAt = s.clk + 1 ∧
      (u.port p).st = .recovery ∧ u.reg Obj.PORT_RECOVERY_CNT p = min (s.reg Obj.PORT_RECOVERY_CNT p + 1) 0xFFFF_FFFF ∧
      u.dict.seq = (s.dict.seq + 1) % 65536 ∧ s.SameRegs u [Obj.LANE_STATE, Obj.PORT_RECOVERY_CNT] ∧ s.FabKept u p ∧
      ∀ m, m ≠ n → u.reg Obj.LANE_STATE m = s.reg Obj.LANE_STATE m) ∧
  (∀ (s : State) (n p : Nat) (unc : Bool), n < 512 → s.lanePort n = p → s.drudar p = false → s.gatedLC (p / 8) = false →
    (s.port p).st = .l0 → (s.port p).changing = false → n ∈ s.activeLanes p → s.reg Obj.LANE_STATE n = 3 → (s.lane n).restoring = false →
    (s.lane n).lossAt ≠ 0 → s.clk < (s.lane n).lossAt - 1 + s.reg Obj.LANE_FAIL_WINDOW p * 1000000 * nsUnit →
    ∃ u : State, exec (.laneLockLost n unc) s = .next u ∧ u.reg Obj.LANE_STATE n = 4 ∧ (u.port p).st = .recovery) ∧
  (∀ (s : State) (p skew : Nat), p < 256 → (s.port p).st = .recovery → (s.port p).changing = false → s.drudar p = false →
    (∀ n ∈ s.activeLanes p, s.reg Obj.LANE_STATE n ≠ 4) → skew ≤ 200 →
    ∃ u : State, exec (.recoveryEnd p true ⟨[], skew⟩) s = .next u ∧ u.reg Obj.PORT_SKEW p = skew ∧ s.SameRegs u [Obj.PORT_SKEW] ∧
      u.port p = { s.port p with st := .l0, phase := if (s.port p).dlUp then .idle else .enumerating } ∧
      (∀ q, q ≠ p → u.port q = s.port q) ∧ s.FabKept u p ∧ u.coh = s.coh) ∧
  (∀ (s : State) (p skew : Nat) (ok : Bool) (l : List Nat), p < 256 → (s.port p).st = .recovery → (s.port p).changing = false →
    s.drudar p = false → (s.port p).dlUp = true → s.Calm p → (ok = false ∨ 200 < skew) →
    ∃ u : State, exec (.recoveryEnd p ok ⟨l, skew⟩) s = .next u ∧ s.WentDown u p) ∧
  (∀ (s : State) (n : Nat), n < 512 → s.reg Obj.LANE_STATE n = 3 → (s.lane n).lossAt ≠ 0 → (s.lane n).restoring = false →
    s.after ((s.lane n).lossAt - 1) (s.reg Obj.LANE_FAIL_WINDOW (s.lanePort n) * 1000000) = true →
    exec (.laneFailWindowEnd n) s =
      .next ((s.setReg Obj.LANE_STATE n 1).setLane n { s.lane n with lossAt := 0, restoring := false })) ∧
  (∀ (s : State) (p w skew : Nat), p < 256 → (s.port p).changing = true → (s.port p).byL0p = true → (s.port p).widening = false →
    (s.port p).wantWidth = w → (∀ n ∈ s.portLanes p, (s.lane n).lossPend = 0 ∧ (s.lane n).restoring = false) →
    ∃ u : State, exec (.widthChangeDone ⟨p, skew⟩) s = .next u ∧ u.reg Obj.PORT_ACTIVE_WIDTH p = w ∧
      u.reg Obj.PORT_WIDTH p = s.reg Obj.PORT_WIDTH p ∧ (u.port p).st = .l0 ∧ (u.port p).changing = false ∧
      (u.port p).narrowedAt = s.clk + 1 ∧
      (∀ n ∈ s.portLanes p, n ∉ s.trained p → s.reg Obj.LANE_STATE n ≠ 4 → u.reg Obj.LANE_STATE n = 0) ∧
      (∀ n ∈ s.trained p, n ∉ (s.trained p).take w → s.reg Obj.LANE_STATE n ≠ 4 → u.reg Obj.LANE_STATE n = 2) ∧
      (∀ n ∈ (s.trained p).take w, s.reg Obj.LANE_STATE n = 2 → u.reg Obj.LANE_STATE n = 1) ∧
      s.SameRegs u [Obj.PORT_ACTIVE_WIDTH, Obj.LANE_STATE, Obj.PORT_CELL_RATE, Obj.CBS_SLOPE_OPER]) ∧
  (∀ (s : State) (p : Nat), p < 256 → s.drudar p = false → (s.port p).st = .l0 → (s.port p).dlUp = true → (s.port p).changing = false →
    (s.port p).narrowedAt ≠ 0 → (s.port p).widenTries < 3 → s.flag Obj.PORT_AUTO_WIDEN p = true →
    s.after ((s.port p).narrowedAt - 1) 60000000000 = true → s.ladderRuns = true →
    s.reg Obj.PORT_ACTIVE_WIDTH p < (s.port p).fullWidth → s.link.l0pOn.get false (p, 0) = true →
    s.reg Obj.PORT_WIDTH p = (s.port p).fullWidth →
    ∃ u : State, exec (.widenAttempt p) s = .next u ∧ u.port p = { s.port p with
        changing := true, byL0p := true, wantWidth := (s.port p).fullWidth, widening := true, oldWidth := s.reg Obj.PORT_ACTIVE_WIDTH p } ∧
      (∀ n ∈ (if (s.port p).fullRev then (s.portLanes p).reverse else s.portLanes p).take (s.port p).fullWidth,
        s.reg Obj.LANE_STATE n = 4 → u.reg Obj.LANE_STATE n = 3 ∧ (u.lane n).restoring = true) ∧
      (∀ n, s.reg Obj.LANE_STATE n ≠ 4 → u.reg Obj.LANE_STATE n = s.reg Obj.LANE_STATE n ∧ u.lane n = s.lane n) ∧
      s.SameRegs u [Obj.LANE_STATE] ∧ u.fab = s.fab ∧ ∀ q, q ≠ p → u.port q = s.port q) ∧
  (∀ (s : State) (p seq : Nat), p < 256 → s.drudar p = false → (s.port p).st = .l0 →
    exec (.linkLayerRetry p seq) s = .next ((s.emit (.resent p seq)).count
      { code := 0x2002, port := p, aux := 255, part := 255, cls := 255, hpa := 2 ^ 64 - 1, pool := 2 ^ 64 - 1 })) ∧
  (∀ (s : State) (p : Nat), p < 256 → s.drudar p = false → (s.port p).st = .l0 → (s.port p).changing = false →
    ∃ u : State, exec (.partnerRecoveryEntry p) s = .next u ∧ u.port p = { s.port p with st := .recovery, phase := .idle } ∧
      u.reg Obj.PORT_RECOVERY_CNT p = min (s.reg Obj.PORT_RECOVERY_CNT p + 1) 0xFFFF_FFFF ∧
      s.SameRegs u [Obj.PORT_RECOVERY_CNT] ∧ s.FabKept u p ∧ u.coh = s.coh ∧ ∀ q, q ≠ p → u.port q = s.port q)

/-- R83, R84, R86 to R88: at the end of a round a finished background scan leaves the lane's figures and the scan moves on, every
privileged lane gets its slot anew, and a margining command of another lane is answered, a report with the engine's figures and a step
with a free count of errors; a privileged lane's slot keeps a step that does not make the eye worse and moves on to the next parameter;
a margining command waits for its engine; the PRBS checker locks, and loses its lock. -/
def Obligations.LaneInstruments : Prop :=
  (∀ (s : State) (q cur : Nat) (e : EyeScan), s.RoundEnds q → s.scanFrom q (s.quartz q).lane = cur → cur ≠ 64 →
    (s.quartz q).lane = cur → (s.quartz q).step = 15 → e.eyes ≠ [] → s.scanFrom q (cur + 1) ≠ 64 →
    ∃ u : State, exec (.quartzRound q [] (some e)) s = .next u ∧ u.reg Obj.LANE_FOM (64 * q + cur) = eyeFom e.eyes ∧
      u.reg Obj.LANE_EYE_H (64 * q + cur) = e.eyes.foldl (fun a e => min a e.1) 65535 ∧
      u.reg Obj.LANE_EYE_W (64 * q + cur) = e.eyes.foldl (fun a e => min a e.2) 65535 ∧
      u.reg Obj.LANE_EYE_TIME (64 * q + cur) = s.now ∧
      u.quartz q = { s.quartz q with lane := s.scanFrom q (cur + 1), step := 0, roundAt := s.clk + 1, freeAt := s.clk, slots := s.privLanes q } ∧
      (∀ k, k ≠ q → u.quartz k = s.quartz k) ∧ (∀ n, u.lane n = s.lane n) ∧
      s.SameRegs u [Obj.LANE_FOM, Obj.LANE_EYE_H, Obj.LANE_EYE_W, Obj.LANE_EYE_TIME] ∧ u.fab = s.fab) ∧
  (∀ (s : State) (q cur : Nat) (e : Option EyeScan), s.RoundEnds q → s.scanFrom q (s.quartz q).lane = cur → cur ≠ 64 →
    (s.quartz q).lane = cur → (s.quartz q).step < 15 →
    ∃ u : State, exec (.quartzRound q [] e) s = .next u ∧
      u.quartz q = { s.quartz q with step := (s.quartz q).step + 1, roundAt := s.clk + 1, freeAt := s.clk, slots := s.privLanes q } ∧
      (∀ k, k ≠ q → u.quartz k = s.quartz k) ∧ (∀ n, u.lane n = s.lane n) ∧ s.SameRegs u [] ∧ u.fab = s.fab ∧ u.out = s.out) ∧
  (∀ (s : State) (q n : Nat) (e : Option EyeScan), s.RoundEnds q → n / 64 = q → s.flag Obj.LANE_PRIV n = false →
    (∃ u : State, exec (.quartzRound q [(n, .report)] e) s = .next u ∧
      u.out = .marginCaps n 32 50 64 12 true true true true :: s.out ∧ (u.quartz q).margins = []) ∧
    ∀ left k, ∃ u : State, exec (.quartzRound q [(n, .timing left k)] e) s = .next u ∧
      u.out = .margined n (.timing left k) s.freeVal :: s.out ∧ (u.quartz q).margins = []) ∧
  (∀ (s : State) (n f0 f1 f2 : Nat), s.SlotEnds n → f0 + s.reg Obj.FOM_HYST 0 ≤ f1 → s.reg Obj.LANE_FOM_TARGET n ≤ f2 →
    ∃ u : State, exec (.quartzPrivSlot n f0 f1 false f2) s = .next u ∧ u.lane n = { s.lane n with
        param := ((s.lane n).param + 1) % 8
        codes := setAt (s.lane n).codes (s.lane n).param
          ((s.lane n).codes.getD (s.lane n).param 0 + (s.lane n).dirs.getD (s.lane n).param 1)
        dirs := setAt (s.lane n).dirs (s.lane n).param ((s.lane n).dirs.getD (s.lane n).param 1), below := 0 } ∧
      u.reg Obj.LANE_FOM n = min f2 65535 ∧ u.quartz (n / 64) = { s.quartz (n / 64) with
        slots := (s.slotsDue (n / 64)).tail, freeAt := s.clk } ∧
      (∀ m, m ≠ n → u.lane m = s.lane m ∧ u.reg Obj.LANE_FOM m = s.reg Obj.LANE_FOM m) ∧ s.SameRegs u [Obj.LANE_FOM] ∧ u.fab = s.fab) ∧
  (∀ (s : State) (n f0 f1 f2 : Nat) (doubled : Bool), s.SlotEnds n →
    (f1 < f0 + s.reg Obj.FOM_HYST 0 ∨ doubled = true) → s.reg Obj.LANE_FOM_TARGET n ≤ f2 →
    ∃ u : State, exec (.quartzPrivSlot n f0 f1 doubled f2) s = .next u ∧
      u.lane n = { s.lane n with param := ((s.lane n).param + 1) % 8, below := 0 } ∧ u.reg Obj.LANE_FOM n = min f2 65535 ∧
      (∀ m, m ≠ n → u.lane m = s.lane m ∧ u.reg Obj.LANE_FOM m = s.reg Obj.LANE_FOM m) ∧ s.SameRegs u [Obj.LANE_FOM] ∧ u.fab = s.fab) ∧
  (∀ (s : State) (n : Nat) (c : MarginCmd), n < 512 → exec (.marginCommand n c) s = .next (s.setQuartz (n / 64)
    { s.quartz (n / 64) with margins := (s.quartz (n / 64)).margins ++ [(n, c)] })) ∧
  (∀ (s : State) (n : Nat), n < 512 → s.reg Obj.LANE_PRBS_MODE n ≠ 0 →
    ∃ u : State, exec (.prbsPatternLock n) s = .next u ∧ (u.lane n).prbsLocked = true ∧ (u.lane n).countAt = s.clk ∧
      (∀ m, m ≠ n → u.lane m = s.lane m) ∧ s.SameRegs u [] ∧ u.fab = s.fab) ∧
  (∀ (s : State) (n : Nat), n < 512 → s.reg Obj.LANE_PRBS_MODE n ≠ 0 → (s.lane n).prbsLocked = true →
    (s.lane n).errs < 2 ^ 48 →
    ∃ u : State, exec (.prbsPatternLockLost n) s = .next u ∧ (u.lane n).prbsLocked = false ∧ u.reg Obj.LANE_ERR_PAIR n = 2 ^ 63 ∧
      (s.lane n).errs ≤ (u.lane n).errs ∧ (s.lane n).bits ≤ (u.lane n).bits ∧ (∀ m, m ≠ n → u.lane m = s.lane m) ∧
      (∀ m, m ≠ n → u.reg Obj.LANE_ERR_PAIR m = s.reg Obj.LANE_ERR_PAIR m) ∧ s.SameRegs u [Obj.LANE_ERR_PAIR] ∧ u.fab = s.fab)

/-! ### Drudar-mode links -/

/-- R74, R90, R91, R93, R94, R96, R102: Drudar training. Signal on enough lanes starts SYNC at rate 7; a good training word counts for its
lane and tells the peer, an inverted one its polarity, and one without a valid KIND only locks its lane; too few locked lanes fail the
training; an equalization that fails is tried once more, and the last that succeeds fixes the transmit stripe; FEC lock fixes the widths; INIT is sent, and the peer's INIT brings its credits and DL_Up. -/
def Obligations.DrudarTraining : Prop :=
  (∀ (s : State) (p mask : Nat), p < 256 → s.drudar p = true → (s.port p).st = .detect → (s.port p).phase = .detecting →
    s.stepping p = true → s.reg Obj.DRU_MIN_WIDTH p ≤ popCount (s.formedWidth p) mask → mask % 2 ^ s.formedWidth p ≠ 0 →
    ∃ u : State, exec (.druSignalDetect p mask) s = .next u ∧ u.port p = { s.port p with
        st := .training, phase := .sync, phaseAt := s.clk, leftDetect := s.clk, rate := 7, eqTries := 0 } ∧
      u.reg Obj.PORT_SPEED p = 7 ∧ (∀ n ∈ s.portLanes p, (u.lane n).goodWords = 0 ∧ (u.lane n).lockAt = 0 ∧
        u.reg Obj.LANE_STATE n = if s.reg Obj.LANE_STATE n = 4 ∧ (s.lane n).tries < 3 then 0 else s.reg Obj.LANE_STATE n) ∧
      (∀ q, q ≠ p → u.port q = s.port q) ∧ s.SameRegs u [Obj.PORT_SPEED, Obj.LANE_STATE]) ∧
  (∀ (s : State) (p n w : Nat) (inverted : Bool), p < 256 → s.drudar p = true → (s.port p).st = .training → (s.port p).phase = .sync →
    n ∈ s.portLanes p → w < 2 ^ 128 → goodWord w = true → field w 32 4 = 0 → (field w 50 2 = 1 ∨ field w 50 2 = 2) →
    (s.lane n).goodWords < 3 → (s.lane n).tries < 3 →
    ∃ u : State, exec (.trainingWordRx p n (if inverted then 2 ^ 128 - 1 - w else w)) s = .next u ∧
      (u.lane n).goodWords = (s.lane n).goodWords + 1 ∧ (u.lane n).lockAt = (if (s.lane n).lockAt = 0 then s.clk + 1 else (s.lane n).lockAt) ∧
      u.reg Obj.LANE_POLARITY n = (if inverted then 1 else 0) ∧ u.reg Obj.DRU_PEER_ID p = field w 52 16 ∧
      u.reg Obj.DRU_PEER_KIND p = field w 50 2 ∧ (u.port p).partnerMax = field w 68 4 ∧ (u.port p).partnerCeil = field w 72 4 ∧
      (u.port p).phase = .sync ∧ (∀ m, m ≠ n → u.lane m = s.lane m) ∧
      s.SameRegs u [Obj.LANE_POLARITY, Obj.PORT_REVERSED, Obj.DRU_PEER_ID, Obj.DRU_PEER_KIND]) ∧
  (∀ (s : State) (p n w : Nat), p < 256 → s.drudar p = true → (s.port p).st = .training → (s.port p).phase = .sync →
    n ∈ s.portLanes p → (s.lane n).tries < 3 → goodWord (upright w).1 = false →
    exec (.trainingWordRx p n w) s = .next (s.setLane n { s.lane n with goodWords := 0 })) ∧
  (∀ (s : State) (p n w : Nat), p < 256 → s.drudar p = true → (s.port p).st = .training → (s.port p).phase = .sync →
    n ∈ s.portLanes p → (s.lane n).tries < 3 → goodWord (upright w).1 = true → field (upright w).1 32 4 = 0 →
    field (upright w).1 50 2 ∈ [0, 3] →
    exec (.trainingWordRx p n w) s = .next (s.setLane n { s.lane n with
      goodWords := 0, lockAt := if (s.lane n).lockAt = 0 then s.clk + 1 else (s.lane n).lockAt })) ∧
  (∀ (s : State) (p n w : Nat), p < 256 → s.drudar p = true → (s.port p).st = .training → (s.port p).phase = .druEq →
    n ∈ s.portLanes p → (s.lane n).tries < 3 → goodWord (upright w).1 = true → s.stepping p = true → s.druTarget p ≤ (s.port p).rate →
    (s.setLane n { s.lane n with eqDone := (s.lane n).eqDone || bit (field (upright w).1 88 8) 2
                                 peerLock := bit (field (upright w).1 88 8) 1 }).druEqReady p = true →
    ∃ u : State, exec (.trainingWordRx p n w) s = .next u ∧
      u.port p = { s.port p with phase := .fecLock, phaseAt := s.clk } ∧
      u.reg Obj.DRU_TX_MASK p = s.laneMask p (fun m => (u.lane m).peerLock) ∧
      u.reg Obj.DRU_TX_WIDTH p = popCount 16 (u.reg Obj.DRU_TX_MASK p) ∧
      u.lane n = { s.lane n with eqDone := (s.lane n).eqDone || bit (field (upright w).1 88 8) 2
                                 peerLock := bit (field (upright w).1 88 8) 1 } ∧
      (∀ m, m ≠ n → u.lane m = s.lane m) ∧ (∀ q, q ≠ p → u.port q = s.port q) ∧ s.SameRegs u [Obj.DRU_TX_MASK, Obj.DRU_TX_WIDTH]) ∧
  (∀ (s : State) (p : Nat), p < 256 → (s.port p).st = .training → (s.port p).phase = .sync →
    s.stepping p = true → s.after (s.port p).phaseAt 5000000 = true → popCount 16 (s.syncLocked p) < s.reg Obj.DRU_MIN_WIDTH p →
    ∃ u : State, exec (.druSyncTimeout p) s = .next u ∧ (u.port p).st = .trainFail ∧ (u.port p).fails = (s.port p).fails + 1 ∧
      (u.port p).failedAt = s.clk ∧ u.dict.seq = (s.dict.seq + 1) % 65536 ∧ (∀ q, q ≠ p → u.port q = s.port q)) ∧
  (∀ (s : State) (p : Nat), p < 256 → (s.port p).st = .training → (s.port p).phase = .druEq → (s.port p).rate ≠ 7 →
    s.stepping p = true → s.after (s.port p).phaseAt 5000000 = true → (s.port p).eqTries = 0 →
    ∃ u : State, exec (.druEqTimeout p) s = .next u ∧ u.port p = { s.port p with eqTries := 1, phase := .druEq, phaseAt := s.clk } ∧
      u.reg Obj.PORT_SPEED p = (s.port p).rate ∧ (∀ n ∈ s.portLanes p, (u.lane n).eqDone = false ∧ (u.lane n).codes = laneDflt.codes) ∧
      (∀ q, q ≠ p → u.port q = s.port q) ∧ s.SameRegs u [Obj.PORT_SPEED]) ∧
  (∀ (s : State) (p : Nat) (skews : List Nat), p < 256 → (s.port p).st = .training → (s.port p).phase = .fecLock →
    s.stepping p = true → s.reg Obj.DRU_RX_MASK p < 2 ^ s.formedWidth p →
    (∀ i ∈ bitsOf 16 (s.reg Obj.DRU_RX_MASK p), skews.getD i 0 ≤ 400) →
    ∃ u : State, exec (.druFecLock p skews) s = .next u ∧ (u.port p).phase = .init ∧
      u.reg Obj.PORT_WIDTH p = popCount 16 (s.reg Obj.DRU_RX_MASK p) ∧
      u.reg Obj.PORT_ACTIVE_WIDTH p = popCount 16 (s.reg Obj.DRU_RX_MASK p) ∧ u.reg Obj.PORT_SKEW p = (bitsOf 16 (s.reg Obj.DRU_RX_MASK p)).foldl (fun a i => max a (skews.getD i 0)) 0 ∧
      (u.dru p).grant.length = 9 ∧ (u.dru p).txSeq = druDflt.txSeq ∧ (u.dru p).rxExp = druDflt.rxExp ∧ (u.dru p).replay = [] ∧
      (∀ q, q ≠ p → u.port q = s.port q) ∧
      s.SameRegs u [Obj.PORT_WIDTH, Obj.PORT_ACTIVE_WIDTH, Obj.PORT_SKEW]) ∧
  (∀ (s : State) (p : Nat), p < 256 → (s.port p).phase = .init → (s.dru p).initRx = false → ((s.dru p).initTx = 0 ∨ s.after ((s.dru p).initTx - 1) 1000 = true) →
    ∃ u : State, exec (.initTx p) s = .next u ∧ (u.dru p).initTx = s.clk + 1 ∧
      s.SentCtrl u p 1 ((s.dru p).grant.flatMap (toBytes 2) ++ toBytes 1 (s.reg Obj.DRU_IDE_MODE p)) ∧ u.regs = s.regs ∧
      ∀ q, u.port q = s.port q) ∧
  (∀ (s : State) (p : Nat) (f : Frame), p < 256 → (s.port p).phase = .init → s.drudar p = true → frameGood f = true → f.ftype = 4 →
    ctype f = 1 → ctrlU16 f 9 % 256 = s.reg Obj.DRU_IDE_MODE p →
    ∃ u : State, exec (.initRx p f) s = .next u ∧ (u.port p).st = .l0 ∧ (u.port p).phase = .up ∧ (u.port p).dlUp = true ∧
      (u.dru p).txCr = (List.range 9).map (fun i => min 2048 (ctrlU16 f i)) ∧ (u.dru p).initRx = true ∧
      (∀ q, q ≠ p → u.port q = s.port q) ∧ s.SameRegs u [Obj.PORT_CELL_RATE, Obj.CBS_SLOPE_OPER]) ∧
  (∀ (s : State) (p : Nat) (f : Frame), p < 256 → (s.port p).phase = .init → frameGood f = false →
    exec (.initRx p f) s = .next (s.setReg Obj.DRU_CRC_ERR p (min (s.reg Obj.DRU_CRC_ERR p + 1) 0xFFFF_FFFF)))

/-- R98 to R100, R102, R107, R108: frames. A sequenced frame with the expected SEQ moves the expectation on and, with its report, gives
credits of its class, and the flit of a DATA frame is handed on; one out of order, or with a bad CRC, which is counted, is answered with
one NAK of its run. A NAK and the replay timer start a
replay; a MAC frame goes out under the key slot in use with the tag over the frames since the last, and a tag that checks releases what
it covers. -/
def Obligations.DrudarFrames : Prop :=
  (∀ (s : State) (p : Nat) (f : Frame) (c : Instr), (c, f.ftype) ∈ [(Instr.dataFrameRx p f, 1), (.mgmtFrameRx p f, 2)] → p < 256 →
    s.druLive p = true → frameGood f = true → f.seq = (s.dru p).rxExp → f.crClass < 9 → (s.dru p).txCr.length = 9 →
    s.druIde p = false → s.endpointUp (p + 1) = false →
    ∃ u : State, exec c s = .next u ∧ (u.dru p).rxExp = ((s.dru p).rxExp + 1) % 4096 ∧ (u.dru p).rxAny = true ∧
      (u.dru p).nakSent = false ∧ (u.dru p).txCr.getD f.crClass 0 = (s.dru p).txCr.getD f.crClass 0 +
        (f.crTotal + 4096 - (s.dru p).crSeen.getD f.crClass 0) % 4096 ∧
      (c = .dataFrameRx p f → (u.dru p).flits = (s.dru p).flits ++ [f]) ∧
      u.regs = s.regs ∧ u.fab = s.fab ∧ u.dict = s.dict ∧ (∀ q, u.port q = s.port q) ∧ (∀ q, q ≠ p → u.dru q = s.dru q)) ∧
  (∀ (s : State) (p : Nat) (f : Frame) (tagOk : Bool) (c : Instr),
    c ∈ [Instr.dataFrameRx p f, .mgmtFrameRx p f, .macFrameRx p f tagOk] → p < 256 → s.druLive p = true → frameGood f = true →
    f.seq ≠ (s.dru p).rxExp → (s.dru p).nakSent = false →
    ∃ u : State, exec c s = .next u ∧ s.SentCtrl u p 2 (toBytes 2 (s.dru p).rxExp) ∧ (u.dru p).nakSent = true ∧
      (u.dru p).rxExp = (s.dru p).rxExp ∧ (u.dru p).flits = (s.dru p).flits ∧ u.regs = s.regs ∧ s.FabKept u p) ∧
  (∀ (s : State) (p : Nat) (f : Frame), p < 256 → s.druLive p = true → frameGood f = true → f.crClass < 9 →
    (s.dru p).txCr.length = 9 →
    ∃ u : State, exec (.idleFrameRx p f) s = .next u ∧ (u.dru p).txCr.getD f.crClass 0 = (s.dru p).txCr.getD f.crClass 0 +
        (f.crTotal + 4096 - (s.dru p).crSeen.getD f.crClass 0) % 4096 ∧ (u.dru p).rxExp = (s.dru p).rxExp ∧ u.regs = s.regs ∧
      u.fab = s.fab ∧ ∀ q, u.port q = s.port q) ∧
  (∀ (s : State) (p : Nat) (f : Frame), p < 256 → s.druLive p = true → frameGood f = false →
    ∃ u : State, exec (.idleFrameRx p f) s = .next u ∧
      u.reg Obj.DRU_CRC_ERR p = min (s.reg Obj.DRU_CRC_ERR p + 1) 0xFFFF_FFFF ∧ s.SameRegs u [Obj.DRU_CRC_ERR] ∧
      (u.dru p).nakSent = true ∧ (u.dru p).rxExp = (s.dru p).rxExp ∧ (u.dru p).txCr = (s.dru p).txCr ∧
      ((s.dru p).nakSent = true → u.out = s.out) ∧ ((s.dru p).nakSent = false → s.SentCtrl u p 2 (toBytes 2 (s.dru p).rxExp)) ∧
      s.FabKept u p) ∧
  (∀ (s : State) (p : Nat) (f : Frame), p < 256 → s.druLive p = true → frameGood f = true → f.seq = (s.dru p).rxExp → f.ftype = 5 →
    s.druIde p = true → (∀ h ∈ (s.dru p).held, h.ftype = 1) →
    ∃ u : State, exec (.macFrameRx p f true) s = .next u ∧ (u.dru p).rxExp = ((s.dru p).rxExp + 1) % 4096 ∧ (u.dru p).held = [] ∧
      (u.dru p).skid = [] ∧ (u.dru p).flits = (s.dru p).flits ++ (s.dru p).held ∧ u.regs = s.regs ∧ u.fab = s.fab ∧
      (∀ q, u.port q = s.port q)) ∧
  (∀ (s : State) (p : Nat), p < 256 → s.druUp p = true → s.druIde p = true → (s.dru p).macCov ≠ [] → s.maySend p 5 0 = true →
    ∃ (u : State) (f : Frame), exec (.macFrameTx p) s = .next u ∧ u.out = .frame p f :: s.out ∧ f.ftype = 5 ∧
      f.keySlot = (s.dru p).ideSlot ∧ f.seq = (s.dru p).txSeq ∧ frameGood f = true ∧ (u.dru p).txSeq = ((s.dru p).txSeq + 1) % 4096 ∧
      f.body = frameBody (s.macTag p) ∧ (u.dru p).macCov = [] ∧ (u.dru p).ideSlot = (s.dru p).ideNext ∧ (u.dru p).replay.length = (s.dru p).replay.length + 1 ∧
      u.regs = s.regs ∧ s.FabKept u p) ∧
  (∀ (s : State) (p : Nat) (f : Frame), p < 256 → s.druLive p = true → frameGood f = true → f.ftype = 4 → ctype f = 2 →
    ∃ u : State, exec (.nakRx p f) s = .next u ∧ (u.dru p).resend = State.replayFrom (u.dru p) (ctrlU16 f 0) ∧ (u.dru p).ackAt = s.clk ∧
      u.reg Obj.DRU_REPLAY_CNT p = min (s.reg Obj.DRU_REPLAY_CNT p + 1) 0xFFFF_FFFF ∧ s.SameRegs u [Obj.DRU_REPLAY_CNT] ∧
      u.fab = s.fab) ∧
  (∀ (s : State) (p : Nat) (f : TxFrame) (rest : List TxFrame), p < 256 → s.druUp p = true → (s.dru p).replay = f :: rest →
    f.frame.seq < 4096 →
    s.after (s.dru p).ackAt (s.reg Obj.DRU_REPLAY_TIMEOUT p) = true →
    ∃ u : State, exec (.druReplayTimeout p) s = .next u ∧ (u.dru p).resend = (s.dru p).replay.length ∧
      (u.dru p).replay = (s.dru p).replay ∧ u.reg Obj.DRU_REPLAY_CNT p = min (s.reg Obj.DRU_REPLAY_CNT p + 1) 0xFFFF_FFFF ∧
      s.SameRegs u [Obj.DRU_REPLAY_CNT] ∧ u.fab = s.fab)

/-- R89, R96, R101, R103 to R105, R159: RETRAIN, markers and stripes. A RETRAIN starts for its cause, ends with DRU_RETRAIN and the same
sequence state, or takes the port down after 10 ms; markers are sent on every stripe lane, behind fill that ends their round, and their loss, the
codewords not corrected and each lane's corrected symbols are counted; markers with the new mask on every lane end a re-stripe; a lost
lane is
FAILED and a DROP is sent; a DROP or ADD that arrives re-stripes the transmitter; an open one is sent again; a lane is added again once
it has been clean. -/
def Obligations.DrudarRetrainAndStripes : Prop :=
  (∀ (s : State) (p : Nat) (f : Frame), p < 256 → s.druUp p = true → frameGood f = true → f.ftype = 4 → ctype f = 5 →
    ∃ u : State, exec (.retrainRx p f) s = .next u ∧ s.Retrains u p 2) ∧
  (∀ (s : State) (p cause : Nat), p < 256 → s.druUp p = true →
    ((cause = 0 ∧ 4 ≤ (s.dru p).sameSeq) ∨ (cause = 1 ∧ 4 ≤ (s.dru p).amMiss)) →
    ∃ u : State, exec (.retrainStart p cause) s = .next u ∧ s.Retrains u p cause) ∧
  (∀ (s : State) (p : Nat), p < 256 → s.druUp p = true → ∃ u : State, exec (.druMarkersLost p) s = .next u ∧ s.Retrains u p 1) ∧
  (∀ (s : State) (p : Nat), p < 256 → s.drudar p = true → (s.port p).st = .recovery → (s.port p).phase = .retrain →
    s.after (s.port p).phaseAt 10000000 = false → (s.dru p).replay = [] →
    exec (.druRetrainDone p) s = .next ((((s.accrue p).setPort p { s.port p with st := .l0, phase := .up }).setDru p
      { s.dru p with nakSent := false }).raise 0x2012 0x21 2 p ((s.port p).lastRetrain % 256))) ∧
  (∀ (s : State) (p : Nat), p < 256 → s.drudar p = true → (s.port p).st = .recovery → (s.port p).phase = .retrain →
    s.after (s.port p).phaseAt 10000000 = true → s.formed p = true → s.Calm p →
    ∃ u : State, exec (.druRetrainTimeout p) s = .next u ∧ s.WentDown u p) ∧
  (∀ (s : State) (p : Nat), p < 256 → s.drudar p = true → (s.port p).phase = .up →
    ((s.dru p).restripeTx = true ∨ 4096 ≤ (s.dru p).cwCount) →
    exec (.alignmentMarkerTx p) s = .next ((s.setDru p { s.dru p with
      amSeq := ((s.dru p).amSeq + 1) % 65536, amAt := s.clk + 1, cwCount := 0, symPos := 0, restripeTx := false }).emit (.markers p
        (((s.txLanes p).length - (s.dru p).symPos % (s.txLanes p).length) % (s.txLanes p).length)
        ((List.range (s.txLanes p).length).map (fun i =>
          marker i ((s.txLanes p).getD i 0) (s.txLanes p).length (s.dru p).restripeTx (s.dru p).amSeq
            (if (s.dru p).restripeTx then 0 else (s.dru p).lineLen % 2176)))))) ∧
  (∀ (s : State) (p unc : Nat) (ms : List Nat), p < 256 → s.druLive p = true → (∀ m ∈ ms, goodMarker m = false) →
    ∃ u : State, exec (.alignmentMarkerRx p ⟨ms, [], unc⟩) s = .next u ∧ u.dru p = { s.dru p with amMiss := (s.dru p).amMiss + 1 } ∧
      u.reg Obj.DRU_FEC_UNCORR p = (s.reg Obj.DRU_FEC_UNCORR p + unc) % 2 ^ 64 ∧ s.SameRegs u [Obj.DRU_FEC_UNCORR] ∧ u.fab = s.fab) ∧
  (∀ (s : State) (p pos n : Nat) (ms : List Nat), p < 256 → s.druLive p = true → (∀ m ∈ ms, goodMarker m = false) →
    bitsOf 16 (s.reg Obj.DRU_RX_MASK p) ≠ [] →
    s.firstLane p + (bitsOf 16 (s.reg Obj.DRU_RX_MASK p)).getD (pos % (bitsOf 16 (s.reg Obj.DRU_RX_MASK p)).length) 0 = n →
    s.reg Obj.LANE_PRBS_MODE n = 0 → (s.lane n).errs < 2 ^ 48 - 1 →
    ∃ u : State, exec (.alignmentMarkerRx p ⟨ms, [pos], 0⟩) s = .next u ∧ u.lane n = { s.lane n with errs := (s.lane n).errs + 1 } ∧
      ∀ m, m ≠ n → u.lane m = s.lane m) ∧
  (∀ (s : State) (p : Nat) (ms : List Nat), p < 256 → s.druLive p = true → (s.dru p).dropMask ≠ 0 →
    0 < popCount 16 (s.dru p).dropMask →
    (∀ j < popCount 16 (s.dru p).dropMask, ∃ m ∈ ms, goodMarker m = true ∧ bit m 59 = true ∧
      field m 54 5 = popCount 16 (s.dru p).dropMask ∧ field m 40 5 = j) →
    ∃ u : State, exec (.alignmentMarkerRx p ⟨ms, [], 0⟩) s = .next u ∧ u.reg Obj.DRU_RX_MASK p = (s.dru p).dropMask ∧
      u.reg Obj.PORT_ACTIVE_WIDTH p = popCount 16 (s.dru p).dropMask ∧ (u.dru p).dropMask = 0 ∧ (u.dru p).amMiss = 0 ∧
      u.reg Obj.PORT_SKEW p = (bitsOf 16 (s.dru p).dropMask).foldl (fun a i => max a (s.lane (s.firstLane p + i)).skew) 0 ∧
      u.reg Obj.DRU_RESTRIPE_CNT p = min (s.reg Obj.DRU_RESTRIPE_CNT p + 1) 0xFFFF_FFFF ∧
      ((s.dru p).dropAdd = true → u.reg Obj.LANE_STATE (s.dru p).dropLane = 3)) ∧
  (∀ (s : State) (p n cause : Nat), p < 256 → s.druLive p = true → n ∈ s.portLanes p → bit (s.reg Obj.DRU_RX_MASK p) (n - s.firstLane p) = true →
    s.reg Obj.LANE_STATE n ≠ 4 → cause < 2 → (s.dru p).dropMask = 0 →
    s.reg Obj.DRU_MIN_WIDTH p ≤ popCount 16 (clrBit (s.reg Obj.DRU_RX_MASK p) (n - s.firstLane p)) →
    clrBit (s.reg Obj.DRU_RX_MASK p) (n - s.firstLane p) ≠ 0 →
    ∃ u : State, exec (.druLaneLost p n cause) s = .next u ∧ u.reg Obj.LANE_STATE n = 4 ∧
      (u.dru p).dropMask = clrBit (s.reg Obj.DRU_RX_MASK p) (n - s.firstLane p) ∧ (u.dru p).dropAdd = false ∧
      s.SentCtrl u p 3 (toBytes 2 (s.dru p).rxExp ++ toBytes 2 (clrBit (s.reg Obj.DRU_RX_MASK p) (n - s.firstLane p))) ∧
      u.reg Obj.DRU_RX_MASK p = s.reg Obj.DRU_RX_MASK p ∧ s.SameRegs u [Obj.LANE_STATE] ∧ ∀ q, u.port q = s.port q) ∧
  (∀ (s : State) (p mask ct : Nat) (f : Frame) (c : Instr), (c, ct) ∈ [(Instr.dropRx p f, 3), (.addRx p f, 4)] → p < 256 →
    s.druLive p = true → frameGood f = true → f.ftype = 4 → ctype f = ct → ctrlU16 f 1 &&& (2 ^ s.formedWidth p - 1) = mask →
    mask ≠ 0 → mask ≠ s.reg Obj.DRU_TX_MASK p →
    ∃ u : State, exec c s = .next u ∧ u.reg Obj.DRU_TX_MASK p = mask ∧ u.reg Obj.DRU_TX_WIDTH p = popCount 16 mask ∧
      (u.dru p).restripeTx = true ∧ (u.dru p).resend = State.replayFrom (u.dru p) (ctrlU16 f 0) ∧
      u.reg Obj.DRU_RX_MASK p = s.reg Obj.DRU_RX_MASK p ∧ ∀ q, u.port q = s.port q) ∧
  (∀ (s : State) (p : Nat), p < 256 → s.druLive p = true → (s.dru p).dropMask ≠ 0 → s.after (s.dru p).dropAt 200 = true →
    ∃ u : State, exec (.dropAddResend p) s = .next u ∧ (u.dru p).dropAt = s.clk ∧ (u.dru p).dropMask = (s.dru p).dropMask ∧
      s.SentCtrl u p (if (s.dru p).dropAdd then 4 else 3) (toBytes 2 (s.dru p).rxExp ++ toBytes 2 (s.dru p).dropMask) ∧
      u.regs = s.regs) ∧
  (∀ (s : State) (p n : Nat) (clean : Bool), p < 256 → s.druUp p = true → n ∈ s.portLanes p → s.reg Obj.LANE_STATE n = 4 →
    s.flag Obj.PORT_AUTO_WIDEN p = true → (s.lane n).droppedAt ≠ 0 → (s.lane n).tries < 3 →
    s.after ((s.lane n).droppedAt - 1) 60000000000 = true → (s.dru p).dropMask = 0 →
    ∃ u : State, exec (.druLaneRestoreAttempt p n clean) s = .next u ∧ u.regs = s.regs ∧
      (clean = true → (u.dru p).dropMask = setBit (s.reg Obj.DRU_RX_MASK p) (n - s.firstLane p) ∧ (u.dru p).dropAdd = true ∧
        s.SentCtrl u p 4 (toBytes 2 (s.dru p).rxExp ++ toBytes 2 (setBit (s.reg Obj.DRU_RX_MASK p) (n - s.firstLane p)))) ∧
      (clean = false → u = s.setLane n { s.lane n with droppedAt := s.clk + 1, tries := (s.lane n).tries + 1 }))

/-! ### Switching: arrival, tracking, egress, flush -/

/-- R11, R12, R100, R114, R129, R143, R147, R155 to R158, R258: arrival. A memory request that no window decodes is counted and answered,
and holds a tracking entry until its completion leaves; a message with a fabric ID is routed by its route entry and joins the output queue of its class, a non-posted one with a tracking entry; a
later cell joins its message; a completion claims its entry and queues for the requester; a request that waited takes the entry that has
become free; a returned tag line lets the check that waited for it go on. -/
def Obligations.MessagesArrive : Prop :=
  (∀ (s : State) (p : Nat) (a : MsgIn), s.Arrives p a → (a.chan = .memReq ∨ a.chan = .memRwD) → a.byFid = false →
    (s.cacheDevice p = false ∨ 64 ≤ a.p2pPart) → s.findWindow ((s.hostPart p).getD 255) a.addr a.op = none →
    s.fab.rttWait.get [] (p, 0) = [] → s.rttRoom p = true →
    ∃ (u : State) (x : Synth), exec (.messageIngress p a) s = .next u ∧
      u.reg Obj.DECODE_MISS_CNT p = min (s.reg Obj.DECODE_MISS_CNT p + 1) 0xFFFF_FFFF ∧ u.synth p = s.synth p ++ [x] ∧
      x.cause = 6 ∧ x.msg.tag = a.tag ∧ x.msg.inPort = p ∧ u.fab.uid = s.fab.uid + 1 ∧
      ∃ e, u.rtt x.track = some e ∧ e.port = p ∧ e.synth = true) ∧
  (∀ (s : State) (p q k : Nat) (a : MsgIn), s.Arrives p a → a.chan = .ioPosted → a.op = .ioMessage → a.byFid = true →
    (s.cacheDevice p = false ∨ 64 ≤ a.p2pPart) → s.fidIn p a.dstFid = k → (∀ ld ∈ s.ldsKnown, s.reg Obj.LD_FID ld ≠ k) →
    s.RoutedTo p k q (s.parse p a).src → s.fab.moved = [] → s.fab.hold.row p = [] →
    ∃ (u : State) (d : Nat) (x : Desc), exec (.messageIngress p a) s = .next u ∧
      u.queue q (s.classOf p .ioPosted a.cls) = s.queue q (s.classOf p .ioPosted a.cls) ++ [d] ∧ u.desc d = some x ∧
      x.msg.uid = s.fab.uid ∧ x.msg.dst = k ∧ x.msg.inPort = p ∧ x.msg.egress = q ∧ x.sent = 0 ∧ u.fab.uid = s.fab.uid + 1 ∧
      u.regs = s.regs) ∧
  (∀ (s : State) (p q k : Nat) (a : MsgIn), s.Arrives p a → a.chan = .ioNonPosted → a.op = .ioConfig → a.byFid = true →
    (s.cacheDevice p = false ∨ 64 ≤ a.p2pPart) → s.fidIn p a.dstFid = k → (∀ ld ∈ s.ldsKnown, s.reg Obj.LD_FID ld ≠ k) →
    s.RoutedTo p k q (s.parse p a).src → s.fab.moved = [] → s.fab.hold.row p = [] → s.rttRoom p = true →
    ∃ (u : State) (n : Nat) (x : Rtt), exec (.messageIngress p a) s = .next u ∧ u.rtt n = some x ∧ x.port = p ∧ x.egress = q ∧
      x.at_ = s.clk ∧ x.claimed = false ∧ x.synth = false ∧ x.msg.uid = s.fab.uid ∧ x.msg.tag = a.tag ∧ u.regs = s.regs) ∧
  (∀ (s : State) (p c : Nat) (last : Bool) (i : InMsg) (ch : Chain), p < 256 → s.FlitGood p c false → s.inMsg p c = some i → i.discard = false →
    s.fab.chains.get none (i.uid, 0) = some ch → (last = true ↔ i.got + 1 = (s.latest i).len) →
    ∃ (u : State) (ch2 : Chain), exec (.cellIngress p c last false) s = .next u ∧
      u.inMsg p c = (if last then none else some { i with got := i.got + 1, lastAt := s.clk }) ∧
      u.fab.chains.get none (i.uid, 0) = some ch2 ∧ ch2.first = ch.first ∧ ch2.got = i.got + 1 ∧ ch2.complete = last ∧
      u.regs = s.regs) ∧
  (∀ (s : State) (p c : Nat) (last stomp : Bool) (i : InMsg), p < 256 → s.dlUp p = true → s.flitHere p c = true →
    s.inMsg p c = some i → i.discard = true →
    ∃ u : State, exec (.cellIngress p c last stomp) s = .next u ∧ u.inMsg p c = (if last then none else some i) ∧
      u.fab.cells = s.fab.cells ∧ u.regs = s.regs ∧ u.link.ports = s.link.ports) ∧
  (∀ (s : State) (p c : Nat) (x : CplIn) (e : Rtt), p < 256 → x.isTrk = false → s.dlUp p = true →
    (s.drudar p = true → ∃ f, s.nextFlit p = some f ∧ f.stomp = false) →
    s.classOf p x.chan (((s.nextFlit p).map (·.fclass)).getD 0) = c → s.inMsg p c = none → s.rtt x.entry = some e →
    e.claimed = false → e.synth = false → e.egress = p → e.orphan = false → e.msg.internal = false → (State.isWrite e.msg.op = true ∨ e.msg.skipLo + e.msg.skipHi = 0) →
    ∃ (u : State) (d : Nat) (y : Desc), exec (.completionRx p x) s = .next u ∧ u.rtt x.entry = some { e with claimed := true } ∧
      u.queue e.port c = s.queue e.port c ++ [d] ∧ u.desc d = some y ∧ y.msg.kind = .completion ∧ y.msg.track = x.entry ∧
      y.msg.poison = x.poison ∧ y.msg.data = x.data ∧ u.regs = s.regs) ∧
  (∀ (s : State) (p c : Nat) (x : CplIn) (e : Rtt), p < 256 → x.isTrk = false → s.dlUp p = true →
    (s.drudar p = true → ∃ f, s.nextFlit p = some f ∧ f.stomp = false) →
    s.classOf p x.chan (((s.nextFlit p).map (·.fclass)).getD 0) = c → s.inMsg p c = none → s.rtt x.entry = some e →
    e.claimed = false → e.synth = false → e.egress = p → e.orphan = false → e.msg.internal = false → State.isWrite e.msg.op = false →
    e.msg.skipLo + e.msg.skipHi ≠ 0 →
    s.sysUsed + max 1 (min 17 (ceilDiv (e.msg.skipLo + (x.data.length + e.msg.skipHi)) 256)) ≤ s.reg Obj.BUF_RSV_SYS 0 →
    ∃ (u : State) (d : Nat) (y : Desc), exec (.completionRx p x) s = .next u ∧ u.rtt x.entry = some { e with claimed := true } ∧
      u.queue e.port c = s.queue e.port c ++ [d] ∧ u.desc d = some y ∧ y.msg.kind = .completion ∧ y.msg.track = x.entry ∧
      y.msg.poison = x.poison ∧
      y.msg.data = List.replicate e.msg.skipLo 0 ++ x.data ++ List.replicate e.msg.skipHi 0 ∧ u.regs = s.regs) ∧
  (∀ (s : State) (p : Nat) (m : Msg) (r : List Msg), p < 256 → s.fab.rttWait.get [] (p, 0) = m :: r → s.rttRoom p = true →
    m.op = .ioConfig → m.coherent = false → m.kind = .request → m.ans = 0 → m.internal = false → m.inPort = p →
    (m.rq < 320 ∨ 336 ≤ m.rq) →
    ∃ (u : State) (n : Nat) (x : Rtt), exec (.rttEntryGrant p) s = .next u ∧ u.fab.rttWait.get [] (p, 0) = r ∧ u.rtt n = some x ∧
      x.port = p ∧ x.egress = m.egress ∧ x.msg.uid = m.uid ∧ x.claimed = false) ∧
  (∀ (s : State) (line : Nat) (w : TagWait), s.fab.tagWait = [w] → w.line = line →
    ∃ u : State, exec (.tagReadDone line false) s = .next u ∧ u.fab.tagWait = [] ∧ u.tagCached line = true)

/-- R132, R150, R153, R157, R164: what ends a wait. A tracking entry past its timeout is answered with cause 3; a held request of a moved
destination is routed again; a message whose tail does not come is stomped and counted; a multicast message of Cairn takes a descriptor
per target. -/
def Obligations.MessagesWait : Prop :=
  (∀ (s : State) (n : Nat) (x : Rtt), n < 65536 → s.rtt n = some x → x.claimed = false → x.synth = false → x.orphan = false →
    x.msg.internal = false → x.msg.kind = .request → s.after x.at_ (s.reg Obj.DIR_TIMEOUT 0 * 1000) = true →
    ∃ (u : State) (y : Synth), exec (.rttTimeout n) s = .next u ∧ u.rtt n = some { x with synth := true } ∧
      u.synth x.msg.inPort = s.synth x.msg.inPort ++ [y] ∧ y.cause = 3 ∧ y.msg.uid = x.msg.uid ∧
      u.dict.seq = (s.dict.seq + 1) % 65536 ∧
      u.reg Obj.SYNTH_CNT x.msg.inPort = min (s.reg Obj.SYNTH_CNT x.msg.inPort + 1) 0xFFFF_FFFF) ∧
  (∀ (s : State) (p k q : Nat) (h : Held) (ch : Chain), p < 256 → s.held p k = some h → h.why = .route → s.fab.hold.row p = [(k, some h)] →
    s.movedActive (0, h.msg.dst) = false → 65536 ≤ h.msg.bucket → h.msg.op = .ioMessage → h.msg.kind = .posted → noPool ≤ h.msg.home →
    h.msg.coherent = false → h.msg.inPort = p → h.msg.internal = false → State.cacheChan h.msg.chan = false →
    s.RoutedTo p h.msg.dst q h.msg.src →
    s.fab.chains.get none (h.msg.uid, 0) = some ch →
    ∃ (u : State) (d : Nat) (x : Desc), exec (.routeHoldRelease p k) s = .next u ∧ u.held p k = none ∧
      u.queue q h.msg.cls = s.queue q h.msg.cls ++ [d] ∧ u.desc d = some x ∧ x.msg.uid = h.msg.uid ∧ x.msg.egress = q ∧
      x.msg.eRoute = s.reg Obj.ROUTE_EPOCH 0) ∧
  (∀ (s : State) (p c : Nat) (i : InMsg), p < 256 → s.inMsg p c = some i → i.discard = false →
    s.after i.lastAt (s.reg Obj.MSG_TAIL_TIMEOUT 0) = true →
    ∃ u : State, exec (.msgTailTimeout p c) s = .next u ∧
      u.reg Obj.STOMP_CNT ((s.latest i).egress % 256) = min (s.reg Obj.STOMP_CNT ((s.latest i).egress % 256) + 1) 0xFFFF_FFFF) ∧
  (∀ (s : State) (p c : Nat) (i : InMsg), p < 256 → s.inMsg p c = some i → s.after i.lastAt (s.reg Obj.MSG_TAIL_TIMEOUT 0) = false →
    exec (.msgTailTimeout p c) s = .next s) ∧
  (∀ (s : State) (m : Msg) (r : List Msg) (q : Nat), s.fab.mcast = m :: r → m.targets = [q] → q < 2048 → s.dlUp (q / 8) = true →
    s.sysUsed < s.reg Obj.BUF_RSV_SYS 0 → s.fab.descs.length + 1 ≤ 458752 →
    ∃ (u : State) (d : Nat) (x : Desc), exec .multicastEnqueue s = .next u ∧ u.fab.mcast = r ∧ u.fab.uid = s.fab.uid + 1 ∧
      u.queue (q / 8) (q % 8) = s.queue (q / 8) (q % 8) ++ [d] ∧ u.desc d = some x ∧ x.mcast = true ∧ x.len = 1 ∧ x.complete = true ∧
      u.regs = s.regs)

/-- R143, R166, R169, R180 to R183: egress. At its cell time a port sends the head message of class 7 first, and its descriptor is freed
after the last cell; before that it sends nothing; the gates of a running list follow fabric time; the announcement of a loud group of
gate openings holds DIDT_WARN_N low until 2 µs after it; the depths of all queues are sampled in one cycle. -/
def Obligations.EgressAndGates : Prop :=
  (∀ (s : State) (p d : Nat) (rest : List Nat) (x : Desc) (y : Cell), p < 256 → s.drudar p = false → s.sending p = true →
    (s.egr p).nextAt ≤ s.clk → (s.egr p).cur = 8 → (s.egr p).gclOn = false → (s.egr p).pendOn = false →
    s.reg Obj.CBS_IDLE_SLOPE p = 0 → s.queue p 7 = d :: rest → s.desc d = some x → x.started = false → x.complete = true →
    x.len = 1 → x.sent = 0 → x.ended = false → x.msg.kind = .request → s.cell x.first = some y → s.synth p = [] →
    ∃ u : State, exec (.egressDecision p false) s = .next u ∧ .flit p (s.flitView p x.msg) 0 y.stomp ∈ u.out ∧ u.desc d = none ∧
      d ∉ u.queue p 7 ∧ s.clk ≤ (u.egr p).nextAt) ∧
  (∀ (s : State) (p : Nat) (ecc : Bool), p < 256 → s.clk < (s.egr p).nextAt → exec (.egressDecision p ecc) s = .next s) ∧
  (∀ (s : State) (p : Nat), p < 256 → (s.egr p).gclOn = true →
    ∃ u : State, exec (.gateEntryChange p) s = .next u ∧ u.gatesHeld p = s.gatesNow p ∧ (u.egr p).oper = (s.egr p).oper ∧
      u.regs = s.regs ∧ u.link = s.link) ∧
  (∀ (s : State) (p : Nat), p < 256 → (s.egr p).gclOn = false → exec (.gateEntryChange p) s = .next s) ∧
  (∀ (s : State) (next : Nat) (g : State.GclGroup),
    s.loudGroup (s.now + s.reg Obj.DIDT_GCL_LEAD 0 * tNs + tNs) 64 s.pm.grpFrom = (next, some g) →
    s.now + s.reg Obj.DIDT_GCL_LEAD 0 * tNs ≤ g.first →
    exec .didtGclWarnStart s = .next ({ s with pm := { s.pm with
      groups := s.pm.groups ++ [g.last + 2000 * tNs], grpFrom := next
      grpLow := if s.pm.groups.isEmpty then s.clk + 1 else s.pm.grpLow } }.setReg Obj.DIDT_GCL_CNT 0
        (min (s.reg Obj.DIDT_GCL_CNT 0 + 1) 0xFFFF_FFFF))) ∧
  (∀ (s : State) (next : Nat), s.loudGroup (s.now + s.reg Obj.DIDT_GCL_LEAD 0 * tNs + tNs) 64 s.pm.grpFrom = (next, none) →
    exec .didtGclWarnStart s = .next { s with pm := { s.pm with grpFrom := next } }) ∧
  (∀ s : State, exec .didtGclWarnEnd s = .next { s with pm := { s.pm with groups := s.pm.groups.filter (fun r => s.now < r) } }) ∧
  (∀ s : State, s.ridgeClock = true → s.after s.fab.histAt (s.reg Obj.HIST_PERIOD 0) = true →
    ∃ u : State, exec .histSample s = .next u ∧ u.fab.histAt = s.clk ∧
      (∀ q < 2048, u.reg Obj.HIST_DEPTH q = histAdd (s.reg Obj.HIST_DEPTH q) (s.queueDepth q) ∧
        u.reg Obj.Q_DEPTH_MAX q = max (s.reg Obj.Q_DEPTH_MAX q) (s.queueDepth q)) ∧
      s.SameRegs u [Obj.HIST_DEPTH, Obj.Q_DEPTH_MAX] ∧ u.link = s.link ∧ u.coh = s.coh)

/-- R89, R159 to R162: a calm port that loses its link is FLUSHING with its speed and widths at 0; the flush returns its cells and
entries and counts itself once its cycles have passed; the port then goes to DETECT, or to DISABLED where it is not enabled. -/
def Obligations.PortFlush : Prop :=
  (∀ (s : State) (p cause : Nat), p < 256 → (s.port p).st = .l0 → (s.port p).dlUp = true → s.formed p = true → s.Calm p →
    ∃ u : State, exec (.portDlDown p cause) s = .next u ∧ s.WentDown u p) ∧
  (∀ (s : State) (p : Nat), p < 256 → (s.port p).st = .flushing → (s.port p).flushDone = false →
    (s.port p).flushAt + s.flushCycles p * fclkUnit ≤ s.clk →
    ∃ u : State, exec (.flushDone p) s = .next u ∧ (u.port p).flushDone = true ∧ u.fab.rttWait.get [] (p, 0) = [] ∧ u.synth p = [] ∧
      u.fab.hold.row p = []) ∧
  (∀ (s : State) (p : Nat), p < 256 → (s.port p).st = .flushing → (s.port p).flushDone = true →
    ((s.port p).purge = false ∨ s.purgePending p = false) →
    exec (.portFlushExit p) s = .next (s.setPort p { s.port p with
      st := if s.flag Obj.PORT_ENABLE p then .detect else .disabled
      phase := .idle, purge := false, ladderWaits := bit (s.reg Obj.RIDGE_HALT 0) 1 }))

/-! ### Cairn: coherent requests, responses, the walker -/

/-- R189 to R192, R194, R199, R200, R210: a coherent request in a slot that its wheel gives it completes for every type. Where its set is
in the directory cache it makes the transition of its type: a read allocates a way or snoops the sharers, an upgrade by the only sharer
owns the line at once, a non-coherent access allocates nothing, a writeback of the owner goes to memory, an eviction notice of the owner
frees the way. Where the set is not cached, it is read from HBM and the request waits; where the line has an open transaction, the
request is NAKed with cause 1 and waits for it. A slot that is not of the present cycle, or is used, admits nothing. -/
def Obligations.CoherentRequests : Prop :=
  (∀ (s : State) (c slot code i : Nat) (r : CohReq) (a set tag n w : Nat), s.Hits 1 c slot code i r a set tag →
    s.findWay c set tag = none → s.dlUp r.msg.egress = true → s.lostWay c set = false → s.freeTracker c false = some n →
    s.room c set 64 = .way w →
    ∃ (u : State) (t : Trk), exec (.cohRdS c slot) s = .next u ∧ u.tracker c n = some t ∧ t.ty = 1 ∧ t.agent = a ∧ t.way = w ∧
      t.await = 0 ∧ t.memOut = true ∧ (u.dirEntry c set w).state = 1 ∧ (u.dirEntry c set w).sharers = 2 ^ a ∧
      (u.dirEntry c set w).tag = tag ∧ (u.dirEntry c set w).busy = true ∧ (u.dirEntry c set w).rank = 0 ∧
      u.reg Obj.DIR_HIT c = (s.reg Obj.DIR_HIT c + 1) % 2 ^ 64) ∧
  (∀ (s : State) (c slot code i : Nat) (r : CohReq) (a set n w : Nat), s.HitsWay 2 c slot code i r a set w →
    s.dlUp r.msg.egress = true → (s.dirEntry c set w).state = 1 →
    maskOut (s.dirEntry c set w).sharers (2 ^ a) ≠ 0 → s.liveVec (clrBit (s.dirEntry c set w).sharers a) ≠ 0 →
    s.freeTracker c false = some n →
    ∃ (u : State) (t : Trk), exec (.cohRdO c slot) s = .next u ∧ u.tracker c n = some t ∧ t.ty = 2 ∧ t.agent = a ∧ t.way = w ∧
      t.await = s.liveVec (clrBit (s.dirEntry c set w).sharers a) ∧ t.snp = 1 ∧ t.memOut = true ∧
      (u.dirEntry c set w).state = 1 ∧ (u.dirEntry c set w).busy = true ∧
      u.reg Obj.DIR_BISNP c = (s.reg Obj.DIR_BISNP c + (bitsOf 64 (s.liveVec (clrBit (s.dirEntry c set w).sharers a))).length) % 2 ^ 64) ∧
  (∀ (s : State) (c slot code i : Nat) (r : CohReq) (a set n w : Nat), s.HitsWay 3 c slot code i r a set w →
    (s.dirEntry c set w).state = 1 → (s.dirEntry c set w).sharers = 2 ^ a → s.freeTracker c false = some n →
    ∃ u : State, exec (.cohUpg c slot) s = .next u ∧ u.tracker c n = none ∧ (u.dirEntry c set w).state = 2 ∧
      (u.dirEntry c set w).sharers = 2 ^ a ∧ (u.dirEntry c set w).owner = a ∧ (u.dirEntry c set w).busy = false) ∧
  (∀ (s : State) (c slot code i : Nat) (r : CohReq) (a set tag n : Nat), s.Hits 4 c slot code i r a set tag →
    s.findWay c set tag = none → s.dlUp r.msg.egress = true → s.lostWay c set = false → s.freeTracker c false = some n →
    ∃ (u : State) (t : Trk), exec (.cohRdNc c slot) s = .next u ∧ u.tracker c n = some t ∧ t.ty = 4 ∧ t.way = 16 ∧ t.await = 0 ∧
      t.memOut = true ∧ t.write = false ∧ u.coh.dir = s.coh.dir) ∧
  (∀ (s : State) (c slot code i : Nat) (r : CohReq) (a set n w : Nat), s.HitsWay 5 c slot code i r a set w →
    s.dlUp r.msg.egress = true → (s.dirEntry c set w).state = 1 → s.liveVec (s.dirEntry c set w).sharers ≠ 0 →
    s.freeTracker c false = some n →
    ∃ (u : State) (t : Trk), exec (.cohWrNc c slot) s = .next u ∧ u.tracker c n = some t ∧ t.ty = 5 ∧
      t.await = s.liveVec (s.dirEntry c set w).sharers ∧ t.snp = 1 ∧ t.needMem = true ∧ t.memOut = false ∧ t.write = true ∧
      (u.dirEntry c set w).busy = true) ∧
  (∀ (s : State) (c slot code i : Nat) (r : CohReq) (a set n w : Nat) (x : Instr × Nat),
    x ∈ [(Instr.cohWbI c slot, 6), (Instr.cohWbS c slot, 7), (Instr.cohWbO c slot, 8)] → s.HitsWay x.2 c slot code i r a set w →
    s.dlUp r.msg.egress = true → (s.dirEntry c set w).state = 2 → (s.dirEntry c set w).owner = a → s.freeTracker c true = some n →
    ∃ (u : State) (t : Trk), exec x.1 s = .next u ∧ u.tracker c n = some t ∧ t.ty = x.2 ∧ t.await = 0 ∧ t.memOut = true ∧
      t.write = true ∧ (u.dirEntry c set w).state = 2 ∧ (u.dirEntry c set w).owner = a ∧ (u.dirEntry c set w).busy = true) ∧
  (∀ (s : State) (c slot code i : Nat) (r : CohReq) (a set w : Nat), s.HitsWay 9 c slot code i r a set w →
    (s.dirEntry c set w).state = 2 → (s.dirEntry c set w).owner = a →
    ∃ u : State, exec (.cohEvc c slot) s = .next u ∧ u.dirEntry c set w = { dirDflt with rank := 0 } ∧ u.coh.trk = s.coh.trk) ∧
  (∀ (s : State) (c slot code i f set tag : Nat) (r : CohReq) (x : Instr × Nat),
    x ∈ [(Instr.cohRdS c slot, 1), (Instr.cohRdO c slot, 2), (Instr.cohUpg c slot, 3), (Instr.cohRdNc c slot, 4),
      (Instr.cohWrNc c slot, 5), (Instr.cohWbI c slot, 6), (Instr.cohWbS c slot, 7), (Instr.cohWbO c slot, 8), (Instr.cohEvc c slot, 9)] →
    s.Offered x.2 c slot code i r →
    place (s.reg Obj.CAIRN_SLICES 0) r.msg.home = (c, set, tag) → s.coh.reads.contains (c, set) = false → s.findFrame c set = none →
    s.victimFrame c set = some f →
    ∃ (u : State) (y : CohReq), exec x.1 s = .next u ∧ u.coh.reads = s.coh.reads ++ [(c, set)] ∧ u.coh.reqs[i]? = some y ∧
      y.admitted = true ∧ y.msg = r.msg ∧ u.coh.reqs.length = s.coh.reqs.length ∧ u.coh.dir = s.coh.dir ∧ u.coh.trk = s.coh.trk ∧
      u.reg Obj.DIR_MISS c = (s.reg Obj.DIR_MISS c + 1) % 2 ^ 64) ∧
  (∀ (s : State) (c slot code i k a set tag : Nat) (r : CohReq) (t : Trk) (x : Instr × Nat),
    x ∈ [(Instr.cohRdS c slot, 1), (Instr.cohRdO c slot, 2), (Instr.cohUpg c slot, 3), (Instr.cohRdNc c slot, 4),
      (Instr.cohWrNc c slot, 5)] →
    s.AtSet x.2 c slot code i r a set tag →
    s.lineEvict c (r.msg.home / 64 * 64) = none → s.lineTracker c (r.msg.home / 64 * 64) = some k → s.tracker c k = some t →
    s.drudar r.msg.inPort = false →
    ∃ (u : State) (y : CohReq), exec x.1 s = .next u ∧ u.coh.reqs[i]? = some y ∧ y.cause = 1 ∧ y.wait = k ∧
      y.ncnt = min 15 (r.ncnt + 1) ∧ y.msg = r.msg ∧ y.ty = r.ty ∧ u.coh.trk = s.coh.trk) ∧
  (∀ (s : State) (c slot : Nat) (x : Instr),
    x ∈ [Instr.cohRdS c slot, Instr.cohRdO c slot, Instr.cohUpg c slot, Instr.cohRdNc c slot, Instr.cohWrNc c slot,
      Instr.cohWbI c slot, Instr.cohWbS c slot, Instr.cohWbO c slot, Instr.cohEvc c slot] →
    c < 8 → s.slotOpen c slot = none → exec x s = .next s)

/-- R193, R199, R201, R218, R224, R225, R228: how a transaction goes on and ends. The last back-invalidate response ends it or starts its
memory access, memory's answer ends it, a set read from HBM loses the ways with uncorrectable errors, and the timeouts poison the
line, declare a silent agent DEAD, drop a reservation or answer a held request. -/
def Obligations.CoherentEnds : Prop :=
  (∀ (s : State) (p c n a : Nat) (t : Trk), s.AwaitsOnly p c n a t → t.ty = 2 → t.snp = 1 → t.needMem = false → t.memOut = false →
    t.way < 16 → t.agent < 64 → s.reg Obj.AGT_STATE t.agent = 0 →
    ∃ u : State, exec (.birspi p c n) s = .next u ∧ u.tracker c n = none ∧ (u.dirEntry c t.set t.way).state = 2 ∧
      (u.dirEntry c t.set t.way).owner = t.agent ∧ (u.dirEntry c t.set t.way).sharers = 2 ^ t.agent ∧
      (u.dirEntry c t.set t.way).busy = false) ∧
  (∀ (s : State) (p c n a : Nat) (t : Trk), s.AwaitsOnly p c n a t → t.snp = 2 → t.needMem = true → s.dlUp t.msg.egress = true →
    ∃ u : State, exec (.birsps p c n) s = .next u ∧ u.tracker c n = some { t with await := 0, needMem := false, memOut := true } ∧
      u.coh.dir = s.coh.dir) ∧
  (∀ (s : State) (p c n a : Nat) (t : Trk), s.AwaitsOnly p c n a t → t.snp = 3 → t.needMem = true → s.dlUp t.msg.egress = true →
    ∃ u : State, exec (.birspe p c n) s = .next u ∧
      u.tracker c n = some { t with await := 0, own := true, needMem := false, memOut := true } ∧ u.coh.dir = s.coh.dir) ∧
  (∀ (s : State) (c set : Nat) (corrected : List Nat), c < 8 → s.coh.reads.contains (c, set) = true →
    (∀ r ∈ s.coh.reqs, r.admitted = false) → s.coh.lookup = none → s.coh.walkWait.get 0 (c, 0) ≠ set + 1 →
    ∃ u : State, exec (.dirSetReadDone c set corrected []) s = .next u ∧ u.coh.reads = s.coh.reads.erase (c, set) ∧
      u.reg Obj.DIR_ECC_CORR c = (s.reg Obj.DIR_ECC_CORR c + corrected.length) % 2 ^ 64 ∧ u.coh.dir = s.coh.dir) ∧
  (∀ (s : State) (c set w : Nat), c < 8 → w < 16 → s.coh.reads.contains (c, set) = true → (∀ r ∈ s.coh.reqs, r.admitted = false) →
    s.coh.lookup = none → s.coh.walkWait.get 0 (c, 0) ≠ set + 1 →
    ∃ u : State, exec (.dirSetReadDone c set [] [w]) s = .next u ∧ (u.dirEntry c set w).state = 3 ∧ (u.dirEntry c set w).pcause = 2 ∧
      u.reg Obj.DIR_ECC_UNCORR c = min (s.reg Obj.DIR_ECC_UNCORR c + 1) 0xFFFF_FFFF ∧ u.dict.seq = (s.dict.seq + 1) % 65536) ∧
  (∀ (s : State) (c n : Nat) (t : Trk) (data : List Byte), c < 8 → n < 2048 → s.tracker c n = some t → s.Consumes t.msg.egress .memDrs →
    t.ty = 1 → t.snp = 0 → t.await = 0 → t.wbs = [] → t.lost = false → t.asPoison = false → t.needMem = false → t.memOut = true →
    t.write = false → t.way < 16 → (s.dirEntry c t.set t.way).state = 1 →
    s.liveVec (s.dirEntry c t.set t.way).sharers = (s.dirEntry c t.set t.way).sharers →
    ∃ u : State, exec (.memReadDataReturn c n false data) s = .next u ∧ u.tracker c n = none ∧
      u.dirEntry c t.set t.way = { s.dirEntry c t.set t.way with busy := false, trk := 0 }) ∧
  (∀ (s : State) (c n : Nat) (t : Trk), c < 8 → n < 2048 → s.tracker c n = some t → s.Consumes t.msg.egress .memNdr → t.ty = 6 →
    t.await = 0 → t.wbs = [] → t.lost = false → t.asPoison = false → t.needMem = false → t.memOut = true → t.write = true → t.way < 16 →
    ∃ u : State, exec (.memWriteCompletion c n) s = .next u ∧ u.tracker c n = none ∧ (u.dirEntry c t.set t.way).state = 0 ∧
      (u.dirEntry c t.set t.way).busy = false) ∧
  (∀ (s : State) (c n : Nat) (t : Trk), c < 8 → n < 2048 → s.tracker c n = some t → s.after t.at_ (s.reg Obj.DIR_TIMEOUT 0 * 1000) = true →
    t.await = 0 → t.way < 16 →
    ∃ u : State, exec (.homeTimeout c n) s = .next u ∧ u.tracker c n = none ∧ (u.dirEntry c t.set t.way).state = 3 ∧
      (u.dirEntry c t.set t.way).pcause = 1 ∧ (u.dirEntry c t.set t.way).sharers = 0 ∧ (u.dirEntry c t.set t.way).busy = false ∧
      u.reg Obj.HOME_TIMEOUT_CNT c = min (s.reg Obj.HOME_TIMEOUT_CNT c + 1) 0xFFFF_FFFF) ∧
  (∀ (s : State) (c n a : Nat) (t : Trk), c < 8 → n < 2048 → s.tracker c n = some t → s.after t.at_ (s.reg Obj.DIR_TIMEOUT 0 * 1000) = true →
    t.await = 2 ^ a → a < 64 → t.way < 16 → s.reg Obj.AGT_STATE a = 0 →
    ∃ u : State, exec (.homeTimeout c n) s = .next u ∧ u.reg Obj.AGT_STATE a = 2 ∧ u.reg Obj.AGT_DOWN_TIME a = s.now ∧
      (∃ q ∈ u.coh.purges, q.agent = a ∧ q.dead = true)) ∧
  (∀ (s : State) (c n : Nat) (t : Trk), c < 8 → n < 2048 → s.tracker c n = some t → s.after t.at_ (s.reg Obj.DIR_TIMEOUT 0 * 1000) = false →
    exec (.homeTimeout c n) s = .next s) ∧
  (∀ (s : State) (c n : Nat) (r : Rsv), c < 8 → s.rsvReg c n = some r → r.readyAt ≠ 0 →
    s.after (r.readyAt - 1) (s.reg Obj.RSV_TIMEOUT 0) = true →
    ∃ u : State, exec (.rsvExpired c n) s = .next u ∧ u.rsvReg c n = none ∧
      u.reg Obj.RSV_EXPIRED_CNT c = min (s.reg Obj.RSV_EXPIRED_CNT c + 1) 0xFFFF_FFFF ∧ u.dict.seq = (s.dict.seq + 1) % 65536) ∧
  (∀ (s : State) (p k : Nat) (h : Held), p < 256 → s.held p k = some h → s.after h.since (s.reg Obj.DIR_TIMEOUT 0 * 1000) = true →
    h.msg.kind = .request → h.msg.internal = false → h.msg.inPort < 256 → 65536 ≤ h.msg.track → s.mayTrack h.msg = true →
    ∃ (u : State) (x : Synth), exec (.holdTimeout p k) s = .next u ∧ u.held p k = none ∧
      u.synth h.msg.inPort = s.synth h.msg.inPort ++ [x] ∧ x.cause = 3 ∧ x.msg.uid = h.msg.uid ∧
      u.reg Obj.HOLD_TIMEOUT_CNT p = min (s.reg Obj.HOLD_TIMEOUT_CNT p + 1) 0xFFFF_FFFF)

/-- R191, R195, R206, R229, R230: a visit of the walker, in a slot that its wheel gives it, poisons the lines that the agent of a purge job
owned in the set, and goes on to the next set; a set that is not in the directory cache is read first; without a job nothing is visited. A
back-invalidate of a device whose LD is in the coherence map, or has no host, is answered by the fabric itself; any other goes to the host
port of the partition that binds the LD, with the BI-ID of its vPPB. -/
def Obligations.WalkerAndDevices : Prop :=
  (∀ (s : State) (c : Nat) (q : Purge), s.WalkerTurn c → (s.findFrame c (s.reg Obj.WALK_POS c)).isSome = true → s.fab.walks = [] →
    s.coh.purges = [q] → q.left.getD c 0 ≠ 0 →
    ∃ u : State, exec (.walkerSetVisit c) s = .next u ∧ u.reg Obj.WALK_POS c = (s.reg Obj.WALK_POS c + 1) % 6291456 ∧
      (∀ w < 16, (s.dirEntry c (s.reg Obj.WALK_POS c) w).busy = false → (s.dirEntry c (s.reg Obj.WALK_POS c) w).state = 2 →
        (s.dirEntry c (s.reg Obj.WALK_POS c) w).owner = q.agent →
        u.dirEntry c (s.reg Obj.WALK_POS c) w = { s.dirEntry c (s.reg Obj.WALK_POS c) w with
          state := 3, pcause := 1, sharers := 0, owner := 0 }) ∧
      u.link = s.link ∧ u.fab = s.fab) ∧
  (∀ (s : State) (c f : Nat), s.WalkerTurn c → s.findFrame c (s.reg Obj.WALK_POS c) = none → s.victimFrame c (s.reg Obj.WALK_POS c) = some f →
    ∃ u : State, exec (.walkerSetVisit c) s = .next u ∧ u.coh.reads = s.coh.reads ++ [(c, s.reg Obj.WALK_POS c)] ∧
      u.coh.walkWait.get 0 (c, 0) = s.reg Obj.WALK_POS c + 1 ∧ u.reg Obj.WALK_POS c = s.reg Obj.WALK_POS c ∧ u.coh.dir = s.coh.dir) ∧
  (∀ (s : State) (c : Nat), c < 8 → s.fab.walks = [] → s.coh.purges = [] → exec (.walkerSetVisit c) s = .next s) ∧
  (∀ (s v : State) (p ld addr snp : Nat), p < 256 → s.ldInMap ld = true → s.consumeFlit p .memBisnp = some (false, v) →
    ∃ u : State, exec (.deviceBisnp p ld addr snp) s = .next u ∧ .birspi p ld addr ∈ u.out ∧
      u.reg Obj.DEV_BI_DROP p = min (s.reg Obj.DEV_BI_DROP p + 1) 0xFFFF_FFFF ∧ u.coh = s.coh ∧ u.fab = v.fab) ∧
  (∀ (s v : State) (p ld addr snp : Nat), p < 256 → s.ldInMap ld = false → s.ldBinders ld = [] →
    s.consumeFlit p .memBisnp = some (false, v) →
    exec (.deviceBisnp p ld addr snp) s = .next { v with out := .birspi p ld addr :: v.out }) ∧
  (∀ (s : State) (p ld addr snp k : Nat), p < 256 → s.ldInMap ld = false → s.ldBinders ld = [k] → s.dlUp p = true →
    s.dlUp (s.reg Obj.PART_HOST_PORT (k / 64)) = true → s.flitHere p 7 = true →
    ∃ m : Msg, exec (.deviceBisnp p ld addr snp) s = .next ((s.takeFlit p).injectMsg m) ∧ m.kind = .snoop ∧ m.ld = ld ∧ m.dpa = addr ∧
      m.snp = snp ∧ m.status = 8 * (k % 64) ∧ m.egress = s.reg Obj.PART_HOST_PORT (k / 64) % 256)

/-! ### Live region moves and direct memory access -/

/-- R237, R239 to R244: a move reads the 64 lines of the next granule and clears its bit; an error of its
bitmap fails it; a pass that has written every line and leaves too much dirty is followed by another one,
the last by the freeze; a freeze that reaches its limit ends in another pass, and the third one fails the move; at the commit point the
redirect is active and Tor holds it; once it is in flash the move is DONE; the undo of an aborted move frees its redirect. -/
def Obligations.RegionMoves : Prop :=
  (∀ (s : State) (c g : Nat) (setNow : Bool), c < 16 → s.movePhase c = 1 → s.moveLive c = true → (s.mover c).running = true →
    (s.mover c).nextAt ≤ s.clk → s.pm.stop = false → s.nextGranule c = some g →
    s.moveRefused c (s.reg Obj.RDR_SRC (s.moveRdr c) + 4096 * g) (s.reg Obj.RDR_DST (s.moveRdr c) + 4096 * g) = none →
    (∀ i < 64, (s.ldAt (s.reg Obj.RDR_SRC (s.moveRdr c) + 4096 * g + 64 * i)).isSome = true ∧
      s.dlUp (s.moverPort c (s.reg Obj.RDR_SRC (s.moveRdr c) + 4096 * g + 64 * i)) = true) →
    ∃ u : State, exec (.granuleCopy c false false setNow) s = .next u ∧
      (∀ d n, u.move.bitmap.get false (d, n) = if (d, n) = (c, g) then setNow else s.move.bitmap.get false (d, n)) ∧
      (u.mover c).cursor = g + 1 ∧ (u.mover c).inflight = (s.mover c).inflight + 64 ∧ s.clk ≤ (u.mover c).nextAt ∧
      u.reg Obj.MOVE_COPIED c = (s.reg Obj.MOVE_COPIED c + 4096) % 2 ^ 64 ∧
      s.SameRegs u [Obj.MOVE_COPIED] ∧ u.link.ports = s.link.ports ∧ u.link.lanes = s.link.lanes) ∧
  (∀ (s : State) (c g : Nat) (searchBad clearBad setNow : Bool), c < 16 → (searchBad || clearBad) = true → s.movePhase c = 1 → s.moveLive c = true → (s.mover c).running = true →
    (s.mover c).nextAt ≤ s.clk → s.pm.stop = false → s.nextGranule c = some g →
    ∃ u : State, exec (.granuleCopy c searchBad clearBad setNow) s = .next u ∧ u.movePhase c = 7 ∧ (u.mover c).running = false ∧
      (u.lop (s.reg Obj.MOVE_HANDLE c)).st = .failed ∧ (u.lop (s.reg Obj.MOVE_HANDLE c)).result = Ab.OP_FAILED ∧
      u.move.bitmap = s.move.bitmap) ∧
  (∀ (s : State) (c : Nat), c < 16 → s.movePhase c = 1 → s.moveLive c = true → (s.mover c).running = true →
    s.nextGranule c = none → (s.mover c).inflight = 0 → s.reg Obj.MOVE_CUTOVER_DIRTY 0 < s.moveDirty c → s.reg Obj.MOVE_PASS c < s.reg Obj.MOVE_PASS_MAX 0 →
    ∃ u : State, exec (.movePassEnd c) s = .next u ∧ u.movePhase c = 2 ∧ u.reg Obj.MOVE_PASS c = s.reg Obj.MOVE_PASS c + 1 ∧
      (u.mover c).cursor = 0 ∧ (u.mover c).running = true ∧ (u.mover c).pass0 = true ∧
      s.SameRegs u [Obj.MOVE_PHASE, Obj.MOVE_PASS] ∧ u.fab = s.fab ∧ u.coh = s.coh) ∧
  (∀ (s : State) (c : Nat), c < 16 → s.movePhase c = 1 → s.moveLive c = true → (s.mover c).running = true →
    s.nextGranule c = none → (s.mover c).inflight = 0 →
    (s.moveDirty c ≤ s.reg Obj.MOVE_CUTOVER_DIRTY 0 ∨ s.reg Obj.MOVE_PASS_MAX 0 ≤ s.reg Obj.MOVE_PASS c) → s.mayFreeze c = true →
    ∃ u : State, exec (.movePassEnd c) s = .next u ∧ u.movePhase c = 4 ∧ (u.mover c).frozeAt = s.clk ∧ (u.mover c).running = false ∧
      s.SameRegs u [Obj.MOVE_PHASE] ∧ u.fab = s.fab ∧ u.coh = s.coh) ∧
  (∀ (s : State) (c : Nat), c < 16 → s.movePhase c = 4 → s.fab.hold = [] → s.reg Obj.MOVE_FREEZES c < 2 →
    s.after (s.mover c).frozeAt (min (s.reg Obj.MOVE_FREEZE_MAX 0 * 1000) (s.reg Obj.DIR_TIMEOUT 0 * 1000 / 2)) = true →
    ∃ u : State, exec (.moveFreezeLimit c) s = .next u ∧ u.movePhase c = 2 ∧ u.reg Obj.MOVE_FREEZES c = s.reg Obj.MOVE_FREEZES c + 1 ∧
      (u.mover c).cursor = 0 ∧ (u.mover c).running = true ∧ u.dict.seq = (s.dict.seq + 1) % 65536 ∧
      s.SameRegs u [Obj.MOVE_PHASE, Obj.MOVE_FREEZES]) ∧
  (∀ (s : State) (c : Nat), c < 16 → s.movePhase c = 4 → s.fab.hold = [] → s.reg Obj.MOVE_FREEZES c = 2 →
    s.after (s.mover c).frozeAt (min (s.reg Obj.MOVE_FREEZE_MAX 0 * 1000) (s.reg Obj.DIR_TIMEOUT 0 * 1000 / 2)) = true →
    ∃ u : State, exec (.moveFreezeLimit c) s = .next u ∧ u.movePhase c = 7 ∧ u.reg Obj.MOVE_FREEZES c = 3 ∧
      (u.lop (s.reg Obj.MOVE_HANDLE c)).st = .failed) ∧
  (∀ (s : State) (c : Nat), c < 16 → s.movePhase c = 4 → s.fab.hold = [] → s.moveDirty c = 0 →
    s.writeInFlight (s.moveRange c).1 (s.moveRange c).2 = false → (s.mover c).inflight = 0 →
    ∃ u : State, exec (.moveCommitPoint c) s = .next u ∧ u.movePhase c = 5 ∧ u.reg Obj.RDR_STATE (s.moveRdr c) = 2 ∧
      u.reg Obj.RDR_COMMIT_TIME (s.moveRdr c) = s.now ∧
      u.move.torRdr.get none (s.moveRdr c, 0) = some (s.reg Obj.RDR_SRC (s.moveRdr c), s.reg Obj.RDR_DST (s.moveRdr c),
        s.reg Obj.RDR_SIZE (s.moveRdr c)) ∧
      (u.lop (s.reg Obj.MOVE_HANDLE c)).st = .committed ∧ (u.lop (s.reg Obj.MOVE_HANDLE c)).commit = s.now ∧
      s.SameRegs u [Obj.MOVE_PHASE, Obj.RDR_STATE, Obj.RDR_COMMIT_TIME]) ∧
  (∀ (s : State) (c : Nat), c < 16 → s.coreRuns 3 = true → s.movePhase c = 5 → (∀ d < 16, d ≠ c → s.movePhase d ≠ 5) →
    ∃ u : State, exec .redirectFlashWritten s = .next u ∧ u.movePhase c = 0 ∧ u.reg Obj.MOVE_HANDLE c = 0xFFFF ∧
      u.moveRdr c = 0xFF ∧ u.mover c = moveDflt ∧ (u.lop (s.reg Obj.MOVE_HANDLE c)).st = .done ∧
      (u.lop (s.reg Obj.MOVE_HANDLE c)).result = 0 ∧
      (∀ r < 64, s.reg Obj.RDR_STATE r = 2 → u.move.flashRdr.get none (r, 0) =
        some (s.reg Obj.RDR_SRC r, s.reg Obj.RDR_DST r, s.reg Obj.RDR_SIZE r))) ∧
  (∀ (s : State) (c : Nat), c < 16 → s.movePhase c = 6 → s.fab.hold = [] →
    ∃ u : State, exec (.moveUndoDone c) s = .next u ∧ u.movePhase c = 0 ∧ u.reg Obj.RDR_STATE (s.moveRdr c) = 0 ∧
      u.reg Obj.RDR_SIZE (s.moveRdr c) = 0 ∧ u.reg Obj.MOVE_HANDLE c = 0xFFFF ∧ u.moveDirty c = 0 ∧
      (u.lop (s.reg Obj.MOVE_HANDLE c)).st = .aborted ∧ (u.lop (s.reg Obj.MOVE_HANDLE c)).result = Ab.ABORTED) ∧
  (∀ (s : State) (c : Nat), c < 16 → s.movePhase c ≠ 6 → s.movePhase c ≠ 7 → exec (.moveUndoDone c) s = .next s)

/-- R152, R261, R348: an access of the debug session ends with its status and, for a read, its data once its completion is there, which a
completion that claims the access's entry brings; without one it fails only after DIR_TIMEOUT; with no access open the command changes
nothing. -/
def Obligations.DirectAccess : Prop :=
  (∀ s : State, s.sec.dm = none → exec (.dmAccessEnd () () ()) s = .next s) ∧
  (∀ (s : State) (poison : Bool) (data : List Byte) (a : DmAccess), s.sec.dm = some a → a.write = false → a.got = some (poison, data) →
    exec (.dmAccessEnd () () ()) s = .next ({ s with sec := { s.sec with dm := none, dmData := State.dmFill a.parts data } }.setReg Obj.DM_STATUS 0
      (State.dmStatus 2 a.parts poison))) ∧
  (∀ (n : Nat) (data : List Byte), data.length = n → State.dmFill [(n, 0)] data = data) ∧
  (∀ (s : State) (poison : Bool) (data : List Byte) (a : DmAccess), s.sec.dm = some a → a.write = true → a.got = some (poison, data) →
    exec (.dmAccessEnd () () ()) s = .next
      ({ s with sec := { s.sec with dm := none } }.setReg Obj.DM_STATUS 0 (State.dmStatus 2 a.parts poison))) ∧
  (∀ (s : State) (a : DmAccess), s.sec.dm = some a → a.got = none → a.held = none → s.after a.at_ (s.reg Obj.DIR_TIMEOUT 0 * 1000) = true →
    exec (.dmAccessEnd () () ()) s = .next
      ({ s with sec := { s.sec with dm := none } }.setReg Obj.DM_STATUS 0 (State.dmStatus 3 a.parts false))) ∧
  (∀ (s : State) (a : DmAccess), s.sec.dm = some a → a.got = none → a.held ≠ none → exec (.dmAccessEnd () () ()) s = .next s) ∧
  (∀ (s : State) (a : DmAccess), s.sec.dm = some a → a.got = none → s.after a.at_ (s.reg Obj.DIR_TIMEOUT 0 * 1000) = false →
    exec (.dmAccessEnd () () ()) s = .next s) ∧
  (∀ (s : State) (p : Nat) (x : CplIn) (e : Rtt) (a : DmAccess), p < 256 → x.isTrk = false → s.dlUp p = true → s.drudar p = false →
    s.inMsg p (s.classOf p x.chan (((s.nextFlit p).map (·.fclass)).getD 0)) = none → s.rtt x.entry = some e → e.claimed = false →
    e.synth = false → e.egress = p → e.orphan = false → e.msg.internal = true → (e.msg.rq < 320 ∨ 336 ≤ e.msg.rq) →
    s.sec.dm = some a → a.uid = e.msg.uid →
    ∃ u : State, exec (.completionRx p x) s = .next u ∧ u.sec.dm = some { a with got := some (x.poison, x.data) } ∧
      u.reg Obj.DM_STATUS 0 = s.reg Obj.DM_STATUS 0)

/-! ### Slot power -/

/-- R15, R268 to R274, R281 to R283, R289, R300: a sample is measured by the feeds, the timers and the breaker of its channel; a feed's time
outside its range, its insertion time and the time of SEAT_N count as they end; a channel that may start turns on the gates of
its feeds in range and, at its output voltage, sets power-good; 100 ms later the bay's reset ends; the averages of 1 000 samples are
published; 10 s of power-good clear the retries; a link restored to a die, a restored feed and a bay's wake act as told. -/
def Obligations.SlotPowerUp : Prop :=
  (∀ (s : State) (c n : Nat) (r : Reading), c < 32 → s.feedUsed c 0 = true → s.reg Obj.FEED_RSHUNT (2 * c) ≠ 0 →
    0 ≤ r.shA → r.shA ≤ 50000000 → (s.reg Obj.CH_CB_MA c : Int) ≤ r.shA / s.reg Obj.FEED_RSHUNT (2 * c) →
    (s.powered c = true ∨ s.flag Obj.CH_PG c = false) →
    ∃ u : State, exec (.channelSample c n r) s = .next u ∧ (u.feed (2 * c)).vin = r.vinA ∧ (u.feed (2 * c)).cur = r.shA / s.reg Obj.FEED_RSHUNT (2 * c) ∧
      (u.feed (2 * c)).n = (s.feed (2 * c)).n + n ∧ (u.slotCh c).vout = r.vout ∧ (u.slotCh c).breaker = (s.slotCh c).breaker + n ∧
      (u.slotCh c).offLeft = (s.slotCh c).offLeft - n ∧ (u.slotCh c).st = (s.slotCh c).st ∧
      u.reg Obj.CH_SEAT c = (if r.seatN then 0 else 1) ∧
      u.reg Obj.FEED_IPEAK (2 * c) = max (s.reg Obj.FEED_IPEAK (2 * c)) (r.shA / s.reg Obj.FEED_RSHUNT (2 * c)).toNat ∧
      s.SameRegs u [Obj.CH_SEAT, Obj.FEED_IPEAK] ∧ u.link = s.link) ∧
  (∀ (s : State) (c x : Nat), c < 32 → x < 2 → s.feedUsed c x = true → (s.feed (2 * c + x)).inWin = true →
    s.reg Obj.CH_UV_FILT c ≤ (s.feed (2 * c + x)).outT →
    exec (.feedWindowExit c x) s = .next (s.setFeed (2 * c + x) { s.feed (2 * c + x) with inWin := false, insT := 0, insDone := false })) ∧
  (∀ (s : State) (c x : Nat), c < 32 → x < 2 → s.feedUsed c x = true → (s.feed (2 * c + x)).inWin = true →
    s.reg Obj.CH_INS_DELAY c * 1000 ≤ (s.feed (2 * c + x)).insT →
    exec (.insertionTimerDone c x) s = .next (s.setFeed (2 * c + x) { s.feed (2 * c + x) with insDone := true })) ∧
  (∀ (s : State) (c : Nat), c < 32 → exec (.seatConfirmed c) s = .next (if s.reg Obj.CH_SEAT_CONFIRM c * 1000 ≤ (s.slotCh c).seatLow then
    s.setSlotCh c { s.slotCh c with seatOk := true } else s)) ∧
  (∀ (s : State) (c : Nat), c < 32 → (s.slotCh c).st = .wait → s.flag Obj.CH_ENABLE c = true → s.startCond c = true →
    (s.slotCh c).offLeft = 0 → (∀ p, s.chPort c = some p → (s.port p).st ≠ .flushing) → s.srcLow c = true → (s.usedFeeds c).any s.feedMayStart = true →
    ∃ u : State, exec (.rampStart c) s = .next u ∧ (u.slotCh c).st = .ramp ∧ (u.slotCh c).rampT = 0 ∧
      (∀ f ∈ s.usedFeeds c, (u.feed f).gate = (s.feedMayStart f || (s.feed f).gate)) ∧ u.regs = s.regs ∧ u.link = s.link) ∧
  (∀ (s : State) (c : Nat), c < 32 → (s.slotCh c).st = .ramp → (s.feed (2 * c)).gate = true → s.usedFeeds c = [2 * c] →
    s.reg Obj.CH_PG_MV c ≤ (s.slotCh c).vout → (s.feed (2 * c)).vin ≤ (s.slotCh c).vout + 500 → (s.slotCh c).breaker = 0 →
    ∃ u : State, exec (.powerGoodSet c) s = .next u ∧ (u.slotCh c).st = .on ∧ (u.slotCh c).pgT = 0 ∧ u.reg Obj.CH_PG c = 1 ∧
      u.dict.seq = (s.dict.seq + 1) % 65536 ∧ s.SameRegs u [Obj.CH_PG]) ∧
  (∀ (s : State) (c p : Nat), c < 32 → s.chPort c = some p → s.flag Obj.CH_PG c = true → 100000 ≤ (s.slotCh c).pgT →
    (s.slotCh c).st = .on →
    exec (.perstRelease c) s = .next (s.setPort p { s.port p with perstReleased := true })) ∧
  (∀ (s : State) (f : Nat), f < 64 → 1000 ≤ (s.feed f).n →
    ∃ u : State, exec (.feedMeasUpdate f) s = .next u ∧ u.reg Obj.FEED_VIN f = (s.feed f).sumV / (s.feed f).n ∧
      u.reg Obj.FEED_VSRC f = (s.feed f).sumS / (s.feed f).n ∧ u.reg Obj.FEED_E f = ((s.feed f).energy / 1000000).toNat % 2 ^ 64 ∧
      (u.feed f).n = 0 ∧ (u.feed f).sumV = 0 ∧
      s.SameRegs u [Obj.FEED_VIN, Obj.FEED_I, Obj.FEED_VSRC, Obj.FEED_P, Obj.FEED_E, Obj.CH_VOUT, Obj.FEED_RDS]) ∧
  (∀ (s : State) (f : Nat), f < 64 → (s.feed f).n < 1000 → exec (.feedMeasUpdate f) s = .next s) ∧
  (∀ (s : State) (c x : Nat), c < 32 → x < 2 → s.feedUsed c x = true → (s.feed (2 * c + x)).gate = false →
    (s.feed (2 * c + x)).inWin = true → (s.feed (2 * c + x)).insDone = true → (s.feed (2 * c + x)).lost = true →
    (s.slotCh c).st = .on →
    ∃ u : State, exec (.feedRestored c x) s = .next u ∧ (u.feed (2 * c + x)).gate = true ∧ (u.feed (2 * c + x)).gateT = 0 ∧
      u.dict.seq = (s.dict.seq + 1) % 65536 ∧ s.SameRegs u []) ∧
  (∀ (s : State) (c : Nat), c < 32 → exec (.retriesReset c) s = .next (if s.flag Obj.CH_PG c = true ∧ 10000000 ≤ (s.slotCh c).pgT then
    s.setReg Obj.CH_RETRIES c 0 else s)) ∧
  (∀ (s : State) (c : Nat), c < 32 → (s.slotCh c).st = .faultOff → (s.slotCh c).offLeft = 0 → (s.slotCh c).retryLeft = 0 →
    s.reg Obj.CH_CAUSE c ≠ 5 → exec (.retryTimerEnd c) s = .next (s.setSlotCh c { s.slotCh c with st := .wait })) ∧
  (∀ (s : State) (d : Nat), d < 2 → ∃ u : State, exec (.slotLinkRestored d) s = .next u ∧ u.reg Obj.SPD_LINK d = 1 ∧
    u.slotp.link.get true (d, 0) = true ∧ u.slotp.ch = s.slotp.ch ∧ s.SameRegs u [Obj.SPD_LINK]) ∧
  (∀ (s : State) (c p : Nat), c < 32 → s.chPort c = some p → s.mode = .hold → (s.port p).st = .l1 → s.pm.waking = false →
    ∃ u : State, exec (.bayWake c) s = .next u ∧ u.pm.waking = true ∧ u.pm.wakeAt = s.clk ∧ u.reg Obj.PM_LAST_WAKE 0 = 4 ∧
      u.mode = .hold ∧ s.SameRegs u [Obj.PM_LAST_WAKE]) ∧
  (∀ (s : State) (c p : Nat), c < 32 → s.chPort c = some p → s.mode = .active → exec (.bayWake c) s = .next s)

/-- R16, R275 to R287: what turns a channel off. Each trip turns off its gates, counts itself and starts the off-time or latches; the loss of
a die's link trips its sixteen channels; a lost feed loses its gate, and the last one its channel; a module withdrawn, a shorted
gate and the end of PERST_WAIT turn the channel off without a trip; a reseat cancels a fault. Power-good falling drives the
bay's reset and takes its link down, of a fast trip in the sample that follows. -/
def Obligations.SlotPowerFaults : Prop :=
  (∀ (s : State) (c x : Nat), c < 32 → x < 2 → s.NoBay c → s.feedUsed c x = true → (s.slotCh c).st = .ramp → (s.feed (2 * c + x)).gate = true →
    (s.feed (2 * c + x)).enh = false → s.reg Obj.CH_GATE_TIMEOUT c * 1000 ≤ (s.feed (2 * c + x)).gateT →
    ∃ u : State, exec (.gateTimeout c x) s = .next u ∧ s.Trips u c 3) ∧
  (∀ (s : State) (c x : Nat), c < 32 → x < 2 → s.NoBay c → s.powered c = true → s.feedUsed c x = true →
    ∃ u : State, exec (.fastTrip c x) s = .next u ∧ s.Trips u c 1) ∧
  (∀ (s : State) (c x p : Nat), c < 32 → x < 2 → s.powered c = true → s.feedUsed c x = true → s.chPort c = some p → p < 256 →
    s.flag Obj.CH_PG c = true → ∃ u : State, exec (.fastTrip c x) s = .next u ∧ u.powered c = false ∧ u.flag Obj.CH_PG c = true ∧
      u.link = s.link) ∧
  (∀ (s : State) (c p n : Nat) (r : Reading), c < 32 → s.powered c = false → s.chPort c = some p → p < 256 →
    s.flag Obj.CH_PG c = true → (s.port p).st = .l0 → s.formed p = true → s.Calm p →
    ∃ u : State, exec (.channelSample c n r) s = .next u ∧ u.flag Obj.CH_PG c = false ∧ (u.port p).perstReleased = false ∧
      (u.port p).dlUp = false ∧ (u.port p).st = .flushing) ∧
  (∀ (s : State) (c : Nat), c < 32 → s.NoBay c → s.powered c = true → s.reg Obj.CH_CB_TIME c ≤ (s.slotCh c).breaker →
    ∃ u : State, exec (.breakerTrip c) s = .next u ∧ s.Trips u c 2) ∧
  (∀ (s : State) (c : Nat), c < 32 → s.NoBay c → (s.slotCh c).st = .on → s.reg Obj.CH_UV_FILT c ≤ (s.slotCh c).uvT →
    ∃ u : State, exec (.outputUvTrip c) s = .next u ∧ s.Trips u c 4) ∧
  (∀ (s : State) (d : Nat), d < 2 → s.reg Obj.SPD_LINK d ≠ 0 → (∀ k < 16, s.NoBay (16 * d + k)) →
    ∃ u : State, exec (.slotLinkLost d) s = .next u ∧ u.reg Obj.SPD_LINK d = 0 ∧
      u.reg Obj.SPD_LINK_LOSS_CNT d = min (s.reg Obj.SPD_LINK_LOSS_CNT d + 1) 0xFFFF_FFFF ∧
      (∀ k < 16, u.reg Obj.CH_CAUSE (16 * d + k) = 5 ∧ (u.feed (2 * (16 * d + k))).gate = false ∧
        (u.feed (2 * (16 * d + k) + 1)).gate = false ∧ u.flag Obj.CH_PG (16 * d + k) = false ∧
        u.reg Obj.CH_RETRIES (16 * d + k) = s.reg Obj.CH_RETRIES (16 * d + k))) ∧
  (∀ (s : State) (d : Nat), d < 2 → s.reg Obj.SPD_LINK d = 0 → exec (.slotLinkLost d) s = .next s) ∧
  (∀ (s : State) (c : Nat), c < 32 → s.usedFeeds c = [2 * c, 2 * c + 1] → (s.feed (2 * c)).gate = true → (s.feed (2 * c)).inWin = false →
    (s.feed (2 * c + 1)).gate = true →
    ∃ u : State, exec (.feedLost c 0) s = .next u ∧ (u.feed (2 * c)).gate = false ∧ (u.feed (2 * c)).lost = true ∧
      (u.feed (2 * c + 1)).gate = true ∧ u.slotCh c = s.slotCh c ∧ u.dict.seq = (s.dict.seq + 1) % 65536 ∧ s.SameRegs u []) ∧
  (∀ (s : State) (c : Nat), c < 32 → s.NoBay c → s.usedFeeds c = [2 * c] → (s.feed (2 * c)).gate = true →
    (s.feed (2 * c)).inWin = false → (s.slotCh c).st = .on →
    ∃ u : State, exec (.feedLost c 0) s = .next u ∧ s.TurnedOff u c (s.feed (2 * c)).exit .wait []) ∧
  (∀ (s : State) (c : Nat), c < 32 → 1000000 ≤ (s.slotCh c).shareT → s.dict.limited.get 0 (0x7009, c) = 0 →
    ∃ u : State, exec (.shareLimit c) s = .next u ∧ s.EventOnly u ∧ u.dict.seq = (s.dict.seq + 1) % 65536) ∧
  (∀ (s : State) (c : Nat), c < 32 → (s.slotCh c).shareT < 1000000 → exec (.shareLimit c) s = .next s) ∧
  (∀ (s : State) (c : Nat), c < 32 → s.NoBay c → s.powered c = true → s.reg Obj.CH_START_MODE c ≠ 0 →
    s.reg Obj.CH_SEAT_OPEN_FILT c ≤ (s.slotCh c).seatHigh →
    ∃ u : State, exec (.seatOpen c) s = .next u ∧ s.TurnedOff u c 9 .wait []) ∧
  (∀ (s : State) (c : Nat), c < 32 → (s.slotCh c).st = .latched → s.reg Obj.CH_START_MODE c ≠ 0 → s.reg Obj.CH_CAUSE c ≠ 5 →
    20000 ≤ (s.slotCh c).seatHigh →
    ∃ u : State, exec (.faultCancelled c) s = .next u ∧ u.slotCh c = { s.slotCh c with st := .wait, retryLeft := 0 } ∧
      u.reg Obj.CH_RETRIES c = 0 ∧ s.SameRegs u [Obj.CH_RETRIES]) ∧
  (∀ (s : State) (c x : Nat), c < 32 → x < 2 → s.NoBay c → s.feedUsed c x = true → (s.slotCh c).st ≠ .short →
    (s.feed (2 * c + x)).gate = false → 10000 ≤ (s.feed (2 * c + x)).offT → (s.feed (2 * c + x)).inWin = true →
    2000 ≤ (s.feed (2 * c + x)).src →
    ∃ u : State, exec (.fetShort c x) s = .next u ∧ s.TurnedOff u c 12 .short [] ∧ (u.feed (2 * c + x)).shorted = true) ∧
  (∀ (s : State) (c : Nat), c < 32 → s.NoBay c → (s.slotCh c).st = .perstWait → 1000 ≤ (s.slotCh c).waitT →
    ∃ u : State, exec (.perstWaitEnd c) s = .next u ∧ s.TurnedOff u c 10 .off [])

/-! ### Power modes and supplies -/

/-- R294 to R299, R307, R308: an entry quiesces, takes its links to L1, and commits where the cores have reached their wait; the mode, the
previous mode and the handle change then and only then; what runs out of its time fails the entry, whose undo leaves the mode as it was;
TRIM and SERVICE end their handles when the drained units allow. -/
def Obligations.ModeEntries : Prop :=
  (∀ s : State, s.pm.step = .quiesce → s.pm.undoing = false → s.quiet = true → s.pm.target = .sentinel →
    exec .pmQuiesceDone s = .next (s.setPm { s.pm with step := .cores })) ∧
  (∀ s : State, s.pm.step = .quiesce → s.pm.undoing = false → s.quiet = true → s.pm.target = .hold → s.cxlL0 ≠ [] →
    ∃ u : State, exec .pmQuiesceDone s = .next u ∧ u.pm.step = .links ∧ u.regs = s.regs ∧
      ∀ p ∈ s.cxlL0, u.port p = { s.port p with l1Req := true } ∧ u.pm.l1At.get 0 (p, 0) = s.clk + 1) ∧
  (∀ s : State, s.quiet = false → exec .pmQuiesceDone s = .next s) ∧
  (∀ (s : State) (p n : Nat), p < 256 → s.pm.step = .links → s.pm.undoing = false → s.pm.l1At = [((p, 0), n + 1)] → (s.port p).st = .l0 →
    s.dlUp p = true → ∃ u : State, exec (.pmPortL1 p) s = .next u ∧ (u.port p).st = .l1 ∧ u.pm.step = .cores ∧
      (∀ q, q ≠ p → u.port q = s.port q)) ∧
  (∀ s : State, s.mayCommit = true → s.pm.target = .hold →
    ∃ u : State, exec .pmCommitPoint s = .next u ∧ u.mode = .hold ∧ u.pm.step = .idle ∧ u.pm.prev = s.mode ∧ u.pm.commitAt = s.clk ∧
      u.reg Obj.PM_PREV_MODE 0 = s.mode.num ∧ (u.lop s.pm.lop).st = .committed ∧ u.fab = s.fab ∧ u.coh = s.coh) ∧
  (∀ s : State, s.mayCommit = true → s.pm.target = .sentinel → s.pm.avsFault = false →
    ∃ u : State, exec .pmCommitPoint s = .next u ∧ u.mode = .sentinel ∧ u.pm.step = .idle ∧ u.reg Obj.PM_PREV_MODE 0 = s.mode.num ∧
      (u.lop s.pm.lop).st = .committed ∧ u.sec.ide = []) ∧
  (∀ s : State, s.mayCommit = true → s.pm.target = .sentinel → s.pm.avsFault = true →
    exec .pmCommitPoint s = .next (s.setPm { s.pm with undoing := true, cause := 5, causePort := 0xFFFF })) ∧
  (∀ s : State, s.mayCommit = true → s.mode = .active → s.pm.target = .trim → maskOut s.trimLC (s.reg Obj.PM_GATED_LC 0) = 0 →
    ∃ u : State, exec .pmCommitPoint s = .next u ∧ u.mode = .trim ∧ u.pm.step = .idle ∧ (u.lop s.pm.lop).st = .committed ∧
      (∀ c < 8, s.reg Obj.CAIRN_SLICES 0 ≤ c → bit (u.reg Obj.PM_GATED_SLICES 0) c = true) ∧ u.link = s.link ∧
      ∀ o i, o ∉ [Obj.PM_PREV_MODE, Obj.PM_GATED_SLICES, Obj.INT_CAUSE, Obj.EVT_DROPPED] →
        (o / 256 = 0x5040 ∨ o / 256 = 0x5070 → i < s.reg Obj.CAIRN_SLICES 0) → u.reg o i = s.reg o i) ∧
  (∀ s : State, s.mayCommit = true → s.pm.target = .service →
    ∃ u : State, exec .pmCommitPoint s = .next u ∧ u.mode = .service ∧ u.pm.stop = true ∧ (u.lop s.pm.lop).st = .committed ∧
      s.SameRegs u [Obj.PM_PREV_MODE] ∧ u.link = s.link ∧ u.fab = s.fab) ∧
  (∀ s : State, s.mayCommit = true → s.mode = .trim → s.pm.target = .active → s.reg Obj.PM_GATED_SLICES 0 = 0 →
    s.reg Obj.PM_GATED_LC 0 = 0 → s.pm.ramp = [] →
    ∃ u : State, exec .pmCommitPoint s = .next u ∧ u.mode = .active ∧ (u.lop s.pm.lop).st = .done ∧ u.pm.lop = 64 ∧
      s.SameRegs u [Obj.PM_PREV_MODE]) ∧
  (∀ s : State, s.mayCommit = false → exec .pmCommitPoint s = .next s) ∧
  (∀ s : State, s.pm.step ≠ .idle → s.pm.undoing = false → s.after s.pm.start (s.reg Obj.PM_QUIESCE_MAX 0 * 1000000) = true →
    exec .pmQuiesceTimeout s = .next (s.setPm { s.pm with undoing := true, cause := 1, causePort := 0xFFFF })) ∧
  (∀ (s : State) (p n : Nat), p < 256 → s.pm.step = .links → s.pm.undoing = false → s.pm.l1At.get 0 (p, 0) = n + 1 → (s.port p).st ≠ .l1 →
    s.after n (s.reg Obj.PM_L1_TIMEOUT 0 * 1000000) = true →
    exec (.pmL1Timeout p) s = .next (s.setPm { s.pm with undoing := true, cause := 2, causePort := p })) ∧
  (∀ s : State, s.pm.step ≠ .idle → s.pm.undoing = true → s.pm.cause ≠ 255 →
    (∀ a, s.sec.dm = some a → a.held = none) →
    ∃ u : State, exec .pmUndoDone s = .next u ∧ u.mode = s.mode ∧ u.pm.step = .idle ∧ u.pm.undoing = false ∧ u.pm.lop = 64 ∧
      (u.lop s.pm.lop).st = .failed ∧ (u.lop s.pm.lop).cause = s.pm.cause ∧ (s.mode ≠ .service → u.pm.stop = false)) ∧
  (∀ s : State, s.pm.step ≠ .idle → s.pm.undoing = true → s.pm.cause = 255 →
    (∀ a, s.sec.dm = some a → a.held = none) →
    ∃ u : State, exec .pmUndoDone s = .next u ∧ u.mode = s.mode ∧ (u.lop s.pm.lop).st = .aborted ∧
      (u.lop s.pm.lop).result = Ab.ABORTED) ∧
  (∀ s : State, s.pm.lop < 64 → (s.lop s.pm.lop).st = .committed → (s.lop s.pm.lop).arg = 2 → s.mode = .trim → s.pm.waking = false →
    s.pm.ramp = [] → (∀ p < 256, s.gatedLC (p / 8) = true → (s.port p).st ≠ .flushing) →
    ∃ u : State, exec .trimEntryDone s = .next u ∧ (u.lop s.pm.lop).st = .done ∧ u.pm.lop = 64 ∧ u.mode = .trim ∧ s.SameRegs u []) ∧
  (∀ s : State, s.pm.lop < 64 → (s.lop s.pm.lop).st = .committed → (s.lop s.pm.lop).arg = 5 → s.mode = .service → s.fab.rtt = [] →
    s.coh.trk = [] → s.coh.evict = [] → s.coh.reqs = [] → s.fab.hold = [] →
    ∃ u : State, exec .serviceDrainDone s = .next u ∧ (u.lop s.pm.lop).st = .done ∧ u.pm.lop = 64 ∧ u.mode = .service ∧ s.SameRegs u []) ∧
  (∀ s : State, s.fab.rtt ≠ [] → exec .serviceDrainDone s = .next s)

/-- R300 to R306: what wakes the part, and how it wakes. Each source starts the one wake and is recorded; the regulator, the PLLs, the ramp of
the blocks in order and the memories follow; the warning ends 2 µs after the last. A voltage is written only within its bounds, is retried
once, and its readback is kept. -/
def Obligations.WakesAndSupplies : Prop :=
  (∀ s : State, s.mode = .hold → s.pm.waking = false → bit (s.reg Obj.INT_WAKE_TRANSPORT 0) 0 = true →
    ∃ u : State, exec (.wakeStart .transport) s = .next u ∧ u.pm.waking = true ∧ u.pm.vr = true ∧ u.pm.lowAt = s.clk + 1 ∧
      u.reg Obj.PM_LAST_WAKE 0 = 2 ∧ u.mode = .hold ∧ s.SameRegs u [Obj.PM_LAST_WAKE]) ∧
  (∀ s : State, s.mode.sleeps = true → s.pm.waking = false → s.wakeInt = true →
    ∃ u : State, exec (.wakeStart .interrupt) s = .next u ∧ u.pm.waking = true ∧ u.reg Obj.PM_LAST_WAKE 0 = 1 ∧ u.mode = s.mode ∧
      s.SameRegs u [Obj.PM_LAST_WAKE]) ∧
  (∀ (s : State) (p : Nat), p < 256 → s.mode = .hold → s.pm.waking = false → (s.port p).st = .l1 → s.drudar p = false →
    ∃ u : State, exec (.wakeStart (.partner p)) s = .next u ∧ u.pm.waking = true ∧ u.reg Obj.PM_LAST_WAKE 0 = 16 ∧ u.mode = .hold ∧
      s.SameRegs u [Obj.PM_LAST_WAKE]) ∧
  (∀ (s : State) (b : WakeSrc), s.mode = .active → exec (.wakeStart b) s = .next s) ∧
  (∀ s : State, s.mode.sleeps = true → s.pm.waking = false → s.reg Obj.PM_WAKE_AFTER 0 ≠ 0 →
    s.after s.pm.commitAt (s.reg Obj.PM_WAKE_AFTER 0 * 1000000) = true →
    ∃ u : State, exec .wakeTimer s = .next u ∧ u.pm.waking = true ∧ u.reg Obj.PM_LAST_WAKE 0 = 8 ∧ u.mode = s.mode ∧
      s.SameRegs u [Obj.PM_LAST_WAKE]) ∧
  (∀ s : State, s.reg Obj.PM_WAKE_AFTER 0 = 0 → exec .wakeTimer s = .next s) ∧
  (∀ s : State, s.pm.waking = true → s.pm.vr = false → exec .vrSettled s = .next (s.setPm { s.pm with
    vr := true, lowAt := s.clk + 1, avsSet := s.reg Obj.PM_VCORE_PLAN 0, avsTarget := 0, avsTries := 0 })) ∧
  (∀ s : State, s.pm.waking = true → s.pm.vr = true → s.pm.pll = false → exec .pllLocked s = .next (s.setPm { s.pm with
    pll := true, lockAt := s.clk, rampAt := max s.clk (s.pm.lowAt - 1 + s.reg Obj.PM_DIDT_LEAD 0 * nsUnit) })) ∧
  (∀ (s : State) (b d : Nat) (r : List Nat), s.pm.ramp = b :: d :: r → s.pm.rampAt ≠ 0 → b < 15 →
    s.pm.rampAt + rampAmps b * 1000 * nsUnit / max 1 (s.reg Obj.PM_DIDT_SLEW 0) ≤ s.clk →
    ∃ u : State, exec .rampChainClosed s = .next u ∧ u.pm.ramp = d :: r ∧
      u.pm.rampAt = s.pm.rampAt + rampAmps b * 1000 * nsUnit / max 1 (s.reg Obj.PM_DIDT_SLEW 0) ∧ u.pm.rampEnd = u.pm.rampAt ∧
      u.reg Obj.PM_GATED_SLICES 0 =
        (if 7 ≤ b then clrBit (s.reg Obj.PM_GATED_SLICES 0) (b - 7) else s.reg Obj.PM_GATED_SLICES 0) ∧
      s.SameRegs u [Obj.PM_GATED_SLICES]) ∧
  (∀ s : State, s.pm.ramp = [] → exec .rampChainClosed s = .next s) ∧
  (∀ s : State, exec .hbmReady s = .next (if s.pm.waking = true ∧ s.pm.pll = true ∧ 1 ∉ s.pm.ramp ∧ 2 ∉ s.pm.ramp then
    s.setPm { s.pm with hbm := true } else s)) ∧
  (∀ s : State, s.pm.lowAt ≠ 0 → s.pm.ramp = [] → s.pm.waking = false → s.after s.pm.rampEnd 2000 = true → s.after s.pm.readyAt 2000 = true →
    s.pm.lop < 64 → (s.lop s.pm.lop).st = .committed → (modeOf (s.lop s.pm.lop).arg).sleeps = true →
    ∃ u : State, exec .didtWakeRelease s = .next u ∧ u.pm.lowAt = 0 ∧ u.pm.lop = 64 ∧ (u.lop s.pm.lop).st = .done ∧ u.mode = s.mode ∧
      s.SameRegs u []) ∧
  (∀ s : State, s.after s.pm.rampEnd 2000 = false → exec .didtWakeRelease s = .next s) ∧
  (∀ (s : State) (mv : Nat), 650 ≤ mv → mv ≤ 850 → mv = s.reg Obj.PM_VCORE_PLAN 0 →
    exec (.avsVoltageWrite mv true) s = .next (s.setPm { s.pm with avsSet := mv, avsTarget := 0, avsTries := 0, avsFault := false }) ∧
    exec (.avsVoltageWrite mv false) s = .next (s.setPm { s.pm with avsTarget := mv, avsTries := 1, avsAt := s.clk })) ∧
  (∀ (s : State) (mv : Nat) (confirmed : Bool), mv < 650 ∨ 850 < mv → exec (.avsVoltageWrite mv confirmed) s = .next s) ∧
  (∀ s : State, s.pm.avsTarget ≠ 0 → s.after s.pm.avsAt 1000000 = true → s.pm.avsTries < 2 →
    exec .avsWriteTimeout s = .next ((s.setReg Obj.AVS_ERR_CNT 0 (min (s.reg Obj.AVS_ERR_CNT 0 + 1) 0xFFFF_FFFF)).setPm
      { s.pm with avsTries := 2, avsAt := s.clk })) ∧
  (∀ s : State, s.pm.avsTarget ≠ 0 → s.after s.pm.avsAt 1000000 = true → 2 ≤ s.pm.avsTries →
    ∃ u : State, exec .avsWriteTimeout s = .next u ∧ u.pm.avsFault = true ∧ u.pm.avsTarget = 0 ∧
      u.reg Obj.AVS_ERR_CNT 0 = min (s.reg Obj.AVS_ERR_CNT 0 + 1) 0xFFFF_FFFF ∧ u.dict.seq = (s.dict.seq + 1) % 65536 ∧
      s.SameRegs u [Obj.AVS_ERR_CNT]) ∧
  (∀ (s : State) (mv amps : Nat), s.mode = .active → mv < 65536 → amps < 65536 → mv ≤ s.pm.avsSet + 25 → s.pm.avsSet ≤ mv + 25 →
    ∃ u : State, exec (.avsPoll mv amps) s = .next u ∧ u.reg Obj.AVS_VREAD_MV 0 = mv ∧ u.reg Obj.AVS_IREAD 0 = amps ∧
      u.pm.avsOff = 0 ∧ s.SameRegs u [Obj.AVS_VREAD_MV, Obj.AVS_IREAD] ∧ u.dict = s.dict)

/-! ### Interrupts and counters -/

/-- R310, R313 to R320: a pending source that its target may take is delivered to it, or to its target's fallback where the target is
asleep and not wakeable, which is counted, or to the BMC where the fallback sleeps too; a claim takes the best delivered source of the target and reports it; a completion by the target in whose
service the source is takes it out of service, and its level makes it pending again; a doorbell is a level that is sampled. -/
def Obligations.InterruptService : Prop :=
  (∀ (s : State) (n : Nat) (waits : Bool), n < 1024 → (s.intSrc n).pending = true → (s.intSrc n).delivered = none →
    (s.intSrc n).owner = none → s.reg Obj.INT_TARGET n = 4 → s.deliverable n = true →
    exec (.intDeliver ⟨n, waits⟩) s = .next (s.setIntSrc n { s.intSrc n with delivered := some 4 })) ∧
  (∀ (s : State) (n t : Nat) (waits : Bool), n < 1024 → (s.intSrc n).pending = true → (s.intSrc n).delivered = none →
    (s.intSrc n).owner = none → s.reg Obj.INT_TARGET n = t → t < 4 → s.deliverable n = true → bit (s.reg Obj.RIDGE_HALT 0) t = false →
    (waits = true → s.flag Obj.INT_TGT_WAKEABLE t = true) →
    ∃ u : State, exec (.intDeliver ⟨n, waits⟩) s = .next u ∧ u.intSrc n = { s.intSrc n with delivered := some t } ∧
      u.intc.waits.get false (t, 0) = false ∧ (∀ m, m ≠ n → u.intSrc m = s.intSrc m) ∧ u.regs = s.regs ∧ u.fab = s.fab ∧
      u.link = s.link ∧ u.dict = s.dict) ∧
  (∀ (s : State) (n t f : Nat) (waits : Bool), n < 1024 → (s.intSrc n).pending = true → (s.intSrc n).delivered = none →
    (s.intSrc n).owner = none → s.reg Obj.INT_TARGET n = t → s.deliverable n = true →
    (t < 4 ∧ (bit (s.reg Obj.RIDGE_HALT 0) t = true ∨ waits = true ∧ s.flag Obj.INT_TGT_WAKEABLE t = false)) ∨ (t = 5 ∧ s.fmPorts = []) →
    s.reg Obj.INT_TGT_FALLBACK t = f → f = 4 ∨ (f < 4 ∧ f ≠ t) →
    ∃ u : State, exec (.intDeliver ⟨n, waits⟩) s = .next u ∧
      u.intSrc n = { s.intSrc n with delivered := some (if s.tgtState f = 2 then 4 else f) } ∧
      u.reg Obj.INT_FALLBACK_CNT t = min (s.reg Obj.INT_FALLBACK_CNT t + 1) 0xFFFF_FFFF ∧ s.SameRegs u [Obj.INT_FALLBACK_CNT]) ∧
  (∀ (s : State) (n : Nat) (waits : Bool), n < 1024 → s.deliverable n = false → exec (.intDeliver ⟨n, waits⟩) s = .next s) ∧
  (∀ (s : State) (t n : Nat), t < 6 → s.flag Obj.INT_GLOBAL_EN 0 = true → s.ridgeClock = true → s.bestClaim t = some n →
    exec (.intClaim t) s = .next (((s.setIntSrc n { s.intSrc n with owner := some t }).wakeCore t).emit
      (.claimed t (n + 65536 * s.reg Obj.INT_PRIO n + (if s.intLevel n then 2 ^ 24 else 0) + 2 ^ 31)))) ∧
  (∀ (s : State) (t : Nat), t < 6 → s.bestClaim t = none → exec (.intClaim t) s = .next ((s.wakeCore t).emit (.claimed t 0))) ∧
  (∀ (s : State) (t n : Nat), t < 6 → (s.intSrc n).owner = some t →
    exec (.intComplete t n) s = .next (s.setIntSrc n { pending := s.intLevel n, delivered := none, owner := none })) ∧
  (∀ (s : State) (t n : Nat), t < 6 → (s.intSrc n).owner ≠ some t → exec (.intComplete t n) s = .next s) ∧
  (∀ (s : State) (c : Nat), c < 4 → s.ridgeClock = true → s.flag Obj.INT_ENABLE (1016 + c) = true →
    bit (s.reg Obj.INT_CAUSE_EN (1016 + c)) 0 = true →
    ∃ u : State, exec (.doorbellSet c true) s = .next u ∧ u.intCause (1016 + c) = 1 ∧ (u.intSrc (1016 + c)).pending = true ∧
      u.regs = s.regs ∧ ∀ n, n ≠ 1016 + c → u.intSrc n = s.intSrc n) ∧
  (∀ (s : State) (c : Nat), c < 4 → ∃ u : State, exec (.doorbellSet c false) s = .next u ∧ u.intCause (1016 + c) = 0 ∧ u.intc.src = s.intc.src ∧
    u.regs = s.regs)

/-- R325, R327, R328, R330 to R332: a tick adds to each counter that runs what it selects of the cycle's events, in 48 bits, unless a write
of the cycle discards it; with FCLK off nothing counts. An overflow sets its bit and, with a record still valid, is counted as lost;
a capture of 64 cycles closes into a valid record and stops the set where FREEZE says so. -/
def Obligations.CountersCount : Prop :=
  (∀ (s : State) (i k : Nat), s.ridgeClock = true → s.runningCounters = [i] → s.runningSets = [k] → s.cnt.fresh.get false (i, 0) = false →
    ∃ u : State, exec .counterTick s = .next u ∧
      u.reg Obj.CNT_VALUE i = (s.reg Obj.CNT_VALUE i + (s.increment i (s.selected i)).1) % 2 ^ 48 ∧
      u.reg Obj.CNT_CYCLES k = (s.reg Obj.CNT_CYCLES k + 1) % 2 ^ 64 ∧ u.cnt.evts = [] ∧ u.cnt.fresh = [] ∧
      (bit (u.cnt.ovfNow.get 0 (i / 8, 0)) (i % 8) = true ↔
        (2 ^ 48 ≤ s.reg Obj.CNT_VALUE i + (s.increment i (s.selected i)).1 ∨ bit (s.cnt.ovfNow.get 0 (i / 8, 0)) (i % 8) = true)) ∧
      s.SameRegs u [Obj.CNT_VALUE, Obj.CNT_CYCLES] ∧ u.fab = s.fab ∧ u.link = s.link) ∧
  (∀ (s : State) (i k : Nat), s.ridgeClock = true → s.runningCounters = [i] → s.runningSets = [k] → s.cnt.fresh.get false (i, 0) = true →
    ∃ u : State, exec .counterTick s = .next u ∧ u.reg Obj.CNT_VALUE i = s.reg Obj.CNT_VALUE i % 2 ^ 48 ∧
      u.reg Obj.CNT_CYCLES k = (s.reg Obj.CNT_CYCLES k + 1) % 2 ^ 64) ∧
  (∀ s : State, s.ridgeClock = false → exec .counterTick s = .next s) ∧
  (∀ (s : State) (k j : Nat), k < 65 → j < 8 → bit (s.cnt.ovfNow.get 0 (k, 0)) j = true →
    (bit (s.reg Obj.CNT_SMP_MASK k) j = false ∨ bit (s.reg Obj.CNT_CTL k) 2 = false) →
    ∃ u : State, exec (.cntOverflow (8 * k + j)) s = .next u ∧ bit (u.reg Obj.CNT_OVF k) j = true ∧
      bit (u.cnt.ovfNow.get 0 (k, 0)) j = false ∧ u.cnt.cap = s.cnt.cap ∧ s.SameRegs u [Obj.CNT_OVF]) ∧
  (∀ (s : State) (k j : Nat), k < 65 → j < 8 → bit (s.cnt.ovfNow.get 0 (k, 0)) j = true → bit (s.reg Obj.CNT_SMP_MASK k) j = true →
    bit (s.reg Obj.CNT_CTL k) 2 = true → s.cnt.cap.get none (k, 0) = none → s.cnt.recValid.get false (k, 0) = false →
    ∃ (u : State) (a : Capture), exec (.cntOverflow (8 * k + j)) s = .next u ∧ u.cnt.cap.get none (k, 0) = some a ∧ a.first = 8 * k + j ∧
      a.mask = 2 ^ j ∧ a.cycles = 0 ∧ bit (u.reg Obj.CNT_OVF k) j = true ∧ s.SameRegs u [Obj.CNT_OVF]) ∧
  (∀ (s : State) (k j : Nat), k < 65 → j < 8 → bit (s.cnt.ovfNow.get 0 (k, 0)) j = true → bit (s.reg Obj.CNT_SMP_MASK k) j = true →
    bit (s.reg Obj.CNT_CTL k) 2 = true → s.cnt.cap.get none (k, 0) = none → s.cnt.recValid.get false (k, 0) = true →
    ∃ u : State, exec (.cntOverflow (8 * k + j)) s = .next u ∧ u.reg Obj.SMP_LOST k = min (s.reg Obj.SMP_LOST k + 1) 0xFFFF_FFFF ∧
      u.reg Obj.SMP_RECORD k = s.reg Obj.SMP_RECORD k ∧ u.cnt.cap = s.cnt.cap) ∧
  (∀ (s : State) (k j : Nat), k < 65 → j < 8 → bit (s.cnt.ovfNow.get 0 (k, 0)) j = false → exec (.cntOverflow (8 * k + j)) s = .next s) ∧
  (∀ (s : State) (k : Nat) (a : Capture), k < 65 → s.cnt.cap.get none (k, 0) = some a → 64 ≤ a.cycles ∨ 64 ≤ a.events →
    ∃ u : State, exec (.captureClose k) s = .next u ∧ u.cnt.cap.get none (k, 0) = none ∧ u.cnt.recValid.get false (k, 0) = true ∧
      u.reg Obj.SMP_RECORD k = ofBytes (s.sampleRecord k a (bit (s.reg Obj.CNT_CTL k) 1)) ∧
      u.reg Obj.CNT_CTL k = (if bit (s.reg Obj.CNT_CTL k) 1 then clrBit (s.reg Obj.CNT_CTL k) 0 else s.reg Obj.CNT_CTL k) ∧
      u.dict.seq = (s.dict.seq + 1) % 65536 ∧ s.SameRegs u [Obj.SMP_RECORD, Obj.CNT_CTL]) ∧
  (∀ (s : State) (k : Nat) (a : Capture), k < 65 → s.cnt.cap.get none (k, 0) = some a → a.cycles < 64 → a.events < 64 →
    exec (.captureClose k) s = .next s)

/-! ### Firmware verification, SPDM, link encryption, debug -/

/-- R337, R338: a verified update names its area in the boot pointer, unconfirmed, and its handle is DONE; a failed one changes no
object and its handle is FAILED with the cause; an image not confirmed in its window gives way to the other. -/
def Obligations.FirmwareVerdicts : Prop :=
  (∀ (s : State) (h : Nat), s.fwLop = some h → (s.lop h).st = .running → s.ridgeClock = true →
    s.fwVerdict (s.lop h).arg true true true true = 0 →
    ∃ u : State, exec (.fwVerifyDone true true true true) s = .next u ∧ u.reg Obj.FW_BOOT_PTR 0 = (s.lop h).arg ∧
      u.reg Obj.FW_CONFIRMED 0 = 0 ∧ (u.lop h).st = .done ∧ (u.lop h).commit = s.now ∧ u.sec.fwBack = false ∧ u.sec.fwDogs = 0 ∧
      u.sec.fuse = s.sec.fuse ∧ u.sec.images = s.sec.images ∧ s.SameRegs u [Obj.FW_BOOT_PTR, Obj.FW_CONFIRMED]) ∧
  (∀ (s : State) (h : Nat) (key sig body flash : Bool), s.fwLop = some h → (s.lop h).st = .running → s.ridgeClock = true →
    s.fwVerdict (s.lop h).arg key sig body flash ≠ 0 →
    ∃ u : State, exec (.fwVerifyDone key sig body flash) s = .next u ∧ (u.lop h).st = .failed ∧ (u.lop h).result = Ab.OP_FAILED ∧
      (u.lop h).cause = s.fwVerdict (s.lop h).arg key sig body flash ∧ u.sec = s.sec ∧ s.SameRegs u []) ∧
  (∀ (s : State) (key sig body flash : Bool), s.fwLop = none → exec (.fwVerifyDone key sig body flash) s = .next s) ∧
  (∀ s : State, s.sec.fwAt ≠ 0 → s.reg Obj.FW_CONFIRMED 0 = 0 → s.sec.fwBack = false →
    s.after (s.sec.fwAt - 1) (s.reg Obj.FW_CONFIRM_WINDOW 0 * 1000000000) = true →
    ∃ u : State, exec .fwConfirmTimeout s = .next u ∧ u.reg Obj.FW_BOOT_PTR 0 = 1 - s.reg Obj.FW_BOOT_PTR 0 ∧
      u.sec = { s.sec with fwAt := 0, fwDogs := 0, fwBack := true } ∧ u.dict.seq = (s.dict.seq + 1) % 65536 ∧
      s.SameRegs u [Obj.FW_BOOT_PTR]) ∧
  (∀ s : State, s.sec.fwAt = 0 → exec .fwConfirmTimeout s = .next s)

/-- R339, R340: the responder's answers, on a carrier that is there, and what they leave behind: nothing but the answer, a fresh nonce, or
the list of sessions. What the answers hold beyond the spec is opaque (the response codes are the model's, log entry 88). -/
def Obligations.SpdmAnswers : Prop :=
  (∀ (s : State) (via : SpdmVia) (c : Instr) (code arg : Nat), s.spdmOn via = true →
    (c, code, arg) ∈ [(Instr.spdmGetVersion via, 0x84, 0), (Instr.spdmGetCapabilities via, 0xE1, 0),
      (Instr.spdmNegotiateAlgorithms via, 0xE3, 0), (Instr.spdmGetDigests via, 0x81, s.sec.alias_)] →
    exec c s = .next (s.emit (.spdm via code (Config.spdmBytes code arg)))) ∧
  (∀ (s : State) (via : SpdmVia) (offset length : Nat), s.spdmOn via = true →
    exec (.spdmGetCertificate via 0 offset length) s =
      .next (s.emit (.spdm via 0x82 (((Config.spdmBytes 0x82 s.sec.alias_).drop offset).take length)))) ∧
  (∀ (s : State) (via : SpdmVia) (slot offset length : Nat), s.spdmOn via = true → slot ≠ 0 →
    exec (.spdmGetCertificate via slot offset length) s = .next (s.emit (.spdm via 0x7F [0x01])) ∧
    exec (.spdmChallenge via slot) s = .next (s.emit (.spdm via 0x7F [0x01]))) ∧
  (∀ (s : State) (via : SpdmVia), s.spdmOn via = true →
    exec (.spdmChallenge via 0) s =
      .next (s.nextFree.emit (.spdm via 0x83 (toBytes 32 s.freeVal ++ Config.spdmBytes 0x83 s.sec.alias_)))) ∧
  (∀ (s : State) (via : SpdmVia), s.spdmOn via = true →
    exec (.spdmGetMeasurements via 0) s = .next (s.emit (.spdm via 0xE0 [5])) ∧
    exec (.spdmGetMeasurements via 4) s = .next (s.emit (.spdm via 0xE0 (toBytes 1 s.lcState ++ toBytes 1 (s.reg Obj.LC_PENDING 0) ++
      toBytes 1 s.sec.fuse.svn ++ Config.spdmBytes 0xE0 s.sec.alias_))) ∧
    exec (.spdmGetMeasurements via 5) s = .next (s.emit (.spdm via 0xE0 (toBytes 1 (s.reg Obj.DBG_LEVEL 0) ++ toBytes 1 s.sec.dbgTop ++
      Config.spdmBytes 0xE0 s.sec.alias_)))) ∧
  (∀ (s : State) (via : SpdmVia), s.spdmOn via = true → s.sec.sessions.length < 8 →
    ∃ u : State, exec (.spdmKeyExchange via) s = .next u ∧
      u.sec.sessions = s.sec.sessions ++ [{ id := s.sec.sessionId, via := via, ready := false }] ∧
      u.reg Obj.SPDM_SESSIONS 0 = s.sec.sessions.length + 1 ∧ u.sec.sessionId = s.sec.sessionId + 1 ∧
      .spdm via 0xE4 (toBytes 4 s.sec.sessionId ++ toBytes 1 (match via with | .peer _ => 1 | _ => 0) ++
        Config.spdmBytes 0xE4 s.sec.sessionId) ∈ u.out ∧
      u.dict.seq = (s.dict.seq + 1) % 65536 ∧ s.SameRegs u [Obj.SPDM_SESSIONS]) ∧
  (∀ (s : State) (via : SpdmVia), s.spdmOn via = true → 8 ≤ s.sec.sessions.length →
    exec (.spdmKeyExchange via) s = .next (s.emit (.spdm via 0x7F [0x0A]))) ∧
  (∀ (s : State) (id : Nat) (x : Session), s.sec.sessions = [x] → x.id = id → s.spdmOn x.via = true →
    exec (.spdmFinish id true) s = .next ((s.setSessions [{ x with ready := true }]).emit (.spdm x.via 0xE5 [])) ∧
    exec (.spdmHeartbeat id) s = .next (s.emit (.spdm x.via 0xE8 [])) ∧
    exec (.spdmKeyUpdate id) s = .next (s.emit (.spdm x.via 0xE9 []))) ∧
  (∀ (s : State) (c : Instr) (id code : Nat) (bytes : List Byte) (x : Session), s.sec.sessions = [x] → x.id = id → s.spdmOn x.via = true →
    (c, code, bytes) ∈ [(Instr.spdmFinish id false, 0x7F, [0x06]), (Instr.spdmEndSession id, 0xEC, [])] →
    ∃ u : State, exec c s = .next u ∧ u.sec.sessions = [] ∧ u.reg Obj.SPDM_SESSIONS 0 = 0 ∧ .spdm x.via code bytes ∈ u.out ∧
      u.dict.seq = (s.dict.seq + 1) % 65536 ∧ s.SameRegs u [Obj.SPDM_SESSIONS]) ∧
  (∀ (s : State) (via : SpdmVia) (c : Instr), s.mode = .hold →
    c ∈ [Instr.spdmGetVersion via, .spdmGetDigests via, .spdmChallenge via 0, .spdmKeyExchange via] → exec c s = .next s)

/-- R107, R341, R342, R346, R349: the first key of a port comes into use with the salts it came with, a later change takes the other slot once the rekey time has passed,
a failed integrity check takes the link down; an idle debug session ends; a TAP instruction loads where it may, and BYPASS elsewhere. -/
def Obligations.KeysAndDebug : Prop :=
  (∀ (s : State) (session p k : Nat) (y : IdeKeys), p < 256 → k < 2 → s.drudar p = false → s.reg Obj.PORT_IDE_MODE p ≠ 0 → s.dlUp p = true →
    s.mayKey session p = true → (s.ide p).key0 = false → (s.ide p).key1 = false →
    ∃ u : State, exec (.spdmVendorDefinedRequest session p ⟨k, y⟩) s = .next u ∧
      u.ide p = { s.ide p with
        key0 := k == 0, key1 := k == 1, slot := k, since := s.clk
        tx := setAt (s.ide p).tx k { key := y.txKey % 2 ^ 256, salt := y.txSalt % 2 ^ 32, count := 0 }
        rx := setAt (s.ide p).rx k { key := y.rxKey % 2 ^ 256, salt := y.rxSalt % 2 ^ 32, count := 0 } } ∧ u.reg Obj.PORT_IDE_STATE p = 1 + k ∧
      u.dict.seq = (s.dict.seq + 1) % 65536 ∧ s.SameRegs u [Obj.PORT_IDE_STATE]) ∧
  (∀ (s : State) (session p k : Nat) (y : IdeKeys), p < 256 → s.mayKey session p = false →
    exec (.spdmVendorDefinedRequest session p ⟨k, y⟩) s = .next s) ∧
  (∀ (s : State) (p : Nat), p < 256 → s.drudar p = false → s.reg Obj.PORT_IDE_MODE p ≠ 0 → (s.ide p).key0 = true → (s.ide p).key1 = true →
    (s.ide p).slot < 2 → s.after (s.ide p).since (s.reg Obj.IDE_REKEY_S 0 * 1000000000) = true →
    exec (.ideRekey p) s = .next ((s.setIde p { s.ide p with slot := 1 - (s.ide p).slot, since := s.clk }).setReg Obj.PORT_IDE_STATE p
      (1 + (1 - (s.ide p).slot)))) ∧
  (∀ (s : State) (p : Nat), p < 256 → s.after (s.ide p).since (s.reg Obj.IDE_REKEY_S 0 * 1000000000) = false →
    exec (.ideRekey p) s = .next s) ∧
  (∀ (s : State) (p : Nat) (io : Bool), p < 256 → s.drudar p = false → s.reg Obj.PORT_IDE_MODE p ≠ 0 →
    ((s.ide p).key0 || (s.ide p).key1) = true → (s.port p).st = .l0 → s.dlUp p = true → (s.port p).dlUp = true → s.formed p = true →
    s.Calm p →
    ∃ u : State, exec (.ideIntegrityFail p io) s = .next u ∧ u.reg Obj.PORT_IDE_STATE p = 3 ∧ (u.port p).dlUp = false ∧
      (u.port p).st = .flushing ∧ u.ide p = ideDflt) ∧
  (∀ s : State, s.reg Obj.DBG_LEVEL 0 ≠ 0 → s.ridgeClock = true → s.reg Obj.RIDGE_HALT 0 = 0 →
    s.after s.sec.dbgAt (s.reg Obj.DBG_IDLE_S 0 * 1000000000) = true → (∀ i, (s.stage i).st = .sealed → (s.stage i).slot ≠ 512) →
    ∃ u : State, exec .dbgIdleTimeout s = .next u ∧ u.reg Obj.DBG_LEVEL 0 = 0 ∧ u.dict.seq = (s.dict.seq + 1) % 65536 ∧
      s.SameRegs u [Obj.DBG_LEVEL]) ∧
  (∀ s : State, s.reg Obj.DBG_LEVEL 0 = 0 → exec .dbgIdleTimeout s = .next s) ∧
  (∀ (s : State) (ir : Nat), ir = 2 ∨ ir = 3 →
    exec (.tapInstructionLoad ir) s = .next { s with sec := { s.sec with tapIr := ir } }) ∧
  (∀ s : State, exec (.tapInstructionLoad 1) s = .next (State.emit { s with sec := { s.sec with tapIr := 1 } } (.idcode State.idcode))) ∧
  (∀ (s : State) (ir : Nat), s.extestAllowed = false → ir = 0 ∨ 4 ≤ ir →
    exec (.tapInstructionLoad ir) s = .next { s with sec := { s.sec with tapIr := 255 } }) ∧
  (∀ (s : State) (ir : Nat), s.extestAllowed = true → ir ∈ [0, 4, 5] → (∀ p < 256, s.portState p = 0 ∨ s.portState p = 1 ∨ s.portState p = 9) →
    exec (.tapInstructionLoad ir) s =
      .next { s with
        sec := { s.sec with tapIr := ir }, link := { s.link with halted := true } })

/-! ### The margin window, profile stores, resets and boot -/

/-- R353 to R368: a measured window has a plan; the commit point puts its voltage and its ceilings in force; a unit is retired into the next
spare; once nothing is left to apply, the feeds' drift is worked out; the record ends the window and its handle. -/
def Obligations.MarginWindow : Prop :=
  (∀ (s : State) (m : TalusMeas), s.reg Obj.TALUS_STATE 0 = 1 → s.talusRuns = true → s.pm.avsFault = false →
    ((List.range 64).filter (fun i => (m.ro.getD i none).isNone)).length ≤ 32 →
    ∃ u : State, exec (.talusMeasureDone m) s = .next u ∧ u.reg Obj.TALUS_STATE 0 = 2 ∧ u.talus.plan.isSome = true ∧
      (∀ i < 64, ∀ v, m.ro.getD i none = some v → u.reg Obj.RO_DEG i = State.roDeg v) ∧
      (∀ i < 64, m.ro.getD i none = none → u.reg Obj.RO_DEG i = s.reg Obj.RO_DEG i) ∧
      (∀ i < 32, ∀ n, m.sram[i]? = some n → u.reg Obj.SRAM_VMIN i = s.pm.avsSet - 5 * n) ∧ u.talus.fomMin = [] ∧ u.talus.rds = [] ∧
      u.talus.fomWin = s.talus.fomMin ∧ u.talus.rdsWin = s.talus.rds ∧
      s.SameRegs u [Obj.RO_DEG, Obj.SRAM_VMIN, Obj.LANE_FOM_HIST, Obj.HBM_CE_WINDOW, Obj.TALUS_STATE] ∧ u.link = s.link) ∧
  (∀ (s : State) (m : TalusMeas), s.reg Obj.TALUS_STATE 0 = 1 → s.talusRuns = true → s.pm.avsFault = true →
    ∃ u : State, exec (.talusMeasureDone m) s = .next u ∧ u.reg Obj.TALUS_STATE 0 = 0 ∧ u.talus.plan = none ∧
      (u.lop s.talus.lop).st = .failed ∧ (u.lop s.talus.lop).result = Ab.OP_FAILED ∧
      (32 ≥ ((List.range 64).filter (fun i => (m.ro.getD i none).isNone)).length → (u.lop s.talus.lop).cause = 2)) ∧
  (∀ (s : State) (m : TalusMeas), s.reg Obj.TALUS_STATE 0 ≠ 1 ∨ s.talusRuns = false → exec (.talusMeasureDone m) s = .next s) ∧
  (∀ (s : State) (q : MarginPlan) (p r n f : Nat), s.talus.plan = some q → s.reg Obj.TALUS_STATE 0 = 2 → s.talusRuns = true →
    s.pm.avsFault = false → q.ceilings = [(p, r)] → q.lowest = [(n, f)] → q.targets = [] → s.flag Obj.TALUS_RETRAIN_EN 0 = false →
    ∃ u : State, exec .talusCommitPoint s = .next u ∧ u.reg Obj.TALUS_STATE 0 = 3 ∧ u.reg Obj.PM_VCORE_PLAN 0 = q.vcore ∧
      u.reg Obj.VCORE_REQUIRED 0 = q.required ∧ u.reg Obj.PORT_CEILING p = r ∧ u.reg Obj.TALUS_LAST_TIME 0 = s.now ∧
      (u.lop s.talus.lop).st = .committed ∧ u.talus.left = q.retire ∧ u.talus.retrain = [] ∧ u.talus.tor.isSome = true ∧
      s.SameRegs u [Obj.TALUS_STATE, Obj.PM_VCORE_PLAN, Obj.VCORE_REQUIRED, Obj.PORT_CEILING, Obj.TALUS_LAST_TIME, Obj.TALUS_WINDOW_NUM]) ∧
  (∀ s : State, s.talus.plan = none → exec .talusCommitPoint s = .next s) ∧
  (∀ (s : State) (k n : Nat) (l : List (Nat × Nat)), s.reg Obj.TALUS_STATE 0 = 3 → s.talusRuns = true →
    s.talus.left = (k, n) :: l →
    ∃ u : State, exec .hbmUnitRetired s = .next u ∧ u.reg Obj.HBM_RETIRED k = s.reg Obj.HBM_RETIRED k + 1 ∧
      u.talus.remap.get 0 (k, n) = s.reg Obj.HBM_RETIRED k + 1 ∧ u.talus.left = l ∧ u.talus.done = s.talus.done + 1 ∧
      s.SameRegs u [Obj.HBM_RETIRED]) ∧
  (∀ s : State, s.reg Obj.TALUS_STATE 0 ≠ 3 → exec .hbmUnitRetired s = .next s) ∧
  (∀ (s : State) (f x : Nat), s.reg Obj.TALUS_STATE 0 = 3 → s.talusRuns = true → s.talus.left = [] → s.pm.avsTarget = 0 →
    s.pm.avsSet = s.reg Obj.PM_VCORE_PLAN 0 → s.talus.retrain = [] → f < 64 → s.talus.rdsWin = [((f, 0), [x])] →
    s.reg Obj.FET_RDS_BASE f ≠ 0 →
    ∃ u : State, exec .talusApplyDone s = .next u ∧ u.reg Obj.TALUS_STATE 0 = 4 ∧ u.talus = s.talus ∧
      u.reg Obj.FET_RDS_DRIFT f = min (x * 100 / s.reg Obj.FET_RDS_BASE f) 65535 ∧ s.SameRegs u [Obj.TALUS_STATE, Obj.FET_RDS_DRIFT]) ∧
  (∀ s : State, s.talus.left ≠ [] → exec .talusApplyDone s = .next s) ∧
  (∀ s : State, s.reg Obj.TALUS_STATE 0 = 4 → s.talusRuns = true →
    ∃ u : State, exec .talusRecordDone s = .next u ∧ u.reg Obj.TALUS_STATE 0 = 0 ∧
      u.reg Obj.TALUS_HIST_USED 0 = min (s.reg Obj.TALUS_HIST_USED 0 + 1) 2048 ∧ (u.lop s.talus.lop).st = .done ∧ u.talus.lop = 64 ∧
      u.talus.plan = none ∧ u.talus.flash.isSome = true ∧ u.talus.ring.tail = s.talus.ring.take 2047 ∧ s.SameRegs u [Obj.TALUS_STATE, Obj.TALUS_HIST_USED]) ∧
  (∀ s : State, s.after s.talus.rdsAt 10000000000 = true →
    ∃ u : State, exec .feedRdsSample s = .next u ∧ u.talus.rdsAt = s.clk ∧ u.regs = s.regs ∧
      ∀ f < 64, (u.feed f).rdsNew = ((s.feed f).rdsNew && !(s.feedUsed (f / 2) (f % 2))) ∧
        u.talus.rds.get [] (f, 0) = s.talus.rds.get [] (f, 0) ++
          (if s.feedUsed (f / 2) (f % 2) && (s.feed f).rdsNew then [s.reg Obj.FEED_RDS f] else [])) ∧
  (∀ s : State, s.after s.talus.rdsAt 10000000000 = false → exec .feedRdsSample s = .next s)

/-- R375, R376: a profile store captures, erases, programs and verifies a bank other than the newest, then numbers it one above the newest;
a change during the capture, a failed flash operation or an abort ends it before that. -/
def Obligations.ProfileStoreSteps : Prop :=
  (∀ (s : State) (ok : Bool), s.coreRuns 3 = true → s.prof.step = .capture → (s.lop s.prof.lop).st = .running → (s.lop s.prof.lop).arg < 4 →
    s.prof.changed = false → (s.capture s.prof.prof (s.lop s.prof.lop).start).bytes.length ≤ maxRecords →
    exec (.profFlashStepDone ok) s = .next (s.setProf { s.prof with
      step := .erase, cand := some (s.capture s.prof.prof (s.lop s.prof.lop).start) })) ∧
  (∀ (s : State) (ok : Bool), s.coreRuns 3 = true → s.prof.step = .capture → (s.lop s.prof.lop).st = .running → (s.lop s.prof.lop).arg < 4 →
    s.prof.changed = true →
    ∃ u : State, exec (.profFlashStepDone ok) s = .next u ∧ (u.lop s.prof.lop).st = .failed ∧ (u.lop s.prof.lop).cause = 1 ∧
      u.prof.step = .idle ∧ u.prof.banks = s.prof.banks ∧ s.SameRegs u []) ∧
  (∀ s : State, s.coreRuns 3 = true → s.prof.step = .erase → (s.lop s.prof.lop).st = .running →
    ∃ u : State, exec (.profFlashStepDone true) s = .next u ∧ u.prof.step = .program ∧
      u.prof.banks.get none (s.prof.prof, s.prof.target) = none ∧ u.regs = s.regs ∧
      ∀ k, k ≠ (s.prof.prof, s.prof.target) → u.prof.banks.get none k = s.prof.banks.get none k) ∧
  (∀ s : State, s.coreRuns 3 = true → s.prof.step = .program → (s.lop s.prof.lop).st = .running →
    ∃ u : State, exec (.profFlashStepDone true) s = .next u ∧ u.prof.step = .verify ∧
      u.prof.banks.get none (s.prof.prof, s.prof.target) = s.prof.cand ∧ u.regs = s.regs) ∧
  (∀ s : State, s.coreRuns 3 = true → s.prof.step = .verify → (s.lop s.prof.lop).st = .running →
    exec (.profFlashStepDone true) s = .next (s.setProf { s.prof with step := .commit })) ∧
  (∀ s : State, s.coreRuns 3 = true → s.prof.step ∈ [StoreStep.erase, .program, .verify] → (s.lop s.prof.lop).st = .running →
    ∃ u : State, exec (.profFlashStepDone false) s = .next u ∧ (u.lop s.prof.lop).st = .failed ∧ (u.lop s.prof.lop).cause = 3 ∧
      u.prof.step = .idle ∧ s.SameRegs u []) ∧
  (∀ (s : State) (ok : Bool), s.coreRuns 3 = true → s.prof.step ∈ [StoreStep.erase, .program, .verify] →
    (s.lop s.prof.lop).st = .aborting →
    ∃ u : State, exec (.profFlashStepDone ok) s = .next u ∧ (u.lop s.prof.lop).st = .aborted ∧ u.prof.step = .idle ∧
      u.prof.banks.get none (s.prof.prof, s.prof.target) = none ∧ s.SameRegs u []) ∧
  (∀ (s : State) (b old : Bank) (k : Nat) (r : List (Nat × Bank)), s.coreRuns 3 = true → s.prof.step = .commit →
    (s.lop s.prof.lop).st = .running → s.prof.cand = some b → s.banksOf s.prof.prof = (k, old) :: r →
    ∃ u : State, exec .profStoreCommit s = .next u ∧ (u.lop s.prof.lop).st = .done ∧ u.prof.step = .idle ∧
      u.prof.banks.get none (s.prof.prof, s.prof.target) =
        some { b with seq := old.seq + 1, seqInv := 0xFFFF_FFFF - (old.seq + 1) } ∧
      (∀ j, j ≠ (s.prof.prof, s.prof.target) → u.prof.banks.get none j = s.prof.banks.get none j) ∧ s.SameRegs u []) ∧
  (∀ s : State, s.prof.step ≠ .commit → exec .profStoreCommit s = .next s) ∧
  (∀ (s : State) (ok : Bool), s.prof.step = .idle → exec (.profFlashStepDone ok) s = .next s)

/-- R378 to R381, R387, R335, R374: each cause of a full reset resets the whole part with its own reset record; the fuses, the flash and what
R381 keeps stay; RST_N and a supply within a reset only lengthen it (the model's reading of R379); power-on starts the record afresh, and the loss of VDD_AON holds the part in reset. -/
def Obligations.FullResets : Prop :=
  (∀ s : State, s.prof.step = .idle → s.rst.aon = true → s.rst.step ≠ .inReset →
    ∃ u : State, exec .rstNAssert s = .next u ∧ s.FullReset u 2 0xFF ∧ u.rst.aon = true ∧
      u.reg Obj.RST_COUNT 0 = min (s.reg Obj.RST_COUNT 0 + 1) 0xFFFF_FFFF ∧ u.reg Obj.RST_PREV_TIME 0 = s.now ∧
      u.reg Obj.PROFILE_NEXT 0 = s.reg Obj.PROFILE_NEXT 0 ∧ u.reg Obj.LC_PENDING 0 = s.reg Obj.LC_PENDING 0 ∧
      u.reg Obj.FW_BOOT_PTR 0 = s.reg Obj.FW_BOOT_PTR 0) ∧
  (∀ s : State, s.prof.step = .idle → s.rst.aon = true → s.rst.step ≠ .inReset →
    ∃ u : State, exec .supplyUndervoltage s = .next u ∧ s.FullReset u 6 0xFF ∧
      u.reg Obj.RST_COUNT 0 = min (s.reg Obj.RST_COUNT 0 + 1) 0xFFFF_FFFF) ∧
  (∀ s : State, s.rst.aon = true → s.rst.step = .inReset → s.mode = .boot →
    exec .rstNAssert s = .next (s.setRst { s.rst with since := s.clk }) ∧
    exec .supplyUndervoltage s = .next (s.setRst { s.rst with since := s.clk })) ∧
  (∀ s : State, s.rst.aon = false → exec .rstNAssert s = .next s ∧ exec .supplyUndervoltage s = .next s) ∧
  (∀ s : State, s.prof.step = .idle → s.rst.nowAt ≠ 0 → s.after (s.rst.nowAt - 1) 10000000 = true →
    ∃ u : State, exec .resetNowDelayEnd s = .next u ∧ s.FullReset u 4 0xFF ∧
      u.reg Obj.RST_COUNT 0 = min (s.reg Obj.RST_COUNT 0 + 1) 0xFFFF_FFFF) ∧
  (∀ s : State, s.rst.nowAt = 0 → exec .resetNowDelayEnd s = .next s) ∧
  (∀ s : State, s.prof.step = .idle → s.rst.wedgeAt ≠ 0 → s.after (s.rst.wedgeAt - 1) 10000000 = true →
    ∃ u : State, exec .wedgeResetDelayEnd s = .next u ∧ s.FullReset u 5 0xFF) ∧
  (∀ s : State, s.rst.wedgeAt = 0 → exec .wedgeResetDelayEnd s = .next s) ∧
  (∀ (s : State) (core : Nat), core < 4 → s.prof.step = .idle → s.mode.sleeps = false → s.rst.step ≠ .inReset →
    bit (s.reg Obj.RIDGE_HALT 0) core = false → s.pm.wdFrom ≤ s.clk → s.reg Obj.FW_CONFIRMED 0 = 1 →
    ∃ u : State, exec (.watchdogExpiry core) s = .next u ∧ s.FullReset u 3 core ∧
      u.reg Obj.FW_BOOT_PTR 0 = s.reg Obj.FW_BOOT_PTR 0) ∧
  (∀ (s : State) (core : Nat), core < 4 → s.prof.step = .idle → s.mode.sleeps = false → s.rst.step ≠ .inReset →
    bit (s.reg Obj.RIDGE_HALT 0) core = false → s.pm.wdFrom ≤ s.clk → s.reg Obj.FW_CONFIRMED 0 = 0 → s.sec.fwAt ≠ 0 →
    s.sec.fwBack = false → s.sec.fwDogs = 2 →
    ∃ u : State, exec (.watchdogExpiry core) s = .next u ∧ u.reg Obj.FW_BOOT_PTR 0 = 1 - s.reg Obj.FW_BOOT_PTR 0 ∧
      u.sec.fwBack = true ∧ u.mode = .boot ∧ u.reg Obj.RST_CAUSE 0 = 3 ∧ u.reg Obj.RST_WDT_CORE 0 = core) ∧
  (∀ (s : State) (core : Nat), core < 4 → (s.mode.sleeps = true ∨ bit (s.reg Obj.RIDGE_HALT 0) core = true ∨ s.clk < s.pm.wdFrom) →
    exec (.watchdogExpiry core) s = .next s) ∧
  (∀ s : State, s.prof.step = .idle →
    ∃ u : State, exec .powerOn s = .next u ∧ s.FullReset u 1 0xFF ∧ u.rst.aon = true ∧ u.reg Obj.RST_COUNT 0 = 1 ∧
      u.reg Obj.RST_PREV_TIME 0 = 0 ∧ u.reg Obj.PROFILE_NEXT 0 = 0xFF ∧ u.reg Obj.LC_PENDING 0 = 0xFF ∧ u.move.torOk = false ∧
      ∀ f < 64, (u.feed f).energy = 0 ∧ u.reg Obj.FEED_E f = 0 ∧ u.reg Obj.FEED_IPEAK f = 0) ∧
  (∀ s : State, s.prof.step = .idle →
    ∃ u : State, exec .vddAonLoss s = .next u ∧ s.FullReset u 1 0xFF ∧ u.rst.aon = false ∧ u.reg Obj.PROFILE_NEXT 0 = 0xFF ∧
      u.reg Obj.LC_PENDING 0 = 0xFF ∧ u.talus.tor = none)

/-- R336, R335, R365, R374, R382 to R384, R387: the boot. A reset is released after 1 ms and burns the fuses of a pending lifecycle change;
the image that the pointer names runs where it is valid, and without any ALERT_N stays low; the plan in force and an empty bank list
give the defaults; with the memories trained the directory is empty; the profile applied ends BOOT in ACTIVE. Each stopped function is
raised once. The fused voltage is a value of Config. -/
def Obligations.BootSequence : Prop :=
  (∀ (s : State) (psel : Nat), s.rst.step = .inReset → s.rst.aon = true → s.after s.rst.since 1000000 = true → s.reg Obj.LC_PENDING 0 = 0xFF →
    ∃ u : State, exec (.resetRelease psel) s = .next u ∧ u.rst.step = .rom ∧ u.rst.relAt = s.clk ∧
      u.rst.chosen = (if s.reg Obj.PROFILE_NEXT 0 < 4 then s.reg Obj.PROFILE_NEXT 0 else psel % 4) ∧
      u.reg Obj.PROFILE_PSEL 0 = psel % 4 ∧ u.reg Obj.PROFILE_NEXT 0 = 0xFF ∧ u.sec = s.sec ∧ u.mode = s.mode ∧
      s.SameRegs u [Obj.PROFILE_PSEL, Obj.PROFILE_NEXT]) ∧
  (∀ (s : State) (psel : Nat), s.rst.step = .inReset → s.rst.aon = true → s.after s.rst.since 1000000 = true → s.reg Obj.LC_PENDING 0 = 2 →
    s.lcState = 1 →
    ∃ u : State, exec (.resetRelease psel) s = .next u ∧ u.rst.step = .rom ∧ u.reg Obj.LC_PENDING 0 = 0xFF ∧
      u.sec.fuse = { s.sec.fuse with ownerHash := s.sec.lcHash, secured := burnt } ∧ u.rst.lcOld = s.lcState) ∧
  (∀ (s : State) (psel : Nat), s.rst.step = .inReset → s.rst.aon = true → s.after s.rst.since 1000000 = true → s.reg Obj.LC_PENDING 0 = 4 →
    s.lcState ≠ 4 →
    ∃ u : State, exec (.resetRelease psel) s = .next u ∧ u.sec.fuse = { s.sec.fuse with identity := none, scrapped := burnt } ∧
      u.lcState = 4) ∧
  (∀ (s : State) (psel : Nat), s.rst.step ≠ .inReset ∨ s.rst.aon = false → exec (.resetRelease psel) s = .next s) ∧
  (∀ (s : State) (other : Bool) (r : Option RecImage), s.rst.step = .rom → s.reg Obj.FW_BOOT_PTR 0 = 0 → s.fwHeaderOk 0 = true →
    s.sec.fuse.svn ≤ s.fwSvn 0 →
    ∃ u : State, exec (.bootImageVerified true other r) s = .next u ∧ u.rst.step = .firmware ∧ u.reg Obj.FW_ACTIVE 0 = 0 ∧
      u.reg Obj.FW_VERSION 0 = s.fwField 0 4 4 ∧ u.rst.alertLow = false ∧
      s.SameRegs u [Obj.FW_ACTIVE, Obj.FW_VERSION, Obj.BOOT_TIMES, Obj.FW_CONFIRMED]) ∧
  (∀ s : State, s.rst.step = .rom → s.reg Obj.FW_BOOT_PTR 0 < 2 →
    exec (.bootImageVerified false false none) s = .next (s.setRst { s.rst with alertLow := true })) ∧
  (∀ s : State, s.rst.step = .firmware → s.lcState ≠ 4 → s.talus.tor = none → s.talus.flash = none → s.move.torOk = true →
    s.move.torRdr = [] → s.banksOf s.rst.chosen = [] → s.rst.applied = [] → (∀ c < 32, s.flag Obj.CH_ENABLE c = false) →
    ∃ u : State, exec .profileValidate s = .next u ∧ u.rst.step = .validated ∧ u.reg Obj.PM_VCORE_PLAN 0 = Config.vcoreBase ∧
      u.pm.avsTarget = Config.vcoreBase ∧ u.pm.avsTries = 1 ∧ s.SameRegs u [Obj.PM_VCORE_PLAN]) ∧
  (∀ s : State, s.lcState = 4 → exec .profileValidate s = .next s) ∧
  (∀ s : State, s.rst.step = .validated → s.rst.applied = [] →
    ∃ u : State, exec .hbmTrainingDone s = .next u ∧ u.rst.step = .trained ∧ u.coh.dir = [] ∧ u.coh.frames = [] ∧
      u.fab.tagFills = s.initTags ∧ u.regs = s.regs ∧ u.mode = s.mode ∧ u.link = s.link) ∧
  (∀ (s : State) (k : Nat), s.rst.step = .trained → s.pm.ramp = [] → s.mode = .boot → s.rst.applied = [] → s.rst.bank = 255 →
    s.rst.lcOld = 255 → s.trimLC = 0 → s.trimSlices = 0 → s.freeSlot = some k → s.dict.filters = [] →
    ∃ u : State, exec .profileApplied s = .next u ∧ u.mode = .active ∧ u.rst.step = .done ∧ u.reg Obj.PROFILE_ACTIVE 0 = 0xFF ∧
      u.reg Obj.PROFILE_BANK 0 = 0xFF ∧ u.reg Obj.ROUTE_EPOCH 0 = 0 ∧ u.reg Obj.BIND_EPOCH 0 = 0 ∧ u.reg Obj.FL_EPOCH 0 = 0 ∧
      u.talus.slot = k ∧ (u.slot k).kind = 5) ∧
  (∀ s : State, s.rst.step ≠ .trained → exec .profileApplied s = .next s) ∧
  (∀ (s : State) (w : Nat × Nat), s.rst.step = .done → s.ridgeClock = true → s.pm.step ≠ .cores →
    s.after s.rst.wdAt 100000000 = true → s.wedges = [w] → s.rst.wedged.get false w = false →
    ∃ u : State, exec .wedgeCheck s = .next u ∧ bit (u.reg Obj.WEDGE_STATUS 0) w.1 = true ∧ u.rst.wedged.get false w = true ∧
      u.rst.wdAt = s.clk ∧ u.rst.wedgeAt = (if s.flag Obj.WEDGE_AUTO_RESET 0 && s.rst.wedgeAt == 0 then s.clk + 1 else s.rst.wedgeAt) ∧
      u.dict.seq = (s.dict.seq + 1) % 65536 ∧ s.SameRegs u [Obj.WEDGE_STATUS]) ∧
  (∀ s : State, s.rst.step = .done → s.ridgeClock = true → s.pm.step ≠ .cores → s.after s.rst.wdAt 100000000 = true → s.wedges = [] →
    exec .wedgeCheck s = .next (s.setRst { s.rst with wdAt := s.clk }))

/-! ### The whole block -/

/-- A step takes the command at the front of the queue and runs it with the queue's rest. (The model's choice, log entry 1: with
an empty queue the block idles.) -/
def Obligations.StepRunsTheFront : Prop :=
  (∀ (c : Instr) (s : State) (rest : List Instr), s.pending = c :: rest → step s = exec c { s with pending := rest }) ∧
  (∀ s : State, s.pending = [] → step s = .next s)

/-- R293, R334, R378, R381 and the Default columns of the object tables: the state after reset. -/
def Obligations.ResetState : Prop :=
  State.reset.pending = [] ∧ State.reset.mode = .boot ∧ State.reset.rst.step = .inReset ∧ State.reset.LifecycleSound ∧
  State.reset.lcState = 1 ∧ State.reset.dict.lops = [] ∧ State.reset.dict.stages = [] ∧ State.reset.dict.filters = [] ∧
  State.reset.time.slots = [] ∧ State.reset.coh.dir = [] ∧ State.reset.coh.trk = [] ∧ State.reset.fab.bindings = [] ∧
  State.reset.reg Obj.RST_CAUSE 0 = 1 ∧ State.reset.reg Obj.DBG_LEVEL 0 = 0 ∧ State.reset.reg Obj.CAIRN_SLICES 0 = 8 ∧
  State.reset.reg Obj.DIR_TIMEOUT 0 = 40000 ∧ State.reset.reg Obj.LC_PENDING 0 = 0xFF ∧ State.reset.reg Obj.PROFILE_NEXT 0 = 0xFF ∧
  (∀ p < 256, State.reset.reg Obj.PORT_SPEED p = 0 ∧ (State.reset.port p).dlUp = false) ∧
  (∀ c < 32, (State.reset.slotCh c).st = .off) ∧ (∀ h < 64, (State.reset.lop h).st = .free) ∧
  (∀ ep < 322, State.reset.inboxOf ep = [])

/-- Every command that names units and operands within their ranges answers a next state and leaves the queue alone; no command is
refused. (A command that names a unit which does not exist faults: the model's choice, log entry 2.) -/
def Obligations.WellFormedCommandsComplete : Prop :=
  (∀ (c : Instr) (s : State), c.wf = true → ∃ t : State, exec c s = .next t) ∧
  (∀ (c : Instr) (s t : State), exec c s = .next t → t.pending = s.pending) ∧
  (∀ (c : Instr) (s : State) (r : Refusal), exec c s ≠ .refused r) ∧
  (∀ (c : Instr) (s : State) (f : Fault), exec c s = .fault f → c.wf = false ∧ ∃ n, f = .absent n)

/-- R21, R293, R295, R378, R382: the mode changes only at the commit point of an entry, to the entry's target; at traffic-ready, to the
mode from which the part went to sleep; at the end of BOOT, to ACTIVE or TRIM; and in a full reset, to BOOT. -/
def Obligations.ModeChangesOnlySo : Prop :=
  ∀ (c : Instr) (s t : State), exec c s = .next t →
    t.mode = s.mode ∨
    (t.mode = .boot ∧ (c ∈ [Instr.resetNowDelayEnd, .rstNAssert, .powerOn, .vddAonLoss, .supplyUndervoltage, .wedgeResetDelayEnd] ∨
      ∃ core, c = .watchdogExpiry core)) ∨
    (c = .pmCommitPoint ∧ s.mayCommit = true ∧ t.mode = s.pm.target) ∨
    (c = .wakeTrafficReady ∧ s.readyAgain = true ∧ t.mode = s.pm.prev) ∨
    (c = .profileApplied ∧ s.mode = .boot ∧ (t.mode = .active ∨ t.mode = .trim))

/-- R334, R335: every step keeps the fuses in a lifecycle that the transitions can make, and the lifecycle only advances: a burnt word
stays burnt, the lifecycle state never falls, SCRAPPED is never left and its identity secret never comes back. The lifecycle state and the
identity secret change only at a reset release. -/
def Obligations.LifecycleKept : Prop :=
  (∀ s t : State, step s = .next t → s.LifecycleSound → t.LifecycleSound) ∧
  (∀ s t : State, step s = .next t → s.LifecycleSound → s.lcState ≤ t.lcState) ∧
  (∀ s t : State, step s = .next t → s.lcState = 4 → s.sec.fuse.identity = none → t.lcState = 4 ∧ t.sec.fuse.identity = none) ∧
  (∀ (c : Instr) (s t : State), exec c s = .next t → (∀ psel, c ≠ .resetRelease psel) →
    t.lcState = s.lcState ∧ t.sec.fuse.identity = s.sec.fuse.identity ∧ t.sec.fuse.ownerHash = s.sec.fuse.ownerHash)

/-- R336, R338: the security version counter never falls, so no step makes an image acceptable that it had ruled out: an area that holds the
same image stays invalid. -/
def Obligations.RollbackStaysBarred : Prop :=
  (∀ s t : State, step s = .next t → s.sec.fuse.svn ≤ t.sec.fuse.svn) ∧
  (∀ (s t : State) (a : Nat) (crypto : Bool), step s = .next t → t.sec.images = s.sec.images → s.fwSvn a < s.sec.fuse.svn →
    t.imageValid a crypto = false)

/-- R312: records with codes 0x8001 and 0x8002 set no cause bit. -/
def Obligations.DeliveryRecordsSetNoCause : Prop :=
  ∀ (s : State) (code source sev inst data ns key n : Nat), code = 0x8001 ∨ code = 0x8002 →
    (s.raise code source sev inst data).reg Obj.INT_CAUSE n = s.reg Obj.INT_CAUSE n ∧
    (s.raiseLimited ns key code source sev inst data).reg Obj.INT_CAUSE n = s.reg Obj.INT_CAUSE n

/-- R316: a source in service is delivered to no target, whatever its level, until its owner completes it. -/
def Obligations.SourceInServiceWaits : Prop :=
  (∀ (s t : State) (n m o : Nat) (w : Bool), (s.intSrc n).owner = some o → exec (.intDeliver ⟨m, w⟩) s = .next t →
    (t.intSrc n).owner = some o ∧ (t.intSrc n).delivered = (s.intSrc n).delivered) ∧
  (∀ (s : State) (n o : Nat) (w : Bool), n < 1024 → (s.intSrc n).owner = some o → exec (.intDeliver ⟨n, w⟩) s = .next s) ∧
  (∀ (s : State) (n o t : Nat), t < 6 → t ≠ o → (s.intSrc n).owner = some o → exec (.intComplete t n) s = .next s) ∧
  (∀ (s : State) (n o : Nat), o < 6 → (s.intSrc n).owner = some o →
    ∃ u : State, exec (.intComplete o n) s = .next u ∧ (u.intSrc n).owner = none ∧ (u.intSrc n).delivered = none)

/-- R189: a line's slice, set and tag tell it from every other line, whatever the number of slices, and lie in their ranges. -/
def Obligations.PlacementTellsLinesApart : Prop :=
  (∀ (k a b : Nat), place k a = place k b → a / 64 % 2 ^ 43 = b / 64 % 2 ^ 43) ∧
  (∀ (k a : Nat), 0 < k → (place k a).1 < k ∧ (place k a).2.1 < 6291456 ∧ (place k a).2.2 < 2 ^ 21)
end

