-- ==== Sys2Proof/Laws/Tbl.lean ====
section
/-!
SUPPORT. Laws of the sparse tables: reading back what was written, leaving every other key alone, and keeping the canonical form.
-/

namespace Sys2Proof.Machine

@[simp] theorem Key.lt_irrefl (a : Key) : Key.lt a a = false := by simp [Key.lt]

theorem Key.lt_trans {a b c : Key} (h : Key.lt a b = true) (k : Key.lt b c = true) : Key.lt a c = true := by
  simp [Key.lt] at *
  omega

theorem Key.lt_of_not {a b : Key} (h : Key.lt a b = false) (n : a ≠ b) : Key.lt b a = true := by
  obtain ⟨a1, a2⟩ := a
  obtain ⟨b1, b2⟩ := b
  simp [Key.lt] at *
  omega

namespace Tbl

variable {α : Type}

@[simp] theorem get_nil (d : α) (k : Key) : Tbl.get [] d k = d := rfl

theorem get_erase_self (t : Tbl α) (d : α) (k : Key) : (t.erase k).get d k = d := by
  induction t with
  | nil => rfl
  | cons e r ih =>
    unfold erase at ih ⊢
    by_cases h : e.1 = k
    · simpa [h] using ih
    · simpa [h, get] using ih

theorem get_erase_of_ne (t : Tbl α) (d : α) {k j : Key} (n : j ≠ k) : (t.erase k).get d j = t.get d j := by
  induction t with
  | nil => rfl
  | cons e r ih =>
    unfold erase at ih ⊢
    by_cases h : e.1 = k
    · have : e.1 ≠ j := fun q => n (q.symm.trans h)
      simpa [h, get, this, Ne.symm n] using ih
    · by_cases q : e.1 = j
      · simp [get, q, n]
      · simpa [h, get, q] using ih

theorem get_insert_self (t : Tbl α) (d : α) (e : Key × α) (h : ∀ x ∈ t, x.1 ≠ e.1) : (insert e t).get d e.1 = e.2 := by
  induction t with
  | nil => simp [insert, get]
  | cons x r ih =>
    unfold insert
    have hx := h x (by simp)
    split
    · simpa [get, hx] using ih (fun y hy => h y (by simp [hy]))
    · simp [get]

theorem get_insert_of_ne (t : Tbl α) (d : α) (e : Key × α) {j : Key} (n : j ≠ e.1) : (insert e t).get d j = t.get d j := by
  induction t with
  | nil => simp [insert, get, Ne.symm n]
  | cons x r ih =>
    unfold insert
    split
    · by_cases q : x.1 = j
      · simp [get, q]
      · simpa [get, q] using ih
    · simp [get, Ne.symm n]

theorem mem_erase (t : Tbl α) (k : Key) (x : Key × α) (h : x ∈ t.erase k) : x ∈ t ∧ x.1 ≠ k := by
  simpa [erase] using h

/-- Read after write, same key. -/
theorem get_set_self [DecidableEq α] (t : Tbl α) (d : α) (k : Key) (v : α) : (t.set d k v).get d k = v := by
  unfold set
  split
  · rename_i h; rw [get_erase_self, h]
  · exact get_insert_self _ d (k, v) (fun x hx => (mem_erase t k x hx).2)

/-- Read after write, another key. -/
theorem get_set_of_ne [DecidableEq α] (t : Tbl α) (d e : α) {k j : Key} (v : α) (n : j ≠ k) :
    (t.set d k v).get e j = t.get e j := by
  unfold set
  split
  · exact get_erase_of_ne t e n
  · rw [get_insert_of_ne _ e (k, v) n, get_erase_of_ne t e n]

/-- A table rises when its keys are pairwise in order. -/
theorem rising_iff (t : Tbl α) : rising t = true ↔ t.Pairwise (fun a b => Key.lt a.1 b.1 = true) := by
  induction t with
  | nil => simp [rising]
  | cons a r ih =>
    cases r with
    | nil => simp [rising]
    | cons b r =>
      simp only [rising, Bool.and_eq_true, ih, List.pairwise_cons]
      constructor
      · rintro ⟨h, k, l⟩
        refine ⟨?_, k, l⟩
        intro x hx
        rcases List.mem_cons.mp hx with q | q
        · exact q ▸ h
        · exact Key.lt_trans h (k x q)
      · rintro ⟨h, k, l⟩
        exact ⟨h b (by simp), k, l⟩

theorem erase_rising (t : Tbl α) (k : Key) (h : rising t = true) : rising (t.erase k) = true :=
  (rising_iff _).mpr (((rising_iff t).mp h).filter _)

theorem mem_insert (e : Key × α) (t : Tbl α) (x : Key × α) : x ∈ insert e t ↔ x = e ∨ x ∈ t := by
  induction t with
  | nil => simp [insert]
  | cons a r ih =>
    unfold insert
    split
    · simp [ih]; tauto
    · simp

theorem insert_rising (e : Key × α) (t : Tbl α) (h : rising t = true) (n : ∀ x ∈ t, x.1 ≠ e.1) : rising (insert e t) = true := by
  rw [rising_iff] at h ⊢
  induction t with
  | nil => simp [insert]
  | cons a r ih =>
    unfold insert
    rw [List.pairwise_cons] at h
    split
    · rename_i q
      rw [List.pairwise_cons]
      refine ⟨?_, ih h.2 (fun x hx => n x (by simp [hx]))⟩
      intro x hx
      rcases (mem_insert e r x).mp hx with p | p
      · exact p ▸ q
      · exact h.1 x p
    · rename_i q
      have l := Key.lt_of_not (by simpa using q) (n a (by simp))
      rw [List.pairwise_cons, List.pairwise_cons]
      refine ⟨?_, h⟩
      intro x hx
      rcases List.mem_cons.mp hx with p | p
      · exact p ▸ l
      · exact Key.lt_trans l (h.1 x p)

/-- A write keeps the canonical form, when it is given the value that the unlisted key reads as. -/
theorem set_wf [DecidableEq α] (t : Tbl α) (d : Key → α) (k : Key) (v : α) (h : wf d t = true) : wf d (t.set (d k) k v) = true := by
  simp only [wf, Bool.and_eq_true, List.all_eq_true, Bool.not_eq_true', decide_eq_false_iff_not] at *
  unfold set
  split
  · exact ⟨erase_rising t k h.1, fun x hx => h.2 x (mem_erase t k x hx).1⟩
  · rename_i q
    refine ⟨insert_rising _ _ (erase_rising t k h.1) (fun x hx => (mem_erase t k x hx).2), ?_⟩
    intro x hx
    rcases (mem_insert _ _ x).mp hx with p | p
    · subst p; exact q
    · exact h.2 x (mem_erase t k x p).1

/-- Taking entries out keeps the canonical form. -/
theorem filter_wf [DecidableEq α] (t : Tbl α) (d : Key → α) (p : Key × α → Bool) (h : wf d t = true) : wf d (t.filter p) = true := by
  simp only [wf, Bool.and_eq_true, List.all_eq_true] at *
  exact ⟨(rising_iff _).mpr (((rising_iff t).mp h.1).filter _), fun x hx => h.2 x (List.mem_of_mem_filter hx)⟩

end Tbl

end Sys2Proof.Machine
end

