-- ==== Sys2Proof/Laws/State.lean ====
section
/-!
SUPPORT. What each named update of the state leaves alone, field by field, and what reading the updated unit gives.
-/

namespace Sys2Proof.Machine.State

/-! `setReg` writes `regs` alone. -/

section

variable (s : State) (o₁ i₁ v : Nat)

@[simp] theorem pending_setReg : (s.setReg o₁ i₁ v).pending = s.pending := rfl
@[simp] theorem mode_setReg : (s.setReg o₁ i₁ v).mode = s.mode := rfl
@[simp] theorem clk_setReg : (s.setReg o₁ i₁ v).clk = s.clk := rfl
@[simp] theorem freeCtr_setReg : (s.setReg o₁ i₁ v).freeCtr = s.freeCtr := rfl
@[simp] theorem out_setReg : (s.setReg o₁ i₁ v).out = s.out := rfl
@[simp] theorem time_setReg : (s.setReg o₁ i₁ v).time = s.time := rfl
@[simp] theorem dict_setReg : (s.setReg o₁ i₁ v).dict = s.dict := rfl
@[simp] theorem intc_setReg : (s.setReg o₁ i₁ v).intc = s.intc := rfl
@[simp] theorem cnt_setReg : (s.setReg o₁ i₁ v).cnt = s.cnt := rfl
@[simp] theorem link_setReg : (s.setReg o₁ i₁ v).link = s.link := rfl
@[simp] theorem fab_setReg : (s.setReg o₁ i₁ v).fab = s.fab := rfl
@[simp] theorem coh_setReg : (s.setReg o₁ i₁ v).coh = s.coh := rfl
@[simp] theorem move_setReg : (s.setReg o₁ i₁ v).move = s.move := rfl
@[simp] theorem pm_setReg : (s.setReg o₁ i₁ v).pm = s.pm := rfl
@[simp] theorem sec_setReg : (s.setReg o₁ i₁ v).sec = s.sec := rfl
@[simp] theorem slotp_setReg : (s.setReg o₁ i₁ v).slotp = s.slotp := rfl
@[simp] theorem talus_setReg : (s.setReg o₁ i₁ v).talus = s.talus := rfl
@[simp] theorem prof_setReg : (s.setReg o₁ i₁ v).prof = s.prof := rfl
@[simp] theorem rst_setReg : (s.setReg o₁ i₁ v).rst = s.rst := rfl

end

/-! `setPort` writes `link` alone. -/

section

variable (s : State) (p : Nat) (x : Port)

@[simp] theorem pending_setPort : (s.setPort p x).pending = s.pending := rfl
@[simp] theorem mode_setPort : (s.setPort p x).mode = s.mode := rfl
@[simp] theorem clk_setPort : (s.setPort p x).clk = s.clk := rfl
@[simp] theorem freeCtr_setPort : (s.setPort p x).freeCtr = s.freeCtr := rfl
@[simp] theorem regs_setPort : (s.setPort p x).regs = s.regs := rfl
@[simp] theorem out_setPort : (s.setPort p x).out = s.out := rfl
@[simp] theorem time_setPort : (s.setPort p x).time = s.time := rfl
@[simp] theorem dict_setPort : (s.setPort p x).dict = s.dict := rfl
@[simp] theorem intc_setPort : (s.setPort p x).intc = s.intc := rfl
@[simp] theorem cnt_setPort : (s.setPort p x).cnt = s.cnt := rfl
@[simp] theorem fab_setPort : (s.setPort p x).fab = s.fab := rfl
@[simp] theorem coh_setPort : (s.setPort p x).coh = s.coh := rfl
@[simp] theorem move_setPort : (s.setPort p x).move = s.move := rfl
@[simp] theorem pm_setPort : (s.setPort p x).pm = s.pm := rfl
@[simp] theorem sec_setPort : (s.setPort p x).sec = s.sec := rfl
@[simp] theorem slotp_setPort : (s.setPort p x).slotp = s.slotp := rfl
@[simp] theorem talus_setPort : (s.setPort p x).talus = s.talus := rfl
@[simp] theorem prof_setPort : (s.setPort p x).prof = s.prof := rfl
@[simp] theorem rst_setPort : (s.setPort p x).rst = s.rst := rfl
@[simp] theorem reg_setPort (o i : Nat) : (s.setPort p x).reg o i = s.reg o i := rfl
@[simp] theorem flag_setPort (o i : Nat) : (s.setPort p x).flag o i = s.flag o i := rfl

end

/-! `setLane` writes `link` alone. -/

section

variable (s : State) (p : Nat) (x : Lane)

@[simp] theorem pending_setLane : (s.setLane p x).pending = s.pending := rfl
@[simp] theorem mode_setLane : (s.setLane p x).mode = s.mode := rfl
@[simp] theorem clk_setLane : (s.setLane p x).clk = s.clk := rfl
@[simp] theorem freeCtr_setLane : (s.setLane p x).freeCtr = s.freeCtr := rfl
@[simp] theorem regs_setLane : (s.setLane p x).regs = s.regs := rfl
@[simp] theorem out_setLane : (s.setLane p x).out = s.out := rfl
@[simp] theorem time_setLane : (s.setLane p x).time = s.time := rfl
@[simp] theorem dict_setLane : (s.setLane p x).dict = s.dict := rfl
@[simp] theorem intc_setLane : (s.setLane p x).intc = s.intc := rfl
@[simp] theorem cnt_setLane : (s.setLane p x).cnt = s.cnt := rfl
@[simp] theorem fab_setLane : (s.setLane p x).fab = s.fab := rfl
@[simp] theorem coh_setLane : (s.setLane p x).coh = s.coh := rfl
@[simp] theorem move_setLane : (s.setLane p x).move = s.move := rfl
@[simp] theorem pm_setLane : (s.setLane p x).pm = s.pm := rfl
@[simp] theorem sec_setLane : (s.setLane p x).sec = s.sec := rfl
@[simp] theorem slotp_setLane : (s.setLane p x).slotp = s.slotp := rfl
@[simp] theorem talus_setLane : (s.setLane p x).talus = s.talus := rfl
@[simp] theorem prof_setLane : (s.setLane p x).prof = s.prof := rfl
@[simp] theorem rst_setLane : (s.setLane p x).rst = s.rst := rfl
@[simp] theorem reg_setLane (o i : Nat) : (s.setLane p x).reg o i = s.reg o i := rfl
@[simp] theorem flag_setLane (o i : Nat) : (s.setLane p x).flag o i = s.flag o i := rfl

end

/-! `setDru` writes `link` alone. -/

section

variable (s : State) (p : Nat) (x : Dru)

@[simp] theorem pending_setDru : (s.setDru p x).pending = s.pending := rfl
@[simp] theorem mode_setDru : (s.setDru p x).mode = s.mode := rfl
@[simp] theorem clk_setDru : (s.setDru p x).clk = s.clk := rfl
@[simp] theorem freeCtr_setDru : (s.setDru p x).freeCtr = s.freeCtr := rfl
@[simp] theorem regs_setDru : (s.setDru p x).regs = s.regs := rfl
@[simp] theorem out_setDru : (s.setDru p x).out = s.out := rfl
@[simp] theorem time_setDru : (s.setDru p x).time = s.time := rfl
@[simp] theorem dict_setDru : (s.setDru p x).dict = s.dict := rfl
@[simp] theorem intc_setDru : (s.setDru p x).intc = s.intc := rfl
@[simp] theorem cnt_setDru : (s.setDru p x).cnt = s.cnt := rfl
@[simp] theorem fab_setDru : (s.setDru p x).fab = s.fab := rfl
@[simp] theorem coh_setDru : (s.setDru p x).coh = s.coh := rfl
@[simp] theorem move_setDru : (s.setDru p x).move = s.move := rfl
@[simp] theorem pm_setDru : (s.setDru p x).pm = s.pm := rfl
@[simp] theorem sec_setDru : (s.setDru p x).sec = s.sec := rfl
@[simp] theorem slotp_setDru : (s.setDru p x).slotp = s.slotp := rfl
@[simp] theorem talus_setDru : (s.setDru p x).talus = s.talus := rfl
@[simp] theorem prof_setDru : (s.setDru p x).prof = s.prof := rfl
@[simp] theorem rst_setDru : (s.setDru p x).rst = s.rst := rfl
@[simp] theorem reg_setDru (o i : Nat) : (s.setDru p x).reg o i = s.reg o i := rfl
@[simp] theorem flag_setDru (o i : Nat) : (s.setDru p x).flag o i = s.flag o i := rfl

end

/-! `setQuartz` writes `link` alone. -/

section

variable (s : State) (p : Nat) (x : Quartz)

@[simp] theorem pending_setQuartz : (s.setQuartz p x).pending = s.pending := rfl
@[simp] theorem mode_setQuartz : (s.setQuartz p x).mode = s.mode := rfl
@[simp] theorem clk_setQuartz : (s.setQuartz p x).clk = s.clk := rfl
@[simp] theorem freeCtr_setQuartz : (s.setQuartz p x).freeCtr = s.freeCtr := rfl
@[simp] theorem regs_setQuartz : (s.setQuartz p x).regs = s.regs := rfl
@[simp] theorem out_setQuartz : (s.setQuartz p x).out = s.out := rfl
@[simp] theorem time_setQuartz : (s.setQuartz p x).time = s.time := rfl
@[simp] theorem dict_setQuartz : (s.setQuartz p x).dict = s.dict := rfl
@[simp] theorem intc_setQuartz : (s.setQuartz p x).intc = s.intc := rfl
@[simp] theorem cnt_setQuartz : (s.setQuartz p x).cnt = s.cnt := rfl
@[simp] theorem fab_setQuartz : (s.setQuartz p x).fab = s.fab := rfl
@[simp] theorem coh_setQuartz : (s.setQuartz p x).coh = s.coh := rfl
@[simp] theorem move_setQuartz : (s.setQuartz p x).move = s.move := rfl
@[simp] theorem pm_setQuartz : (s.setQuartz p x).pm = s.pm := rfl
@[simp] theorem sec_setQuartz : (s.setQuartz p x).sec = s.sec := rfl
@[simp] theorem slotp_setQuartz : (s.setQuartz p x).slotp = s.slotp := rfl
@[simp] theorem talus_setQuartz : (s.setQuartz p x).talus = s.talus := rfl
@[simp] theorem prof_setQuartz : (s.setQuartz p x).prof = s.prof := rfl
@[simp] theorem rst_setQuartz : (s.setQuartz p x).rst = s.rst := rfl
@[simp] theorem reg_setQuartz (o i : Nat) : (s.setQuartz p x).reg o i = s.reg o i := rfl
@[simp] theorem flag_setQuartz (o i : Nat) : (s.setQuartz p x).flag o i = s.flag o i := rfl

end

/-! `setStage` writes `dict` alone. -/

section

variable (s : State) (p : Nat) (x : Stage)

@[simp] theorem pending_setStage : (s.setStage p x).pending = s.pending := rfl
@[simp] theorem mode_setStage : (s.setStage p x).mode = s.mode := rfl
@[simp] theorem clk_setStage : (s.setStage p x).clk = s.clk := rfl
@[simp] theorem freeCtr_setStage : (s.setStage p x).freeCtr = s.freeCtr := rfl
@[simp] theorem regs_setStage : (s.setStage p x).regs = s.regs := rfl
@[simp] theorem out_setStage : (s.setStage p x).out = s.out := rfl
@[simp] theorem time_setStage : (s.setStage p x).time = s.time := rfl
@[simp] theorem intc_setStage : (s.setStage p x).intc = s.intc := rfl
@[simp] theorem cnt_setStage : (s.setStage p x).cnt = s.cnt := rfl
@[simp] theorem link_setStage : (s.setStage p x).link = s.link := rfl
@[simp] theorem fab_setStage : (s.setStage p x).fab = s.fab := rfl
@[simp] theorem coh_setStage : (s.setStage p x).coh = s.coh := rfl
@[simp] theorem move_setStage : (s.setStage p x).move = s.move := rfl
@[simp] theorem pm_setStage : (s.setStage p x).pm = s.pm := rfl
@[simp] theorem sec_setStage : (s.setStage p x).sec = s.sec := rfl
@[simp] theorem slotp_setStage : (s.setStage p x).slotp = s.slotp := rfl
@[simp] theorem talus_setStage : (s.setStage p x).talus = s.talus := rfl
@[simp] theorem prof_setStage : (s.setStage p x).prof = s.prof := rfl
@[simp] theorem rst_setStage : (s.setStage p x).rst = s.rst := rfl
@[simp] theorem reg_setStage (o i : Nat) : (s.setStage p x).reg o i = s.reg o i := rfl
@[simp] theorem flag_setStage (o i : Nat) : (s.setStage p x).flag o i = s.flag o i := rfl

end

/-! `setLop` writes `dict` alone. -/

section

variable (s : State) (p : Nat) (x : Lop)

@[simp] theorem pending_setLop : (s.setLop p x).pending = s.pending := rfl
@[simp] theorem mode_setLop : (s.setLop p x).mode = s.mode := rfl
@[simp] theorem clk_setLop : (s.setLop p x).clk = s.clk := rfl
@[simp] theorem freeCtr_setLop : (s.setLop p x).freeCtr = s.freeCtr := rfl
@[simp] theorem regs_setLop : (s.setLop p x).regs = s.regs := rfl
@[simp] theorem out_setLop : (s.setLop p x).out = s.out := rfl
@[simp] theorem time_setLop : (s.setLop p x).time = s.time := rfl
@[simp] theorem intc_setLop : (s.setLop p x).intc = s.intc := rfl
@[simp] theorem cnt_setLop : (s.setLop p x).cnt = s.cnt := rfl
@[simp] theorem link_setLop : (s.setLop p x).link = s.link := rfl
@[simp] theorem fab_setLop : (s.setLop p x).fab = s.fab := rfl
@[simp] theorem coh_setLop : (s.setLop p x).coh = s.coh := rfl
@[simp] theorem move_setLop : (s.setLop p x).move = s.move := rfl
@[simp] theorem pm_setLop : (s.setLop p x).pm = s.pm := rfl
@[simp] theorem sec_setLop : (s.setLop p x).sec = s.sec := rfl
@[simp] theorem slotp_setLop : (s.setLop p x).slotp = s.slotp := rfl
@[simp] theorem talus_setLop : (s.setLop p x).talus = s.talus := rfl
@[simp] theorem prof_setLop : (s.setLop p x).prof = s.prof := rfl
@[simp] theorem rst_setLop : (s.setLop p x).rst = s.rst := rfl
@[simp] theorem reg_setLop (o i : Nat) : (s.setLop p x).reg o i = s.reg o i := rfl
@[simp] theorem flag_setLop (o i : Nat) : (s.setLop p x).flag o i = s.flag o i := rfl

end

/-! `setSlot` writes `time` alone. -/

section

variable (s : State) (p : Nat) (x : Slot)

@[simp] theorem pending_setSlot : (s.setSlot p x).pending = s.pending := rfl
@[simp] theorem mode_setSlot : (s.setSlot p x).mode = s.mode := rfl
@[simp] theorem clk_setSlot : (s.setSlot p x).clk = s.clk := rfl
@[simp] theorem freeCtr_setSlot : (s.setSlot p x).freeCtr = s.freeCtr := rfl
@[simp] theorem regs_setSlot : (s.setSlot p x).regs = s.regs := rfl
@[simp] theorem out_setSlot : (s.setSlot p x).out = s.out := rfl
@[simp] theorem dict_setSlot : (s.setSlot p x).dict = s.dict := rfl
@[simp] theorem intc_setSlot : (s.setSlot p x).intc = s.intc := rfl
@[simp] theorem cnt_setSlot : (s.setSlot p x).cnt = s.cnt := rfl
@[simp] theorem link_setSlot : (s.setSlot p x).link = s.link := rfl
@[simp] theorem fab_setSlot : (s.setSlot p x).fab = s.fab := rfl
@[simp] theorem coh_setSlot : (s.setSlot p x).coh = s.coh := rfl
@[simp] theorem move_setSlot : (s.setSlot p x).move = s.move := rfl
@[simp] theorem pm_setSlot : (s.setSlot p x).pm = s.pm := rfl
@[simp] theorem sec_setSlot : (s.setSlot p x).sec = s.sec := rfl
@[simp] theorem slotp_setSlot : (s.setSlot p x).slotp = s.slotp := rfl
@[simp] theorem talus_setSlot : (s.setSlot p x).talus = s.talus := rfl
@[simp] theorem prof_setSlot : (s.setSlot p x).prof = s.prof := rfl
@[simp] theorem rst_setSlot : (s.setSlot p x).rst = s.rst := rfl
@[simp] theorem reg_setSlot (o i : Nat) : (s.setSlot p x).reg o i = s.reg o i := rfl
@[simp] theorem flag_setSlot (o i : Nat) : (s.setSlot p x).flag o i = s.flag o i := rfl

end

/-! `setFlitDlg` writes `time` alone. -/

section

variable (s : State) (p : Nat) (x : FlitDlg)

@[simp] theorem pending_setFlitDlg : (s.setFlitDlg p x).pending = s.pending := rfl
@[simp] theorem mode_setFlitDlg : (s.setFlitDlg p x).mode = s.mode := rfl
@[simp] theorem clk_setFlitDlg : (s.setFlitDlg p x).clk = s.clk := rfl
@[simp] theorem freeCtr_setFlitDlg : (s.setFlitDlg p x).freeCtr = s.freeCtr := rfl
@[simp] theorem regs_setFlitDlg : (s.setFlitDlg p x).regs = s.regs := rfl
@[simp] theorem out_setFlitDlg : (s.setFlitDlg p x).out = s.out := rfl
@[simp] theorem dict_setFlitDlg : (s.setFlitDlg p x).dict = s.dict := rfl
@[simp] theorem intc_setFlitDlg : (s.setFlitDlg p x).intc = s.intc := rfl
@[simp] theorem cnt_setFlitDlg : (s.setFlitDlg p x).cnt = s.cnt := rfl
@[simp] theorem link_setFlitDlg : (s.setFlitDlg p x).link = s.link := rfl
@[simp] theorem fab_setFlitDlg : (s.setFlitDlg p x).fab = s.fab := rfl
@[simp] theorem coh_setFlitDlg : (s.setFlitDlg p x).coh = s.coh := rfl
@[simp] theorem move_setFlitDlg : (s.setFlitDlg p x).move = s.move := rfl
@[simp] theorem pm_setFlitDlg : (s.setFlitDlg p x).pm = s.pm := rfl
@[simp] theorem sec_setFlitDlg : (s.setFlitDlg p x).sec = s.sec := rfl
@[simp] theorem slotp_setFlitDlg : (s.setFlitDlg p x).slotp = s.slotp := rfl
@[simp] theorem talus_setFlitDlg : (s.setFlitDlg p x).talus = s.talus := rfl
@[simp] theorem prof_setFlitDlg : (s.setFlitDlg p x).prof = s.prof := rfl
@[simp] theorem rst_setFlitDlg : (s.setFlitDlg p x).rst = s.rst := rfl
@[simp] theorem reg_setFlitDlg (o i : Nat) : (s.setFlitDlg p x).reg o i = s.reg o i := rfl
@[simp] theorem flag_setFlitDlg (o i : Nat) : (s.setFlitDlg p x).flag o i = s.flag o i := rfl

end

/-! `setPtmDlg` writes `time` alone. -/

section

variable (s : State) (p : Nat) (x : PtmDlg)

@[simp] theorem pending_setPtmDlg : (s.setPtmDlg p x).pending = s.pending := rfl
@[simp] theorem mode_setPtmDlg : (s.setPtmDlg p x).mode = s.mode := rfl
@[simp] theorem clk_setPtmDlg : (s.setPtmDlg p x).clk = s.clk := rfl
@[simp] theorem freeCtr_setPtmDlg : (s.setPtmDlg p x).freeCtr = s.freeCtr := rfl
@[simp] theorem regs_setPtmDlg : (s.setPtmDlg p x).regs = s.regs := rfl
@[simp] theorem out_setPtmDlg : (s.setPtmDlg p x).out = s.out := rfl
@[simp] theorem dict_setPtmDlg : (s.setPtmDlg p x).dict = s.dict := rfl
@[simp] theorem intc_setPtmDlg : (s.setPtmDlg p x).intc = s.intc := rfl
@[simp] theorem cnt_setPtmDlg : (s.setPtmDlg p x).cnt = s.cnt := rfl
@[simp] theorem link_setPtmDlg : (s.setPtmDlg p x).link = s.link := rfl
@[simp] theorem fab_setPtmDlg : (s.setPtmDlg p x).fab = s.fab := rfl
@[simp] theorem coh_setPtmDlg : (s.setPtmDlg p x).coh = s.coh := rfl
@[simp] theorem move_setPtmDlg : (s.setPtmDlg p x).move = s.move := rfl
@[simp] theorem pm_setPtmDlg : (s.setPtmDlg p x).pm = s.pm := rfl
@[simp] theorem sec_setPtmDlg : (s.setPtmDlg p x).sec = s.sec := rfl
@[simp] theorem slotp_setPtmDlg : (s.setPtmDlg p x).slotp = s.slotp := rfl
@[simp] theorem talus_setPtmDlg : (s.setPtmDlg p x).talus = s.talus := rfl
@[simp] theorem prof_setPtmDlg : (s.setPtmDlg p x).prof = s.prof := rfl
@[simp] theorem rst_setPtmDlg : (s.setPtmDlg p x).rst = s.rst := rfl
@[simp] theorem reg_setPtmDlg (o i : Nat) : (s.setPtmDlg p x).reg o i = s.reg o i := rfl
@[simp] theorem flag_setPtmDlg (o i : Nat) : (s.setPtmDlg p x).flag o i = s.flag o i := rfl

end

/-! `setIntSrc` writes `intc` alone. -/

section

variable (s : State) (p : Nat) (x : IntSrc)

@[simp] theorem pending_setIntSrc : (s.setIntSrc p x).pending = s.pending := rfl
@[simp] theorem mode_setIntSrc : (s.setIntSrc p x).mode = s.mode := rfl
@[simp] theorem clk_setIntSrc : (s.setIntSrc p x).clk = s.clk := rfl
@[simp] theorem freeCtr_setIntSrc : (s.setIntSrc p x).freeCtr = s.freeCtr := rfl
@[simp] theorem regs_setIntSrc : (s.setIntSrc p x).regs = s.regs := rfl
@[simp] theorem out_setIntSrc : (s.setIntSrc p x).out = s.out := rfl
@[simp] theorem time_setIntSrc : (s.setIntSrc p x).time = s.time := rfl
@[simp] theorem dict_setIntSrc : (s.setIntSrc p x).dict = s.dict := rfl
@[simp] theorem cnt_setIntSrc : (s.setIntSrc p x).cnt = s.cnt := rfl
@[simp] theorem link_setIntSrc : (s.setIntSrc p x).link = s.link := rfl
@[simp] theorem fab_setIntSrc : (s.setIntSrc p x).fab = s.fab := rfl
@[simp] theorem coh_setIntSrc : (s.setIntSrc p x).coh = s.coh := rfl
@[simp] theorem move_setIntSrc : (s.setIntSrc p x).move = s.move := rfl
@[simp] theorem pm_setIntSrc : (s.setIntSrc p x).pm = s.pm := rfl
@[simp] theorem sec_setIntSrc : (s.setIntSrc p x).sec = s.sec := rfl
@[simp] theorem slotp_setIntSrc : (s.setIntSrc p x).slotp = s.slotp := rfl
@[simp] theorem talus_setIntSrc : (s.setIntSrc p x).talus = s.talus := rfl
@[simp] theorem prof_setIntSrc : (s.setIntSrc p x).prof = s.prof := rfl
@[simp] theorem rst_setIntSrc : (s.setIntSrc p x).rst = s.rst := rfl
@[simp] theorem reg_setIntSrc (o i : Nat) : (s.setIntSrc p x).reg o i = s.reg o i := rfl
@[simp] theorem flag_setIntSrc (o i : Nat) : (s.setIntSrc p x).flag o i = s.flag o i := rfl

end

/-! `setEgr` writes `fab` alone. -/

section

variable (s : State) (p : Nat) (x : Egress)

@[simp] theorem pending_setEgr : (s.setEgr p x).pending = s.pending := rfl
@[simp] theorem mode_setEgr : (s.setEgr p x).mode = s.mode := rfl
@[simp] theorem clk_setEgr : (s.setEgr p x).clk = s.clk := rfl
@[simp] theorem freeCtr_setEgr : (s.setEgr p x).freeCtr = s.freeCtr := rfl
@[simp] theorem regs_setEgr : (s.setEgr p x).regs = s.regs := rfl
@[simp] theorem out_setEgr : (s.setEgr p x).out = s.out := rfl
@[simp] theorem time_setEgr : (s.setEgr p x).time = s.time := rfl
@[simp] theorem dict_setEgr : (s.setEgr p x).dict = s.dict := rfl
@[simp] theorem intc_setEgr : (s.setEgr p x).intc = s.intc := rfl
@[simp] theorem cnt_setEgr : (s.setEgr p x).cnt = s.cnt := rfl
@[simp] theorem link_setEgr : (s.setEgr p x).link = s.link := rfl
@[simp] theorem coh_setEgr : (s.setEgr p x).coh = s.coh := rfl
@[simp] theorem move_setEgr : (s.setEgr p x).move = s.move := rfl
@[simp] theorem pm_setEgr : (s.setEgr p x).pm = s.pm := rfl
@[simp] theorem sec_setEgr : (s.setEgr p x).sec = s.sec := rfl
@[simp] theorem slotp_setEgr : (s.setEgr p x).slotp = s.slotp := rfl
@[simp] theorem talus_setEgr : (s.setEgr p x).talus = s.talus := rfl
@[simp] theorem prof_setEgr : (s.setEgr p x).prof = s.prof := rfl
@[simp] theorem rst_setEgr : (s.setEgr p x).rst = s.rst := rfl
@[simp] theorem reg_setEgr (o i : Nat) : (s.setEgr p x).reg o i = s.reg o i := rfl
@[simp] theorem flag_setEgr (o i : Nat) : (s.setEgr p x).flag o i = s.flag o i := rfl

end

/-! `setIde` writes `sec` alone. -/

section

variable (s : State) (p : Nat) (x : Ide)

@[simp] theorem pending_setIde : (s.setIde p x).pending = s.pending := rfl
@[simp] theorem mode_setIde : (s.setIde p x).mode = s.mode := rfl
@[simp] theorem clk_setIde : (s.setIde p x).clk = s.clk := rfl
@[simp] theorem freeCtr_setIde : (s.setIde p x).freeCtr = s.freeCtr := rfl
@[simp] theorem regs_setIde : (s.setIde p x).regs = s.regs := rfl
@[simp] theorem out_setIde : (s.setIde p x).out = s.out := rfl
@[simp] theorem time_setIde : (s.setIde p x).time = s.time := rfl
@[simp] theorem dict_setIde : (s.setIde p x).dict = s.dict := rfl
@[simp] theorem intc_setIde : (s.setIde p x).intc = s.intc := rfl
@[simp] theorem cnt_setIde : (s.setIde p x).cnt = s.cnt := rfl
@[simp] theorem link_setIde : (s.setIde p x).link = s.link := rfl
@[simp] theorem fab_setIde : (s.setIde p x).fab = s.fab := rfl
@[simp] theorem coh_setIde : (s.setIde p x).coh = s.coh := rfl
@[simp] theorem move_setIde : (s.setIde p x).move = s.move := rfl
@[simp] theorem pm_setIde : (s.setIde p x).pm = s.pm := rfl
@[simp] theorem slotp_setIde : (s.setIde p x).slotp = s.slotp := rfl
@[simp] theorem talus_setIde : (s.setIde p x).talus = s.talus := rfl
@[simp] theorem prof_setIde : (s.setIde p x).prof = s.prof := rfl
@[simp] theorem rst_setIde : (s.setIde p x).rst = s.rst := rfl
@[simp] theorem reg_setIde (o i : Nat) : (s.setIde p x).reg o i = s.reg o i := rfl
@[simp] theorem flag_setIde (o i : Nat) : (s.setIde p x).flag o i = s.flag o i := rfl

end

/-! `setSlotCh` writes `slotp` alone. -/

section

variable (s : State) (p : Nat) (x : SlotCh)

@[simp] theorem pending_setSlotCh : (s.setSlotCh p x).pending = s.pending := rfl
@[simp] theorem mode_setSlotCh : (s.setSlotCh p x).mode = s.mode := rfl
@[simp] theorem clk_setSlotCh : (s.setSlotCh p x).clk = s.clk := rfl
@[simp] theorem freeCtr_setSlotCh : (s.setSlotCh p x).freeCtr = s.freeCtr := rfl
@[simp] theorem regs_setSlotCh : (s.setSlotCh p x).regs = s.regs := rfl
@[simp] theorem out_setSlotCh : (s.setSlotCh p x).out = s.out := rfl
@[simp] theorem time_setSlotCh : (s.setSlotCh p x).time = s.time := rfl
@[simp] theorem dict_setSlotCh : (s.setSlotCh p x).dict = s.dict := rfl
@[simp] theorem intc_setSlotCh : (s.setSlotCh p x).intc = s.intc := rfl
@[simp] theorem cnt_setSlotCh : (s.setSlotCh p x).cnt = s.cnt := rfl
@[simp] theorem link_setSlotCh : (s.setSlotCh p x).link = s.link := rfl
@[simp] theorem fab_setSlotCh : (s.setSlotCh p x).fab = s.fab := rfl
@[simp] theorem coh_setSlotCh : (s.setSlotCh p x).coh = s.coh := rfl
@[simp] theorem move_setSlotCh : (s.setSlotCh p x).move = s.move := rfl
@[simp] theorem pm_setSlotCh : (s.setSlotCh p x).pm = s.pm := rfl
@[simp] theorem sec_setSlotCh : (s.setSlotCh p x).sec = s.sec := rfl
@[simp] theorem talus_setSlotCh : (s.setSlotCh p x).talus = s.talus := rfl
@[simp] theorem prof_setSlotCh : (s.setSlotCh p x).prof = s.prof := rfl
@[simp] theorem rst_setSlotCh : (s.setSlotCh p x).rst = s.rst := rfl
@[simp] theorem reg_setSlotCh (o i : Nat) : (s.setSlotCh p x).reg o i = s.reg o i := rfl
@[simp] theorem flag_setSlotCh (o i : Nat) : (s.setSlotCh p x).flag o i = s.flag o i := rfl

end

/-! `setFeed` writes `slotp` alone. -/

section

variable (s : State) (p : Nat) (x : Feed)

@[simp] theorem pending_setFeed : (s.setFeed p x).pending = s.pending := rfl
@[simp] theorem mode_setFeed : (s.setFeed p x).mode = s.mode := rfl
@[simp] theorem clk_setFeed : (s.setFeed p x).clk = s.clk := rfl
@[simp] theorem freeCtr_setFeed : (s.setFeed p x).freeCtr = s.freeCtr := rfl
@[simp] theorem regs_setFeed : (s.setFeed p x).regs = s.regs := rfl
@[simp] theorem out_setFeed : (s.setFeed p x).out = s.out := rfl
@[simp] theorem time_setFeed : (s.setFeed p x).time = s.time := rfl
@[simp] theorem dict_setFeed : (s.setFeed p x).dict = s.dict := rfl
@[simp] theorem intc_setFeed : (s.setFeed p x).intc = s.intc := rfl
@[simp] theorem cnt_setFeed : (s.setFeed p x).cnt = s.cnt := rfl
@[simp] theorem link_setFeed : (s.setFeed p x).link = s.link := rfl
@[simp] theorem fab_setFeed : (s.setFeed p x).fab = s.fab := rfl
@[simp] theorem coh_setFeed : (s.setFeed p x).coh = s.coh := rfl
@[simp] theorem move_setFeed : (s.setFeed p x).move = s.move := rfl
@[simp] theorem pm_setFeed : (s.setFeed p x).pm = s.pm := rfl
@[simp] theorem sec_setFeed : (s.setFeed p x).sec = s.sec := rfl
@[simp] theorem talus_setFeed : (s.setFeed p x).talus = s.talus := rfl
@[simp] theorem prof_setFeed : (s.setFeed p x).prof = s.prof := rfl
@[simp] theorem rst_setFeed : (s.setFeed p x).rst = s.rst := rfl
@[simp] theorem reg_setFeed (o i : Nat) : (s.setFeed p x).reg o i = s.reg o i := rfl
@[simp] theorem flag_setFeed (o i : Nat) : (s.setFeed p x).flag o i = s.flag o i := rfl

end

/-! `setCell` writes `fab` alone. -/

section

variable (s : State) (p : Nat) (x : Option Cell)

@[simp] theorem pending_setCell : (s.setCell p x).pending = s.pending := rfl
@[simp] theorem mode_setCell : (s.setCell p x).mode = s.mode := rfl
@[simp] theorem clk_setCell : (s.setCell p x).clk = s.clk := rfl
@[simp] theorem freeCtr_setCell : (s.setCell p x).freeCtr = s.freeCtr := rfl
@[simp] theorem regs_setCell : (s.setCell p x).regs = s.regs := rfl
@[simp] theorem out_setCell : (s.setCell p x).out = s.out := rfl
@[simp] theorem time_setCell : (s.setCell p x).time = s.time := rfl
@[simp] theorem dict_setCell : (s.setCell p x).dict = s.dict := rfl
@[simp] theorem intc_setCell : (s.setCell p x).intc = s.intc := rfl
@[simp] theorem cnt_setCell : (s.setCell p x).cnt = s.cnt := rfl
@[simp] theorem link_setCell : (s.setCell p x).link = s.link := rfl
@[simp] theorem coh_setCell : (s.setCell p x).coh = s.coh := rfl
@[simp] theorem move_setCell : (s.setCell p x).move = s.move := rfl
@[simp] theorem pm_setCell : (s.setCell p x).pm = s.pm := rfl
@[simp] theorem sec_setCell : (s.setCell p x).sec = s.sec := rfl
@[simp] theorem slotp_setCell : (s.setCell p x).slotp = s.slotp := rfl
@[simp] theorem talus_setCell : (s.setCell p x).talus = s.talus := rfl
@[simp] theorem prof_setCell : (s.setCell p x).prof = s.prof := rfl
@[simp] theorem rst_setCell : (s.setCell p x).rst = s.rst := rfl
@[simp] theorem reg_setCell (o i : Nat) : (s.setCell p x).reg o i = s.reg o i := rfl
@[simp] theorem flag_setCell (o i : Nat) : (s.setCell p x).flag o i = s.flag o i := rfl

end

/-! `setDesc` writes `fab` alone. -/

section

variable (s : State) (p : Nat) (x : Option Desc)

@[simp] theorem pending_setDesc : (s.setDesc p x).pending = s.pending := rfl
@[simp] theorem mode_setDesc : (s.setDesc p x).mode = s.mode := rfl
@[simp] theorem clk_setDesc : (s.setDesc p x).clk = s.clk := rfl
@[simp] theorem freeCtr_setDesc : (s.setDesc p x).freeCtr = s.freeCtr := rfl
@[simp] theorem regs_setDesc : (s.setDesc p x).regs = s.regs := rfl
@[simp] theorem out_setDesc : (s.setDesc p x).out = s.out := rfl
@[simp] theorem time_setDesc : (s.setDesc p x).time = s.time := rfl
@[simp] theorem dict_setDesc : (s.setDesc p x).dict = s.dict := rfl
@[simp] theorem intc_setDesc : (s.setDesc p x).intc = s.intc := rfl
@[simp] theorem cnt_setDesc : (s.setDesc p x).cnt = s.cnt := rfl
@[simp] theorem link_setDesc : (s.setDesc p x).link = s.link := rfl
@[simp] theorem coh_setDesc : (s.setDesc p x).coh = s.coh := rfl
@[simp] theorem move_setDesc : (s.setDesc p x).move = s.move := rfl
@[simp] theorem pm_setDesc : (s.setDesc p x).pm = s.pm := rfl
@[simp] theorem sec_setDesc : (s.setDesc p x).sec = s.sec := rfl
@[simp] theorem slotp_setDesc : (s.setDesc p x).slotp = s.slotp := rfl
@[simp] theorem talus_setDesc : (s.setDesc p x).talus = s.talus := rfl
@[simp] theorem prof_setDesc : (s.setDesc p x).prof = s.prof := rfl
@[simp] theorem rst_setDesc : (s.setDesc p x).rst = s.rst := rfl
@[simp] theorem reg_setDesc (o i : Nat) : (s.setDesc p x).reg o i = s.reg o i := rfl
@[simp] theorem flag_setDesc (o i : Nat) : (s.setDesc p x).flag o i = s.flag o i := rfl

end

/-! `setQueue` writes `fab` alone. -/

section

variable (s : State) (p c : Nat) (x : List Nat)

@[simp] theorem pending_setQueue : (s.setQueue p c x).pending = s.pending := rfl
@[simp] theorem mode_setQueue : (s.setQueue p c x).mode = s.mode := rfl
@[simp] theorem clk_setQueue : (s.setQueue p c x).clk = s.clk := rfl
@[simp] theorem freeCtr_setQueue : (s.setQueue p c x).freeCtr = s.freeCtr := rfl
@[simp] theorem regs_setQueue : (s.setQueue p c x).regs = s.regs := rfl
@[simp] theorem out_setQueue : (s.setQueue p c x).out = s.out := rfl
@[simp] theorem time_setQueue : (s.setQueue p c x).time = s.time := rfl
@[simp] theorem dict_setQueue : (s.setQueue p c x).dict = s.dict := rfl
@[simp] theorem intc_setQueue : (s.setQueue p c x).intc = s.intc := rfl
@[simp] theorem cnt_setQueue : (s.setQueue p c x).cnt = s.cnt := rfl
@[simp] theorem link_setQueue : (s.setQueue p c x).link = s.link := rfl
@[simp] theorem coh_setQueue : (s.setQueue p c x).coh = s.coh := rfl
@[simp] theorem move_setQueue : (s.setQueue p c x).move = s.move := rfl
@[simp] theorem pm_setQueue : (s.setQueue p c x).pm = s.pm := rfl
@[simp] theorem sec_setQueue : (s.setQueue p c x).sec = s.sec := rfl
@[simp] theorem slotp_setQueue : (s.setQueue p c x).slotp = s.slotp := rfl
@[simp] theorem talus_setQueue : (s.setQueue p c x).talus = s.talus := rfl
@[simp] theorem prof_setQueue : (s.setQueue p c x).prof = s.prof := rfl
@[simp] theorem rst_setQueue : (s.setQueue p c x).rst = s.rst := rfl
@[simp] theorem reg_setQueue (o i : Nat) : (s.setQueue p c x).reg o i = s.reg o i := rfl
@[simp] theorem flag_setQueue (o i : Nat) : (s.setQueue p c x).flag o i = s.flag o i := rfl

end

/-! `setRtt` writes `fab` alone. -/

section

variable (s : State) (p : Nat) (x : Option Rtt)

@[simp] theorem pending_setRtt : (s.setRtt p x).pending = s.pending := rfl
@[simp] theorem mode_setRtt : (s.setRtt p x).mode = s.mode := rfl
@[simp] theorem clk_setRtt : (s.setRtt p x).clk = s.clk := rfl
@[simp] theorem freeCtr_setRtt : (s.setRtt p x).freeCtr = s.freeCtr := rfl
@[simp] theorem regs_setRtt : (s.setRtt p x).regs = s.regs := rfl
@[simp] theorem out_setRtt : (s.setRtt p x).out = s.out := rfl
@[simp] theorem time_setRtt : (s.setRtt p x).time = s.time := rfl
@[simp] theorem dict_setRtt : (s.setRtt p x).dict = s.dict := rfl
@[simp] theorem intc_setRtt : (s.setRtt p x).intc = s.intc := rfl
@[simp] theorem cnt_setRtt : (s.setRtt p x).cnt = s.cnt := rfl
@[simp] theorem link_setRtt : (s.setRtt p x).link = s.link := rfl
@[simp] theorem coh_setRtt : (s.setRtt p x).coh = s.coh := rfl
@[simp] theorem move_setRtt : (s.setRtt p x).move = s.move := rfl
@[simp] theorem pm_setRtt : (s.setRtt p x).pm = s.pm := rfl
@[simp] theorem sec_setRtt : (s.setRtt p x).sec = s.sec := rfl
@[simp] theorem slotp_setRtt : (s.setRtt p x).slotp = s.slotp := rfl
@[simp] theorem talus_setRtt : (s.setRtt p x).talus = s.talus := rfl
@[simp] theorem prof_setRtt : (s.setRtt p x).prof = s.prof := rfl
@[simp] theorem rst_setRtt : (s.setRtt p x).rst = s.rst := rfl
@[simp] theorem reg_setRtt (o i : Nat) : (s.setRtt p x).reg o i = s.reg o i := rfl
@[simp] theorem flag_setRtt (o i : Nat) : (s.setRtt p x).flag o i = s.flag o i := rfl

end

/-! `setSynth` writes `fab` alone. -/

section

variable (s : State) (p : Nat) (x : List Synth)

@[simp] theorem pending_setSynth : (s.setSynth p x).pending = s.pending := rfl
@[simp] theorem mode_setSynth : (s.setSynth p x).mode = s.mode := rfl
@[simp] theorem clk_setSynth : (s.setSynth p x).clk = s.clk := rfl
@[simp] theorem freeCtr_setSynth : (s.setSynth p x).freeCtr = s.freeCtr := rfl
@[simp] theorem regs_setSynth : (s.setSynth p x).regs = s.regs := rfl
@[simp] theorem out_setSynth : (s.setSynth p x).out = s.out := rfl
@[simp] theorem time_setSynth : (s.setSynth p x).time = s.time := rfl
@[simp] theorem dict_setSynth : (s.setSynth p x).dict = s.dict := rfl
@[simp] theorem intc_setSynth : (s.setSynth p x).intc = s.intc := rfl
@[simp] theorem cnt_setSynth : (s.setSynth p x).cnt = s.cnt := rfl
@[simp] theorem link_setSynth : (s.setSynth p x).link = s.link := rfl
@[simp] theorem coh_setSynth : (s.setSynth p x).coh = s.coh := rfl
@[simp] theorem move_setSynth : (s.setSynth p x).move = s.move := rfl
@[simp] theorem pm_setSynth : (s.setSynth p x).pm = s.pm := rfl
@[simp] theorem sec_setSynth : (s.setSynth p x).sec = s.sec := rfl
@[simp] theorem slotp_setSynth : (s.setSynth p x).slotp = s.slotp := rfl
@[simp] theorem talus_setSynth : (s.setSynth p x).talus = s.talus := rfl
@[simp] theorem prof_setSynth : (s.setSynth p x).prof = s.prof := rfl
@[simp] theorem rst_setSynth : (s.setSynth p x).rst = s.rst := rfl
@[simp] theorem reg_setSynth (o i : Nat) : (s.setSynth p x).reg o i = s.reg o i := rfl
@[simp] theorem flag_setSynth (o i : Nat) : (s.setSynth p x).flag o i = s.flag o i := rfl

end

/-! `setInMsg` writes `fab` alone. -/

section

variable (s : State) (p c : Nat) (x : Option InMsg)

@[simp] theorem pending_setInMsg : (s.setInMsg p c x).pending = s.pending := rfl
@[simp] theorem mode_setInMsg : (s.setInMsg p c x).mode = s.mode := rfl
@[simp] theorem clk_setInMsg : (s.setInMsg p c x).clk = s.clk := rfl
@[simp] theorem freeCtr_setInMsg : (s.setInMsg p c x).freeCtr = s.freeCtr := rfl
@[simp] theorem regs_setInMsg : (s.setInMsg p c x).regs = s.regs := rfl
@[simp] theorem out_setInMsg : (s.setInMsg p c x).out = s.out := rfl
@[simp] theorem time_setInMsg : (s.setInMsg p c x).time = s.time := rfl
@[simp] theorem dict_setInMsg : (s.setInMsg p c x).dict = s.dict := rfl
@[simp] theorem intc_setInMsg : (s.setInMsg p c x).intc = s.intc := rfl
@[simp] theorem cnt_setInMsg : (s.setInMsg p c x).cnt = s.cnt := rfl
@[simp] theorem link_setInMsg : (s.setInMsg p c x).link = s.link := rfl
@[simp] theorem coh_setInMsg : (s.setInMsg p c x).coh = s.coh := rfl
@[simp] theorem move_setInMsg : (s.setInMsg p c x).move = s.move := rfl
@[simp] theorem pm_setInMsg : (s.setInMsg p c x).pm = s.pm := rfl
@[simp] theorem sec_setInMsg : (s.setInMsg p c x).sec = s.sec := rfl
@[simp] theorem slotp_setInMsg : (s.setInMsg p c x).slotp = s.slotp := rfl
@[simp] theorem talus_setInMsg : (s.setInMsg p c x).talus = s.talus := rfl
@[simp] theorem prof_setInMsg : (s.setInMsg p c x).prof = s.prof := rfl
@[simp] theorem rst_setInMsg : (s.setInMsg p c x).rst = s.rst := rfl
@[simp] theorem reg_setInMsg (o i : Nat) : (s.setInMsg p c x).reg o i = s.reg o i := rfl
@[simp] theorem flag_setInMsg (o i : Nat) : (s.setInMsg p c x).flag o i = s.flag o i := rfl

end

/-! `setHeld` writes `fab` alone. -/

section

variable (s : State) (p c : Nat) (x : Option Held)

@[simp] theorem pending_setHeld : (s.setHeld p c x).pending = s.pending := rfl
@[simp] theorem mode_setHeld : (s.setHeld p c x).mode = s.mode := rfl
@[simp] theorem clk_setHeld : (s.setHeld p c x).clk = s.clk := rfl
@[simp] theorem freeCtr_setHeld : (s.setHeld p c x).freeCtr = s.freeCtr := rfl
@[simp] theorem regs_setHeld : (s.setHeld p c x).regs = s.regs := rfl
@[simp] theorem out_setHeld : (s.setHeld p c x).out = s.out := rfl
@[simp] theorem time_setHeld : (s.setHeld p c x).time = s.time := rfl
@[simp] theorem dict_setHeld : (s.setHeld p c x).dict = s.dict := rfl
@[simp] theorem intc_setHeld : (s.setHeld p c x).intc = s.intc := rfl
@[simp] theorem cnt_setHeld : (s.setHeld p c x).cnt = s.cnt := rfl
@[simp] theorem link_setHeld : (s.setHeld p c x).link = s.link := rfl
@[simp] theorem coh_setHeld : (s.setHeld p c x).coh = s.coh := rfl
@[simp] theorem move_setHeld : (s.setHeld p c x).move = s.move := rfl
@[simp] theorem pm_setHeld : (s.setHeld p c x).pm = s.pm := rfl
@[simp] theorem sec_setHeld : (s.setHeld p c x).sec = s.sec := rfl
@[simp] theorem slotp_setHeld : (s.setHeld p c x).slotp = s.slotp := rfl
@[simp] theorem talus_setHeld : (s.setHeld p c x).talus = s.talus := rfl
@[simp] theorem prof_setHeld : (s.setHeld p c x).prof = s.prof := rfl
@[simp] theorem rst_setHeld : (s.setHeld p c x).rst = s.rst := rfl
@[simp] theorem reg_setHeld (o i : Nat) : (s.setHeld p c x).reg o i = s.reg o i := rfl
@[simp] theorem flag_setHeld (o i : Nat) : (s.setHeld p c x).flag o i = s.flag o i := rfl

end

/-! `setTracker` writes `coh` alone. -/

section

variable (s : State) (p c : Nat) (x : Option Trk)

@[simp] theorem pending_setTracker : (s.setTracker p c x).pending = s.pending := rfl
@[simp] theorem mode_setTracker : (s.setTracker p c x).mode = s.mode := rfl
@[simp] theorem clk_setTracker : (s.setTracker p c x).clk = s.clk := rfl
@[simp] theorem freeCtr_setTracker : (s.setTracker p c x).freeCtr = s.freeCtr := rfl
@[simp] theorem regs_setTracker : (s.setTracker p c x).regs = s.regs := rfl
@[simp] theorem out_setTracker : (s.setTracker p c x).out = s.out := rfl
@[simp] theorem time_setTracker : (s.setTracker p c x).time = s.time := rfl
@[simp] theorem dict_setTracker : (s.setTracker p c x).dict = s.dict := rfl
@[simp] theorem intc_setTracker : (s.setTracker p c x).intc = s.intc := rfl
@[simp] theorem cnt_setTracker : (s.setTracker p c x).cnt = s.cnt := rfl
@[simp] theorem link_setTracker : (s.setTracker p c x).link = s.link := rfl
@[simp] theorem fab_setTracker : (s.setTracker p c x).fab = s.fab := rfl
@[simp] theorem move_setTracker : (s.setTracker p c x).move = s.move := rfl
@[simp] theorem pm_setTracker : (s.setTracker p c x).pm = s.pm := rfl
@[simp] theorem sec_setTracker : (s.setTracker p c x).sec = s.sec := rfl
@[simp] theorem slotp_setTracker : (s.setTracker p c x).slotp = s.slotp := rfl
@[simp] theorem talus_setTracker : (s.setTracker p c x).talus = s.talus := rfl
@[simp] theorem prof_setTracker : (s.setTracker p c x).prof = s.prof := rfl
@[simp] theorem rst_setTracker : (s.setTracker p c x).rst = s.rst := rfl
@[simp] theorem reg_setTracker (o i : Nat) : (s.setTracker p c x).reg o i = s.reg o i := rfl
@[simp] theorem flag_setTracker (o i : Nat) : (s.setTracker p c x).flag o i = s.flag o i := rfl

end

/-! `setEvict` writes `coh` alone. -/

section

variable (s : State) (p c : Nat) (x : Option Evict)

@[simp] theorem pending_setEvict : (s.setEvict p c x).pending = s.pending := rfl
@[simp] theorem mode_setEvict : (s.setEvict p c x).mode = s.mode := rfl
@[simp] theorem clk_setEvict : (s.setEvict p c x).clk = s.clk := rfl
@[simp] theorem freeCtr_setEvict : (s.setEvict p c x).freeCtr = s.freeCtr := rfl
@[simp] theorem regs_setEvict : (s.setEvict p c x).regs = s.regs := rfl
@[simp] theorem out_setEvict : (s.setEvict p c x).out = s.out := rfl
@[simp] theorem time_setEvict : (s.setEvict p c x).time = s.time := rfl
@[simp] theorem dict_setEvict : (s.setEvict p c x).dict = s.dict := rfl
@[simp] theorem intc_setEvict : (s.setEvict p c x).intc = s.intc := rfl
@[simp] theorem cnt_setEvict : (s.setEvict p c x).cnt = s.cnt := rfl
@[simp] theorem link_setEvict : (s.setEvict p c x).link = s.link := rfl
@[simp] theorem fab_setEvict : (s.setEvict p c x).fab = s.fab := rfl
@[simp] theorem move_setEvict : (s.setEvict p c x).move = s.move := rfl
@[simp] theorem pm_setEvict : (s.setEvict p c x).pm = s.pm := rfl
@[simp] theorem sec_setEvict : (s.setEvict p c x).sec = s.sec := rfl
@[simp] theorem slotp_setEvict : (s.setEvict p c x).slotp = s.slotp := rfl
@[simp] theorem talus_setEvict : (s.setEvict p c x).talus = s.talus := rfl
@[simp] theorem prof_setEvict : (s.setEvict p c x).prof = s.prof := rfl
@[simp] theorem rst_setEvict : (s.setEvict p c x).rst = s.rst := rfl
@[simp] theorem reg_setEvict (o i : Nat) : (s.setEvict p c x).reg o i = s.reg o i := rfl
@[simp] theorem flag_setEvict (o i : Nat) : (s.setEvict p c x).flag o i = s.flag o i := rfl

end

/-! `setRsv` writes `coh` alone. -/

section

variable (s : State) (p c : Nat) (x : Option Rsv)

@[simp] theorem pending_setRsv : (s.setRsv p c x).pending = s.pending := rfl
@[simp] theorem mode_setRsv : (s.setRsv p c x).mode = s.mode := rfl
@[simp] theorem clk_setRsv : (s.setRsv p c x).clk = s.clk := rfl
@[simp] theorem freeCtr_setRsv : (s.setRsv p c x).freeCtr = s.freeCtr := rfl
@[simp] theorem regs_setRsv : (s.setRsv p c x).regs = s.regs := rfl
@[simp] theorem out_setRsv : (s.setRsv p c x).out = s.out := rfl
@[simp] theorem time_setRsv : (s.setRsv p c x).time = s.time := rfl
@[simp] theorem dict_setRsv : (s.setRsv p c x).dict = s.dict := rfl
@[simp] theorem intc_setRsv : (s.setRsv p c x).intc = s.intc := rfl
@[simp] theorem cnt_setRsv : (s.setRsv p c x).cnt = s.cnt := rfl
@[simp] theorem link_setRsv : (s.setRsv p c x).link = s.link := rfl
@[simp] theorem fab_setRsv : (s.setRsv p c x).fab = s.fab := rfl
@[simp] theorem move_setRsv : (s.setRsv p c x).move = s.move := rfl
@[simp] theorem pm_setRsv : (s.setRsv p c x).pm = s.pm := rfl
@[simp] theorem sec_setRsv : (s.setRsv p c x).sec = s.sec := rfl
@[simp] theorem slotp_setRsv : (s.setRsv p c x).slotp = s.slotp := rfl
@[simp] theorem talus_setRsv : (s.setRsv p c x).talus = s.talus := rfl
@[simp] theorem prof_setRsv : (s.setRsv p c x).prof = s.prof := rfl
@[simp] theorem rst_setRsv : (s.setRsv p c x).rst = s.rst := rfl
@[simp] theorem reg_setRsv (o i : Nat) : (s.setRsv p c x).reg o i = s.reg o i := rfl
@[simp] theorem flag_setRsv (o i : Nat) : (s.setRsv p c x).flag o i = s.flag o i := rfl

end

/-! `setMover` writes `move` alone. -/

section

variable (s : State) (p : Nat) (x : MoveCh)

@[simp] theorem pending_setMover : (s.setMover p x).pending = s.pending := rfl
@[simp] theorem mode_setMover : (s.setMover p x).mode = s.mode := rfl
@[simp] theorem clk_setMover : (s.setMover p x).clk = s.clk := rfl
@[simp] theorem freeCtr_setMover : (s.setMover p x).freeCtr = s.freeCtr := rfl
@[simp] theorem regs_setMover : (s.setMover p x).regs = s.regs := rfl
@[simp] theorem out_setMover : (s.setMover p x).out = s.out := rfl
@[simp] theorem time_setMover : (s.setMover p x).time = s.time := rfl
@[simp] theorem dict_setMover : (s.setMover p x).dict = s.dict := rfl
@[simp] theorem intc_setMover : (s.setMover p x).intc = s.intc := rfl
@[simp] theorem cnt_setMover : (s.setMover p x).cnt = s.cnt := rfl
@[simp] theorem link_setMover : (s.setMover p x).link = s.link := rfl
@[simp] theorem fab_setMover : (s.setMover p x).fab = s.fab := rfl
@[simp] theorem coh_setMover : (s.setMover p x).coh = s.coh := rfl
@[simp] theorem pm_setMover : (s.setMover p x).pm = s.pm := rfl
@[simp] theorem sec_setMover : (s.setMover p x).sec = s.sec := rfl
@[simp] theorem slotp_setMover : (s.setMover p x).slotp = s.slotp := rfl
@[simp] theorem talus_setMover : (s.setMover p x).talus = s.talus := rfl
@[simp] theorem prof_setMover : (s.setMover p x).prof = s.prof := rfl
@[simp] theorem rst_setMover : (s.setMover p x).rst = s.rst := rfl
@[simp] theorem reg_setMover (o i : Nat) : (s.setMover p x).reg o i = s.reg o i := rfl
@[simp] theorem flag_setMover (o i : Nat) : (s.setMover p x).flag o i = s.flag o i := rfl

end

/-! `emit` writes `out` alone. -/

section

variable (s : State) (x : Output)

@[simp] theorem pending_emit : (s.emit x).pending = s.pending := rfl
@[simp] theorem mode_emit : (s.emit x).mode = s.mode := rfl
@[simp] theorem clk_emit : (s.emit x).clk = s.clk := rfl
@[simp] theorem freeCtr_emit : (s.emit x).freeCtr = s.freeCtr := rfl
@[simp] theorem regs_emit : (s.emit x).regs = s.regs := rfl
@[simp] theorem time_emit : (s.emit x).time = s.time := rfl
@[simp] theorem dict_emit : (s.emit x).dict = s.dict := rfl
@[simp] theorem intc_emit : (s.emit x).intc = s.intc := rfl
@[simp] theorem cnt_emit : (s.emit x).cnt = s.cnt := rfl
@[simp] theorem link_emit : (s.emit x).link = s.link := rfl
@[simp] theorem fab_emit : (s.emit x).fab = s.fab := rfl
@[simp] theorem coh_emit : (s.emit x).coh = s.coh := rfl
@[simp] theorem move_emit : (s.emit x).move = s.move := rfl
@[simp] theorem pm_emit : (s.emit x).pm = s.pm := rfl
@[simp] theorem sec_emit : (s.emit x).sec = s.sec := rfl
@[simp] theorem slotp_emit : (s.emit x).slotp = s.slotp := rfl
@[simp] theorem talus_emit : (s.emit x).talus = s.talus := rfl
@[simp] theorem prof_emit : (s.emit x).prof = s.prof := rfl
@[simp] theorem rst_emit : (s.emit x).rst = s.rst := rfl
@[simp] theorem reg_emit (o i : Nat) : (s.emit x).reg o i = s.reg o i := rfl
@[simp] theorem flag_emit (o i : Nat) : (s.emit x).flag o i = s.flag o i := rfl

end

/-! `nextFree` writes `freeCtr` alone. -/

section

variable (s : State)

@[simp] theorem pending_nextFree : (s.nextFree).pending = s.pending := rfl
@[simp] theorem mode_nextFree : (s.nextFree).mode = s.mode := rfl
@[simp] theorem clk_nextFree : (s.nextFree).clk = s.clk := rfl
@[simp] theorem regs_nextFree : (s.nextFree).regs = s.regs := rfl
@[simp] theorem out_nextFree : (s.nextFree).out = s.out := rfl
@[simp] theorem time_nextFree : (s.nextFree).time = s.time := rfl
@[simp] theorem dict_nextFree : (s.nextFree).dict = s.dict := rfl
@[simp] theorem intc_nextFree : (s.nextFree).intc = s.intc := rfl
@[simp] theorem cnt_nextFree : (s.nextFree).cnt = s.cnt := rfl
@[simp] theorem link_nextFree : (s.nextFree).link = s.link := rfl
@[simp] theorem fab_nextFree : (s.nextFree).fab = s.fab := rfl
@[simp] theorem coh_nextFree : (s.nextFree).coh = s.coh := rfl
@[simp] theorem move_nextFree : (s.nextFree).move = s.move := rfl
@[simp] theorem pm_nextFree : (s.nextFree).pm = s.pm := rfl
@[simp] theorem sec_nextFree : (s.nextFree).sec = s.sec := rfl
@[simp] theorem slotp_nextFree : (s.nextFree).slotp = s.slotp := rfl
@[simp] theorem talus_nextFree : (s.nextFree).talus = s.talus := rfl
@[simp] theorem prof_nextFree : (s.nextFree).prof = s.prof := rfl
@[simp] theorem rst_nextFree : (s.nextFree).rst = s.rst := rfl
@[simp] theorem reg_nextFree (o i : Nat) : (s.nextFree).reg o i = s.reg o i := rfl
@[simp] theorem flag_nextFree (o i : Nat) : (s.nextFree).flag o i = s.flag o i := rfl

end

/-! `count` writes `cnt` alone. -/

section

variable (s : State) (x : CntEvt)

@[simp] theorem pending_count : (s.count x).pending = s.pending := rfl
@[simp] theorem mode_count : (s.count x).mode = s.mode := rfl
@[simp] theorem clk_count : (s.count x).clk = s.clk := rfl
@[simp] theorem freeCtr_count : (s.count x).freeCtr = s.freeCtr := rfl
@[simp] theorem regs_count : (s.count x).regs = s.regs := rfl
@[simp] theorem out_count : (s.count x).out = s.out := rfl
@[simp] theorem time_count : (s.count x).time = s.time := rfl
@[simp] theorem dict_count : (s.count x).dict = s.dict := rfl
@[simp] theorem intc_count : (s.count x).intc = s.intc := rfl
@[simp] theorem link_count : (s.count x).link = s.link := rfl
@[simp] theorem fab_count : (s.count x).fab = s.fab := rfl
@[simp] theorem coh_count : (s.count x).coh = s.coh := rfl
@[simp] theorem move_count : (s.count x).move = s.move := rfl
@[simp] theorem pm_count : (s.count x).pm = s.pm := rfl
@[simp] theorem sec_count : (s.count x).sec = s.sec := rfl
@[simp] theorem slotp_count : (s.count x).slotp = s.slotp := rfl
@[simp] theorem talus_count : (s.count x).talus = s.talus := rfl
@[simp] theorem prof_count : (s.count x).prof = s.prof := rfl
@[simp] theorem rst_count : (s.count x).rst = s.rst := rfl
@[simp] theorem reg_count (o i : Nat) : (s.count x).reg o i = s.reg o i := rfl
@[simp] theorem flag_count (o i : Nat) : (s.count x).flag o i = s.flag o i := rfl

end

/-! ### Reading back -/

@[simp] theorem reg_setReg_self (s : State) (o i v : Nat) : (s.setReg o i v).reg o i = v := Tbl.get_set_self _ _ _ _

theorem reg_setReg_of_ne (s : State) (o i v : Nat) {a b : Nat} (h : (a, b) ≠ (o, i)) : (s.setReg o i v).reg a b = s.reg a b :=
  Tbl.get_set_of_ne _ _ _ _ h

/-- Which instance of which object a write changed. -/
theorem reg_setReg (s : State) (o i v a b : Nat) : (s.setReg o i v).reg a b = if a = o ∧ b = i then v else s.reg a b := by
  split
  · rename_i h; rw [h.1, h.2]; exact reg_setReg_self s o i v
  · rename_i h; exact reg_setReg_of_ne s o i v (fun q => h (by simpa using q))

@[simp] theorem port_setPort_self (s : State) (p : Nat) (x : Port) : (s.setPort p x).port p = x := Tbl.get_set_self _ _ _ _
theorem port_setPort_of_ne (s : State) (p : Nat) (x : Port) {q : Nat} (h : q ≠ p) : (s.setPort p x).port q = s.port q :=
  Tbl.get_set_of_ne _ _ _ _ (fun e => h (Prod.mk.inj e).1)

@[simp] theorem lane_setLane_self (s : State) (p : Nat) (x : Lane) : (s.setLane p x).lane p = x := Tbl.get_set_self _ _ _ _
theorem lane_setLane_of_ne (s : State) (p : Nat) (x : Lane) {q : Nat} (h : q ≠ p) : (s.setLane p x).lane q = s.lane q :=
  Tbl.get_set_of_ne _ _ _ _ (fun e => h (Prod.mk.inj e).1)

@[simp] theorem dru_setDru_self (s : State) (p : Nat) (x : Dru) : (s.setDru p x).dru p = x := Tbl.get_set_self _ _ _ _
theorem dru_setDru_of_ne (s : State) (p : Nat) (x : Dru) {q : Nat} (h : q ≠ p) : (s.setDru p x).dru q = s.dru q :=
  Tbl.get_set_of_ne _ _ _ _ (fun e => h (Prod.mk.inj e).1)

@[simp] theorem quartz_setQuartz_self (s : State) (p : Nat) (x : Quartz) : (s.setQuartz p x).quartz p = x := Tbl.get_set_self _ _ _ _
theorem quartz_setQuartz_of_ne (s : State) (p : Nat) (x : Quartz) {q : Nat} (h : q ≠ p) : (s.setQuartz p x).quartz q = s.quartz q :=
  Tbl.get_set_of_ne _ _ _ _ (fun e => h (Prod.mk.inj e).1)

@[simp] theorem stage_setStage_self (s : State) (p : Nat) (x : Stage) : (s.setStage p x).stage p = x := Tbl.get_set_self _ _ _ _
theorem stage_setStage_of_ne (s : State) (p : Nat) (x : Stage) {q : Nat} (h : q ≠ p) : (s.setStage p x).stage q = s.stage q :=
  Tbl.get_set_of_ne _ _ _ _ (fun e => h (Prod.mk.inj e).1)

@[simp] theorem lop_setLop_self (s : State) (p : Nat) (x : Lop) : (s.setLop p x).lop p = x := Tbl.get_set_self _ _ _ _
theorem lop_setLop_of_ne (s : State) (p : Nat) (x : Lop) {q : Nat} (h : q ≠ p) : (s.setLop p x).lop q = s.lop q :=
  Tbl.get_set_of_ne _ _ _ _ (fun e => h (Prod.mk.inj e).1)

@[simp] theorem slot_setSlot_self (s : State) (p : Nat) (x : Slot) : (s.setSlot p x).slot p = x := Tbl.get_set_self _ _ _ _
theorem slot_setSlot_of_ne (s : State) (p : Nat) (x : Slot) {q : Nat} (h : q ≠ p) : (s.setSlot p x).slot q = s.slot q :=
  Tbl.get_set_of_ne _ _ _ _ (fun e => h (Prod.mk.inj e).1)

@[simp] theorem flitDlg_setFlitDlg_self (s : State) (p : Nat) (x : FlitDlg) : (s.setFlitDlg p x).flitDlg p = x := Tbl.get_set_self _ _ _ _
theorem flitDlg_setFlitDlg_of_ne (s : State) (p : Nat) (x : FlitDlg) {q : Nat} (h : q ≠ p) : (s.setFlitDlg p x).flitDlg q = s.flitDlg q :=
  Tbl.get_set_of_ne _ _ _ _ (fun e => h (Prod.mk.inj e).1)

@[simp] theorem ptmDlg_setPtmDlg_self (s : State) (p : Nat) (x : PtmDlg) : (s.setPtmDlg p x).ptmDlg p = x := Tbl.get_set_self _ _ _ _
theorem ptmDlg_setPtmDlg_of_ne (s : State) (p : Nat) (x : PtmDlg) {q : Nat} (h : q ≠ p) : (s.setPtmDlg p x).ptmDlg q = s.ptmDlg q :=
  Tbl.get_set_of_ne _ _ _ _ (fun e => h (Prod.mk.inj e).1)

@[simp] theorem intSrc_setIntSrc_self (s : State) (p : Nat) (x : IntSrc) : (s.setIntSrc p x).intSrc p = x := Tbl.get_set_self _ _ _ _
theorem intSrc_setIntSrc_of_ne (s : State) (p : Nat) (x : IntSrc) {q : Nat} (h : q ≠ p) : (s.setIntSrc p x).intSrc q = s.intSrc q :=
  Tbl.get_set_of_ne _ _ _ _ (fun e => h (Prod.mk.inj e).1)

@[simp] theorem egr_setEgr_self (s : State) (p : Nat) (x : Egress) : (s.setEgr p x).egr p = x := Tbl.get_set_self _ _ _ _
theorem egr_setEgr_of_ne (s : State) (p : Nat) (x : Egress) {q : Nat} (h : q ≠ p) : (s.setEgr p x).egr q = s.egr q :=
  Tbl.get_set_of_ne _ _ _ _ (fun e => h (Prod.mk.inj e).1)

@[simp] theorem ide_setIde_self (s : State) (p : Nat) (x : Ide) : (s.setIde p x).ide p = x := Tbl.get_set_self _ _ _ _
theorem ide_setIde_of_ne (s : State) (p : Nat) (x : Ide) {q : Nat} (h : q ≠ p) : (s.setIde p x).ide q = s.ide q :=
  Tbl.get_set_of_ne _ _ _ _ (fun e => h (Prod.mk.inj e).1)

@[simp] theorem slotCh_setSlotCh_self (s : State) (p : Nat) (x : SlotCh) : (s.setSlotCh p x).slotCh p = x := Tbl.get_set_self _ _ _ _
theorem slotCh_setSlotCh_of_ne (s : State) (p : Nat) (x : SlotCh) {q : Nat} (h : q ≠ p) : (s.setSlotCh p x).slotCh q = s.slotCh q :=
  Tbl.get_set_of_ne _ _ _ _ (fun e => h (Prod.mk.inj e).1)

@[simp] theorem feed_setFeed_self (s : State) (p : Nat) (x : Feed) : (s.setFeed p x).feed p = x := Tbl.get_set_self _ _ _ _
theorem feed_setFeed_of_ne (s : State) (p : Nat) (x : Feed) {q : Nat} (h : q ≠ p) : (s.setFeed p x).feed q = s.feed q :=
  Tbl.get_set_of_ne _ _ _ _ (fun e => h (Prod.mk.inj e).1)

@[simp] theorem cell_setCell_self (s : State) (p : Nat) (x : Option Cell) : (s.setCell p x).cell p = x := Tbl.get_set_self _ _ _ _
theorem cell_setCell_of_ne (s : State) (p : Nat) (x : Option Cell) {q : Nat} (h : q ≠ p) : (s.setCell p x).cell q = s.cell q :=
  Tbl.get_set_of_ne _ _ _ _ (fun e => h (Prod.mk.inj e).1)

@[simp] theorem desc_setDesc_self (s : State) (p : Nat) (x : Option Desc) : (s.setDesc p x).desc p = x := Tbl.get_set_self _ _ _ _
theorem desc_setDesc_of_ne (s : State) (p : Nat) (x : Option Desc) {q : Nat} (h : q ≠ p) : (s.setDesc p x).desc q = s.desc q :=
  Tbl.get_set_of_ne _ _ _ _ (fun e => h (Prod.mk.inj e).1)

@[simp] theorem queue_setQueue_self (s : State) (p c : Nat) (x : List Nat) : (s.setQueue p c x).queue p c = x := Tbl.get_set_self _ _ _ _
theorem queue_setQueue_of_ne (s : State) (p c : Nat) (x : List Nat) {q d : Nat} (h : (q, d) ≠ (p, c)) : (s.setQueue p c x).queue q d = s.queue q d :=
  Tbl.get_set_of_ne _ _ _ _ h

@[simp] theorem rtt_setRtt_self (s : State) (p : Nat) (x : Option Rtt) : (s.setRtt p x).rtt p = x := Tbl.get_set_self _ _ _ _
theorem rtt_setRtt_of_ne (s : State) (p : Nat) (x : Option Rtt) {q : Nat} (h : q ≠ p) : (s.setRtt p x).rtt q = s.rtt q :=
  Tbl.get_set_of_ne _ _ _ _ (fun e => h (Prod.mk.inj e).1)

@[simp] theorem synth_setSynth_self (s : State) (p : Nat) (x : List Synth) : (s.setSynth p x).synth p = x := Tbl.get_set_self _ _ _ _
theorem synth_setSynth_of_ne (s : State) (p : Nat) (x : List Synth) {q : Nat} (h : q ≠ p) : (s.setSynth p x).synth q = s.synth q :=
  Tbl.get_set_of_ne _ _ _ _ (fun e => h (Prod.mk.inj e).1)

@[simp] theorem inMsg_setInMsg_self (s : State) (p c : Nat) (x : Option InMsg) : (s.setInMsg p c x).inMsg p c = x := Tbl.get_set_self _ _ _ _
theorem inMsg_setInMsg_of_ne (s : State) (p c : Nat) (x : Option InMsg) {q d : Nat} (h : (q, d) ≠ (p, c)) : (s.setInMsg p c x).inMsg q d = s.inMsg q d :=
  Tbl.get_set_of_ne _ _ _ _ h

@[simp] theorem held_setHeld_self (s : State) (p c : Nat) (x : Option Held) : (s.setHeld p c x).held p c = x := Tbl.get_set_self _ _ _ _
theorem held_setHeld_of_ne (s : State) (p c : Nat) (x : Option Held) {q d : Nat} (h : (q, d) ≠ (p, c)) : (s.setHeld p c x).held q d = s.held q d :=
  Tbl.get_set_of_ne _ _ _ _ h

@[simp] theorem tracker_setTracker_self (s : State) (p c : Nat) (x : Option Trk) : (s.setTracker p c x).tracker p c = x := Tbl.get_set_self _ _ _ _
theorem tracker_setTracker_of_ne (s : State) (p c : Nat) (x : Option Trk) {q d : Nat} (h : (q, d) ≠ (p, c)) : (s.setTracker p c x).tracker q d = s.tracker q d :=
  Tbl.get_set_of_ne _ _ _ _ h

@[simp] theorem evictEntry_setEvict_self (s : State) (p c : Nat) (x : Option Evict) : (s.setEvict p c x).evictEntry p c = x := Tbl.get_set_self _ _ _ _
theorem evictEntry_setEvict_of_ne (s : State) (p c : Nat) (x : Option Evict) {q d : Nat} (h : (q, d) ≠ (p, c)) : (s.setEvict p c x).evictEntry q d = s.evictEntry q d :=
  Tbl.get_set_of_ne _ _ _ _ h

@[simp] theorem rsvReg_setRsv_self (s : State) (p c : Nat) (x : Option Rsv) : (s.setRsv p c x).rsvReg p c = x := Tbl.get_set_self _ _ _ _
theorem rsvReg_setRsv_of_ne (s : State) (p c : Nat) (x : Option Rsv) {q d : Nat} (h : (q, d) ≠ (p, c)) : (s.setRsv p c x).rsvReg q d = s.rsvReg q d :=
  Tbl.get_set_of_ne _ _ _ _ h

@[simp] theorem mover_setMover_self (s : State) (p : Nat) (x : MoveCh) : (s.setMover p x).mover p = x := Tbl.get_set_self _ _ _ _
theorem mover_setMover_of_ne (s : State) (p : Nat) (x : MoveCh) {q : Nat} (h : q ≠ p) : (s.setMover p x).mover q = s.mover q :=
  Tbl.get_set_of_ne _ _ _ _ (fun e => h (Prod.mk.inj e).1)

end Sys2Proof.Machine.State
end

