-- ==== Sys2Proof/Laws/Raise.lean ====
section
/-!
SUPPORT. What raising an event can do: it writes INT_CAUSE, EVT_DROPPED, the pending interrupts, and the queues and numbering of
the records, and nothing else.
-/

namespace Sys2Proof.Machine

theorem foldS_keeps {α σ : Type} (P : σ → Prop) (f : α → σ → σ) (h : ∀ a s, P s → P (f a s)) : ∀ l s, P s → P (foldS f l s)
  | [], _, p => p
  | a :: r, s, p => foldS_keeps P f h r (f a s) (h a s p)

namespace State

theorem EventOnly.refl (s : State) : EventOnly s s := ⟨rfl, fun _ _ _ _ => rfl⟩

theorem EventOnly.trans {s t u : State} (h : EventOnly s t) (k : EventOnly t u) : EventOnly s u := by
  refine ⟨?_, fun o i a b => (k.2 o i a b).trans (h.2 o i a b)⟩
  have e := k.1
  rw [h.1] at e
  exact e

theorem setIntSrc_eventOnly (s : State) (n : Nat) (x : IntSrc) : EventOnly s (s.setIntSrc n x) := ⟨rfl, fun _ _ _ _ => rfl⟩

theorem sampleInt_eventOnly (s : State) (n : Nat) : EventOnly s (s.sampleInt n) := by
  unfold sampleInt
  split
  · exact setIntSrc_eventOnly s n _
  · exact EventOnly.refl s

theorem setReg_eventOnly (s : State) (o i v : Nat) (h : o = Obj.INT_CAUSE ∨ o = Obj.EVT_DROPPED) : EventOnly s (s.setReg o i v) := by
  refine ⟨rfl, fun a b p q => reg_setReg_of_ne s o i v ?_⟩
  intro e
  have := (Prod.mk.inj e).1
  rcases h with h | h
  · exact p (this.trans h)
  · exact q (this.trans h)

theorem setCause_eventOnly (s : State) (code source inst : Nat) : EventOnly s (s.setCause code source inst) := by
  unfold setCause
  split
  · exact EventOnly.refl s
  · exact (setReg_eventOnly s _ _ _ (.inl rfl)).trans (sampleInt_eventOnly _ _)

theorem enqueueRec_eventOnly (s : State) (ep : Nat) (r : EvtRec) : EventOnly s (s.enqueueRec ep r) := by
  have key : ∀ t : State, EventOnly s t → EventOnly s (if ep = 0 then t.sampleInt 960 else t) := by
    intro t h
    split
    · exact h.trans (sampleInt_eventOnly _ _)
    · exact h
  unfold enqueueRec
  apply key
  split
  · exact ⟨rfl, fun _ _ _ _ => rfl⟩
  · exact (setReg_eventOnly s _ _ _ (.inr rfl)).trans ⟨rfl, fun _ _ _ _ => rfl⟩

/-- Raising an event writes nothing but event records and interrupt causes. -/
theorem raise_eventOnly (s : State) (code source sev inst data : Nat) : EventOnly s (s.raise code source sev inst data) := by
  unfold raise
  apply foldS_keeps (EventOnly s)
  · intro ep t h
    split
    · exact h.trans (enqueueRec_eventOnly t ep _)
    · exact h
  · exact EventOnly.trans ⟨rfl, fun _ _ _ _ => rfl⟩ (setCause_eventOnly _ code source inst)

theorem raiseLimited_eventOnly (s : State) (ns key code source sev inst data : Nat) :
    EventOnly s (s.raiseLimited ns key code source sev inst data) := by
  unfold raiseLimited
  simp only
  split
  · exact EventOnly.trans ⟨rfl, fun _ _ _ _ => rfl⟩ (raise_eventOnly _ code source sev inst data)
  · exact setCause_eventOnly s code source inst

section

variable (s : State) (a b c d e : Nat)

@[simp] theorem pending_raise : (s.raise a b c d e).pending = s.pending := by rw [(s.raise_eventOnly a b c d e).1]
@[simp] theorem mode_raise : (s.raise a b c d e).mode = s.mode := by rw [(s.raise_eventOnly a b c d e).1]
@[simp] theorem clk_raise : (s.raise a b c d e).clk = s.clk := by rw [(s.raise_eventOnly a b c d e).1]
@[simp] theorem freeCtr_raise : (s.raise a b c d e).freeCtr = s.freeCtr := by rw [(s.raise_eventOnly a b c d e).1]
@[simp] theorem out_raise : (s.raise a b c d e).out = s.out := by rw [(s.raise_eventOnly a b c d e).1]
@[simp] theorem time_raise : (s.raise a b c d e).time = s.time := by rw [(s.raise_eventOnly a b c d e).1]
@[simp] theorem cnt_raise : (s.raise a b c d e).cnt = s.cnt := by rw [(s.raise_eventOnly a b c d e).1]
@[simp] theorem link_raise : (s.raise a b c d e).link = s.link := by rw [(s.raise_eventOnly a b c d e).1]
@[simp] theorem fab_raise : (s.raise a b c d e).fab = s.fab := by rw [(s.raise_eventOnly a b c d e).1]
@[simp] theorem coh_raise : (s.raise a b c d e).coh = s.coh := by rw [(s.raise_eventOnly a b c d e).1]
@[simp] theorem move_raise : (s.raise a b c d e).move = s.move := by rw [(s.raise_eventOnly a b c d e).1]
@[simp] theorem pm_raise : (s.raise a b c d e).pm = s.pm := by rw [(s.raise_eventOnly a b c d e).1]
@[simp] theorem sec_raise : (s.raise a b c d e).sec = s.sec := by rw [(s.raise_eventOnly a b c d e).1]
@[simp] theorem slotp_raise : (s.raise a b c d e).slotp = s.slotp := by rw [(s.raise_eventOnly a b c d e).1]
@[simp] theorem talus_raise : (s.raise a b c d e).talus = s.talus := by rw [(s.raise_eventOnly a b c d e).1]
@[simp] theorem prof_raise : (s.raise a b c d e).prof = s.prof := by rw [(s.raise_eventOnly a b c d e).1]
@[simp] theorem rst_raise : (s.raise a b c d e).rst = s.rst := by rw [(s.raise_eventOnly a b c d e).1]
@[simp] theorem stages_raise : (s.raise a b c d e).dict.stages = s.dict.stages := by rw [(s.raise_eventOnly a b c d e).1]
@[simp] theorem lops_raise : (s.raise a b c d e).dict.lops = s.dict.lops := by rw [(s.raise_eventOnly a b c d e).1]
@[simp] theorem inbox_raise : (s.raise a b c d e).dict.inbox = s.dict.inbox := by rw [(s.raise_eventOnly a b c d e).1]
@[simp] theorem filters_raise : (s.raise a b c d e).dict.filters = s.dict.filters := by rw [(s.raise_eventOnly a b c d e).1]
@[simp] theorem reasm_raise : (s.raise a b c d e).dict.reasm = s.dict.reasm := by rw [(s.raise_eventOnly a b c d e).1]
@[simp] theorem port_raise (p : Nat) : (s.raise a b c d e).port p = s.port p := by simp [port]
@[simp] theorem lane_raise (p : Nat) : (s.raise a b c d e).lane p = s.lane p := by simp [lane]
@[simp] theorem dru_raise (p : Nat) : (s.raise a b c d e).dru p = s.dru p := by simp [dru]
@[simp] theorem stage_raise (n : Nat) : (s.raise a b c d e).stage n = s.stage n := by simp [stage]
@[simp] theorem lop_raise (n : Nat) : (s.raise a b c d e).lop n = s.lop n := by simp [lop]
@[simp] theorem slot_raise (n : Nat) : (s.raise a b c d e).slot n = s.slot n := by simp [slot]
@[simp] theorem slotCh_raise (n : Nat) : (s.raise a b c d e).slotCh n = s.slotCh n := by simp [slotCh]
@[simp] theorem feed_raise (n : Nat) : (s.raise a b c d e).feed n = s.feed n := by simp [feed]
@[simp] theorem egr_raise (n : Nat) : (s.raise a b c d e).egr n = s.egr n := by simp [egr]
@[simp] theorem ide_raise (n : Nat) : (s.raise a b c d e).ide n = s.ide n := by simp [ide]
@[simp] theorem mover_raise (n : Nat) : (s.raise a b c d e).mover n = s.mover n := by simp [mover]

/-- Every object but INT_CAUSE and EVT_DROPPED. -/
theorem reg_raise {o : Nat} (i : Nat) (h : o ≠ Obj.INT_CAUSE) (k : o ≠ Obj.EVT_DROPPED) :
    (s.raise a b c d e).reg o i = s.reg o i := (s.raise_eventOnly a b c d e).2 o i h k

end

/-- The records are numbered one after another. -/
@[simp] theorem seq_sampleInt (s : State) (n : Nat) : (s.sampleInt n).dict = s.dict := by
  unfold sampleInt
  split <;> rfl

@[simp] theorem dict_setCause (s : State) (a b c : Nat) : (s.setCause a b c).dict = s.dict := by
  unfold setCause
  split
  · rfl
  · simp

@[simp] theorem seq_enqueueRec (s : State) (ep : Nat) (r : EvtRec) : (s.enqueueRec ep r).dict.seq = s.dict.seq := by
  unfold enqueueRec
  simp only
  split
  · split
    · simp
    · simp [bump]
  · split
    · rfl
    · simp [bump]

@[simp] theorem seq_raise (s : State) (a b c d e : Nat) : (s.raise a b c d e).dict.seq = (s.dict.seq + 1) % 65536 := by
  unfold raise
  simp only
  refine foldS_keeps (fun (t : State) => t.dict.seq = (s.dict.seq + 1) % 65536) _ ?_ _ _ ?_
  · intro ep t h
    split
    · rw [seq_enqueueRec]; exact h
    · exact h
  · simp

end State

/-! ### Wrappers -/

/-- A steady command answers what its function makes, but for the queue, the mode and the fuses. -/
theorem steady_next (s : State) (f : State → State) :
    steady s f = .next { f s with pending := s.pending, mode := s.mode, sec := { (f s).sec with fuse := s.sec.fuse } } := rfl

/-- Where the function itself leaves those alone, it answers what the function makes. -/
theorem steady_eq (s : State) (f : State → State) (p : (f s).pending = s.pending) (m : (f s).mode = s.mode)
    (q : (f s).sec.fuse = s.sec.fuse) : steady s f = .next (f s) := by
  rw [steady_next, ← p, ← m, ← q]

/-- A command that ends in mode `m` answers what its function makes, but for the queue, the fuses and that mode. -/
theorem modal_next (m : Mode) (s : State) (f : State → State) :
    modal m s f = .next { f s with pending := s.pending, mode := m, sec := { (f s).sec with fuse := s.sec.fuse } } := rfl

theorem modal_eq (m : Mode) (s : State) (f : State → State) (p : (f s).pending = s.pending) (n : (f s).mode = m)
    (q : (f s).sec.fuse = s.sec.fuse) : modal m s f = .next (f s) := by
  rw [modal_next, ← p, ← n, ← q]

theorem onUnit_eq {n count : Nat} (s : State) (f : State → State) (h : n < count) : onUnit n count s f = steady s f := by
  simp [onUnit, h]

theorem onUnit_absent {n count : Nat} (s : State) (f : State → State) (h : count ≤ n) : onUnit n count s f = .fault (.absent n) := by
  simp [onUnit, Nat.not_lt.mpr h]

end Sys2Proof.Machine
end

