-- ==== Sys2Proof/Laws/Dictionary.lean ====
section
/-!
SUPPORT. Serving a dictionary request: what follows from its checks, and what a served write of one object answers.
-/

namespace Sys2Proof.Machine

/-- Bytes spell the number that they hold. -/
theorem ofBytes_toBytes (n v : Nat) : ofBytes (toBytes n v) = v % 256 ^ n := by
  induction n generalizing v with
  | zero => simp [toBytes, ofBytes, Nat.mod_one]
  | succ n ih =>
    simp only [toBytes, ofBytes, ih, BitVec.toNat_ofNat]
    show v % 256 + 256 * (v / 256 % 256 ^ n) = v % 256 ^ (n + 1)
    rw [Nat.pow_succ, Nat.mul_comm (256 ^ n) 256, Nat.mod_mul]

@[simp] theorem toBytes_length (n v : Nat) : (toBytes n v).length = n := by
  induction n generalizing v with
  | zero => rfl
  | succ n ih => simp [toBytes, ih]

namespace State

/-- A message to an endpoint waits as MGMT frames at its port's egress, or leaves at once; nothing else changes (R44). -/
theorem sendMessage_eq (s : State) (ep tag : Nat) (b : List Byte) :
    s.sendMessage ep tag b = { s with out := (s.sendMessage ep tag b).out, fab := (s.sendMessage ep tag b).fab } := by
  unfold sendMessage
  dsimp only
  split
  · split <;> rfl
  · rfl

theorem submit_served {s : State} {ep : Nat} (x : Verdict) (r : Req) (h : s.Serves ep) : s.submit x ep r = s.serveReq x ep r := by
  obtain ⟨_, h1, h2, h3, h4, h5⟩ := h
  unfold submit
  rw [if_neg (by simp [h1, h2, h3]), h5]
  simp [h4]

theorem noteDebug_of_ne {s : State} {ep : Nat} (h : ep ≠ 321) : s.noteDebug ep = s := by
  unfold noteDebug
  rw [if_neg h]

/-- A request that passes its checks is carried out and answered. -/
theorem submit_checked {s : State} {ep : Nat} (x : Verdict) (r : Req) (h : s.Serves ep) (k : (s.noteDebug ep).precheck ep r = 0) :
    s.submit x ep r = ((s.noteDebug ep).carryReq x ep r).state.respondReq ep r ((s.noteDebug ep).carryReq x ep r).abort
      ((s.noteDebug ep).carryReq x ep r).payload := by
  rw [submit_served x r h]
  unfold serveReq
  simp [k]

theorem submit_accepted {s : State} {ep : Nat} (x : Verdict) (r : Req) (h : s.Accepts ep r) :
    s.submit x ep r = (s.carryReq x ep r).state.respondReq ep r (s.carryReq x ep r).abort (s.carryReq x ep r).payload := by
  have e := noteDebug_of_ne (s := s) h.1
  have := submit_checked x r h.2.1 (by rw [e]; exact h.2.2)
  rwa [e] at this

theorem ite_zero_left {c : Bool} {a b : Nat} (ha : a ≠ 0) (h : (if c then a else b) = 0) : c = false ∧ b = 0 := by
  cases c
  · exact ⟨rfl, by simpa using h⟩
  · exact absurd (by simpa using h) ha

/-- What the passed checks say. -/
theorem precheck_zero {s : State} {ep : Nat} {r : Req} (h : s.precheck ep r = 0) :
    headerOk r = true ∧ Op.known r.op = true ∧ (targets r).all (s.visible ep) = true ∧
    ((targets r).all (s.accessOk ep (Op.writes r.op)) && s.stageOk ep r) = true ∧
    (Op.writes r.op = true → (targets r).all (staged_ r) = true) ∧ s.modeOk ep r = true ∧ s.debugOk ep r = true ∧
    s.powerOk r = true ∧ sizeOk r = true ∧ s.rangeOk r = true := by
  unfold precheck at h
  simp only at h
  obtain ⟨a1, h⟩ := ite_zero_left (by decide) h
  obtain ⟨a2, h⟩ := ite_zero_left (by decide) h
  obtain ⟨a3, h⟩ := ite_zero_left (by decide) h
  obtain ⟨a4, h⟩ := ite_zero_left (by decide) h
  obtain ⟨a5, h⟩ := ite_zero_left (by decide) h
  obtain ⟨a6, h⟩ := ite_zero_left (by decide) h
  obtain ⟨a7, h⟩ := ite_zero_left (by decide) h
  obtain ⟨a8, h⟩ := ite_zero_left (by decide) h
  obtain ⟨a9, h⟩ := ite_zero_left (by decide) h
  obtain ⟨a10, h⟩ := ite_zero_left (by decide) h
  refine ⟨by simpa using a1, by simpa using a2, by simpa using a3, by simpa using a4, ?_, by simpa using a6, by simpa using a7,
    by simpa using a8, by simpa using a9, by simpa using a10⟩
  intro w
  simpa [w] using a5

theorem targets_writeReq (o i : Nat) (b : List Byte) : targets (writeReq o i b) = [(o, i)] := by
  have e : o / 256 * 256 + o % 256 = o := Nat.div_add_mod' o 256
  simp [targets, writeReq, reqObj, e]

/-- The object of a checked write is in the dictionary, and it is not a staged one. -/
theorem checked_row {s : State} {ep o i : Nat} {b : List Byte} (h : s.precheck ep (writeReq o i b) = 0) :
    ∃ row, dictRow o i = some row ∧ row.acc ≠ .rws := by
  obtain ⟨_, _, a3, _, a5, _⟩ := precheck_zero h
  rw [targets_writeReq] at a3
  have a5 := a5 rfl
  rw [targets_writeReq] at a5
  simp [visible] at a3
  obtain ⟨row, e⟩ := Option.isSome_iff_exists.mp a3.1
  refine ⟨row, e, ?_⟩
  intro q
  simp [staged_, e, writeReq, q] at a5

theorem dictRow_objRow {o i : Nat} {row : ObjRow} (n : o % 256 ≠ 0) (h : dictRow o i = some row) : objRow o = some row := by
  unfold dictRow at h
  rw [if_neg n] at h
  split at h
  · rename_i r e
    split at h
    · rw [e]; exact h
    · simp at h
  · simp at h

/-- Types whose values are plain numbers in a payload. -/
def plain : DType → Bool
  | .str => false
  | .blob _ => false
  | .blobVar _ _ => false
  | _ => true

theorem takeVal_plain {ty : DType} (h : plain ty = true) (b : List Byte) :
    takeVal ty b = if b.length < ty.size then none else some (valOf (ofBytes (b.take ty.size)), b.drop ty.size) := by
  cases ty <;> simp_all [plain, takeVal]

/-- The value that a checked write of a plain object carries. -/
theorem writeVals_writeOf {s : State} {ep o i v : Nat} {row : ObjRow} (h : s.precheck ep (writeOf o i v) = 0) (n : o % 256 ≠ 0)
    (e : objRow o = some row) (p : plain row.ty = true) : writeVals (writeOf o i v) = some [valOf (v % 256 ^ row.ty.size)] := by
  obtain ⟨r, d, _⟩ := checked_row h
  have : r = row := by
    have := dictRow_objRow n d
    rw [e] at this
    exact (Option.some.inj this).symm
  subst this
  have b : objBytes o v = toBytes r.ty.size v := by simp [objBytes, e]
  have w : (writeOf o i v).op = Op.WRITE := rfl
  unfold writeVals
  rw [if_pos w]
  unfold writeOf
  rw [targets_writeReq]
  have l : (toBytes r.ty.size v).take r.ty.size = toBytes r.ty.size v := by
    rw [List.take_of_length_le]; simp
  have l2 : (toBytes r.ty.size v).drop r.ty.size = [] := by
    rw [List.drop_of_length_le]; simp
  simp [takeVals, d, takeVal_plain p, writeReq, b, l, l2, ofBytes_toBytes]

/-- A checked write of one object, when its value is known and its effect succeeds. -/
theorem writeCmd_checked {s : State} {ep o i : Nat} {b : List Byte} {x : Verdict} {v : Val} {e : Effect}
    (hs : s.Serves ep) (h : (s.noteDebug ep).precheck ep (writeReq o i b) = 0) (hv : writeVals (writeReq o i b) = some [v])
    (he : (s.noteDebug ep).writeObj x ep o i v = e)
    (ha : e.abort = 0) (hp : e.state.pending = s.pending) (hm : e.state.mode = s.mode)
    (hf : e.state.sec.fuse = { s.sec.fuse with svn := max s.sec.fuse.svn e.state.sec.fuse.svn }) :
    writeCmd x ep o i b s = .next ((s.noteDebug ep).wrote e.state ep (writeReq o i b) e.payload) := by
  obtain ⟨row, d, na⟩ := checked_row h
  have k : (s.noteDebug ep).carryReq x ep (writeReq o i b) =
      { abort := 0, state := (s.noteDebug ep).profWatch e.state, payload := e.payload } := by
    have r : Op.reads (writeReq o i b).op = false := rfl
    have w : Op.writes (writeReq o i b).op = true := rfl
    unfold carryReq
    rw [if_neg (by simp [r]), if_pos w]
    unfold doWrite
    rw [if_neg (by simp [writeReq]), targets_writeReq, hv]
    have q : (writeReq o i b).op = Op.WRITE := rfl
    simp [writeRun, writeOne, d, na, he, ha, q]
  have f : ∀ u t : State, u.profWatch t = { t with prof := (u.profWatch t).prof } := by
    intro u t
    unfold profWatch
    split <;> rfl
  have g := f (s.noteDebug ep) e.state
  unfold writeCmd onEp
  simp only
  rw [if_pos hs.1, submit_checked x _ hs h, k]
  unfold wrote respondReq
  rw [g]
  simp only [if_true]
  rw [sendMessage_eq]
  simp only
  rw [← hp, ← hm, ← hf]

/-- The same for an endpoint that is not the debug session. -/
theorem writeCmd_served {s : State} {ep o i : Nat} {b : List Byte} {x : Verdict} {v : Val} {e : Effect}
    (h : s.Accepts ep (writeReq o i b)) (hv : writeVals (writeReq o i b) = some [v]) (he : s.writeObj x ep o i v = e)
    (ha : e.abort = 0) (hp : e.state.pending = s.pending) (hm : e.state.mode = s.mode)
    (hf : e.state.sec.fuse = { s.sec.fuse with svn := max s.sec.fuse.svn e.state.sec.fuse.svn }) :
    writeCmd x ep o i b s = .next (s.wrote e.state ep (writeReq o i b) e.payload) := by
  have n := noteDebug_of_ne (s := s) h.1
  have := writeCmd_checked (x := x) h.2.1 (by rw [n]; exact h.2.2) hv (by rw [n]; exact he) ha hp hm hf
  rwa [n] at this

theorem targets_readReq (o i : Nat) : targets (readReq o i) = [(o, i)] := by
  have e : o / 256 * 256 + o % 256 = o := Nat.div_add_mod' o 256
  simp [targets, readReq, reqObj, e]

/-- A checked read of one object. -/
theorem readCmd_checked {s : State} {ep o i : Nat} {row : ObjRow} (hs : s.Serves ep)
    (h : (s.noteDebug ep).precheck ep (readReq o i) = 0) (d : dictRow o i = some row)
    (hl : (putVal row.ty ((s.noteDebug ep).readObj ep o i).1).length ≤ 1008)
    (hp : ((s.noteDebug ep).readObj ep o i).2.pending = s.pending) (hm : ((s.noteDebug ep).readObj ep o i).2.mode = s.mode)
    (hf : ((s.noteDebug ep).readObj ep o i).2.sec.fuse =
      { s.sec.fuse with svn := max s.sec.fuse.svn ((s.noteDebug ep).readObj ep o i).2.sec.fuse.svn }) :
    readCmd ep o i s = .next (((s.noteDebug ep).readObj ep o i).2.respondReq ep (readReq o i) 0
      (putVal row.ty ((s.noteDebug ep).readObj ep o i).1)) := by
  have k : (s.noteDebug ep).carryReq none ep (readReq o i) =
      { abort := 0, state := ((s.noteDebug ep).readObj ep o i).2, payload := putVal row.ty ((s.noteDebug ep).readObj ep o i).1 } := by
    have r : Op.reads (readReq o i).op = true := rfl
    have b : ¬ (1024 < 16 + (putVal row.ty ((s.noteDebug ep).readObj ep o i).1).length) := by omega
    unfold carryReq
    rw [if_pos r]
    unfold doRead
    rw [targets_readReq]
    have f : (bit (readReq o i).flags 1 && (readReq o i).stage != 0) = false := by simp [readReq]
    simp [readRun, readOne, f, d, b]
  unfold readCmd onEp
  simp only
  rw [if_pos hs.1, submit_checked none _ hs h, k]
  unfold respondReq
  simp only [if_true]
  rw [sendMessage_eq]
  simp only
  rw [← hp, ← hm, ← hf]

/-! ### The effect of each object that is a command -/

section

variable (s : State) (x : Verdict) (ep i : Nat) (v : Val)

theorem writeObj_PROF_STORE : s.writeObj x ep Obj.PROF_STORE i v = command v.num s (starts s (s.profStore i ep)) := rfl
theorem writeObj_PROF_CHUNK : s.writeObj x ep Obj.PROF_CHUNK i v = verdictOf (s.profChunk v.bytes) := rfl
theorem writeObj_RESET_NOW : s.writeObj x ep Obj.RESET_NOW i v = command v.num s (done (s.setRst { s.rst with nowAt := s.clk + 1 })) := rfl
theorem writeObj_LANE_CLEAR : s.writeObj x ep Obj.LANE_CLEAR i v = command v.num s (done (s.clearPrbs i)) := rfl
theorem writeObj_LANE_PRBS_MODE : s.writeObj x ep Obj.LANE_PRBS_MODE i v = s.prbsMode i v.num := rfl
theorem writeObj_HG_REBALANCE : s.writeObj x ep Obj.HG_REBALANCE i v = command v.num s (done (s.hgRebalance i)) := rfl
theorem writeObj_HIST_CLEAR : s.writeObj x ep Obj.HIST_CLEAR i v = command v.num s (done (s.histClear i)) := rfl
theorem writeObj_DIR_LOOKUP : s.writeObj x ep Obj.DIR_LOOKUP i v = done (dirLookup s v.num) := rfl
theorem writeObj_DIR_SET_CLEAR : s.writeObj x ep Obj.DIR_SET_CLEAR i v = done (dirSetClear s v.num) := rfl
theorem writeObj_AGT_REVIVE : s.writeObj x ep Obj.AGT_REVIVE i v = command v.num s (s.revive i) := rfl
theorem writeObj_FL_TAG_FILL : s.writeObj x ep Obj.FL_TAG_FILL i v = command v.num s (s.fillTags ep) := rfl
theorem writeObj_FL_TAG_PROBE : s.writeObj x ep Obj.FL_TAG_PROBE i v = done (s.setReg Obj.FL_TAG_PROBE_RESULT 0 (s.tagProbe v.num)) := rfl
theorem writeObj_CH_ENABLE : s.writeObj x ep Obj.CH_ENABLE i v = s.writeChEnable i v.num := rfl
theorem writeObj_CH_FAULT_CLEAR : s.writeObj x ep Obj.CH_FAULT_CLEAR i v = command v.num s (done (s.faultClear i 1)) := rfl
theorem writeObj_CH_MEAS_CLEAR : s.writeObj x ep Obj.CH_MEAS_CLEAR i v = command v.num s (done (s.measClear i 1)) := rfl
theorem writeObj_INT_GLOBAL_EN : s.writeObj x ep Obj.INT_GLOBAL_EN i v = done (s.setReg Obj.INT_GLOBAL_EN i v.num).withdraw := rfl
theorem writeObj_INT_TARGET : s.writeObj x ep Obj.INT_TARGET i v = done (s.setReg Obj.INT_TARGET i v.num).withdraw := rfl
theorem writeObj_INT_TGT_EN : s.writeObj x ep Obj.INT_TGT_EN i v = done (s.setReg Obj.INT_TGT_EN i v.num).withdraw := rfl
theorem writeObj_INT_TGT_THRESH : s.writeObj x ep Obj.INT_TGT_THRESH i v = done (s.setReg Obj.INT_TGT_THRESH i v.num).withdraw := rfl
theorem writeObj_INT_ENABLE : s.writeObj x ep Obj.INT_ENABLE i v = done (s.intEnabled i v.num) := rfl
theorem writeObj_INT_CAUSE_EN : s.writeObj x ep Obj.INT_CAUSE_EN i v = done ((s.setReg Obj.INT_CAUSE_EN i v.num).sampleInt i) := rfl
theorem writeObj_INT_CAUSE_CLR : s.writeObj x ep Obj.INT_CAUSE_CLR i v = done (s.clearCause i v.num) := rfl
theorem writeObj_INT_WAKE_EN : s.writeObj x ep Obj.INT_WAKE_EN i v = s.wakeEn i v.num := rfl
theorem writeObj_INT_COMPLETE : s.writeObj x ep Obj.INT_COMPLETE i v = s.writeComplete i v.num := rfl
theorem writeObj_CNT_EVT : s.writeObj x ep Obj.CNT_EVT i v = done ((s.setReg Obj.CNT_EVT i v.num).clearHist i) := rfl
theorem writeObj_CNT_MODE : s.writeObj x ep Obj.CNT_MODE i v = done ((s.setReg Obj.CNT_MODE i v.num).clearHist i) := rfl
theorem writeObj_CNT_PORT : s.writeObj x ep Obj.CNT_PORT i v = done ((s.setReg Obj.CNT_PORT i v.num).clearHist i) := rfl
theorem writeObj_CNT_AUX : s.writeObj x ep Obj.CNT_AUX i v = done ((s.setReg Obj.CNT_AUX i v.num).clearHist i) := rfl
theorem writeObj_CNT_VALUE : s.writeObj x ep Obj.CNT_VALUE i v = done (s.setCounter i v.num) := rfl
theorem writeObj_CNT_OVF_CLR : s.writeObj x ep Obj.CNT_OVF_CLR i v = done (s.clearOvf i v.num) := rfl
theorem writeObj_SMP_RELEASE : s.writeObj x ep Obj.SMP_RELEASE i v = command v.num s (done (s.releaseRecord i)) := rfl
theorem writeObj_PM_ENTER : s.writeObj x ep Obj.PM_ENTER i v = command v.num s (starts s (s.pmEnter ep)) := rfl
theorem writeObj_LC_AUTH : s.writeObj x ep Obj.LC_AUTH i v = done (s.setSec { s.sec with lcAuth := v.bytes }) := rfl
theorem writeObj_LC_REQUEST : s.writeObj x ep Obj.LC_REQUEST i v = command v.num s (verdictOf (s.lcRequest (s.lcVerdict x).1 (s.lcVerdict x).2)) := rfl
theorem writeObj_FW_CHUNK : s.writeObj x ep Obj.FW_CHUNK i v = verdictOf (s.fwChunk v.bytes) := rfl
theorem writeObj_FW_UPDATE : s.writeObj x ep Obj.FW_UPDATE i v = command v.num s (starts s (s.fwUpdate ep)) := rfl
theorem writeObj_FW_CONFIRM : s.writeObj x ep Obj.FW_CONFIRM i v = command v.num s (done s.fwConfirm) := rfl
theorem writeObj_DBG_DROP : s.writeObj x ep Obj.DBG_DROP i v = resumed (s.dbgDrop v.num) := rfl
theorem writeObj_DBG_ALLOW : s.writeObj x ep Obj.DBG_ALLOW i v = resumed (0, s.dbgAllow v.num) := rfl
theorem writeObj_DM_DATA : s.writeObj x ep Obj.DM_DATA i v = done (s.setSec { s.sec with dmData := v.bytes }) := rfl
theorem writeObj_DM_GO : s.writeObj x ep Obj.DM_GO i v = verdictOf (s.dmStart (v.num == 2)) := rfl
theorem writeObj_RIDGE_HALT : s.writeObj x ep Obj.RIDGE_HALT i v = resumed (s.ridgeHalt v.num) := rfl
theorem writeObj_TALUS_WINDOW_NOW : s.writeObj x ep Obj.TALUS_WINDOW_NOW i v = command v.num s (s.windowNow ep) := rfl
theorem writeObj_TALUS_CEIL_RESET : s.writeObj x ep Obj.TALUS_CEIL_RESET i v = command v.num s (done (s.ceilReset i 1)) := rfl
theorem writeObj_FET_REBASE : s.writeObj x ep Obj.FET_REBASE i v = command v.num s (done (s.fetRebase i 1)) := rfl
theorem writeObj_MOVE_START : s.writeObj x ep Obj.MOVE_START i v = command v.num s (starts s (s.moveStart i ep)) := rfl
theorem writeObj_TIME_SECONDS_NEXT : s.writeObj x ep Obj.TIME_SECONDS_NEXT i v = done (s.setTime { s.time with secNext := some v.num }) := rfl
theorem writeObj_SCHED_TIME : s.writeObj x ep Obj.SCHED_TIME i v = done (s.schedTime i v.num) := rfl
theorem writeObj_SCHED_POLICY : s.writeObj x ep Obj.SCHED_POLICY i v = done (s.setSlot i { s.slot i with policy := v.num }) := rfl
theorem writeObj_SCHED_PERIOD : s.writeObj x ep Obj.SCHED_PERIOD i v = done (s.setSlot i { s.slot i with period := v.num }) := rfl

end

end State

end Sys2Proof.Machine
end

