-- ==== Sys2Proof/Tests/Slice0.lean ====
section
/-!
SUPPORT. Witnesses: for each statement with hypotheses a state and operands that meet all of them, and ill-formed commands that the
check of operands refuses. The states are built here by small changes of the state after reset.
-/

open Sys2Proof Sys2Proof.Machine

namespace Sys2Proof.Tests

set_option Elab.async false

/-- A part in ACTIVE, with its boot done. -/
def up : State := { State.reset with mode := .active, rst := { State.reset.rst with step := .done } }

theorem up_serves : up.Serves 0 := by
  unfold State.Serves
  decide +kernel

/-- A state that serves the BMC and passes a request's checks accepts it. -/
theorem accepts {s : State} {r : Req} (h : s.firmwareUp = true ∧ s.mode.sleeps = false ∧ s.coresWait = false ∧ s.inboxOf 0 = [])
    (k : s.precheck 0 r = 0) : s.Accepts 0 r :=
  ⟨by decide, ⟨by decide, h.1, rfl, h.2.1, h.2.2.1, h.2.2.2⟩, k⟩

/-- A clock reading of 10 s. -/
def late : Nat := 10000000000 * nsUnit

/-- `up` at a clock reading, with a time state machine. -/
def timed (t : TimeSt) : State := { up with clk := late, time := t }

theorem test_time_advance : (up.ridgeClock = true ∧ up.rst.step ≠ .inReset ∧ up.time.slew = 0) ∧
    ({ up with mode := .hold } : State).mode = .hold ∧ ({ up with mode := .sentinel } : State).mode = .sentinel := by decide

theorem test_time_slew : (timed { up.time with slewing := true }).time.slewing = true ∧
    (timed { up.time with slewing := true }).time.slew = 0 := by decide

/-- A grandmaster with its reference present. -/
def master : State := (timed { up.time with refSeen := true, st := .locked }).setReg Obj.TIME_ROLE 0 1

theorem test_time_freq : master.reg Obj.TIME_ROLE 0 = 1 ∧ master.time.refSeen = true ∧ master.time.refHeld = false ∧
    master.after master.time.freqClk 1000000000 = true ∧ master.ridgeClock = true := by decide +kernel

theorem test_time_holdover : master.time.st = .locked ∧ master.ridgeClock = true ∧ master.reg Obj.TIME_ROLE 0 = 1 ∧
    master.after master.time.edgeClk 1100000000 = true := by decide +kernel

theorem test_time_unsync : (timed { up.time with st := .holdover, uncBase := 4000000000 }).mode ≠ .sentinel ∧ (timed { up.time with st := .holdover, uncBase := 4000000000 }).reg Obj.TIME_UNC_LIMIT 0 <
    (timed { up.time with st := .holdover, uncBase := 4000000000 }).timeUnc := by decide +kernel

/-- A slave with both sources. -/
def slave : State := (((timed { up.time with st := .locked }).setReg Obj.TIME_ROLE 0 2).setReg Obj.TIME_UPSTREAM 0 8).setReg
  Obj.TIME_BACKUP 0 16

theorem test_time_switch : slave.reg Obj.TIME_ROLE 0 = 2 ∧ slave.ridgeClock = true ∧ slave.time.backup = false ∧
    slave.reg Obj.TIME_BACKUP 0 < 256 ∧
    slave.after (max slave.time.srcAt ((slave.flitDlg (slave.reg Obj.TIME_UPSTREAM 0)).lastRx - 1)) 3000000 = true := by decide +kernel

/-- The slave on its backup, ten valid exchanges after TIME_UPSTREAM came back. -/
def recovered : State :=
  let s := slave.setTime { slave.time with backup := true }
  s.setFlitDlg 8 { s.flitDlg 8 with valid := 10, lastRx := late + 1 }
theorem test_time_switch_back : recovered.reg Obj.TIME_ROLE 0 = 2 ∧ recovered.ridgeClock = true ∧ recovered.time.backup = true ∧
    10 ≤ (recovered.flitDlg (recovered.reg Obj.TIME_UPSTREAM 0)).valid ∧
    recovered.after ((recovered.flitDlg (recovered.reg Obj.TIME_UPSTREAM 0)).lastRx - 1) 2000000 = false := by decide +kernel

/-- A grandmaster in FREE_RUN whose first edge has an offset of 0. -/
def fresh : State := up.setReg Obj.TIME_ROLE 0 1

theorem test_time_edge : fresh.ridgeClock = true ∧ fresh.reg Obj.TIME_ROLE 0 = 1 ∧ fresh.time.st = .freeRun ∧
    fresh.stepsBy (((fresh.edgeTime * nsUnit : Nat) : Int) - (fresh.time.ctr : Int)) = false := by decide +kernel

/-- CXL-mode port 8 in L0. -/
def linked : State := up.setPort 8 { portDflt with st := .l0, dlUp := true }

theorem test_time_ptm : linked.drudar 8 = false ∧ linked.dlUp 8 = true ∧ (linked.port 8).st = .l0 ∧
    (linked.ptmDlg 8).valid = false := by decide +kernel

theorem test_time_ptm_again :
    ((linked.setPtmDlg 8 { valid := true, arrival := 0, departure := 5 * nsUnit }).ptmDlg 8).valid = true := by decide +kernel

theorem test_time_pps_out : (timed { up.time with st := .locked, ctr := secUnit }).time.ppsOut = false ∧ (timed { up.time with st := .locked, ctr := secUnit }).reg Obj.TIME_PPS_OUT_ADJ 0 = 0 ∧
    (timed { up.time with st := .locked, ctr := secUnit }).now / 65536 = 1 * 1000000000 + 0 ∧
    (timed { up.time with st := .locked, ctr := secUnit }).time.ppsSec ≠ 1 + 1 := by decide +kernel

theorem test_time_pps_end : (timed { up.time with ppsOut := true, ctr := secUnit }).time.ppsOut = true ∧
    (timed { up.time with ppsOut := true, ctr := secUnit }).after (timed { up.time with ppsOut := true, ctr := secUnit }).time.ppsAt 1000000 = true := by
  decide

/-- Drudar-mode port 8, UP and serving time. -/
def drudarUp : State :=
  ((up.setReg Obj.PORT_MODE 8 1).setReg Obj.TIME_PORT_SERVE 8 1).setPort 8 { portDflt with st := .l0, phase := .up, dlUp := true }

/-- A good frame. -/
def goodFrame (ftype : Nat) (body : List Byte) : Frame := { State.plainFrame ftype body with crc := frameCrc (State.plainFrame ftype body) }

theorem test_time_flit : drudarUp.druUp 8 = true ∧ drudarUp.ridgeClock = true ∧ drudarUp.flag Obj.TIME_PORT_SERVE 8 = true ∧
    (drudarUp.flitDlg 8).lastTx = 0 := by decide +kernel

theorem goodFrame_good (ftype : Nat) (body : List Byte) (h : ftype < 6) : frameGood (goodFrame ftype body) = true := by
  have e : frameCrc (goodFrame ftype body) = (goodFrame ftype body).crc := rfl
  simp [frameGood, e]
  exact h

theorem test_time_flit_rx : drudarUp.druLive 8 = true ∧ frameGood (goodFrame 3 []) = true ∧ (goodFrame 3 []).ftype = 3 ∧
    drudarUp.druIde 8 = false ∧ drudarUp.isSource 8 = false :=
  ⟨by decide +kernel, goodFrame_good 3 [] (by decide), rfl, by decide +kernel, by decide +kernel⟩

theorem test_histClear : up.Accepts 0 (State.writeOf Obj.HIST_CLEAR 3 1) := accepts (by decide) (by decide +kernel)
theorem test_laneClear : up.Accepts 0 (State.writeOf Obj.LANE_CLEAR 5 1) := accepts (by decide) (by decide +kernel)
theorem test_lanePrbs : up.Accepts 0 (State.writeOf Obj.LANE_PRBS_MODE 5 1) ∧ up.portState (up.lanePort 5) = 1 :=
  ⟨accepts (by decide) (by decide +kernel), by decide +kernel⟩
theorem test_hgRebalance : up.Accepts 0 (State.writeOf Obj.HG_REBALANCE 5 1) := accepts (by decide) (by decide +kernel)
/-- Slot 0 of slice 0 is INTERNAL's; set 0 is in the directory cache, or is being read. -/
def lookedUp (reads : List (Nat × Nat)) : State :=
  ({ up with coh := { up.coh with frames := [((0, 0), some { set := 0, used := 0, dirty := false })], reads := reads } }).setReg Obj.WHEEL_SLOT 0 0x23
theorem test_dirLookup : (lookedUp []).Accepts 0 (State.writeOf Obj.DIR_LOOKUP 0 0) ∧ place ((lookedUp []).reg Obj.CAIRN_SLICES 0) 0 = (0, 0, 0) ∧
    (let t : State := { lookedUp [] with coh := { (lookedUp []).coh with lookup := some 0 } }
     (t.slotOpen 0 (t.slotBase % 64)).isSome = true ∧ t.wheelPick 0 (t.slotBase % 64) = some (.lookup 0x23)) ∧
    ((lookedUp []).findFrame 0 0).isSome = true ∧ (lookedUp []).findWay 0 0 0 = none :=
  ⟨accepts (by decide) (by decide +kernel), by decide +kernel⟩
theorem test_dirLookup_waits : (lookedUp [(0, 0)]).Accepts 0 (State.writeOf Obj.DIR_LOOKUP 0 0) ∧
    (lookedUp [(0, 0)]).coh.reads.contains (0, 0) = true :=
  ⟨accepts (by decide) (by decide +kernel), by decide +kernel⟩

/-- Agent 4 is DEAD. -/
def dead4 : State := up.setReg Obj.AGT_STATE 4 3

theorem test_agtRevive : dead4.Accepts 0 (State.writeOf Obj.AGT_REVIVE 4 1) ∧ dead4.reg Obj.AGT_STATE 4 = 3 :=
  ⟨accepts (by decide) (by decide +kernel), by decide +kernel⟩
theorem test_tagFill : up.Accepts 0 (State.writeOf Obj.FL_TAG_FILL 0 1) ∧
    up.reg Obj.FL_TAG_BASE 0 + up.reg Obj.FL_TAG_COUNT 0 * 2097152 ≤ 2 ^ 49 ∧ up.fab.filling = none :=
  ⟨accepts (by decide) (by decide +kernel), by decide +kernel, rfl⟩
theorem test_tagProbe : up.Accepts 0 (State.writeOf Obj.FL_TAG_PROBE 0 4194304) := accepts (by decide) (by decide +kernel)
theorem test_ceilReset : up.Accepts 0 (State.writeOf Obj.TALUS_CEIL_RESET 3 1) := accepts (by decide) (by decide +kernel)
theorem test_fetRebase : up.Accepts 0 (State.writeOf Obj.FET_REBASE 3 1) := accepts (by decide) (by decide +kernel)
theorem test_dirSetClear : up.Accepts 0 (State.writeOf Obj.DIR_SET_CLEAR 0 (7 + 2 * 2 ^ 24)) := accepts (by decide) (by decide +kernel)
theorem test_intCauseClr : up.Accepts 0 (State.writeOf Obj.INT_CAUSE_CLR 3 6) := accepts (by decide) (by decide +kernel)
theorem test_intEnable_off : up.Accepts 0 (State.writeOf Obj.INT_ENABLE 3 0) ∧ (up.intSrc 3).owner = none :=
  ⟨accepts (by decide) (by decide +kernel), by decide +kernel⟩

/-- Source 3 is high. -/
def high3 : State := (up.setReg Obj.INT_CAUSE 3 1).setReg Obj.INT_CAUSE_EN 3 1

theorem test_intEnable_on : high3.Accepts 0 (State.writeOf Obj.INT_ENABLE 3 1) ∧ high3.intLevel 3 = true ∧
    (high3.intSrc 3).pending = false :=
  ⟨accepts (by decide) (by decide +kernel), by decide +kernel, by decide +kernel⟩
theorem test_intGlobal : up.Accepts 0 (State.writeOf Obj.INT_GLOBAL_EN 0 1) := accepts (by decide) (by decide +kernel)
theorem test_intRouting : up.Accepts 0 (State.writeOf Obj.INT_TARGET 3 2) := accepts (by decide) (by decide +kernel)
theorem test_intWake : up.Accepts 0 (State.writeOf Obj.INT_WAKE_EN 512 1) ∧ State.wakeEligible 512 = true :=
  ⟨accepts (by decide) (by decide +kernel), by decide +kernel⟩
theorem test_cntValue : up.Accepts 0 (State.writeOf Obj.CNT_VALUE 9 77) := accepts (by decide) (by decide +kernel)
theorem test_cntOvfClr : up.Accepts 0 (State.writeOf Obj.CNT_OVF_CLR 9 3) := accepts (by decide) (by decide +kernel)
theorem test_smpRelease : up.Accepts 0 (State.writeOf Obj.SMP_RELEASE 9 1) := accepts (by decide) (by decide +kernel)
theorem test_cntConfig : up.Accepts 0 (State.writeOf Obj.CNT_MODE 9 1) := accepts (by decide) (by decide +kernel)
theorem test_chEnable : up.Accepts 0 (State.writeOf Obj.CH_ENABLE 9 1) ∧ (up.slotCh 9).st = .off :=
  ⟨accepts (by decide) (by decide +kernel), by decide +kernel⟩

/-- Channel 9 is LATCHED. -/
def latched9 : State := up.setSlotCh 9 { slotChDflt with st := .latched }

theorem test_faultClear : latched9.Accepts 0 (State.writeOf Obj.CH_FAULT_CLEAR 9 1) ∧ (latched9.slotCh 9).st = .latched :=
  ⟨accepts (by decide) (by decide +kernel), by decide +kernel⟩
theorem test_measClear : up.Accepts 0 (State.writeOf Obj.CH_MEAS_CLEAR 9 1) := accepts (by decide) (by decide +kernel)
theorem test_threshold : (State.thresholdCh Obj.CH_FT_MA 9).isSome = true ∧ (objRow Obj.CH_FT_MA).isSome = true ∧
    up.Accepts 0 (State.writeOf Obj.CH_FT_MA 9 16000) :=
  ⟨by decide +kernel, by decide +kernel, accepts (by decide) (by decide +kernel)⟩

/-- Event slot 0 holds a scheduled commit. -/
def slot0 : State := up.setSlot 0 { slotDflt with kind := 1, state := 1, time := 100 }

theorem test_schedTime : slot0.Accepts 0 (State.writeOf Obj.SCHED_TIME 0 5000) := accepts (by decide) (by decide +kernel)
theorem test_resetNow : up.Accepts 0 (State.writeOf Obj.RESET_NOW 0 1) := accepts (by decide) (by decide +kernel)

/-- PM_TARGET is SERVICE. -/
def toService : State := up.setReg Obj.PM_TARGET 0 5

theorem test_pmEnter : toService.Accepts 0 (State.writeOf Obj.PM_ENTER 0 1) ∧ toService.reg Obj.PM_ENTER_TIME 0 = 0 ∧
    (modeOf (toService.reg Obj.PM_TARGET 0)).sleeps = false ∧ entryListed toService.mode (modeOf (toService.reg Obj.PM_TARGET 0)) = true ∧
    toService.pmBusy = false ∧ toService.pm.undoing = false ∧ toService.freeLop = some 0 :=
  ⟨accepts (by decide) (by decide +kernel), by decide +kernel, by decide +kernel, by decide +kernel, by decide +kernel, by decide +kernel, by decide +kernel⟩
theorem test_fwUpdate : up.Accepts 0 (State.writeOf Obj.FW_UPDATE 0 1) ∧ up.fwLop = none ∧ up.freeLop = some 0 :=
  ⟨accepts (by decide) (by decide +kernel), by decide +kernel, by decide +kernel⟩
theorem test_profStore : up.Accepts 0 (State.writeOf Obj.PROF_STORE 3 1) ∧ up.storeBusy = false ∧ up.freeLop = some 0 :=
  ⟨accepts (by decide) (by decide +kernel), by decide +kernel, by decide +kernel⟩
theorem test_windowNow : up.Accepts 0 (State.writeOf Obj.TALUS_WINDOW_NOW 0 1) ∧ up.windowOpen = false ∧ up.freeLop = some 0 :=
  ⟨accepts (by decide) (by decide +kernel), by decide +kernel, by decide +kernel⟩

/-- Port 8 is a device port in L0 whose device has the LD 128 of 64 MiB at pool address 0. -/
def pooled : State :=
  let t := (((((up.setReg Obj.LD_PORT 128 8).setReg Obj.PORT_ROLE 8 1).setReg Obj.PORT_ENABLE 8 1).setReg Obj.LD_SIZE 128 67108864).setReg Obj.LD_POOL_BASE 128 0).setPort 8
    { portDflt with st := .l0, dlUp := true }
  let u := { t with fab := { t.fab with enumd := t.fab.enumd.set none (8, 0) (some { found := true, single := 1, lds := [] }) } }
  (((u.setReg Obj.MOVE_SRC 2 0).setReg Obj.MOVE_DST 2 1048576).setReg Obj.MOVE_SIZE 2 65536)

theorem test_moveStart : pooled.Accepts 0 (State.writeOf Obj.MOVE_START 2 1) ∧ pooled.moveCheck 2 = none ∧ pooled.freeLop = some 0 ∧
    pooled.reg Obj.MOVE_CUTOVER_TIME 2 = 0 :=
  ⟨accepts (by decide) (by decide +kernel), by decide +kernel, by decide +kernel, by decide +kernel⟩
theorem test_lcNonce : up.precheck 0 (readReq Obj.LC_NONCE 0) = 0 := by decide +kernel

/-- A lifecycle request to SECURED is prepared. -/
def owned : State :=
  let t := up.setReg Obj.LC_TARGET 0 2
  { t with sec := { t.sec with lcNonce := some 7, lcAuth := List.replicate 96 0 } }

theorem test_lcRequest : owned.Accepts 0 (State.writeOf Obj.LC_REQUEST 0 1) ∧ owned.lcState = 1 ∧ owned.reg Obj.LC_TARGET 0 = 2 ∧
    owned.sec.lcNonce.isSome = true ∧ owned.sec.lcAuth.length = 96 ∧ owned.reg Obj.LC_PENDING 0 = 0xFF :=
  ⟨accepts (by decide) (by decide +kernel), by decide +kernel, by decide +kernel, by decide +kernel, by decide +kernel, by decide +kernel⟩
theorem test_fwChunk : up.Accepts 0 (writeReq Obj.FW_CHUNK 0 (toBytes 2 2 ++ [5, 6])) ∧ up.fwLop = none ∧
    up.reg Obj.FW_CHUNK_OFF 0 + 2 ≤ fwArea :=
  ⟨accepts (by decide) (by decide +kernel), by decide +kernel, by decide +kernel⟩
theorem test_profChunk : up.Accepts 0 (writeReq Obj.PROF_CHUNK 0 (toBytes 2 2 ++ [5, 6])) ∧ up.dict.lops = [] ∧
    up.reg Obj.PROF_CHUNK_OFF 0 + 2 ≤ 2097152 :=
  ⟨accepts (by decide) (by decide +kernel), rfl, by decide +kernel⟩

/-- An unconfirmed image runs. -/
def trial : State := up.setReg Obj.FW_CONFIRMED 0 0

theorem test_fwConfirm : trial.Accepts 0 (State.writeOf Obj.FW_CONFIRM 0 1) ∧ trial.reg Obj.FW_CONFIRMED 0 = 0 ∧
    trial.reg Obj.FW_ACTIVE 0 = trial.reg Obj.FW_BOOT_PTR 0 ∧ trial.sec.fwBack = false :=
  ⟨accepts (by decide) (by decide +kernel), by decide +kernel, by decide +kernel, rfl⟩
theorem test_noneSealed (s : State) (h : s.dict.stages = []) (n : Nat) : (s.stage n).st ≠ .sealed := by
  have e : s.stage n = stageDflt := by
    unfold State.stage
    rw [h]
    rfl
  rw [e]
  decide
theorem test_dbgAllow : up.Accepts 0 (State.writeOf Obj.DBG_ALLOW 0 1) ∧ up.reg Obj.DBG_LEVEL 0 ≤ 1 ∧ up.dict.stages = [] :=
  ⟨accepts (by decide) (by decide +kernel), by decide +kernel⟩

theorem up_serves_debug : up.Serves 321 := by
  unfold State.Serves
  decide +kernel
theorem test_dbgChallenge : (up.noteDebug 321).precheck 321 (readReq Obj.DBG_CHALLENGE 0) = 0 := by decide +kernel

/-- A challenge has been read. -/
def challenged : State := { up with sec := { up.sec with dbgNonce := some 7 } }

/-- A response that asks for INTRUSIVE. -/
def answer2 : List Byte := 2 :: List.replicate 193 0

theorem test_dbgResponse : challenged.AcceptsDebug (writeReq Obj.DBG_RESPONSE 0 (toBytes 2 answer2.length ++ answer2)) ∧
    answer2.length = 194 ∧ challenged.lcState = 1 ∧ challenged.sec.dbgNonce.isSome = true ∧ ofBytes (answer2.take 1) = 2 ∧
    challenged.reg Obj.DBG_ALLOW 0 = 2 ∧ challenged.reg Obj.DBG_LEVEL 0 < 2 := by
  unfold State.AcceptsDebug State.Serves
  decide +kernel

/-- The debug level is set. -/
def level (n : Nat) : State := up.setReg Obj.DBG_LEVEL 0 n

theorem test_dbgDrop : (level 1).AcceptsDebug (State.writeOf Obj.DBG_DROP 0 0) ∧ (level 1).reg Obj.DBG_LEVEL 0 = 1 ∧
    (level 1).reg Obj.RIDGE_HALT 0 = 0 ∧ (level 1).dict.stages = [] := by
  unfold State.AcceptsDebug State.Serves
  decide +kernel
theorem test_ridgeHalt : (level 2).AcceptsDebug (State.writeOf Obj.RIDGE_HALT 0 6) ∧ bit 6 0 = false ∧ (level 2).dict.stages = [] := by
  unfold State.AcceptsDebug State.Serves
  decide +kernel
theorem test_dmGo : (level 2).AcceptsDebug (State.writeOf Obj.DM_GO 0 1) ∧ (level 2).AcceptsDebug (State.writeOf Obj.DM_GO 0 2) ∧
    (level 2).sec.dm = none ∧ (level 2).pm.stop = false ∧ (level 2).ldAt ((level 2).reg Obj.DM_ADDR 0) = none ∧
    (level 2).fab.chains.get none ((level 2).fab.uid, 0) = none := by
  unfold State.AcceptsDebug State.Serves
  decide +kernel

/-- A READ, BLOCK_READ or READ_INSTANCES of the firmware's version. -/
def ask (op obj inst stage flags : Nat) (payload : List Byte) : Req :=
  { ver := 1, op := op, tag := 5, flags := flags, index := obj / 256, sub := obj % 256, stage := stage, inst := inst,
    len := payload.length, payload := payload }

theorem test_read : up.Accepts 0 (withOp (ask 1 Obj.PM_MODE 0 0 0 []) Op.READ) ∧ (up.readObj 0 Obj.PM_MODE 0).2 = up ∧
    up.valueBytes 0 (Obj.PM_MODE, 0) = [1] :=
  ⟨accepts (by decide) (by decide +kernel), rfl, by decide +kernel⟩
theorem test_blockRead : up.Accepts 0 (withOp (ask 3 0x100001 0 0 0 [2]) Op.BLOCK_READ) :=
  accepts (by decide) (by decide +kernel)
theorem test_readInstances : up.Accepts 0 (withOp (ask 5 Obj.PORT_STATE 3 0 0 [3, 0, 2, 0]) Op.READ_INSTANCES) :=
  accepts (by decide) (by decide +kernel)

/-- The BMC has stage 2 open; it holds a value of Q_MAX. -/
def opened : State := up.setStage 2 { stageDflt with st := .opened, owner := 0, entries := [((Obj.RGN_READ, 3), 6)] }

theorem test_readStaged : opened.Accepts 0 (withOp (ask 1 Obj.RGN_READ 3 2 2 []) Op.READ) ∧
    State.staged (opened.stage 2).entries (Obj.RGN_READ, 3) = some 6 :=
  ⟨accepts (by decide) (by decide +kernel), by decide +kernel⟩
theorem test_writeStaged : opened.Accepts 0 (withOp (ask 2 Obj.RGN_READ 4 2 0 (toBytes 2 64 ++ toBytes 64 1)) Op.WRITE) ∧
    (opened.stage 2).st = .opened ∧ (opened.heldBy (Obj.RGN_READ, 4)).getD 2 = 2 ∧
    writeVals (withOp (ask 2 Obj.RGN_READ 4 2 0 (toBytes 2 64 ++ toBytes 64 1)) Op.WRITE) = some [valOf 1] :=
  ⟨accepts (by decide) (by decide +kernel), by decide +kernel, by decide +kernel, by decide +kernel⟩
theorem test_blockWrite : opened.Accepts 0 (withOp (ask 4 Obj.RGN_READ 4 2 0 (1 :: (toBytes 2 64 ++ toBytes 64 1))) Op.BLOCK_WRITE) ∧
    writeVals (withOp (ask 4 Obj.RGN_READ 4 2 0 (1 :: (toBytes 2 64 ++ toBytes 64 1))) Op.BLOCK_WRITE) = some [valOf 1] :=
  ⟨accepts (by decide) (by decide +kernel), by decide +kernel⟩

/-- The BMC has stage 3 open too. -/
def opened2 : State := opened.setStage 3 { stageDflt with st := .opened, owner := 0 }

theorem test_writeHeld : opened2.Accepts 0 (withOp (ask 2 Obj.RGN_READ 3 3 0 (toBytes 2 64 ++ toBytes 64 1)) Op.WRITE) ∧
    (opened2.heldBy (Obj.RGN_READ, 3)).getD 3 ≠ 3 :=
  ⟨accepts (by decide) (by decide +kernel), by decide +kernel⟩
/-- Stage 2 is sealed. -/
def sealed2 : State := opened.setStage 2 { opened.stage 2 with st := .sealed, lop := 9 }
theorem test_writeSealed : sealed2.Accepts 0 (withOp (ask 2 Obj.RGN_READ 3 2 0 (toBytes 2 64 ++ toBytes 64 1)) Op.WRITE) ∧
    (sealed2.stage 2).st ≠ .opened :=
  ⟨accepts (by decide) (by decide +kernel), by decide +kernel⟩
theorem test_stageOpen : opened.Accepts 0 (withOp (ask 0x10 0 0 0 0 []) Op.STAGE_OPEN) ∧ opened.freeStage = some 1 :=
  ⟨accepts (by decide) (by decide +kernel), by decide +kernel⟩
/-- No stage is free. -/
def allOpen : State := (List.range 16).foldl (fun s n => s.setStage (n + 1) { stageDflt with st := .opened, owner := 0 }) up
theorem test_stageOpenFull : allOpen.Accepts 0 (withOp (ask 0x10 0 0 0 0 []) Op.STAGE_OPEN) ∧ allOpen.freeStage = none :=
  ⟨accepts (by decide) (by decide +kernel), by decide +kernel⟩
theorem test_stageCommitTimed : opened.Accepts 0 (withOp (ask 0x11 0 0 2 0 (toBytes 10 77)) Op.STAGE_COMMIT) ∧
    opened.freeLop = some 0 ∧ opened.freeSlot = some 0 ∧
    opened.slotsNeeded (opened.candidate (opened.stage 2).entries) (opened.stage 2).entries < opened.slotsFree ∧
    opened.validate (opened.stage 2).entries [] false true = none :=
  ⟨accepts (by decide) (by decide +kernel), by decide +kernel, by decide +kernel, by decide +kernel, by decide +kernel⟩
theorem test_stageCommitRuns : opened.coreRuns 0 = true := by decide +kernel
theorem test_stageCommitNow : opened.Accepts 0 (withOp (ask 0x11 0 0 2 0 (toBytes 10 0)) Op.STAGE_COMMIT) :=
  accepts (by decide) (by decide +kernel)
theorem test_stageDiscard : opened.Accepts 0 (withOp (ask 0x12 0 0 2 0 []) Op.STAGE_DISCARD) :=
  accepts (by decide) (by decide +kernel)
theorem test_stageIdle : (({ opened with clk := 2 ^ 80 }).stage 2).st = .opened ∧
    ({ opened with clk := 2 ^ 80 }).after (({ opened with clk := 2 ^ 80 }).stage 2).touched 600000000000 = true := by decide +kernel

/-- Handle 4 is a commit of stage 2 in state `st`, of the BMC. -/
def commits (st : LopSt) : State :=
  (sealed2.setStage 2 { sealed2.stage 2 with lop := 4 }).setLop 4 { lopDflt with kind := 1, st := st, owner := 0, arg := 2, subjects := [2] }

theorem test_lopAbort : (commits .running).Accepts 0 (withOp (ask 0x20 0 0 0 0 [4, 0]) Op.LOP_ABORT) ∧
    (((commits .running).stage 2).lop = 4 ∧ ((commits .running).lop 4).arg = 2) :=
  ⟨accepts (by decide) (by decide +kernel), by decide +kernel⟩
/-- The commit's time has come, and its slot has not fired yet. -/
def due : State :=
  (((commits .running).setLop 4 { (commits .running).lop 4 with slot := 0 }).setSlot 0 { slotDflt with kind := 1, state := 1, time := 0 })
theorem test_commitDue : due.commitDue 4 = true ∧ (due.lop 4).st = .running ∧ (commits .running).commitDue 4 = false ∧
    due.Accepts 0 (withOp (ask 0x20 0 0 0 0 [4, 0]) Op.LOP_ABORT) :=
  ⟨by decide +kernel, by decide +kernel, by decide +kernel, accepts (by decide) (by decide +kernel)⟩
theorem test_lopAbortLate : (commits .committed).Accepts 0 (withOp (ask 0x20 0 0 0 0 [4, 0]) Op.LOP_ABORT) ∧
    ((commits .committed).lop 4).st = .committed :=
  ⟨accepts (by decide) (by decide +kernel), by decide +kernel⟩

/-- Port 8 is an in-band port of a fabric manager. -/
def inband : State :=
  ((((commits .running).setReg Obj.FM_INBAND_EN 8 1).setReg Obj.PORT_ENABLE 8 1).setReg Obj.PORT_ROLE 8 2).setPort 8
    { portDflt with st := .l0, dlUp := true }

theorem test_lopAbortOther : inband.Accepts 9 (withOp (ask 0x20 0 0 0 0 [4, 0]) Op.LOP_ABORT) ∧ (inband.lop 4).owner = 0 :=
  ⟨⟨by decide, by unfold State.Serves; decide +kernel, by decide +kernel⟩, by decide +kernel⟩
theorem test_drainEnd : ((commits .committed).lop 4).kind = 1 ∧ ((commits .committed).lop 4).subjects.all (commits .committed).drained = true ∧
    (commits .committed).fab.walks = [] ∧ (commits .committed).fab.bindings = [] := by decide +kernel
theorem test_lopExpire : ((({ commits .done with clk := 2 ^ 80 } : State).lop 4).st = .done) ∧
    ({ commits .done with clk := 2 ^ 80 } : State).after (({ commits .done with clk := 2 ^ 80 } : State).lop 4).ended 60000000000 = true := by
  decide +kernel
theorem test_subscribe : up.Accepts 0 (withOp (ask 0x30 0 0 0 0 [1, 0, 0, 255, 255, 2]) Op.SUBSCRIBE) :=
  accepts (by decide) (by decide +kernel)
theorem test_unsubscribe : up.Accepts 0 (withOp (ask 0x31 0 0 0 0 [1]) Op.UNSUBSCRIBE) :=
  accepts (by decide) (by decide +kernel)

/-- An event record. -/
def record : EvtRec := { code := 0x1001, source := 16, sev := 2, dropped := false, inst := 1, seq := 9, time := 5, data := 3 }
/-- Endpoints 0 and 9 have two records each. -/
def recorded : State := { inband with dict := { inband.dict with queues := [((0, 0), [record, record]), ((9, 0), [record, record])] } }

theorem test_evtFetch : recorded.Accepts 0 (withOp (ask 0x33 0 0 0 0 [1]) Op.EVT_FETCH) ∧
    recorded.dict.queues.get [] (0, 0) = record :: [record] :=
  ⟨accepts (by decide) (by decide +kernel), by decide +kernel⟩
theorem test_eventSend : recorded.endpointUp 9 = true ∧ recorded.ridgeClock = true ∧ recorded.dict.queues.get [] (9, 0) = record :: [record] := by
  decide +kernel
theorem test_opcodeUnknown : headerOk (ask 0x32 0 0 0 0 []) = true ∧ Op.known 0x32 = false := by decide
theorem test_transports : up.endpointUp 0 = true ∧ up.firmwareUp = true ∧ up.mode.sleeps = false ∧ up.inboxOf 0 = [] ∧ up.lateOf 0 = [] ∧ up.coresWait = false ∧
    up.rst.step ≠ .inReset := by decide +kernel
/-- A packet of MCTP that carries an empty message, or the start of one. -/
def packet (eom : Bool) : MctpPacket := { som := true, eom := eom, tag := 1, bytes := [0x7F] ++ (toBytes 4 (Config.ianaEnt % 2 ^ 32)).reverse ++ [] }
theorem test_packet (eom : Bool) : (packet eom).som = true ∧ (packet eom).eom = eom ∧ (packet eom).bytes.length ≤ up.mctpUnit 0 :=
  ⟨rfl, rfl, by simp [packet, State.mctpUnit]⟩
theorem test_reasmTimeout : ∃ s : State, ∃ x, s.dict.reasm.get none (0, 1) = some x ∧ s.after x.started 100000000 = true :=
  ⟨{ up with clk := 2 ^ 80, dict := { up.dict with reasm := [((0, 1), some { bytes := [], tooLong := false, started := 0 })] } }, _, rfl, by decide +kernel⟩

/-- Partition 2 is bound, and its host port 9 carries a mailbox. -/
def tenant : State :=
  ((((up.setReg Obj.PART_STATE 2 1).setReg Obj.PART_HOST_PORT 2 9).setReg Obj.TEN_MAILBOX_EN 9 1).setReg Obj.PORT_ENABLE 9 1).setPort 9
    { portDflt with st := .l0, dlUp := true }

theorem test_tenantMailbox : tenant.hostPart 9 = some 2 ∧ tenant.flag Obj.TEN_MAILBOX_EN 9 = true ∧ tenant.dlUp 9 = true ∧
    tenant.endpointUp 259 = true ∧ (tenant.inboxOf 259).length + (tenant.lateOf 259).length < 16 ∧
    tenant.coresWait = false := by decide +kernel
/-- A debug session at the mailbox, and one that meets step 3 of a mode entry. -/
def atTap (step : PmStep) : State := { up with sec := { up.sec with tapIr := 3 }, pm := { up.pm with step := step } }
theorem test_dbgMailbox : ((atTap .idle).inboxOf 321).length + ((atTap .idle).lateOf 321).length < 16 ∧ (atTap .idle).coresWait = false ∧
    ((atTap .cores).inboxOf 321).length + ((atTap .cores).lateOf 321).length < 16 ∧ (atTap .cores).coresWait = true := by decide +kernel

/-- vPPB 130 binds LD 128 of `pooled`, and waits for it. -/
def waiting (lop : Nat) : State :=
  let s := (pooled.setReg Obj.VPPB_LD 130 128).setReg Obj.VPPB_STATE 130 1
  { s with fab := { s.fab with bindings := [{ vppb := 130, ld := 128, lop := lop, unbind := false, walked := false, since := 0 }] } }

theorem test_pendingBind : ∀ lop ∈ [0xFFFF, 7], (waiting lop).reg Obj.VPPB_STATE 130 = 1 ∧
    (waiting lop).ldPresent ((waiting lop).reg Obj.VPPB_LD 130) = true ∧ (waiting lop).draining 1 = false ∧
    (waiting lop).coreRuns 2 = true ∧
    (waiting lop).fab.bindings.find? (fun (b : Binding) => b.vppb == 130 && !b.unbind) =
      some { vppb := 130, ld := 128, lop := lop, unbind := false, walked := false, since := 0 } := by decide +kernel

/-- The walk of window 3 has ended; it was partition 2's, and handle 5 unbinds vPPB 130. -/
def walked : State :=
  let s := pooled.setReg Obj.WIN_STATE 3 2
  { s with fab := { s.fab with
      walks := [{ win := 3, vppb := 130, ld := 128, part := 2, lop := 5, cfg := s.winCfg 3, bases := [], todo := [], left := [0, 0], snoops := 0 }]
      bindings := [{ vppb := 130, ld := 128, lop := 5, unbind := true, walked := false, since := 0 }] } }

theorem test_unbindWalkEnd : walked.fab.walks.find? (fun (k : Walk) => k.win == 3) = walked.fab.walks.head? ∧
    walked.reg Obj.WIN_STATE 3 = 2 ∧ walked.fab.walks.map (fun (k : Walk) => (k.left.all (· == 0), k.todo, k.snoops)) = [(true, [], 0)] := by decide +kernel
theorem test_hostConfig : tenant.hostPart 9 = some 2 := by decide +kernel

/-- A fabric manager is in-band on port 16 of a part with a device of two LDs on port 8. -/
def managed : State :=
  let s := (((pooled.setReg Obj.FM_INBAND_EN 16 1).setReg Obj.PORT_ENABLE 16 1).setReg Obj.PORT_ROLE 16 2).setPort 16
    { portDflt with st := .l0, dlUp := true }
  let t := (s.setReg Obj.LD_LDID 128 1)
  { t with fab := { t.fab with enumd := t.fab.enumd.set none (8, 0) (some { found := true, single := 0, lds := [(0, 2 ^ 28), (1, 2 ^ 28)] }) } }

theorem managed_serves : managed.ServesFm 17 := by
  unfold State.ServesFm State.Serves
  decide +kernel
theorem test_identify : managed.precheck 17 (State.fmRead Obj.VENDOR 0 7) = 0 := by decide +kernel
theorem test_portStates : managed.precheck 17 (State.fmRead Obj.PORT_STATE 8 6) = 0 := by decide +kernel
theorem test_switchInfo : managed.precheck 17 (State.fmRead Obj.PART_ENABLE 1 4) = 0 ∧
    (List.range 64).all (fun k => managed.precheck 17 (State.fmRead Obj.VPPB_LD (64 * 1 + k) 2) == 0) = true := by decide +kernel
theorem test_mldOn : managed.mldOn 8 = true := by decide +kernel
theorem test_portControl : managed.CommitsNow 17 1 0 Obj.PORT_ENABLE 24 1 ∧ managed.reg Obj.PORT_ENABLE 24 = 0 ∧
    (managed.port 24).st = .disabled := by
  unfold State.CommitsNow
  decide +kernel

/-- Partition 1 with host port 24. -/
def hosted : State := ((managed.setReg Obj.PART_HOST_PORT 1 24).setReg Obj.PART_FID 1 900).setReg Obj.PART_ENABLE 1 1

theorem hosted_serves : hosted.ServesFm 17 := by
  unfold State.ServesFm State.Serves
  decide +kernel
theorem test_bindVppb : hosted.ldOf 8 1 = some 128 ∧ hosted.reg Obj.VPPB_LD (64 * 1 + 2) = 0xFFFF ∧
    hosted.reg Obj.VPPB_LEASE_END (64 * 1 + 2) = 0 ∧ hosted.ldPresent 128 = true ∧ hosted.CommitsNow 17 1 0 Obj.VPPB_LD (64 * 1 + 2) 128 := by
  unfold State.CommitsNow
  decide +kernel
/-- vPPB 66 binds LD 128. -/
def bound66 : State := (hosted.setReg Obj.VPPB_LD 66 128).setReg Obj.VPPB_STATE 66 2
theorem test_unbindVppb : bound66.CommitsNow 17 1 0 Obj.VPPB_LD (64 * 1 + 2) 0xFFFF ∧ bound66.windows = [] := by
  unfold State.CommitsNow
  decide +kernel
theorem bound66_serves : bound66.ServesFm 17 := by
  unfold State.ServesFm State.Serves
  decide +kernel

/-- The event slots hold a due gate-list swap of port 8 and a due, periodic margin window. -/
def dueNow : State :=
  let s := (({ pooled with time := { pooled.time with ctr := 2 ^ 60 } } : State).setSlot 3
    { kind := 4, state := 1, time := 5, first := 5, period := 0, policy := 2, missed := 0, arg := 8, due := 0 }).setSlot 7
    { kind := 5, state := 1, time := 6, first := 6, period := 9, policy := 0, missed := 0, arg := 0, due := 0 }
  s.setEgr 8 { s.egr 8 with pendOn := true, pendList := [0xFF * 2 ^ 32 + 100] }

theorem test_schedFire : dueNow.ridgeClock = true ∧ dueNow.dueSlots = [(3, dueNow.slot 3), (7, dueNow.slot 7)] ∧ (dueNow.slot 3).kind = 4 ∧
    (dueNow.slot 7).kind = 5 ∧ (dueNow.slot 7).period ≠ 0 ∧ (dueNow.egr 8).pendOn = true ∧ dueNow.coreRuns 3 = true ∧ dueNow.windowOpen = false ∧
    dueNow.freeLop = some 0 := by decide +kernel

/-- A wake from HOLD has brought everything back; port 8 is in L1. -/
def waking : State :=
  let s := pooled.setPort 8 { portDflt with st := .l1, dlUp := true }
  { s with mode := .hold, pm := { s.pm with waking := true, ramp := [], pll := true, hbm := true, prev := .active } }

theorem test_trafficReady : waking.sec.dm = none ∧ waking.pm.waking = true ∧ waking.pm.ramp = [] ∧ waking.pm.pll = true ∧ waking.pm.hbm = true ∧ waking.mode = .hold ∧
    waking.time.slots = [] ∧ (∀ c < 16, waking.movePhase c ≠ 3) ∧ (waking.port 8).st = .l1 ∧ waking.drudar 8 = false := by decide +kernel

/-- Port 8 of an enabled port with state `x`. -/
def linked8 (x : Port) : State := (((up.setReg Obj.PORT_ENABLE 8 1).setReg Obj.PORT_ROLE 8 2).setReg Obj.PORT_WIDTH 8 16).setPort 8 x

theorem test_ladderStart : let s := linked8 { portDflt with st := .detect, phase := .idle }
    s.trainable 8 = true ∧ s.ladderRuns = true ∧ s.perstFree 8 = true ∧ s.link.halted = false ∧ (s.port 8).phase = .idle ∧
    (s.port 8).st = .detect := by decide +kernel
theorem test_receiverDetect : let s := linked8 { portDflt with st := .detect, phase := .detecting }
    (s.port 8).st = .detect ∧ (s.port 8).phase = .detecting ∧ s.drudar 8 = false ∧ s.stepping 8 = true := by decide +kernel
theorem test_rungEqDone : let s := linked8 { portDflt with st := .training, phase := .eq, rate := 1, partnerMax := 6 }
    (s.port 8).st = .training ∧ (s.port 8).phase = .eq ∧ s.drudar 8 = false ∧ (s.port 8).eqTries = 0 ∧ s.climbing 8 = 3 ∧ s.stepping 8 = true := by
  decide +kernel
theorem test_rungEqDoneAgain : let s := linked8 { portDflt with st := .training, phase := .eq, rate := 1, partnerMax := 6, eqTries := 1 }
    (s.port 8).st = .training ∧ (s.port 8).phase = .eq ∧ s.drudar 8 = false ∧ (s.port 8).eqTries ≠ 0 ∧
    s.stepping 8 = true := by decide +kernel
theorem test_trainTimeout : let s : State := { linked8 { portDflt with st := .training, phase := .polling } with clk := 2 ^ 70 }
    (s.port 8).st = .training ∧ (s.port 8).dlUp = false ∧ s.stepping 8 = true ∧ s.after (s.port 8).leftDetect 200000000 = true := by decide +kernel
theorem test_trainBackoff : let s : State := { linked8 { portDflt with st := .trainFail, fails := 1 } with clk := 2 ^ 70 }
    (s.port 8).spent = false ∧ s.stepping 8 = true ∧ ({ s.port 8 with spent := true }).spent = true ∧
    s.after (s.port 8).failedAt (min (100000000 * 2 ^ ((s.port 8).fails - 1)) 10000000000) = true := by decide +kernel
theorem test_aspmL1 : let s := linked8 { portDflt with st := .l0, dlUp := true }
    s.drudar 8 = false ∧ (s.port 8).st = .l0 ∧ (s.port 8).l1Req = false := by decide +kernel

/-- All sixteen lanes respond in Flit mode with 256-byte flits. -/
def agreed (skew : Nat) : CfgResult :=
  { lanes := 0xFFFF, invert := 0, skew := skew, flit256 := true, flit68 := true, flitMode := true, maxRate := 6, l0p := true,
    bypass := false, mem := true, cache := true, backInv := true }
def polling8 : State := linked8 { portDflt with st := .training, phase := .polling, rate := 1 }

theorem test_configurationEnd : (polling8.port 8).st = .training ∧ (polling8.port 8).phase = .polling ∧
    polling8.drudar 8 = false ∧
    polling8.stepping 8 = true ∧
    polling8.widest 8 (fun n => polling8.laneOk n && bit (agreed 20).lanes (n - polling8.firstLane 8)) (agreed 20).reversed = (16, false) ∧
    (agreed 20).skew ≤ 200 ∧ polling8.reg Obj.PORT_FLIT 8 = 0 ∧ 200 < (agreed 201).skew := by decide +kernel
theorem test_linkLayerInit : let s := linked8 { portDflt with st := .training, phase := .linkInit }
    (s.port 8).st = .training ∧ (s.port 8).phase = .linkInit ∧ s.drudar 8 = false ∧ s.reg Obj.PORT_ROLE 8 ≠ 1 ∧
    s.stepping 8 = true ∧ (s.setReg Obj.PORT_ROLE 8 1).stepping 8 = true ∧
    (s.setReg Obj.PORT_ROLE 8 1).reg Obj.PORT_ROLE 8 = 1 := by decide +kernel
theorem test_enumerationDone : let s := linked8 { portDflt with st := .l0, phase := .enumerating }
    (s.port 8).st = .l0 ∧ (s.port 8).phase = .enumerating ∧ s.drudar 8 = false ∧ s.stepping 8 = true := by decide +kernel

/-- Port 8 in L0 at x16; lane 17 is in state `ls`. -/
def wide8 (ls : Nat) (x : Port) (l : Lane) : State :=
  (((linked8 x).setReg Obj.PORT_ACTIVE_WIDTH 8 16).setReg Obj.LANE_STATE 17 ls).setLane 17 l

theorem test_laneLockLost : let s := wide8 1 { portDflt with st := .l0, dlUp := true } laneDflt
    s.lanePort 17 = 8 ∧ s.drudar 8 = false ∧ s.gatedLC (8 / 8) = false ∧ (s.port 8).st = .l0 ∧ (s.port 8).changing = false ∧
    17 ∈ s.activeLanes 8 ∧ s.reg Obj.LANE_STATE 17 = 1 ∧ (s.lane 17).restoring = false := by decide +kernel
theorem test_laneLockLostAgain : let s := wide8 3 { portDflt with st := .l0, dlUp := true } { laneDflt with lossAt := 1 }
    17 ∈ s.activeLanes 8 ∧ s.reg Obj.LANE_STATE 17 = 3 ∧ (s.lane 17).lossAt ≠ 0 ∧
    s.clk < (s.lane 17).lossAt - 1 + s.reg Obj.LANE_FAIL_WINDOW 8 * 1000000 * nsUnit := by decide +kernel
theorem test_recoveryEnd : let s := wide8 1 { portDflt with st := .recovery, dlUp := true } laneDflt
    (s.port 8).st = .recovery ∧ (s.port 8).changing = false ∧ s.drudar 8 = false ∧
    (∀ n ∈ s.activeLanes 8, s.reg Obj.LANE_STATE n ≠ 4) ∧ (s.port 8).dlUp = true ∧ s.Calm 8 := by
  unfold State.Calm
  decide +kernel
theorem test_laneFailWindowEnd : let s : State := { wide8 3 { portDflt with st := .l0, dlUp := true } { laneDflt with lossAt := 1 } with clk := 2 ^ 90 }
    s.reg Obj.LANE_STATE 17 = 3 ∧ (s.lane 17).lossAt ≠ 0 ∧ (s.lane 17).restoring = false ∧
    s.after ((s.lane 17).lossAt - 1) (s.reg Obj.LANE_FAIL_WINDOW (s.lanePort 17) * 1000000) = true := by decide +kernel
theorem test_widthChangeDone : let s := wide8 4 { portDflt with st := .l0, dlUp := true, changing := true, byL0p := true, wantWidth := 1 } laneDflt
    (s.port 8).changing = true ∧ (s.port 8).byL0p = true ∧ (s.port 8).widening = false ∧ (s.port 8).wantWidth = 1 ∧
    (∀ n ∈ s.portLanes 8, (s.lane n).lossPend = 0 ∧ (s.lane n).restoring = false) := by decide +kernel

/-- Port 8 runs at x8 of x16, narrowed long ago. -/
def narrow8 : State :=
  let s := (linked8 { portDflt with st := .l0, dlUp := true, narrowedAt := 1, fullWidth := 16 }).setReg Obj.PORT_ACTIVE_WIDTH 8 8
  { s with clk := 2 ^ 90, link := { s.link with l0pOn := s.link.l0pOn.set false (8, 0) true } }

theorem test_widenAttempt : (narrow8.port 8).st = .l0 ∧ (narrow8.port 8).narrowedAt ≠ 0 ∧ (narrow8.port 8).widenTries < 3 ∧
    narrow8.flag Obj.PORT_AUTO_WIDEN 8 = true ∧ narrow8.after ((narrow8.port 8).narrowedAt - 1) 60000000000 = true ∧
    narrow8.ladderRuns = true ∧ narrow8.reg Obj.PORT_ACTIVE_WIDTH 8 < (narrow8.port 8).fullWidth ∧
    narrow8.link.l0pOn.get false (8, 0) = true ∧ narrow8.reg Obj.PORT_WIDTH 8 = (narrow8.port 8).fullWidth ∧ narrow8.drudar 8 = false ∧
    (narrow8.port 8).changing = false := by decide +kernel
theorem test_quartzRound : let s := up.setQuartz 2 { up.quartz 2 with lane := 5, step := 15 }
    s.RoundEnds 2 ∧ s.scanFrom 2 (s.quartz 2).lane = 5 ∧ (s.quartz 2).lane = 5 ∧ (s.quartz 2).step = 15 ∧ s.scanFrom 2 6 ≠ 64 ∧
    (up.setQuartz 2 { up.quartz 2 with lane := 5, step := 14 }).RoundEnds 2 ∧ up.RoundEnds 0 ∧ up.flag Obj.LANE_PRIV 17 = false ∧
    ((up.setQuartz 2 { up.quartz 2 with lane := 5, step := 14 }).quartz 2).step < 15 := by
  unfold State.RoundEnds
  decide +kernel

/-- The slot of privileged lane 17 ends. -/
def slot17 : State :=
  let s := up.setReg Obj.LANE_PRIV 17 1
  { s.setQuartz 0 { s.quartz 0 with slots := [17], roundAt := 1 } with clk := 2 ^ 80 }
theorem test_privSlot : slot17.SlotEnds 17 ∧ 10 + slot17.reg Obj.FOM_HYST 0 ≤ 60000 ∧ slot17.reg Obj.LANE_FOM_TARGET 17 ≤ 65535 := by
  unfold State.SlotEnds
  decide +kernel
theorem test_prbs : let s := (up.setReg Obj.LANE_PRBS_MODE 17 1).setLane 17 { laneDflt with prbsLocked := true }
    s.reg Obj.LANE_PRBS_MODE 17 ≠ 0 ∧ (s.lane 17).prbsLocked = true ∧ (s.lane 17).errs < 2 ^ 48 := by decide +kernel

/-- Drudar-mode port 8 with state `x`. -/
def dru8 (x : Port) : State := ((up.setReg Obj.PORT_MODE 8 1).setReg Obj.PORT_ENABLE 8 1).setPort 8 x
/-- The same at a late clock reading. -/
def lateDru (x : Port) : State := { dru8 x with clk := 2 ^ 90 }

theorem test_druSignalDetect : let s := dru8 { portDflt with st := .detect, phase := .detecting }
    s.drudar 8 = true ∧ (s.port 8).st = .detect ∧ (s.port 8).phase = .detecting ∧ s.stepping 8 = true ∧
    s.reg Obj.DRU_MIN_WIDTH 8 ≤ popCount (s.formedWidth 8) 0xFFFF ∧ 0xFFFF % 2 ^ s.formedWidth 8 ≠ 0 := by decide +kernel

/-- A training word of a GT9 with ID 5 on plane 1, highest rate 9, ceiling 9. -/
def word5 : Nat :=
  let w := 0x3C3CA5A5 + 1 * 2 ^ 36 + 1 * 2 ^ 50 + 5 * 2 ^ 52 + 9 * 2 ^ 68 + 9 * 2 ^ 72
  w + trainCrc w * 2 ^ 112

/-- A training word of a partner that names no kind; and the word that ends equalization. -/
def wordNone : Nat := 0x3C3CA5A5 + trainCrc 0x3C3CA5A5 * 2 ^ 112
def wordDone : Nat :=
  let w := word5 % 2 ^ 112 + 2 ^ 32 + 6 * 2 ^ 88
  w + trainCrc w * 2 ^ 112

theorem test_trainingWordEq : let s := ((dru8 { portDflt with st := .training, phase := .druEq, rate := 7 }).setReg Obj.DRU_RX_MASK 8 2)
    (s.port 8).phase = .druEq ∧ s.stepping 8 = true ∧ s.druTarget 8 ≤ (s.port 8).rate ∧ 17 ∈ s.portLanes 8 ∧
    goodWord (upright wordDone).1 = true ∧
    (s.setLane 17 { s.lane 17 with eqDone := (s.lane 17).eqDone || bit (field (upright wordDone).1 88 8) 2
                                   peerLock := bit (field (upright wordDone).1 88 8) 1 }).druEqReady 8 = true := by decide +kernel
theorem test_trainingWord : let s := dru8 { portDflt with st := .training, phase := .sync }
    s.drudar 8 = true ∧ (s.port 8).st = .training ∧ (s.port 8).phase = .sync ∧ 17 ∈ s.portLanes 8 ∧ word5 < 2 ^ 128 ∧
    goodWord word5 = true ∧ field word5 32 4 = 0 ∧ field word5 50 2 = 1 ∧ (s.lane 17).goodWords < 3 ∧ (s.lane 17).tries < 3 ∧
    goodWord (upright (word5 + 2 ^ 60)).1 = false ∧ goodWord (upright wordNone).1 = true ∧ field (upright wordNone).1 32 4 = 0 ∧
    field (upright wordNone).1 50 2 ∈ [0, 3] := by decide +kernel
theorem test_druSyncTimeout : let s := lateDru { portDflt with st := .training, phase := .sync }
    s.stepping 8 = true ∧ s.after (s.port 8).phaseAt 5000000 = true ∧ popCount 16 (s.syncLocked 8) < s.reg Obj.DRU_MIN_WIDTH 8 := by decide +kernel
theorem test_druEqTimeout : let s := lateDru { portDflt with st := .training, phase := .druEq, rate := 8 }
    (s.port 8).st = .training ∧ (s.port 8).phase = .druEq ∧ (s.port 8).rate ≠ 7 ∧ s.after (s.port 8).phaseAt 5000000 = true ∧
    (s.port 8).eqTries = 0 ∧ s.stepping 8 = true := by decide +kernel
theorem test_druFecLock : let s := dru8 { portDflt with st := .training, phase := .fecLock }
    (s.port 8).st = .training ∧ (s.port 8).phase = .fecLock ∧ s.stepping 8 = true ∧
    (s.setReg Obj.DRU_RX_MASK 8 0xFFFF).reg Obj.DRU_RX_MASK 8 < 2 ^ s.formedWidth 8 ∧
    (∀ i ∈ bitsOf 16 ((s.setReg Obj.DRU_RX_MASK 8 0xFFFF).reg Obj.DRU_RX_MASK 8), (List.replicate 16 40).getD i 0 ≤ 400) := by decide +kernel
theorem test_init : let s := dru8 { portDflt with st := .training, phase := .init }
    (s.port 8).phase = .init ∧ s.drudar 8 = true ∧ (s.dru 8).initTx = 0 ∧ (s.dru 8).initRx = false ∧ frameGood (goodFrame 4 (toBytes 2 1)) = true ∧
    ctype (goodFrame 4 (toBytes 2 1)) = 1 ∧ ctrlU16 (goodFrame 4 (toBytes 2 1)) 9 % 256 = s.reg Obj.DRU_IDE_MODE 8 ∧
    (goodFrame 4 (toBytes 2 1)).ftype = 4 :=
  ⟨by decide +kernel, by decide +kernel, by decide +kernel, by decide +kernel, goodFrame_good 4 _ (by decide), by decide +kernel, by decide +kernel, rfl⟩
theorem test_badFrame : frameGood { State.plainFrame 4 [] with ftype := 6 } = false := by
  simp [frameGood]

/-- A good frame of a type and SEQ. -/
def seqFrame (ftype seq : Nat) : Frame :=
  let f := { State.plainFrame ftype [] with seq := seq }
  { f with crc := frameCrc f }
theorem frameCrc_crc (f : Frame) (c : Nat) : frameCrc { f with crc := c } = frameCrc f := rfl
theorem seqFrame_good (ftype seq : Nat) (h : ftype < 6) : frameGood (seqFrame ftype seq) = true := by
  have e : frameCrc (seqFrame ftype seq) = (seqFrame ftype seq).crc := frameCrc_crc _ _
  simp [frameGood, e]
  exact h

theorem test_frames : drudarUp.druLive 8 = true ∧ (seqFrame 1 0).seq = (drudarUp.dru 8).rxExp ∧ (seqFrame 1 0).ftype = 1 ∧
    (seqFrame 2 0).ftype = 2 ∧ (seqFrame 1 0).crClass < 9 ∧ (drudarUp.dru 8).txCr.length = 9 ∧ drudarUp.druIde 8 = false ∧
    drudarUp.endpointUp 9 = false ∧ (seqFrame 1 7).seq ≠ (drudarUp.dru 8).rxExp ∧
    (drudarUp.setDru 8 { druDflt with nakSent := false }).druLive 8 = true := by decide +kernel

/-- The Drudar link under IDE. -/
def ideUp : State := ((drudarUp.setReg Obj.DRU_IDE_MODE 8 2).setIde 8 { ideDflt with key0 := true }).setDru 8
  { druDflt with macCov := List.replicate 8 (seqFrame 1 0), held := [seqFrame 1 3], txCr := List.replicate 9 5 }

theorem test_mac : ideUp.druLive 8 = true ∧ ideUp.druUp 8 = true ∧ ideUp.druIde 8 = true ∧ (ideUp.dru 8).macCov.length = 8 ∧
    (∀ h ∈ (ideUp.dru 8).held, h.ftype = 1) ∧
    ideUp.maySend 8 5 0 = true ∧ (seqFrame 5 0).seq = (ideUp.dru 8).rxExp ∧ (seqFrame 5 0).ftype = 5 := by decide +kernel
theorem test_nak : drudarUp.druLive 8 = true ∧ drudarUp.druUp 8 = true ∧ ctype (goodFrame 4 (toBytes 2 2)) = 2 ∧
    ctype (goodFrame 4 (toBytes 2 5)) = 5 := by decide +kernel

/-- The link holds one frame, sent long ago. -/
def holding : State := { drudarUp.setDru 8 { druDflt with replay := [{ frame := seqFrame 1 0, count := 0 }] } with clk := 2 ^ 90 }

theorem test_replayTimeout : holding.druUp 8 = true ∧ (seqFrame 1 0).seq < 4096 ∧ holding.after (holding.dru 8).ackAt
    (holding.reg Obj.DRU_REPLAY_TIMEOUT 8) = true ∧ (holding.dru 8).replay.length = 1 := by decide +kernel
theorem test_retrainStart : let s := drudarUp.setDru 8 { druDflt with sameSeq := 4, amMiss := 4 }
    s.druUp 8 = true ∧ 4 ≤ (s.dru 8).sameSeq ∧ 4 ≤ (s.dru 8).amMiss := by decide +kernel
theorem test_retrainDone : let s := dru8 { portDflt with st := .recovery, phase := .retrain, dlUp := true }
    s.drudar 8 = true ∧ (s.port 8).st = .recovery ∧ (s.port 8).phase = .retrain ∧ s.after (s.port 8).phaseAt 10000000 = false ∧
    (s.dru 8).replay = [] := by decide +kernel
theorem test_retrainTimeout : let s := lateDru { portDflt with st := .recovery, phase := .retrain, dlUp := true }
    s.after (s.port 8).phaseAt 10000000 = true ∧ s.formed 8 = true ∧ s.Calm 8 := by
  unfold State.Calm
  decide +kernel

/-- A re-stripe is due on transmit and open on receive. -/
def striped : State :=
  ((drudarUp.setDru 8 { druDflt with restripeTx := true, dropMask := 0x7FFF, dropLane := 31 }).setReg Obj.DRU_TX_MASK 8 0xFFFF).setReg
    Obj.DRU_RX_MASK 8 0xFFFF

/-- The markers of the re-stripe, and where a corrected symbol of the old stripe came from. -/
def restripeMarkers : List Nat := (List.range 15).map (fun j => marker j (16 + j) 15 true 3 0)

theorem test_markers : striped.drudar 8 = true ∧ (striped.port 8).phase = .up ∧ (striped.dru 8).restripeTx = true ∧
    striped.druLive 8 = true ∧ goodMarker 0 = false ∧ (striped.dru 8).dropMask ≠ 0 ∧ popCount 16 (striped.dru 8).dropMask = 15 ∧
    (∀ j < 15, ∃ m ∈ restripeMarkers, goodMarker m = true ∧ bit m 59 = true ∧ field m 54 5 = 15 ∧ field m 40 5 = j) ∧
    ({ striped with clk := 2 ^ 90 } : State).after (({ striped with clk := 2 ^ 90 } : State).dru 8).dropAt 200 = true := by decide +kernel
theorem test_corrected : bitsOf 16 (striped.reg Obj.DRU_RX_MASK 8) ≠ [] ∧
    striped.firstLane 8 + (bitsOf 16 (striped.reg Obj.DRU_RX_MASK 8)).getD (19 % (bitsOf 16 (striped.reg Obj.DRU_RX_MASK 8)).length) 0 = 19 ∧
    striped.reg Obj.LANE_PRBS_MODE 19 = 0 ∧ (striped.lane 19).errs < 2 ^ 48 - 1 := by decide +kernel
theorem test_laneLost : let s := (drudarUp.setReg Obj.DRU_RX_MASK 8 0xFFFF).setReg Obj.DRU_TX_MASK 8 0xFFFF
    s.druLive 8 = true ∧ 31 ∈ s.portLanes 8 ∧ bit (s.reg Obj.DRU_RX_MASK 8) (31 - s.firstLane 8) = true ∧ s.reg Obj.LANE_STATE 31 ≠ 4 ∧
    (s.dru 8).dropMask = 0 ∧ s.reg Obj.DRU_MIN_WIDTH 8 ≤ popCount 16 (clrBit (s.reg Obj.DRU_RX_MASK 8) (31 - s.firstLane 8)) ∧
    clrBit (s.reg Obj.DRU_RX_MASK 8) (31 - s.firstLane 8) ≠ 0 := by decide +kernel
theorem test_dropRx (ct : Nat) (h : ct = 3 ∨ ct = 4) :
    ctype (goodFrame 4 (toBytes 2 ct ++ toBytes 2 0 ++ toBytes 2 0x7FFF)) = ct ∧
    ctrlU16 (goodFrame 4 (toBytes 2 ct ++ toBytes 2 0 ++ toBytes 2 0x7FFF)) 1 &&& (2 ^ striped.formedWidth 8 - 1) = 0x7FFF ∧
    0x7FFF ≠ striped.reg Obj.DRU_TX_MASK 8 := by
  rcases h with h | h <;> subst h <;> decide +kernel

/-- Lane 31 of the link failed long ago. -/
def failed31 : State :=
  { ((drudarUp.setReg Obj.LANE_STATE 31 4).setReg Obj.DRU_RX_MASK 8 0x7FFF).setLane 31 { laneDflt with droppedAt := 1 } with clk := 2 ^ 90 }

theorem test_restore : failed31.druUp 8 = true ∧ 31 ∈ failed31.portLanes 8 ∧ failed31.reg Obj.LANE_STATE 31 = 4 ∧
    failed31.flag Obj.PORT_AUTO_WIDEN 8 = true ∧ (failed31.lane 31).droppedAt ≠ 0 ∧ (failed31.lane 31).tries < 3 ∧
    failed31.after ((failed31.lane 31).droppedAt - 1) 60000000000 = true ∧ (failed31.dru 8).dropMask = 0 := by decide +kernel

/-- Ports 8 and 16 are in L0, with classes as at reset; fabric ID 900 is routed to port 16. -/
def switch : State :=
  ((up.setPort 8 { portDflt with st := .l0, dlUp := true }).setPort 16 { portDflt with st := .l0, dlUp := true }).setReg
    Obj.ROUTE_ENTRY 900 (2 ^ 10 + 16)

/-- A one-cell message to fabric ID 900. -/
def msgTo (chan : Chan) (op : MemOp) (byFid : Bool) : MsgIn :=
  { chan := chan, op := op, addr := 4096, srcFid := 7, dstFid := 900, byFid := byFid, tag := 3, bytes := 64, len := 1, cls := 0, rcnt := 0,
    poison := false, stomp := false, whole := false, p2pPart := 64, data := [] }

theorem test_decodeMiss : switch.Arrives 8 (msgTo .memReq .memRdS false) ∧ switch.cacheDevice 8 = false ∧
    switch.fab.rttWait.get [] (8, 0) = [] ∧ switch.rttRoom 8 = true ∧
    switch.findWindow ((switch.hostPart 8).getD 255) (msgTo .memReq .memRdS false).addr (msgTo .memReq .memRdS false).op = none := by
  unfold State.Arrives State.FlitGood
  decide +kernel
theorem test_messageIngress : switch.Arrives 8 (msgTo .ioPosted .ioMessage true) ∧ switch.Arrives 8 (msgTo .ioNonPosted .ioConfig true) ∧
    switch.fidIn 8 900 = 900 ∧ (∀ ld ∈ switch.ldsKnown, switch.reg Obj.LD_FID ld ≠ 900) ∧
    switch.RoutedTo 8 900 16 (switch.parse 8 (msgTo .ioPosted .ioMessage true)).src ∧
    switch.RoutedTo 8 900 16 (switch.parse 8 (msgTo .ioNonPosted .ioConfig true)).src ∧ switch.fab.moved = [] ∧ switch.fab.hold.row 8 = [] ∧
    switch.rttRoom 8 = true := by
  unfold State.Arrives State.FlitGood State.RoutedTo
  decide +kernel

/-- A message of two cells has begun at port 8, class 0. -/
def arriving (discard : Bool) : State :=
  let m : Msg := { msgDflt with uid := 5, internal := false, len := 3, inPort := 8, cls := 0, egress := 16 }
  let x := switch.newCell (switch.cellOf m false 0) noCell
  { x.2 with
    clk := 2 ^ 60
    fab := { x.2.fab with
      chains := [((5, 0), some { first := x.1, lastCell := x.1, got := 1, complete := false })]
      inMsgs := [((8, 0), some { uid := 5, msg := m, got := 1, lastAt := 0, discard := discard })] } }

theorem test_cellIngress : (arriving false).FlitGood 8 0 false ∧ (arriving true).flitHere 8 0 = true ∧ ((arriving false).inMsg 8 0).map (fun i => (i.discard, i.uid, i.got, ((arriving false).latest i).len)) =
      some (false, 5, 1, 3) ∧ ((arriving false).fab.chains.get none (5, 0)).isSome = true ∧
    ((arriving true).inMsg 8 0).map (·.discard) = some true ∧ (arriving false).after 0 ((arriving false).reg Obj.MSG_TAIL_TIMEOUT 0) = true ∧
    ({ arriving false with clk := 0 } : State).after 0 ((arriving false).reg Obj.MSG_TAIL_TIMEOUT 0) = false := by
  unfold State.FlitGood
  decide +kernel

/-- Entry 4 of the tracking table is open: from port 8 to port 16. -/
def tracked : State :=
  { switch.setRtt 4 (some { port := 8, egress := 16, at_ := 0, orphan := false, synth := false, claimed := false,
                            msg := { msgDflt with uid := 5, internal := false, kind := .request, inPort := 8, egress := 16, track := 4 } }) with clk := 2 ^ 70 }

theorem test_completionRx : tracked.dlUp 16 = true ∧ tracked.drudar 16 = false ∧ (∀ c < 8, tracked.inMsg 16 c = none) ∧
    (tracked.rtt 4).map (fun e => (e.claimed, e.synth, e.egress, e.orphan, e.msg.internal)) =
    some (false, false, 16, false, false) := by decide +kernel
/-- Its request is a read whose last 4 bytes Flint refused. -/
def trimmed : State :=
  match tracked.rtt 4 with
  | some e => tracked.setRtt 4 (some { e with msg := { e.msg with op := .ioRead, skipHi := 4 } })
  | none => tracked
theorem test_completionTrimmed : trimmed.dlUp 16 = true ∧ trimmed.drudar 16 = false ∧ (∀ c < 8, trimmed.inMsg 16 c = none) ∧
    (trimmed.rtt 4).map (fun e => (e.claimed, e.synth, e.egress, e.orphan, e.msg.internal)) = some (false, false, 16, false, false) ∧
    (trimmed.rtt 4).map (fun e => (State.isWrite e.msg.op, e.msg.skipLo, e.msg.skipHi)) = some (false, 0, 4) ∧
    trimmed.sysUsed + max 1 (min 17 (ceilDiv (0 + (8 + 4)) 256)) ≤ trimmed.reg Obj.BUF_RSV_SYS 0 := by decide +kernel
theorem test_rttTimeout : (tracked.rtt 4).map (fun e => (e.msg.kind, tracked.after e.at_ (tracked.reg Obj.DIR_TIMEOUT 0 * 1000))) =
    some (.request, true) := by decide +kernel
/-- A request waits for an entry. -/
def waiter : State :=
  { switch with fab := { switch.fab with rttWait := [((8, 0), [{ msgDflt with uid := 5, internal := false, kind := .request, op := .ioConfig, inPort := 8, egress := 16 }])] } }
theorem test_rttEntryGrant : waiter.fab.rttWait.get [] (8, 0) =
      [{ msgDflt with uid := 5, internal := false, kind := .request, op := .ioConfig, inPort := 8, egress := 16 }] ∧
    waiter.rttRoom 8 = true ∧ msgDflt.coherent = false ∧ msgDflt.ans = 0 ∧ (msgDflt.rq < 320 ∨ 336 ≤ msgDflt.rq) := by decide +kernel
theorem test_tagReadDone : ∃ s : State, ∃ w : TagWait, s.fab.tagWait = [w] ∧ w.line = 3 :=
  ⟨{ switch with fab := { switch.fab with tagWait := [{ port := 8, line := 3, at_ := 0, msg := msgDflt }] } }, _, rfl, rfl⟩

/-- A posted message for ID 900 waits in entry 2 of port 8. -/
def heldMsg : Held :=
  { why := .route, msg := { msgDflt with uid := 5, internal := false, kind := .posted, op := .ioMessage, inPort := 8, src := 7, dst := 900, len := 1, bucket := 65536, home := noPool },
    cause := 7, slice := 0, since := 0, retryAt := 0, retries := 0 }
def holdsRoute : State :=
  let t := switch.setHeld 8 2 (some heldMsg)
  let x := t.newCell (t.cellOf heldMsg.msg true 0) noCell
  { x.2 with fab := { x.2.fab with chains := [((5, 0), some { first := x.1, lastCell := x.1, got := 1, complete := true })] } }

theorem test_routeHold : holdsRoute.held 8 2 = some heldMsg ∧ holdsRoute.fab.hold.row 8 = [(2, some heldMsg)] ∧
    holdsRoute.movedActive (0, heldMsg.msg.dst) = false ∧ holdsRoute.RoutedTo 8 heldMsg.msg.dst 16 heldMsg.msg.src ∧
    (holdsRoute.fab.chains.get none (heldMsg.msg.uid, 0)).isSome = true ∧ heldMsg.msg.coherent = false ∧ noPool ≤ heldMsg.msg.home ∧
    State.cacheChan heldMsg.msg.chan = false ∧ 65536 ≤ heldMsg.msg.bucket := by
  unfold State.RoutedTo
  decide +kernel
theorem test_multicast : let s : State := { switch with fab := { switch.fab with mcast := [{ msgDflt with targets := [8 * 16 + 3] }] } }
    s.dlUp ((8 * 16 + 3) / 8) = true ∧ s.sysUsed < s.reg Obj.BUF_RSV_SYS 0 ∧ s.fab.descs.length + 1 ≤ 458752 := by decide +kernel

/-- A whole message waits in class 7 of port 16. -/
def queued : State :=
  let m : Msg := { msgDflt with uid := 5, internal := false, kind := .request, len := 1, inPort := 8, cls := 7, egress := 16 }
  let x := switch.newCell { switch.cellOf m true 0 with queue := 135 } noCell
  (x.2.setDesc 0 (some { first := x.1, lastCell := x.1, len := 1, complete := true, mcast := false, ct := false, started := false, got := 1,
                         sent := 0, ended := false, enq := 0, closed := 0, msg := m })).setQueue 16 7 [0]

theorem test_egress : queued.drudar 16 = false ∧ queued.sending 16 = true ∧ (queued.egr 16).nextAt ≤ queued.clk ∧ (queued.egr 16).cur = 8 ∧
    (queued.egr 16).gclOn = false ∧ (queued.egr 16).pendOn = false ∧ queued.reg Obj.CBS_IDLE_SLOPE 16 = 0 ∧ queued.queue 16 7 = [0] ∧
    (queued.desc 0).map (fun x => (x.started, x.complete, x.len, x.sent, x.msg.kind, (queued.cell x.first).isSome)) =
      some (false, true, 1, 0, .request, true) ∧ (queued.desc 0).map (·.ended) = some false ∧ queued.synth 16 = [] ∧
    (queued.setEgr 16 { queued.egr 16 with nextAt := 5 }).clk < ((queued.setEgr 16 { queued.egr 16 with nextAt := 5 }).egr 16).nextAt := by
  decide +kernel
theorem test_gates : ((switch.setEgr 8 { switch.egr 8 with gclOn := true, oper := [0xFF * 2 ^ 32 + 1000] }).egr 8).gclOn = true ∧
    (switch.egr 8).gclOn = false := by decide +kernel

/-- A gate list runs on port 8 from DIDT_GCL_LEAD on; its first entry steps by 200 A. -/
def loud : State :=
  let s := switch.setEgr 8 { switch.egr 8 with gclOn := true, oper := [1000000 * 65536 + 200 * 256 + 255, 1000000 * 65536 + 255] }
  ((s.setReg Obj.GCL_ENABLE 8 1).setReg Obj.PM_DIDT_STEP 0 10).setReg Obj.GCL_OPER_BASE 8 (s.reg Obj.DIDT_GCL_LEAD 0 * 65536)

theorem test_didtGclWarn : (loud.loudGroup (loud.now + loud.reg Obj.DIDT_GCL_LEAD 0 * tNs + tNs) 64 loud.pm.grpFrom).2.map
    (fun g => decide (loud.now + loud.reg Obj.DIDT_GCL_LEAD 0 * tNs ≤ g.first)) = some true ∧
    (switch.loudGroup (switch.now + switch.reg Obj.DIDT_GCL_LEAD 0 * tNs + tNs) 64 switch.pm.grpFrom).2 = none := by decide +kernel
theorem test_histSample : let s : State := { switch with clk := 2 ^ 70 }
    s.ridgeClock = true ∧ s.after s.fab.histAt (s.reg Obj.HIST_PERIOD 0) = true := by decide +kernel
theorem test_portDlDown : (switch.port 8).st = .l0 ∧ (switch.port 8).dlUp = true ∧ switch.formed 8 = true ∧ switch.Calm 8 := by
  unfold State.Calm
  decide +kernel
theorem test_flush : let s : State := { switch.setPort 8 { portDflt with st := .flushing, flushAt := 0 } with clk := 2 ^ 70 }
    (s.port 8).st = .flushing ∧ (s.port 8).flushDone = false ∧ (s.port 8).flushAt + s.flushCycles 8 * fclkUnit ≤ s.clk ∧
    ((s.setPort 8 { s.port 8 with flushDone := true }).port 8).purge = false := by decide +kernel

/-- Partition 3's host, agent 3, waits at slice 0 with a request of type `ty` for line 0, whose entry is `e` in way 0. -/
def coherent (ty : Nat) (e : DirEntry) : State :=
  { switch with clk := 4 * fclkUnit, coh := { switch.coh with
      reqs := [{ slice := 0, ty := ty, msg := { msgDflt with uid := 5, internal := false, kind := .request, inPort := 8, rq := 3, egress := 16 },
                 cause := 0, wait := 4095, ncnt := 0, readyAt := 0, entry := 511, rsv := 64, since := 0, admitted := false }]
      dir := if e = dirDflt then [] else [((0, 0), e)]
      frames := [((0, 0), some { set := 0, used := 0, dirty := false })] } }
def sharedBy (v : Nat) : DirEntry := { dirDflt with state := 1, sharers := v }
def ownedBy (a : Nat) : DirEntry := { dirDflt with state := 2, sharers := 2 ^ a, owner := a }
def request (s : State) : CohReq := match s.coh.reqs with
  | r :: _ => r
  | [] => { slice := 0, ty := 0, msg := msgDflt, cause := 0, wait := 0, ncnt := 0, readyAt := 0, entry := 0, rsv := 0, since := 0, admitted := false }

theorem test_cohRdS : (coherent 1 dirDflt).Hits 1 0 8 0x20 0 (request (coherent 1 dirDflt)) 3 0 0 ∧ (coherent 1 dirDflt).findWay 0 0 0 = none ∧
    (coherent 1 dirDflt).dlUp 16 = true ∧ (coherent 1 dirDflt).lostWay 0 0 = false ∧ (coherent 1 dirDflt).freeTracker 0 false = some 0 ∧
    (coherent 1 dirDflt).room 0 0 64 = .way 0 := by
  unfold State.Hits State.AtSet State.Offered
  decide +kernel
/-- The premises on a request whose line is in way 0, in a form that evaluates. -/
theorem hitsWay {s : State} {ty : Nat} {r : CohReq} (h : 0 < s.reg Obj.CAIRN_SLICES 0 ∧ (s.slotOpen 0 8).isSome = true ∧
      s.wheelPick 0 8 = some (.req 0x20 0 r) ∧ r.ty = ty ∧ r.slice = 0) (h1 : s.agentOfMsg r.msg = 3 ∧ s.reg Obj.AGT_STATE 3 = 0 ∧
      place (s.reg Obj.CAIRN_SLICES 0) r.msg.home = (0, 0, 0) ∧ s.coh.reads.contains (0, 0) = false ∧ (s.findFrame 0 0).isSome = true)
    (h2 : r.rsv = 64 ∧ s.coh.rsv = [] ∧ s.lineEvict 0 (r.msg.home / 64 * 64) = none ∧ s.lineTracker 0 (r.msg.home / 64 * 64) = none)
    (h3 : s.findWay 0 0 0 = some 0) : s.HitsWay ty 0 8 0x20 0 r 3 0 0 :=
  ⟨0, ⟨⟨⟨by decide, h⟩, h1.1, by decide, h1.2⟩, h2⟩, h3⟩
theorem test_cohRdO : (coherent 2 (sharedBy 24)).HitsWay 2 0 8 0x20 0 (request (coherent 2 (sharedBy 24))) 3 0 0 ∧
    ((coherent 2 (sharedBy 24)).dirEntry 0 0 0).state = 1 ∧ maskOut ((coherent 2 (sharedBy 24)).dirEntry 0 0 0).sharers (2 ^ 3) ≠ 0 ∧
    (coherent 2 (sharedBy 24)).liveVec (clrBit 24 3) ≠ 0 ∧ (coherent 2 (sharedBy 24)).freeTracker 0 false = some 0 :=
  ⟨hitsWay (by decide +kernel) (by decide +kernel) (by decide +kernel) (by decide +kernel), by decide +kernel⟩
theorem test_cohUpg : (coherent 3 (sharedBy 8)).HitsWay 3 0 8 0x20 0 (request (coherent 3 (sharedBy 8))) 3 0 0 ∧
    ((coherent 3 (sharedBy 8)).dirEntry 0 0 0).sharers = 2 ^ 3 ∧ (coherent 3 (sharedBy 8)).freeTracker 0 false = some 0 :=
  ⟨hitsWay (by decide +kernel) (by decide +kernel) (by decide +kernel) (by decide +kernel), by decide +kernel⟩
theorem test_cohRdNc : (coherent 4 dirDflt).Hits 4 0 8 0x20 0 (request (coherent 4 dirDflt)) 3 0 0 ∧ (coherent 4 dirDflt).findWay 0 0 0 = none ∧
    (coherent 4 dirDflt).lostWay 0 0 = false ∧ (coherent 4 dirDflt).freeTracker 0 false = some 0 := by
  unfold State.Hits State.AtSet State.Offered
  decide +kernel
theorem test_cohWrNc : (coherent 5 (sharedBy 24)).HitsWay 5 0 8 0x20 0 (request (coherent 5 (sharedBy 24))) 3 0 0 ∧
    ((coherent 5 (sharedBy 24)).dirEntry 0 0 0).state = 1 ∧ (coherent 5 (sharedBy 24)).liveVec 24 ≠ 0 ∧
    (coherent 5 (sharedBy 24)).freeTracker 0 false = some 0 :=
  ⟨hitsWay (by decide +kernel) (by decide +kernel) (by decide +kernel) (by decide +kernel), by decide +kernel⟩
theorem test_cohWb (ty : Nat) (h : ty = 6 ∨ ty = 7 ∨ ty = 8) :
    (coherent ty (ownedBy 3)).HitsWay ty 0 8 0x20 0 (request (coherent ty (ownedBy 3))) 3 0 0 ∧
    ((coherent ty (ownedBy 3)).dirEntry 0 0 0).state = 2 ∧ ((coherent ty (ownedBy 3)).dirEntry 0 0 0).owner = 3 ∧
    (coherent ty (ownedBy 3)).freeTracker 0 true = some 0 ∧ (coherent ty (ownedBy 3)).dlUp 16 = true := by
  obtain rfl | rfl | rfl := h <;>
    exact ⟨hitsWay (by decide +kernel) (by decide +kernel) (by decide +kernel) (by decide +kernel), by decide +kernel⟩
theorem test_cohEvc : (coherent 9 (ownedBy 3)).HitsWay 9 0 8 0x20 0 (request (coherent 9 (ownedBy 3))) 3 0 0 ∧
    ((coherent 9 (ownedBy 3)).dirEntry 0 0 0).state = 2 ∧ ((coherent 9 (ownedBy 3)).dirEntry 0 0 0).owner = 3 :=
  ⟨hitsWay (by decide +kernel) (by decide +kernel) (by decide +kernel) (by decide +kernel), by decide +kernel⟩
theorem test_slotClosed : switch.slotOpen 0 9 = none := by decide +kernel

/-- The set is in no frame. -/
def uncached (ty : Nat) : State := { coherent ty dirDflt with coh := { (coherent ty dirDflt).coh with frames := [] } }
theorem test_cohMiss : ∀ ty ∈ [1, 2, 3, 4, 5, 6, 7, 8, 9], (uncached ty).Offered ty 0 8 0x20 0 (request (uncached ty)) ∧
    place ((uncached ty).reg Obj.CAIRN_SLICES 0) (request (uncached ty)).msg.home = (0, 0, 0) ∧ (uncached ty).findFrame 0 0 = none ∧
    (uncached ty).victimFrame 0 0 = some 0 := by
  unfold State.Offered
  decide +kernel

/-- A transaction of type `ty` with snoop `snp` that awaits agent 4, whose host is behind port 16. -/
def transaction (ty snp await : Nat) (needMem memOut write : Bool) : Trk :=
  { ty := ty, msg := { msgDflt with uid := 5, internal := false, kind := .request, inPort := 8, rq := 3, egress := 16, track := 0, trk := true }
    line := 0, set := 0, way := 0, agent := 3, await := await, snp := snp, vec := 16, own := false, needMem := needMem
    memOut := memOut, write := write, noData := false, have_ := true, poison := false, data := [], wbs := [], lost := false, asPoison := false
    at_ := 0, orphan := false }
def transacting (t : Trk) (e : DirEntry) : State :=
  { (coherent 1 { e with busy := true }).setTracker 0 0 (some t) with clk := 2 ^ 70 }.setReg Obj.PART_HOST_PORT 4 16

theorem test_cohNak : ∀ ty ∈ [1, 2, 3, 4, 5],
    ((coherent ty (sharedBy 16)).setTracker 0 7 (some (transaction 2 1 16 false false false))).AtSet ty 0 8 0x20 0
      (request (coherent ty (sharedBy 16))) 3 0 0 ∧
    ((coherent ty (sharedBy 16)).setTracker 0 7 (some (transaction 2 1 16 false false false))).lineTracker 0 0 = some 7 ∧
    (coherent ty (sharedBy 16)).lineEvict 0 0 = none ∧ (coherent ty (sharedBy 16)).drudar 8 = false := by
  unfold State.AtSet State.Offered
  decide +kernel
/-- A message that the GT9 consumes is there, in a form that evaluates. -/
theorem consumes {s : State} {p : Nat} {ch : Chan} (h : (s.consumeFlit p ch).map (·.1) = some false) : s.Consumes p ch := by
  obtain ⟨x, hx, e⟩ := Option.map_eq_some_iff.mp h
  exact ⟨x.2, by rw [hx, ← e]⟩
theorem test_biRsp : ∀ x ∈ [transaction 2 1 16 false false false, transaction 1 2 16 true false false, transaction 4 3 16 true false false],
    (transacting x (sharedBy 16)).Consumes 16 .memBiRsp ∧ (transacting x (sharedBy 16)).deviceHomed 16 0 = none ∧
    (transacting x (sharedBy 16)).dlUp x.msg.egress = true ∧
    ((transacting x (sharedBy 16)).agentsOfPort 16).find? (fun a => (transacting x (sharedBy 16)).reg Obj.AGT_KIND a != 0) = some 4 ∧
    (transacting x (sharedBy 16)).tracker 0 0 = some x ∧ bit x.await 4 = true ∧ clrBit x.await 4 = 0 ∧ x.wbs = [] ∧ x.lost = false ∧
    (transacting x (sharedBy 16)).reg Obj.AGT_STATE x.agent = 0 := by
  intro x h
  refine ⟨consumes ?_, ?_⟩ <;> revert x <;> decide +kernel
/-- A set of slice 0 is being read. -/
def reading : State := { switch with coh := { switch.coh with reads := [(0, 9)] } }
theorem test_dirSetReadDone : reading.coh.reads.contains (0, 9) = true ∧ reading.coh.reqs = [] ∧ reading.coh.lookup = none ∧
    reading.coh.walkWait.get 0 (0, 0) ≠ 10 := by decide +kernel
theorem test_memReturn : ∀ x ∈ [transaction 1 0 0 false true false, transaction 6 0 0 false true true],
    (transacting x (sharedBy 8)).tracker 0 0 = some x ∧
    (transacting x (sharedBy 8)).Consumes x.msg.egress (if x.write then .memNdr else .memDrs) ∧
    ((transacting x (sharedBy 8)).dirEntry 0 0 0).state = 1 ∧ (transacting x (sharedBy 8)).liveVec 8 = 8 ∧
    (transacting x (sharedBy 8)).after x.at_ ((transacting x (sharedBy 8)).reg Obj.DIR_TIMEOUT 0 * 1000) = true ∧
    ({ transacting x (sharedBy 8) with clk := 0 } : State).after 0 ((transacting x (sharedBy 8)).reg Obj.DIR_TIMEOUT 0 * 1000) = false := by
  intro x h
  refine ⟨?_, consumes ?_, ?_⟩ <;> revert x <;> decide +kernel
theorem test_homeTimeout : (transacting (transaction 2 1 16 false false false) (sharedBy 16)).reg Obj.AGT_STATE 4 = 0 ∧
    (transaction 2 1 16 false false false).await = 2 ^ 4 := by decide +kernel
/-- Line 64 of slice 0 is reserved in register 5. -/
def reserved : State := { switch.setRsv 0 5 (some { line := 64, port := 8, entry := 3, way := 16, readyAt := 1 }) with clk := 2 ^ 70 }
theorem test_rsvExpired : (reserved.rsvReg 0 5).map (fun r => (r.readyAt, reserved.after (r.readyAt - 1) (reserved.reg Obj.RSV_TIMEOUT 0))) =
    some (1, true) := by decide +kernel
/-- A request has waited in hold entry 2 of port 8. -/
def heldLong : State := { switch.setHeld 8 2 (some { heldMsg with msg := { heldMsg.msg with kind := .request } }) with clk := 2 ^ 70 }
theorem test_holdTimeout : (heldLong.held 8 2).map (fun h => (heldLong.after h.since (heldLong.reg Obj.DIR_TIMEOUT 0 * 1000), h.msg.kind, h.msg.internal,
    decide (h.msg.inPort < 256), decide (65536 ≤ h.msg.track), heldLong.mayTrack h.msg)) = some (true, MsgKind.request, false, true, true, true) := by decide +kernel
/-- A purge of agent 3 is at set 0, where agent 3 owns line 0; the clock is at slot `n` of the wheel, which WALKER has. -/
def purging (frames : Tbl (Option DirFrame)) : State :=
  let s := (coherent 1 (ownedBy 3)).startPurge 3 true
  ({ s with coh := { s.coh with reqs := [], frames := frames } }).setReg Obj.WHEEL_SLOT 8 0x22
theorem test_walker : ∀ f ∈ [[((0, 0), some { set := 0, used := 0, dirty := false : DirFrame })], []],
    (purging f).WalkerTurn 0 ∧ ((purging f).findFrame 0 0).isSome = !f.isEmpty ∧ (f = [] → (purging f).victimFrame 0 0 = some 0) ∧
    (purging f).reg Obj.WALK_POS 0 = 0 ∧ (purging f).fab.walks = [] ∧
    (purging f).coh.purges = [{ agent := 3, dead := true, left := List.replicate 8 6291456, poisoned := 0, at_ := 4 * fclkUnit }] ∧
    ((purging f).dirEntry 0 0 0).state = 2 ∧ ((purging f).dirEntry 0 0 0).owner = 3 ∧ ((purging f).dirEntry 0 0 0).busy = false ∧
    switch.fab.walks = [] ∧ switch.coh.purges = [] := by
  unfold State.WalkerTurn
  decide +kernel
/-- A retiring shared window of 256 MiB reaches LD 7. -/
def sharedPool : State := { switch with fab := { switch.fab with
  walks := [{ win := 0, vppb := 0, ld := 7, part := 3, lop := 0
              cfg := { part := 3, base := 0, size := 2 ^ 28, ways := 1, gran := 0, targets := [7], dpa := 0, shared := true }
              bases := [0], left := [], todo := [], snoops := 0 }] } }
/-- The host of partition 1 is behind port 16, and its vPPB 2 binds LD 7. -/
def bound7 : State := (switch.setReg Obj.PART_HOST_PORT 1 16).setReg Obj.VPPB_LD 66 7
theorem test_deviceBisnp : switch.ldInMap 7 = false ∧ switch.ldBinders 7 = [] ∧ sharedPool.ldInMap 7 = true ∧
    (switch.consumeFlit 8 .memBisnp).map (·.1) = some false ∧ (sharedPool.consumeFlit 8 .memBisnp).map (·.1) = some false ∧
    bound7.ldInMap 7 = false ∧ bound7.ldBinders 7 = [66] ∧ bound7.dlUp 8 = true ∧ bound7.dlUp (bound7.reg Obj.PART_HOST_PORT 1) = true ∧
    bound7.flitHere 8 7 = true := by decide +kernel

/-- Channel 2 moves 8 granules from pool 0 to pool 2^30 by redirect 5 under handle 6, in phase `p`. -/
def moving (p : Nat) : State :=
  let s := [(Obj.MOVE_PHASE, 2, p), (Obj.MOVE_RDR, 2, 5), (Obj.MOVE_HANDLE, 2, 6), (Obj.RDR_SRC, 5, 0), (Obj.RDR_DST, 5, 2 ^ 30),
    (Obj.RDR_SIZE, 5, 32768), (Obj.RDR_STATE, 5, if p = 5 then 2 else 1), (Obj.LD_PORT, 128, 8), (Obj.LD_POOL_BASE, 128, 0), (Obj.LD_SIZE, 128, 2 ^ 40)].foldl
      (fun (t : State) x => t.setReg x.1 x.2.1 x.2.2) switch
  let t := (s.setLop 6 { lopDflt with kind := 2, st := .running, arg := 2 }).setMover 2 { moveDflt with running := true }
  { t with clk := 2 ^ 60, fab := { t.fab with enumd := t.fab.enumd.set none (8, 0) (some { found := true, single := 2 ^ 12, lds := [] }) } }

theorem test_granuleCopy : (moving 1).movePhase 2 = 1 ∧ ((moving 1).mover 2).running = true ∧ ((moving 1).mover 2).nextAt ≤ (moving 1).clk ∧
    (moving 1).pm.stop = false ∧ (moving 1).nextGranule 2 = some 0 ∧ (moving 1).moveRefused 2 0 (2 ^ 30) = none ∧
    (moving 1).moveLive 2 = true ∧ (∀ i < 64, ((moving 1).ldAt (64 * i)).isSome = true ∧ (moving 1).dlUp ((moving 1).moverPort 2 (64 * i)) = true) := by decide +kernel
/-- The pass has copied every granule, and bits of `dirty` granules are set. -/
def passed (dirty : Nat) : State :=
  let s := (moving 1).setMover 2 { moveDflt with running := true, cursor := 8 }
  { s with move := { s.move with bitmap := (List.range dirty).map (fun g => ((2, g), true)) } }.setReg Obj.MOVE_CUTOVER_DIRTY 0 1
theorem test_movePassEnd : (passed 3).movePhase 2 = 1 ∧ ((passed 3).mover 2).running = true ∧ (passed 3).moveLive 2 = true ∧
    ((passed 3).mover 2).inflight = 0 ∧ (passed 3).nextGranule 2 = none ∧
    (passed 3).reg Obj.MOVE_CUTOVER_DIRTY 0 < (passed 3).moveDirty 2 ∧ (passed 3).reg Obj.MOVE_PASS 2 < (passed 3).reg Obj.MOVE_PASS_MAX 0 ∧
    (passed 1).nextGranule 2 = none ∧ (passed 1).moveDirty 2 ≤ (passed 1).reg Obj.MOVE_CUTOVER_DIRTY 0 ∧ (passed 1).mayFreeze 2 = true := by
  decide +kernel
theorem test_moveFreeze : (moving 4).movePhase 2 = 4 ∧ (moving 4).fab.hold = [] ∧ (moving 4).reg Obj.MOVE_FREEZES 2 < 2 ∧
    ((moving 4).setReg Obj.MOVE_FREEZES 2 2).reg Obj.MOVE_FREEZES 2 = 2 ∧
    (moving 4).after ((moving 4).mover 2).frozeAt (min ((moving 4).reg Obj.MOVE_FREEZE_MAX 0 * 1000) ((moving 4).reg Obj.DIR_TIMEOUT 0 * 1000 / 2)) = true ∧
    (moving 4).moveDirty 2 = 0 ∧ (moving 4).writeInFlight ((moving 4).moveRange 2).1 ((moving 4).moveRange 2).2 = false := by decide +kernel
theorem test_redirectFlash : (moving 5).coreRuns 3 = true ∧ (moving 5).movePhase 2 = 5 ∧ (∀ d < 16, d ≠ 2 → (moving 5).movePhase d ≠ 5) ∧
    (moving 5).reg Obj.RDR_STATE 5 = 2 ∧ (moving 6).movePhase 2 = 6 ∧ (moving 6).fab.hold = [] := by decide +kernel
/-- A debug access is open. -/
def accessing (write : Bool) (got : Option (Bool × List Byte)) : State :=
  { switch with clk := 2 ^ 70, sec := { switch.sec with dm := some { uid := 5, write := write, got := got, at_ := 0, parts := [(4, 0)] } } }
theorem test_dmAccess : switch.sec.dm = none ∧ ∀ w, (accessing w none).sec.dm.map (fun a => (a.write, a.parts,
    (accessing w none).after a.at_ ((accessing w none).reg Obj.DIR_TIMEOUT 0 * 1000),
    ({ accessing w none with clk := 0 } : State).after a.at_ ((accessing w none).reg Obj.DIR_TIMEOUT 0 * 1000))) =
    some (w, [(4, 0)], true, false) ∧ (accessing w none).sec.dm.bind (·.got) = none ∧
    (accessing w none).sec.dm.bind (·.held) = none := by
  decide +kernel
/-- An access that a mode entry keeps from being issued. -/
theorem test_dmHeld : let s : State := { switch with sec := { switch.sec with
      dm := some { uid := 5, write := false, got := none, at_ := 0, parts := [], held := some msgDflt } } }
    (s.sec.dm.map (fun a => (a.got.isNone, a.held.isSome))) = some (true, true) := by decide +kernel
/-- The access's read is at port 16. -/
def dmReading : State :=
  let m : Msg := { msgDflt with uid := 5, rq := 336, track := 4 }
  (accessing false none).setRtt 4
    (some { port := 0xFFFF, egress := 16, at_ := 0, orphan := false, synth := false, claimed := false, msg := m })
theorem test_dmCompletion : dmReading.dlUp 16 = true ∧ dmReading.drudar 16 = false ∧ (∀ c < 8, dmReading.inMsg 16 c = none) ∧
    (dmReading.rtt 4).map (fun e => (e.claimed, e.synth, e.egress, e.orphan)) = some (false, false, 16, false) ∧
    (dmReading.rtt 4).map (fun e => (e.msg.internal, e.msg.rq, e.msg.uid)) = some (true, 336, 5) ∧ dmReading.sec.dm.map (·.uid) = some 5 := by
  decide +kernel

/-- Channel 3 uses feeds A and B as `feeds` says, is in state `st`, and belongs to no port unless `p` is one. -/
def channel (st : ChSt) (feeds p : Nat) (f : Feed → Feed) : State :=
  let s := (((switch.setReg Obj.CH_FEEDS 3 feeds).setReg Obj.CH_PORT 3 p).setReg Obj.CH_ENABLE 3 1).setReg Obj.CH_PG 3 (if st = .on then 1 else 0)
  ((s.setSlotCh 3 { slotChDflt with st := st, vout := 12000, pgT := 10000000, uvT := 65535, breaker := 65535 }).setFeed 6 (f feedDflt)).setFeed 7
    { feedDflt with gate := true, inWin := true, vin := 12000 }
def reading12 : Reading :=
  { vinA := 12000, vinB := 12000, shA := 50000000, shB := 0, srcA := 12000, srcB := 0, vout := 11900, enhA := true, enhB := false, seatN := false }
def gated (f : Feed) : Feed := { f with gate := true, inWin := true, vin := 12000 }

theorem test_channelSample : (channel .on 1 65535 gated).feedUsed 3 0 = true ∧
    (channel .on 1 65535 gated).reg Obj.FEED_RSHUNT 6 ≠ 0 ∧ 0 ≤ reading12.shA ∧ reading12.shA ≤ 50000000 ∧
    ((channel .on 1 65535 gated).reg Obj.CH_CB_MA 3 : Int) ≤ reading12.shA / (channel .on 1 65535 gated).reg Obj.FEED_RSHUNT 6 ∧
    (channel .on 1 65535 gated).powered 3 = true := by decide +kernel
theorem test_sampleAfterTrip : let t := channel .on 1 8 gated
    let s := t.setSlotCh 3 { t.slotCh 3 with st := .faultOff }
    s.powered 3 = false ∧ s.chPort 3 = some 8 ∧ s.flag Obj.CH_PG 3 = true ∧ (s.port 8).st = .l0 ∧ s.formed 8 = true ∧ s.Calm 8 := by
  unfold State.Calm
  decide +kernel
theorem test_window : let s := channel .on 1 65535 (fun f => { f with inWin := true, outT := 100000, insT := 100000000 })
    s.feedUsed 3 0 = true ∧ (s.feed (2 * 3 + 0)).inWin = true ∧ s.reg Obj.CH_UV_FILT 3 ≤ (s.feed (2 * 3 + 0)).outT ∧
    s.reg Obj.CH_INS_DELAY 3 * 1000 ≤ (s.feed (2 * 3 + 0)).insT := by decide +kernel
/-- Ready to ramp. -/
def ready : State :=
  let s := channel .wait 1 65535 (fun f => { f with inWin := true, insDone := true, vin := 12000 })
  (s.setSlotCh 3 { s.slotCh 3 with breaker := 0, vout := 0, seatOk := true })
theorem test_rampStart : (ready.slotCh 3).st = .wait ∧ ready.flag Obj.CH_ENABLE 3 = true ∧ ready.startCond 3 = true ∧
    (ready.slotCh 3).offLeft = 0 ∧ ready.chPort 3 = none ∧ ready.srcLow 3 = true ∧
    (ready.usedFeeds 3).any ready.feedMayStart = true := by decide +kernel
theorem test_powerGood : let t := channel .ramp 1 65535 gated
    let s := t.setSlotCh 3 { t.slotCh 3 with breaker := 0, vout := 60000 }
    (s.slotCh 3).st = .ramp ∧ (s.feed (2 * 3)).gate = true ∧ s.usedFeeds 3 = [2 * 3] ∧ s.reg Obj.CH_PG_MV 3 ≤ (s.slotCh 3).vout ∧
    (s.feed (2 * 3)).vin ≤ (s.slotCh 3).vout + 500 ∧ (s.slotCh 3).breaker = 0 := by decide +kernel
theorem test_perstRelease : let s := channel .on 1 8 gated
    s.chPort 3 = some 8 ∧ s.flag Obj.CH_PG 3 = true ∧ 100000 ≤ (s.slotCh 3).pgT ∧ (s.slotCh 3).st = .on ∧ (s.port 8).st = .l0 ∧
    s.formed 8 = true ∧ s.Calm 8 ∧ s.powered 3 = true ∧ s.feedUsed 3 0 = true := by
  unfold State.Calm
  decide +kernel
theorem test_feedMeas : 1000 ≤ ((channel .on 1 8 (fun f => { f with n := 1000 })).feed 6).n ∧ ((channel .on 1 8 gated).feed 6).n < 1000 := by
  decide +kernel
theorem test_feedRestored : let s := channel .on 1 8 (fun f => { f with inWin := true, insDone := true, lost := true })
    s.feedUsed 3 0 = true ∧ (s.feed (2 * 3 + 0)).gate = false ∧ (s.feed (2 * 3 + 0)).inWin = true ∧
    (s.feed (2 * 3 + 0)).insDone = true ∧ (s.feed (2 * 3 + 0)).lost = true ∧ (s.slotCh 3).st = .on := by decide +kernel
theorem test_retryTimer : let s := channel .faultOff 1 8 gated
    (s.slotCh 3).st = .faultOff ∧ (s.slotCh 3).offLeft = 0 ∧ (s.slotCh 3).retryLeft = 0 ∧ s.reg Obj.CH_CAUSE 3 ≠ 5 := by decide +kernel
theorem test_bayWake : let s : State := { (channel .on 1 8 gated).setPort 8 { portDflt with st := .l1 } with mode := .hold }
    s.chPort 3 = some 8 ∧ (s.port 8).st = .l1 ∧ s.pm.waking = false ∧ (channel .on 1 8 gated).mode = .active := by decide +kernel
theorem test_noBay (st : ChSt) : (channel st 1 65535 gated).NoBay 3 ∧ (∀ k < 16, switch.NoBay k) :=
  ⟨.inr (by cases st <;> decide +kernel), fun k h => .inl (by revert k; decide +kernel)⟩
theorem test_trips : let r := channel .ramp 1 65535 (fun f => { gated f with gateT := 10000000 })
    let s := channel .on 1 65535 gated
    r.feedUsed 3 0 = true ∧ (r.feed (2 * 3 + 0)).gate = true ∧ (r.feed (2 * 3 + 0)).enh = false ∧
    r.reg Obj.CH_GATE_TIMEOUT 3 * 1000 ≤ (r.feed (2 * 3 + 0)).gateT ∧ s.powered 3 = true ∧ s.feedUsed 3 0 = true ∧
    s.reg Obj.CH_CB_TIME 3 ≤ (s.slotCh 3).breaker ∧ s.reg Obj.CH_UV_FILT 3 ≤ (s.slotCh 3).uvT := by decide +kernel
theorem test_slotLink : switch.reg Obj.SPD_LINK 0 ≠ 0 ∧ (switch.setReg Obj.SPD_LINK 0 0).reg Obj.SPD_LINK 0 = 0 := by decide +kernel
theorem test_feedLost : let s := channel .on 3 65535 (fun f => { gated f with inWin := false })
    let t := channel .on 1 65535 (fun f => { gated f with inWin := false })
    s.usedFeeds 3 = [2 * 3, 2 * 3 + 1] ∧ (s.feed (2 * 3)).gate = true ∧ (s.feed (2 * 3)).inWin = false ∧ (s.feed (2 * 3 + 1)).gate = true ∧
    t.usedFeeds 3 = [2 * 3] ∧ (t.feed (2 * 3)).gate = true ∧ (t.feed (2 * 3)).inWin = false ∧ (t.slotCh 3).st = .on := by decide +kernel
/-- The module has been out of its seat for long. -/
def unseated (st : ChSt) : State :=
  let s := (channel st 1 65535 gated).setReg Obj.CH_START_MODE 3 1
  s.setSlotCh 3 { s.slotCh 3 with seatHigh := 65535, shareT := 1000000, waitT := 1000 }
theorem test_seatOpen : (unseated .on).powered 3 = true ∧ (unseated .on).reg Obj.CH_START_MODE 3 ≠ 0 ∧
    (unseated .on).reg Obj.CH_SEAT_OPEN_FILT 3 ≤ ((unseated .on).slotCh 3).seatHigh ∧ 1000000 ≤ ((unseated .on).slotCh 3).shareT ∧
    (unseated .on).dict.limited.get 0 (0x7009, 3) = 0 ∧ (ready.slotCh 3).shareT < 1000000 ∧ ((unseated .latched).slotCh 3).st = .latched ∧
    (unseated .latched).reg Obj.CH_CAUSE 3 ≠ 5 ∧ 20000 ≤ ((unseated .latched).slotCh 3).seatHigh ∧
    ((unseated .perstWait).slotCh 3).st = .perstWait ∧ 1000 ≤ ((unseated .perstWait).slotCh 3).waitT ∧
    (unseated .on).NoBay 3 ∧ (unseated .perstWait).NoBay 3 := by
  unfold State.NoBay
  decide +kernel
theorem test_fetShort : let s := channel .off 1 65535 (fun f => { f with inWin := true, src := 12000, offT := 10000 })
    s.NoBay 3 ∧ s.feedUsed 3 0 = true ∧ (s.slotCh 3).st ≠ .short ∧ (s.feed (2 * 3 + 0)).gate = false ∧ 10000 ≤ (s.feed (2 * 3 + 0)).offT ∧
    (s.feed (2 * 3 + 0)).inWin = true ∧ 2000 ≤ (s.feed (2 * 3 + 0)).src := by
  unfold State.NoBay
  decide +kernel

/-- An entry to `target` under handle 6 is in step `st`. -/
def entering (target : Mode) (st : PmStep) : State :=
  { (switch.setPm { switch.pm with step := st, lop := 6, target := target, start := 0 }).setLop 6
      { lopDflt with kind := 6, st := .running, arg := target.num } with clk := 2 ^ 70 }
theorem test_pmQuiesce : (entering .sentinel .quiesce).pm.undoing = false ∧ (entering .sentinel .quiesce).quiet = true ∧
    (entering .hold .quiesce).quiet = true ∧ (entering .hold .quiesce).cxlL0 ≠ [] ∧ tracked.quiet = false := by decide +kernel
/-- Port 8 has been told to enter L1. -/
def toL1 : State := (entering .hold .links).setPm { (entering .hold .links).pm with l1At := [((8, 0), 1)] }
theorem test_pmPortL1 : toL1.pm.step = .links ∧ toL1.pm.undoing = false ∧ (toL1.port 8).st = .l0 ∧ toL1.dlUp 8 = true ∧
    toL1.after 0 (toL1.reg Obj.PM_L1_TIMEOUT 0 * 1000000) = true ∧ toL1.pm.l1At.get 0 (8, 0) = 0 + 1 := by decide +kernel
theorem test_pmCommit : (∀ m ∈ [Mode.hold, .sentinel, .trim, .service, .active], (entering m .cores).mayCommit = true) ∧
    (entering .trim .cores).mode = .active ∧ maskOut (entering .trim .cores).trimLC ((entering .trim .cores).reg Obj.PM_GATED_LC 0) = 0 ∧
    (entering .sentinel .cores).pm.avsFault = false ∧ (entering .active .cores).reg Obj.PM_GATED_SLICES 0 = 0 ∧
    (entering .active .cores).reg Obj.PM_GATED_LC 0 = 0 ∧ (entering .active .cores).pm.ramp = [] ∧ switch.mayCommit = false := by decide +kernel
theorem test_pmCommitMode : ({ entering .active .cores with mode := .trim } : State).mayCommit = true ∧
    ((entering .sentinel .cores).setPm { (entering .sentinel .cores).pm with avsFault := true }).mayCommit = true := by decide +kernel
theorem test_pmTimeout : (entering .hold .quiesce).pm.step ≠ .idle ∧
    (entering .hold .quiesce).after 0 ((entering .hold .quiesce).reg Obj.PM_QUIESCE_MAX 0 * 1000000) = true := by decide +kernel
/-- The undo of an entry runs. -/
def undone (cause : Nat) : State := (entering .hold .quiesce).setPm { (entering .hold .quiesce).pm with undoing := true, cause := cause }
theorem test_pmUndo : (undone 1).sec.dm = none ∧ (undone 255).sec.dm = none ∧ (undone 1).pm.step ≠ .idle ∧ (undone 1).pm.undoing = true ∧ (undone 1).pm.cause ≠ 255 ∧ (undone 255).pm.cause = 255 := by
  decide +kernel
/-- An entry has committed. -/
def entered (m : Mode) : State :=
  { (entering m .idle).setLop 6 { lopDflt with kind := 6, st := .committed, arg := m.num } with mode := m }
theorem test_entryDone : (entered .trim).pm.lop < 64 ∧ ((entered .trim).lop 6).st = .committed ∧ ((entered .trim).lop 6).arg = 2 ∧
    (∀ p < 256, (entered .trim).gatedLC (p / 8) = true → ((entered .trim).port p).st ≠ .flushing) ∧
    ((entered .service).lop 6).arg = 5 ∧ (entered .service).fab.rtt = [] ∧ (entered .service).coh.reqs = [] ∧ tracked.fab.rtt ≠ [] := by
  decide +kernel
/-- Asleep, with the wake timer set. -/
def asleep : State := (entered .hold).setReg Obj.PM_WAKE_AFTER 0 1
theorem test_wakes : asleep.mode = .hold ∧ asleep.pm.waking = false ∧
    bit ((asleep.setReg Obj.INT_WAKE_TRANSPORT 0 1).reg Obj.INT_WAKE_TRANSPORT 0) 0 = true ∧ asleep.reg Obj.PM_WAKE_AFTER 0 ≠ 0 ∧
    asleep.after asleep.pm.commitAt (asleep.reg Obj.PM_WAKE_AFTER 0 * 1000000) = true ∧
    ((asleep.setPort 8 { portDflt with st := .l1 }).port 8).st = .l1 ∧ asleep.drudar 8 = false ∧ switch.mode = .active := by decide +kernel
/-- Source 3 is high and may wake. -/
def alarm : State := [(Obj.INT_WAKE_EN, 3, 1), (Obj.INT_ENABLE, 3, 1), (Obj.INT_CAUSE, 3, 1), (Obj.INT_CAUSE_EN, 3, 0xFFFF_FFFF)].foldl
  (fun (t : State) x => t.setReg x.1 x.2.1 x.2.2) asleep
theorem test_wakeInt : alarm.wakeInt = true ∧ alarm.mode.sleeps = true := by decide +kernel
/-- A wake is under way with `ramp` to close. -/
def wakingUp (vr pll : Bool) (ramp : List Nat) : State :=
  asleep.setPm { asleep.pm with waking := true, vr := vr, pll := pll, ramp := ramp, rampAt := 1, lowAt := 1 }
theorem test_wakeSteps : (wakingUp false false []).pm.vr = false ∧ (wakingUp true false []).pm.pll = false ∧
    (wakingUp true true [7, 8]).pm.rampAt + rampAmps 7 * 1000 * nsUnit / max 1 ((wakingUp true true [7, 8]).reg Obj.PM_DIDT_SLEW 0) ≤
      (wakingUp true true [7, 8]).clk ∧ 1 ∉ (wakingUp true true [7, 8]).pm.ramp := by decide +kernel
/-- The wake has ended but for the warning. -/
def woken : State := { (entered .hold).setPm { (entered .hold).pm with lowAt := 1, rampEnd := 0, readyAt := 0 } with mode := .active }
theorem test_wakeRelease : woken.pm.lowAt ≠ 0 ∧ woken.pm.ramp = [] ∧ woken.pm.waking = false ∧ woken.after woken.pm.rampEnd 2000 = true ∧
    woken.after woken.pm.readyAt 2000 = true ∧ woken.pm.lop < 64 ∧ (woken.lop woken.pm.lop).st = .committed ∧
    (modeOf (woken.lop woken.pm.lop).arg).sleeps = true ∧ ({ woken with clk := 0 } : State).after woken.pm.rampEnd 2000 = false := by decide +kernel
/-- A voltage write has not been confirmed. -/
def writing (tries : Nat) : State := { switch.setPm { switch.pm with avsTarget := 750, avsTries := tries, avsAt := 0 } with clk := 2 ^ 70 }
theorem test_avs : 650 ≤ switch.reg Obj.PM_VCORE_PLAN 0 ∧ switch.reg Obj.PM_VCORE_PLAN 0 ≤ 850 ∧ (writing 1).pm.avsTarget ≠ 0 ∧
    (writing 1).after (writing 1).pm.avsAt 1000000 = true ∧ (writing 1).pm.avsTries < 2 ∧ 2 ≤ (writing 2).pm.avsTries ∧
    760 ≤ switch.pm.avsSet + 25 ∧ switch.pm.avsSet ≤ 760 + 25 := by decide +kernel

/-- Source 3 is pending for target `t`, with core 1 halted and its fallback core 2. Core 0, not wakeable, falls back on core 2 and the fabric
manager on core 1. -/
def pendingInt (t : Nat) : State :=
  let s := [(Obj.INT_TARGET, 3, t), (Obj.INT_PRIO, 3, 9), (Obj.INT_GLOBAL_EN, 0, 1), (Obj.INT_TGT_EN, t, 1), (Obj.RIDGE_HALT, 0, 2),
    (Obj.INT_TGT_FALLBACK, 1, 2), (Obj.INT_TGT_FALLBACK, 5, 1), (Obj.INT_TGT_WAKEABLE, 0, 0), (Obj.INT_TGT_FALLBACK, 0, 2)].foldl (fun (u : State) x => u.setReg x.1 x.2.1 x.2.2) switch
  s.setIntSrc 3 { intDflt with pending := true }
theorem test_intDeliver : ((pendingInt 2).intSrc 3).pending = true ∧ ((pendingInt 2).intSrc 3).delivered = none ∧
    ((pendingInt 2).intSrc 3).owner = none ∧ (pendingInt 2).deliverable 3 = true ∧ bit ((pendingInt 2).reg Obj.RIDGE_HALT 0) 2 = false ∧
    (pendingInt 2).flag Obj.INT_TGT_WAKEABLE 2 = true ∧ (pendingInt 4).deliverable 3 = true ∧ (pendingInt 4).reg Obj.INT_TARGET 3 = 4 ∧
    ((pendingInt 4).intSrc 3).pending = true ∧ ((pendingInt 4).intSrc 3).delivered = none ∧ ((pendingInt 4).intSrc 3).owner = none ∧
    (pendingInt 1).deliverable 3 = true ∧ bit ((pendingInt 1).reg Obj.RIDGE_HALT 0) 1 = true ∧ (pendingInt 1).tgtState 2 ≠ 2 ∧
    (pendingInt 1).reg Obj.INT_TGT_FALLBACK 1 = 2 ∧ (pendingInt 0).deliverable 3 = true ∧
    (pendingInt 0).flag Obj.INT_TGT_WAKEABLE 0 = false ∧ (pendingInt 0).reg Obj.INT_TGT_FALLBACK 0 = 2 ∧
    (pendingInt 5).deliverable 3 = true ∧ (pendingInt 5).fmPorts = [] ∧ (pendingInt 5).reg Obj.INT_TGT_FALLBACK 5 = 1 ∧
    (pendingInt 5).tgtState 1 = 2 ∧ ((pendingInt 1).setReg Obj.INT_GLOBAL_EN 0 0).deliverable 3 = false := by decide +kernel
/-- It has been delivered to core 2. -/
def delivered (owner : Option Nat) : State := (pendingInt 2).setIntSrc 3 { pending := true, delivered := some 2, owner := owner }
theorem test_intClaim : (delivered none).flag Obj.INT_GLOBAL_EN 0 = true ∧ (delivered none).ridgeClock = true ∧
    (delivered none).bestClaim 2 = some 3 ∧ (delivered none).bestClaim 4 = none ∧ ((delivered (some 2)).intSrc 3).owner = some 2 ∧
    ((delivered none).intSrc 3).owner ≠ some 2 := by decide +kernel
theorem test_doorbell : let s := (switch.setReg Obj.INT_ENABLE 1017 1).setReg Obj.INT_CAUSE_EN 1017 1
    s.ridgeClock = true ∧ s.flag Obj.INT_ENABLE (1016 + 1) = true ∧ bit (s.reg Obj.INT_CAUSE_EN (1016 + 1)) 0 = true := by decide +kernel
/-- Counter 5 of set 2 counts RX flits of every port; one has come. -/
def counting (value : Nat) : State :=
  let s := [(Obj.CNT_CTL, 2, 7), (Obj.CNT_MODE, 21, 1), (Obj.CNT_EVT, 21, 0x3001), (Obj.CNT_PORT, 21, 0xFFFF), (Obj.CNT_AUX, 21, 2 ^ 64 - 1),
    (Obj.CNT_VALUE, 21, value), (Obj.CNT_SMP_MASK, 2, 255)].foldl (fun (u : State) x => u.setReg x.1 x.2.1 x.2.2) switch
  s.count { code := 0x3001, port := 8, aux := 255, part := 2, cls := 0, hpa := 0, pool := 0 }
theorem test_counterTick : (counting 7).ridgeClock = true ∧ (counting 7).runningCounters = [21] ∧ (counting 7).runningSets = [2] ∧
    (counting 7).cnt.fresh.get false (21, 0) = false ∧ ((counting 7).setCounter 21 7).cnt.fresh.get false (21, 0) = true ∧
    ((counting 7).setCounter 21 7).runningCounters = [21] ∧ asleep.ridgeClock = false := by decide +kernel
/-- Counter 5 of set 2 has overflowed. -/
def overflowed (mask : Nat) (valid : Bool) : State :=
  let s := (counting 7).setReg Obj.CNT_SMP_MASK 2 mask
  { s with cnt := { s.cnt with ovfNow := [((2, 0), 32)], recValid := if valid then [((2, 0), true)] else [] } }
theorem test_overflow : bit ((overflowed 0 false).cnt.ovfNow.get 0 (2, 0)) 5 = true ∧ bit ((overflowed 0 false).reg Obj.CNT_SMP_MASK 2) 5 = false ∧
    bit ((overflowed 32 true).reg Obj.CNT_SMP_MASK 2) 5 = true ∧ bit ((overflowed 32 true).reg Obj.CNT_CTL 2) 2 = true ∧
    (overflowed 32 true).cnt.cap.get none (2, 0) = none ∧ (overflowed 32 true).cnt.recValid.get false (2, 0) = true ∧
    (overflowed 32 false).cnt.recValid.get false (2, 0) = false ∧ bit ((counting 7).cnt.ovfNow.get 0 (2, 0)) 5 = false := by decide +kernel
/-- A capture of set 2 has run for `n` cycles. -/
def capture (n : Nat) : Capture :=
  { first := 21, mask := 32, cycles := n, events := 1
    ctx := { code := 0x3001, port := 8, aux := 255, part := 2, cls := 0, hpa := 0, pool := 0 } }
def capturing (n : Nat) : State := { counting 7 with cnt := { (counting 7).cnt with cap := [((2, 0), some (capture n))] } }
theorem test_capture : ((capturing 64).cnt.cap.get none (2, 0)).map (fun a => (a.cycles, a.events)) = some (64, 1) ∧
    ((capturing 63).cnt.cap.get none (2, 0)).map (fun a => (a.cycles, a.events)) = some (63, 1) := by decide +kernel

/-- An update of area B is to be verified; the header in it is good where `good` says so. -/
def updating (good : Bool) : State :=
  let s := ({ switch with clk := 2 ^ 90 } : State).setLop 6 { lopDflt with kind := 4, st := .running, arg := 1 }
  let put := fun (m : Tbl Nat) (x : Nat × Nat) => m.set 255 (1, x.1) x.2
  if good then s.setSec { s.sec with images := [(0, 0x46), (1, 0x39), (2, 0x54), (3, 0x47), (8, 9), (9, 0), (12, 0), (13, 16), (14, 0), (15, 0)].foldl put s.sec.images }
  else s
theorem test_fwVerify : (updating true).fwLop = some 6 ∧ ((updating true).lop 6).st = .running ∧ (updating true).ridgeClock = true ∧
    (updating true).fwVerdict 1 true true true true = 0 ∧ (updating false).fwVerdict 1 true true true true = 3 ∧
    (updating true).fwVerdict 1 true false true true = 1 ∧ (updating true).fwVerdict 1 true true true false = 4 ∧ switch.fwLop = none := by
  decide +kernel
theorem test_fwConfirmTimeout : let s : State := (trial.setSec { trial.sec with fwAt := 1 })
    ({ s with clk := 2 ^ 90 } : State).after (s.sec.fwAt - 1) (s.reg Obj.FW_CONFIRM_WINDOW 0 * 1000000000) = true ∧
    s.reg Obj.FW_CONFIRMED 0 = 0 ∧ s.sec.fwBack = false ∧ s.sec.fwAt ≠ 0 ∧ switch.sec.fwAt = 0 := by decide +kernel
/-- The BMC has a session. -/
def inSession (n : Nat) : State := switch.setSessions (List.replicate n { id := 5, via := .mctp 0, ready := false })
theorem test_spdm : switch.spdmOn (.mctp 0) = true ∧ (inSession 1).spdmOn (.mctp 0) = true ∧
    (inSession 1).sec.sessions = [{ id := 5, via := .mctp 0, ready := false }] ∧ 8 ≤ (inSession 8).sec.sessions.length ∧
    (inSession 7).sec.sessions.length < 8 ∧ (asleep).mode = .hold := by decide +kernel
/-- Link encryption is on at port 8, with the keys given. -/
def encrypting (k0 k1 : Bool) : State :=
  let s : State := { switch.setReg Obj.PORT_IDE_MODE 8 1 with clk := 2 ^ 90 }
  s.setIde 8 { ideDflt with key0 := k0, key1 := k1 }
theorem test_keys : (encrypting false false).drudar 8 = false ∧ (encrypting false false).reg Obj.PORT_IDE_MODE 8 ≠ 0 ∧
    (encrypting false false).dlUp 8 = true ∧ (encrypting false false).mayKey 77 8 = true ∧ ((encrypting false false).ide 8).key0 = false ∧
    ((inSession 1).setSessions [{ id := 77, via := .mctp 0, ready := true }]).mayKey 77 8 = false ∧
    (encrypting true true).after ((encrypting true true).ide 8).since ((encrypting true true).reg Obj.IDE_REKEY_S 0 * 1000000000) = true ∧
    ((encrypting true true).ide 8).slot < 2 ∧ ({ switch with clk := 0 } : State).after (switch.ide 8).since (switch.reg Obj.IDE_REKEY_S 0 * 1000000000) = false ∧
    ((encrypting true false).port 8).st = .l0 ∧ (encrypting true false).formed 8 = true ∧ (encrypting true false).Calm 8 := by
  unfold State.Calm
  decide +kernel
/-- A debug session of level 1 has been idle. -/
def idleDebug : State := { level 1 with clk := 2 ^ 90 }
theorem test_dbgIdle : idleDebug.reg Obj.DBG_LEVEL 0 ≠ 0 ∧ idleDebug.ridgeClock = true ∧ idleDebug.reg Obj.RIDGE_HALT 0 = 0 ∧
    idleDebug.dict.stages = [] ∧ stageDflt.st ≠ .sealed ∧
    idleDebug.after idleDebug.sec.dbgAt (idleDebug.reg Obj.DBG_IDLE_S 0 * 1000000000) = true ∧ up.reg Obj.DBG_LEVEL 0 = 0 := by decide +kernel
/-- A blank part whose ports are all disabled. -/
def blank : State := { State.reset with
  sec := { State.reset.sec with fuse := { State.reset.sec.fuse with provisioned := 0 } } }
theorem test_tap : up.extestAllowed = false ∧ blank.extestAllowed = true ∧ (∀ p < 256, blank.portState p = 0 ∨ blank.portState p = 1 ∨ blank.portState p = 9) := by
  decide +kernel

/-- A margin window under handle 6 is in state `n`. -/
def window (n : Nat) : State :=
  let s := (switch.setLop 6 { lopDflt with kind := 5, st := .running }).setReg Obj.TALUS_STATE 0 n
  { s.setTalus { s.talus with lop := 6 } with clk := 2 ^ 90 }
def measures : TalusMeas :=
  { ro := List.replicate 32 (some (999, 1000)) ++ List.replicate 32 none, sram := [20, 21], ce := [(0, 9, 3, true)] }
def plan : MarginPlan := { vcore := 760, required := 765, ceilings := [(8, 5)], lowest := [(5, 40)], targets := [], retire := [(0, 9)] }
/-- The plan has been committed, and `left` is to be retired. -/
def applying (left : List (Nat × Nat)) : State :=
  let s := (window 3).setReg Obj.FET_RDS_BASE 4 100
  { s with
    talus := { s.talus with left := left, plan := some plan, rdsWin := [((4, 0), [130])] }
    pm := { s.pm with avsTarget := 0, avsSet := s.reg Obj.PM_VCORE_PLAN 0 } }
theorem test_talusMeasure : (window 1).reg Obj.TALUS_STATE 0 = 1 ∧ (window 1).talusRuns = true ∧ (window 1).pm.avsFault = false ∧ (window 2).talusRuns = true ∧
    ((List.range 64).filter (fun i => (measures.ro.getD i none).isNone)).length = 32 ∧ (window 2).reg Obj.TALUS_STATE 0 ≠ 1 ∧
    ((window 2).setReg Obj.TALUS_RETRAIN_EN 0 0).flag Obj.TALUS_RETRAIN_EN 0 = false ∧ switch.talus.plan = none := by decide +kernel
theorem test_talusApply : (applying [(0, 9)]).reg Obj.TALUS_STATE 0 = 3 ∧ (applying [(0, 9)]).talus.left = [(0, 9)] ∧
    (applying []).pm.avsSet = (applying []).reg Obj.PM_VCORE_PLAN 0 ∧ (applying []).talus.retrain = [] ∧
    (applying []).talus.rdsWin = [((4, 0), [130])] ∧ (applying []).talusRuns = true ∧ (applying []).reg Obj.FET_RDS_BASE 4 ≠ 0 ∧ (window 4).reg Obj.TALUS_STATE 0 = 4 ∧
    (window 4).talusRuns = true ∧ (window 4).after (window 4).talus.rdsAt 10000000000 = true ∧
    switch.after switch.talus.rdsAt 10000000000 = false := by decide +kernel

/-- A store of profile 2 into bank 1 under handle 6 is in step `st`. -/
def storing (st : StoreStep) (changed : Bool) : State :=
  let s := (switch.setReg Obj.PROF_SRC 2 0).setLop 6 { lopDflt with kind := 3, st := .running, arg := 2 }
  s.setProf { s.prof with step := st, prof := 2, target := 1, lop := 6, changed := changed, cand := some (switch.capture 2 0) }
theorem test_profStoreSteps : (storing .capture false).coreRuns 3 = true ∧ ((storing .capture false).lop 6).st = .running ∧
    ((storing .capture false).lop 6).arg < 4 ∧ (storing .capture true).prof.changed = true ∧ (storing .erase false).prof.step = .erase ∧
    (((storing .erase false).modLop 6 (fun l => { l with st := .aborting })).lop 6).st = .aborting := by
  decide +kernel
/-- A bank whose CRC holds, whatever its hash. -/
def goodBank (seq : Nat) : Bank :=
  let b : Bank := { magic := bankMagic, format := dictVersion, profile := 2, source := 0, records := 0, created := 0, hash := 0, crc := 0,
                    seq := seq, seqInv := 0xFFFF_FFFF - seq, bytes := [] }
  { b with crc := bankCrc b }
def numbering : State :=
  let s := storing .commit false
  s.setProf { s.prof with banks := [((2, 0), some (goodBank 7))], cand := some (goodBank 0xFFFF_FFFF) }
theorem test_profCommit : numbering.banksOf 2 = [(0, goodBank 7)] ∧ numbering.prof.step = .commit ∧ (numbering.lop 6).st = .running := by
  decide +kernel
theorem test_profCapture : ∃ s : State, s.coreRuns 3 = true ∧ s.prof.step = .capture ∧ (s.lop s.prof.lop).st = .running ∧
    (s.lop s.prof.lop).arg < 4 ∧ s.prof.changed = false ∧ (s.capture s.prof.prof (s.lop s.prof.lop).start).bytes.length ≤ maxRecords :=
  ⟨storing .capture false, by decide +kernel⟩

/-- The answer to RESET_NOW, and a wedge, were 10 ms ago. -/
def resetting : State := { up with clk := 2 ^ 70, rst := { up.rst with nowAt := 1, wedgeAt := 1 } }
theorem test_fullReset : up.prof.step = .idle ∧ up.rst.aon = true ∧ resetting.rst.nowAt ≠ 0 ∧
    resetting.after (resetting.rst.nowAt - 1) 10000000 = true ∧ resetting.after (resetting.rst.wedgeAt - 1) 10000000 = true ∧
    up.mode.sleeps = false ∧ up.rst.step ≠ .inReset ∧ bit (up.reg Obj.RIDGE_HALT 0) 3 = false ∧ up.pm.wdFrom ≤ up.clk ∧
    up.reg Obj.FW_CONFIRMED 0 = 1 ∧ up.rst.nowAt = 0 ∧ up.rst.wedgeAt = 0 ∧ asleep.mode.sleeps = true := by decide +kernel
/-- A trial image has had two watchdog resets. -/
def barking : State := { trial with sec := { trial.sec with fwAt := 1, fwDogs := 2 } }
theorem test_watchdog : barking.reg Obj.FW_CONFIRMED 0 = 0 ∧ barking.sec.fwAt ≠ 0 ∧ barking.sec.fwBack = false ∧ barking.sec.fwDogs = 2 := by
  decide +kernel
theorem test_inReset : State.reset.rst.aon = true ∧ State.reset.rst.step = .inReset ∧ State.reset.mode = .boot := by decide
theorem test_noAon : ({ up with rst := { up.rst with aon := false } } : State).rst.aon = false := rfl

/-- A boot has come to step `st`, with a lifecycle change to `lc` pending. -/
def booting (st : BootStep) (lc : Nat) : State :=
  { State.reset.setReg Obj.LC_PENDING 0 lc with clk := 2 ^ 70, rst := { State.reset.rst with step := st } }
theorem test_release : (booting .inReset 0xFF).rst.aon = true ∧ (booting .inReset 0xFF).after (booting .inReset 0xFF).rst.since 1000000 = true ∧
    (booting .inReset 0xFF).reg Obj.LC_PENDING 0 = 0xFF ∧ (booting .inReset 2).reg Obj.LC_PENDING 0 = 2 ∧
    (booting .inReset 4).reg Obj.LC_PENDING 0 = 4 ∧ (booting .inReset 2).lcState = 1 ∧ (booting .inReset 4).lcState ≠ 4 ∧ (booting .rom 2).rst.step ≠ .inReset := by decide +kernel
/-- Area A holds an image. -/
def imaged : State := { booting .rom 0xFF with sec := { (booting .rom 0xFF).sec with
  images := [((0, 0), 0x46), ((0, 1), 0x39), ((0, 2), 0x54), ((0, 3), 0x47), ((0, 9), 0), ((0, 12), 0), ((0, 13), 16), ((0, 14), 0), ((0, 15), 0)] } }
theorem test_bootImage : imaged.reg Obj.FW_BOOT_PTR 0 = 0 ∧ imaged.fwHeaderOk 0 = true ∧ imaged.sec.fuse.svn ≤ imaged.fwSvn 0 := by
  decide +kernel
theorem test_validate : (booting .firmware 0xFF).lcState ≠ 4 ∧ (booting .firmware 0xFF).talus.tor = none ∧
    (booting .firmware 0xFF).talus.flash = none ∧ (booting .firmware 0xFF).move.torOk = true ∧ (booting .firmware 0xFF).banksOf 0 = [] ∧
    (∀ c < 32, (booting .firmware 0xFF).flag Obj.CH_ENABLE c = false) := by decide +kernel
theorem test_profileApplied : (booting .trained 0xFF).pm.ramp = [] ∧ (booting .trained 0xFF).mode = .boot ∧
    (booting .trained 0xFF).rst.bank = 255 ∧ (booting .trained 0xFF).rst.lcOld = 255 ∧ (booting .trained 0xFF).trimLC = 0 ∧
    (booting .trained 0xFF).trimSlices = 0 ∧ (booting .trained 0xFF).freeSlot = some 0 ∧ (booting .trained 0xFF).dict.filters = [] := by
  decide +kernel
/-- Handle 6 has been queued for long. -/
def wedged : State := { up.setLop 6 { lopDflt with kind := 1, st := .queued } with clk := 2 ^ 90 }
theorem test_wedgeCheck : wedged.rst.step = .done ∧ wedged.ridgeClock = true ∧ wedged.pm.step ≠ .cores ∧
    wedged.after wedged.rst.wdAt 100000000 = true ∧ wedged.wedges = [(3, 6)] ∧ wedged.rst.wedged.get false (3, 6) = false ∧
    ({ up with clk := 2 ^ 90 } : State).wedges = [] := by decide +kernel

theorem test_step : ({ up with pending := [Instr.rstNAssert, .powerOn] } : State).pending = Instr.rstNAssert :: [.powerOn] ∧ up.pending = [] :=
  ⟨rfl, by decide +kernel⟩
theorem test_lifecycle : State.reset.LifecycleSound ∧ State.reset.lcState = 1 := by
  unfold State.LifecycleSound
  decide +kernel
theorem test_scrapped : ∃ s : State, s.lcState = 4 ∧ s.sec.fuse.identity = none :=
  ⟨up.setSec { up.sec with fuse := { up.sec.fuse with scrapped := burnt, identity := none } }, by decide +kernel⟩
theorem test_rollback : ∃ s : State, s.fwSvn 0 < s.sec.fuse.svn :=
  ⟨imaged.setSec { imaged.sec with fuse := { imaged.sec.fuse with svn := 2 ^ 16 } }, by decide +kernel⟩
theorem test_inService : ((delivered (some 2)).intSrc 3).owner = some 2 ∧ 4 ≠ 2 := by decide +kernel
theorem test_place : place 8 0 = place 8 63 ∧ place 8 64 ≠ place 8 128 ∧ place 1 64 ≠ place 1 128 := by decide

/-! ### Ill-formed commands -/

/-- A request, a message, a frame, a completion, keys and the outcome of a Configuration that are well-formed. -/
def okReq : Req := readReq Obj.VENDOR 0
def okMsg : MsgIn := msgTo .memReq .memRdS false
def okFrame : Frame :=
  { body := List.replicate 256 0, ftype := 0, stomp := false, keySlot := 0, ackValid := false, seq := 0, ack := 0, crClass := 0,
    crTotal := 0, len := 0, fclass := 0, crc := 0 }
def okCpl : CplIn :=
  { isTrk := false, entry := 0, chan := .memDrs, write := false, poison := false, error := false, len := 1, data := [] }
def okKeys : IdeKeys := { txKey := 1, txSalt := 2, rxKey := 3, rxSalt := 4 }
def okCfg : CfgResult :=
  { lanes := 0xFFFF, invert := 0, skew := 0, flit256 := true, flit68 := true, flitMode := true, maxRate := 6, l0p := true, bypass := false,
    mem := true, cache := true, backInv := true }

theorem test_illFormedRequest :
    okReq.wf = true ∧ ({ okReq with ver := 256 } : Req).wf = false ∧ ({ okReq with op := 256 } : Req).wf = false ∧
    ({ okReq with tag := 65536 } : Req).wf = false ∧ ({ okReq with flags := 256 } : Req).wf = false ∧
    ({ okReq with index := 65536 } : Req).wf = false ∧ ({ okReq with sub := 256 } : Req).wf = false ∧
    ({ okReq with stage := 256 } : Req).wf = false ∧ ({ okReq with inst := 65536 } : Req).wf = false ∧
    ({ okReq with len := 65536 } : Req).wf = false ∧ ({ okReq with payload := List.replicate 1013 0 } : Req).wf = false := by
  decide +kernel

theorem test_illFormedPacket :
    ({ som := true, eom := true, tag := 16, bytes := [] } : MctpPacket).wf = false ∧
    ({ som := true, eom := true, tag := 1, bytes := List.replicate 253 0 } : MctpPacket).wf = false := by
  decide +kernel

theorem test_illFormedFrame :
    okFrame.wf = true ∧ ({ okFrame with body := [] } : Frame).wf = false ∧ ({ okFrame with ftype := 16 } : Frame).wf = false ∧
    ({ okFrame with keySlot := 2 } : Frame).wf = false ∧ ({ okFrame with seq := 4096 } : Frame).wf = false ∧
    ({ okFrame with ack := 4096 } : Frame).wf = false ∧ ({ okFrame with crClass := 16 } : Frame).wf = false ∧
    ({ okFrame with crTotal := 4096 } : Frame).wf = false ∧ ({ okFrame with len := 65536 } : Frame).wf = false ∧
    ({ okFrame with fclass := 16 } : Frame).wf = false ∧ ({ okFrame with crc := 4294967296 } : Frame).wf = false := by
  decide +kernel

theorem test_illFormedTraining :
    okCfg.wf = true ∧ ({ okCfg with lanes := 65536 } : CfgResult).wf = false ∧ ({ okCfg with invert := 65536 } : CfgResult).wf = false ∧
    ({ okCfg with maxRate := 8 } : CfgResult).wf = false ∧
    ({ found := true, single := 0, lds := [(16, 1)] } : EnumResult).wf = false ∧
    ({ found := true, single := 0, lds := [(3, 1), (3, 2)] } : EnumResult).wf = false := by
  decide

theorem test_illFormedMessage :
    okMsg.wf = true ∧ ({ okMsg with len := 0 } : MsgIn).wf = false ∧ ({ okMsg with cls := 8 } : MsgIn).wf = false ∧
    ({ okMsg with srcFid := 65536 } : MsgIn).wf = false ∧ ({ okMsg with dstFid := 65536 } : MsgIn).wf = false ∧
    ({ okMsg with p2pPart := 65 } : MsgIn).wf = false ∧
    okCpl.wf = true ∧ ({ okCpl with entry := 65536 } : CplIn).wf = false ∧ ({ okCpl with len := 0 } : CplIn).wf = false ∧
    ({ okCpl with chan := .memReq } : CplIn).wf = false := by
  decide

theorem test_illFormedKeys :
    okKeys.wf = true ∧ ({ okKeys with txKey := 2 ^ 256 } : IdeKeys).wf = false ∧ ({ okKeys with txSalt := 2 ^ 32 } : IdeKeys).wf = false ∧
    ({ okKeys with rxKey := 2 ^ 256 } : IdeKeys).wf = false ∧ ({ okKeys with rxSalt := 2 ^ 32 } : IdeKeys).wf = false := by
  decide +kernel

theorem test_illFormedCarrier :
    (SpdmVia.mctp 257).wf = false ∧ (SpdmVia.doe 64).wf = false ∧ (SpdmVia.peer 256).wf = false ∧
    (Instr.spdmGetVersion (.doe 64)).wf = false := by
  decide

/-- Each number that names a unit is refused above the last unit of its kind: endpoints, stages, handles, ports, lanes, engines,
partitions, vPPBs, slices, trackers, hold entries, move channels, slot channels, feeds, dies, sources, targets, cores, counters,
capture sets, sessions and key slots; and so are addresses and names out of their widths. -/
theorem test_illFormedUnits :
    (Instr.read 322 okReq).wf = false ∧ (Instr.msgReassemblyTimeout 0 16).wf = false ∧ (Instr.i3cEntdaa 128).wf = false ∧
    (Instr.stageIdleDiscard 17).wf = false ∧ (Instr.lopExpire 64).wf = false ∧ (Instr.ladderStart 256).wf = false ∧
    (Instr.laneFailWindowEnd 512).wf = false ∧ (Instr.hostConfigWrite 0 64 .busNumbers 0).wf = false ∧ (Instr.bindVppb 0 64 0 0 0).wf = false ∧
    (Instr.cellIngress 0 32 false false).wf = false ∧ (Instr.rttTimeout 65536).wf = false ∧ (Instr.pendingBindEffect 4096).wf = false ∧
    (Instr.unbindWalkEnd 4096).wf = false ∧ (Instr.walkerSetVisit 8).wf = false ∧ (Instr.homeTimeout 0 2112).wf = false ∧
    (Instr.holdTimeout 0 512).wf = false ∧ (Instr.movePassEnd 16).wf = false ∧ (Instr.seatConfirmed 32).wf = false ∧
    (Instr.feedLost 0 2).wf = false ∧ (Instr.feedMeasUpdate 64).wf = false ∧ (Instr.slotLinkLost 2).wf = false ∧
    (Instr.intDeliver ⟨1024, false⟩).wf = false ∧ (Instr.intClaim 6).wf = false ∧ (Instr.doorbellSet 4 true).wf = false ∧
    (Instr.watchdogExpiry 4).wf = false ∧ (Instr.cntOverflow 520).wf = false ∧ (Instr.captureClose 65).wf = false ∧
    (Instr.spdmHeartbeat 65536).wf = false ∧ (Instr.spdmVendorDefinedRequest 0 0 ⟨2, okKeys⟩).wf = false ∧ (Instr.resetRelease 16).wf = false ∧
    (Instr.fwChunkWrite 0 (List.replicate 1025 0)).wf = false := by
  decide +kernel

/-- A command that names no unit stops by name. -/
theorem test_absentUnit : exec (.ladderStart 256) State.reset = .fault (.absent 256) := rfl

/-- No word spells a command: the table gives no bits. -/
theorem test_noWords : decodeTableWord 32 0 = none ∧ State.reset.withFetchWord 32 0 = State.reset := ⟨rfl, rfl⟩

end Sys2Proof.Tests
end

section
/-!
SUPPORT. What the operations of link bring-up leave alone: the lane counters, the rates and shapers of a port, the roles of its lanes
and the sizes of its LDs (R70 to R76, R80, R84, R125, R149, R175 to R177).
-/

namespace Sys2Proof.Machine

namespace State

/-- `t` has the ports, the queue, the mode, the security state and the enumeration results of `s`, and every object but those of `l`
and what raising events writes. -/
structure KeptBut (s t : State) (l : List Nat) : Prop where
  pending : t.pending = s.pending
  mode : t.mode = s.mode
  sec : t.sec = s.sec
  enumd : t.fab.enumd = s.fab.enumd
  port : ∀ q, t.port q = s.port q
  regs : s.SameRegs t l

namespace KeptBut

variable {s t u : State} {l l' : List Nat}

theorem refl (s : State) (l : List Nat) : s.KeptBut s l := ⟨rfl, rfl, rfl, rfl, fun _ => rfl, fun _ _ _ _ _ => rfl⟩

theorem trans (h : s.KeptBut t l) (k : t.KeptBut u l) : s.KeptBut u l where
  pending := k.pending.trans h.pending
  mode := k.mode.trans h.mode
  sec := k.sec.trans h.sec
  enumd := k.enumd.trans h.enumd
  port q := (k.port q).trans (h.port q)
  regs o i a b c := (k.regs o i a b c).trans (h.regs o i a b c)

theorem mono (h : s.KeptBut t l) (m : l ⊆ l') : s.KeptBut t l' :=
  { h with regs := fun o i a b c => h.regs o i (fun x => a (m x)) b c }

/-- A walk over a list keeps what each of its steps keeps. -/
theorem foldS {α : Type} {f : α → State → State} (h : ∀ a (t : State), t.KeptBut (f a t) l) (as : List α) (s : State) :
    s.KeptBut (foldS f as s) l :=
  foldS_keeps (fun t => s.KeptBut t l) f (fun a t k => k.trans (h a t)) as s (refl s l)

end KeptBut

/-! ### The updates of one field -/

section

variable (s : State) (l : List Nat)

theorem setReg_keptBut {o : Nat} (i v : Nat) (h : o ∈ l) : s.KeptBut (s.setReg o i v) l where
  pending := rfl
  mode := rfl
  sec := rfl
  enumd := rfl
  port _ := rfl
  regs _ _ n _ _ := reg_setReg_of_ne s o i v (fun e => n ((Prod.mk.inj e).1 ▸ h))

theorem setLane_keptBut (n : Nat) (x : Lane) : s.KeptBut (s.setLane n x) l :=
  ⟨rfl, rfl, rfl, rfl, fun _ => rfl, fun _ _ _ _ _ => rfl⟩

theorem nextFree_keptBut : s.KeptBut s.nextFree l := ⟨rfl, rfl, rfl, rfl, fun _ => rfl, fun _ _ _ _ _ => rfl⟩

theorem setEgr_keptBut (p : Nat) (x : Egress) : s.KeptBut (s.setEgr p x) l :=
  ⟨rfl, rfl, rfl, rfl, fun _ => rfl, fun _ _ _ _ _ => rfl⟩

theorem emit_keptBut (x : Output) : s.KeptBut (s.emit x) l := ⟨rfl, rfl, rfl, rfl, fun _ => rfl, fun _ _ _ _ _ => rfl⟩

theorem raise_keptBut (code source sev inst data : Nat) : s.KeptBut (s.raise code source sev inst data) l where
  pending := by simp
  mode := by simp
  sec := by simp
  enumd := by simp
  port := by simp
  regs _ i _ a b := reg_raise s code source sev inst data i a b

end

/-! ### Speeds, rates and shapers -/

section

variable (s : State) (p : Nat)

theorem settleLane_keptBut (n : Nat) (l : List Nat) : s.KeptBut (s.settleLane n) l := by
  unfold settleLane
  dsimp only
  split
  · exact .refl s l
  · split
    · exact setLane_keptBut s l n _
    · exact ((nextFree_keptBut s l).trans (nextFree_keptBut _ l)).trans (setLane_keptBut _ l n _)

theorem settleLanes_keptBut (l : List Nat) : s.KeptBut (s.settleLanes p) l :=
  .foldS (fun n t => settleLane_keptBut t n l) (s.portLanes p) s

theorem setSpeed_keptBut (r : Nat) : s.KeptBut (s.setSpeed p r) [Obj.PORT_SPEED] :=
  (settleLanes_keptBut s p _).trans (setReg_keptBut _ _ p r (by simp))

theorem accrue_keptBut (l : List Nat) : s.KeptBut (s.accrue p) l := by
  unfold accrue
  dsimp only
  split
  · exact .refl s l
  · exact setEgr_keptBut s l p _

theorem egressUp_keptBut (l : List Nat) : s.KeptBut (s.egressUp p) l := setEgr_keptBut s l p _

theorem shaperSlopes_keptBut : s.KeptBut (s.shaperSlopes p) [Obj.CBS_SLOPE_OPER] := by
  have slopes (t : State) (v : Nat) : t.KeptBut (t.setReg Obj.CBS_SLOPE_OPER p v) [Obj.CBS_SLOPE_OPER] :=
    setReg_keptBut t _ p v (by simp)
  unfold shaperSlopes
  dsimp only
  split
  · split
    · exact ((setEgr_keptBut s _ p _).trans (slopes _ _)).trans (raise_keptBut _ _ _ _ _ _ _)
    · exact (setEgr_keptBut s _ p _).trans (slopes _ _)
  · exact (setEgr_keptBut s _ p _).trans (slopes _ _)

theorem portRateChange_keptBut : s.KeptBut (s.portRateChange p) [Obj.PORT_CELL_RATE, Obj.CBS_SLOPE_OPER] :=
  ((accrue_keptBut s p _).trans (setReg_keptBut _ _ p _ (by simp))).trans ((shaperSlopes_keptBut _ p).mono (by simp))

@[simp] theorem egr_setReg (o i v : Nat) : (s.setReg o i v).egr p = s.egr p := rfl
@[simp] theorem egr_emit (x : Output) : (s.emit x).egr p = s.egr p := rfl

/-- The slopes in force move no credit and no tag. -/
theorem egr_shaperSlopes : ((s.shaperSlopes p).egr p) = { s.egr p with crAt := (s.egr p).crAt.map (fun t => max t s.clk) } := by
  unfold shaperSlopes
  dsimp only
  split
  · split
    · rw [egr_raise, egr_setReg, egr_setEgr_self]
    · rw [egr_setReg, egr_setEgr_self]
  · rw [egr_setReg, egr_setEgr_self]

theorem vtime_accrue : ((s.accrue p).egr p).vtime = (s.egr p).vtime := by
  unfold accrue
  dsimp only
  split
  · rfl
  · rw [egr_setEgr_self]

theorem credit_egressUp : ((s.egressUp p).egr p).credit = egressDflt.credit := by simp [egressUp]

theorem vtime_egressUp : ((s.egressUp p).egr p).vtime = 0 := by simp [egressUp]

theorem crAt_egressUp : ((s.egressUp p).egr p).crAt = List.replicate 8 (s.egressUp p).clk := by simp [egressUp]

/-- Credits of 0 that are as old as now stay 0 (R175). -/
theorem credit_accrue_fresh (h : (s.egr p).crAt = List.replicate 8 s.clk) (k : (s.egr p).credit = egressDflt.credit) :
    ((s.accrue p).egr p).credit = egressDflt.credit := by
  have zeros : egressDflt.credit = List.replicate 8 0 := rfl
  unfold accrue
  dsimp only
  split
  · exact k
  · rw [egr_setEgr_self, h, k, zeros, List.eq_replicate_iff]
    refine ⟨by simp, fun x hx => ?_⟩
    obtain ⟨c, hc, rfl⟩ := List.mem_map.mp hx
    have span : s.clk - (List.replicate 8 s.clk).getD c 0 = 0 := by
      rw [List.getD_replicate _ (List.mem_range.mp hc), Nat.sub_self]
    have credit : (List.replicate 8 (0 : Rat)).getD c 0 = 0 := List.getD_replicate _ (List.mem_range.mp hc)
    rw [span, credit]
    simp [creditAfter]

/-- A port that comes up has no credit and no tag after its rate has been set (R176, R178). -/
theorem egr_portRateChange_egressUp : (((s.egressUp p).portRateChange p).egr p).credit = egressDflt.credit ∧
    (((s.egressUp p).portRateChange p).egr p).vtime = 0 := by
  unfold portRateChange
  rw [egr_shaperSlopes, egr_setReg]
  dsimp only
  rw [vtime_accrue, vtime_egressUp]
  exact ⟨credit_accrue_fresh _ p (crAt_egressUp s p) (credit_egressUp s p), rfl⟩

end

/-! ### Lanes and LDs -/

section

variable (s : State) (p : Nat)

theorem lanesDown_keptBut : s.KeptBut (s.lanesDown p) [Obj.LANE_STATE] :=
  (settleLanes_keptBut s p _).trans
    (.foldS (fun n t => (setReg_keptBut t _ n _ (by simp)).trans (setLane_keptBut _ _ n _)) (s.portLanes p) _)

theorem takeLdSizes_keptBut (bound : Bool) : s.KeptBut (s.takeLdSizes p bound) [Obj.LD_SIZE] := by
  refine .foldS (fun ld t => ?_) s.ldsKnown s
  split
  · exact setReg_keptBut t _ ld _ (by simp)
  · exact .refl t _

/-- What enumeration found at port `p` is noted (R125). -/
def setEnumd (e : EnumResult) : State := { s with fab := { s.fab with enumd := s.fab.enumd.set none (p, 0) (some e) } }

@[simp] theorem pending_setEnumd (e : EnumResult) : (s.setEnumd p e).pending = s.pending := rfl
@[simp] theorem mode_setEnumd (e : EnumResult) : (s.setEnumd p e).mode = s.mode := rfl
@[simp] theorem sec_setEnumd (e : EnumResult) : (s.setEnumd p e).sec = s.sec := rfl
@[simp] theorem port_setEnumd (e : EnumResult) (q : Nat) : (s.setEnumd p e).port q = s.port q := rfl
@[simp] theorem reg_setEnumd (e : EnumResult) (o i : Nat) : (s.setEnumd p e).reg o i = s.reg o i := rfl
@[simp] theorem enumd_setEnumd_self (e : EnumResult) : (s.setEnumd p e).fab.enumd.get none (p, 0) = some e :=
  Tbl.get_set_self s.fab.enumd none (p, 0) (some e)

/-- What enumeration found at port `p` is noted, and the sizes of its LDs are taken in (R125). -/
def enumerated (e : EnumResult) : State := (s.setEnumd p e).takeLdSizes p true

theorem enumerated_keptBut (e : EnumResult) : (s.setEnumd p e).KeptBut (s.enumerated p e) [Obj.LD_SIZE] :=
  takeLdSizes_keptBut _ p true

theorem reg_enumerated (e : EnumResult) {o : Nat} (i : Nat) (h : o ∉ [Obj.LD_SIZE, Obj.INT_CAUSE, Obj.EVT_DROPPED]) :
    (s.enumerated p e).reg o i = s.reg o i := by
  simp only [List.mem_cons, List.not_mem_nil, or_false, not_or] at h
  obtain ⟨size, cause, dropped⟩ := h
  rw [(enumerated_keptBut s p e).regs o i (by simp [size]) cause dropped, reg_setEnumd]

theorem drudar_enumerated (e : EnumResult) : (s.enumerated p e).drudar p = s.drudar p := by
  rw [drudar, reg_enumerated s p e p (by decide), drudar]

end

/-! ### The ends of a rung, of training and of bring-up -/

section

variable (s : State) (p : Nat)

/-- The port that a trained rung leaves (R73). -/
def rungPort (s : State) (p r : Nat) : Port :=
  { s.port p with rate := r, eqTries := 0, phase := if r < s.targetRate p then .eq else .linkInit }

theorem rungDone_keptBut (r : Nat) :
    (s.setPort p (s.rungPort p r)).KeptBut (s.rungDone p r) [Obj.PORT_SPEED, Obj.PORT_CELL_RATE, Obj.CBS_SLOPE_OPER] :=
  ((setSpeed_keptBut _ p r).mono (by simp)).trans ((portRateChange_keptBut _ p).mono (by simp))

theorem speed_rungDone (r : Nat) : (s.rungDone p r).reg Obj.PORT_SPEED p = r :=
  ((portRateChange_keptBut _ p).regs Obj.PORT_SPEED p (by decide) (by decide) (by decide)).trans (reg_setReg_self _ _ _ _)

/-- The port that a failure of training leaves (R75). -/
def failedPort (s : State) (p : Nat) : Port :=
  { s.port p with
    st := .trainFail, phase := .idle, dlUp := false, fails := (s.port p).fails + 1, failedAt := s.clk, rate := 0, changing := false
    widening := false, spent := s.reg Obj.PORT_TRAIN_TRIES p ≤ (s.port p).fails + 1 }

/-- The objects of port `p` that a failure of training clears (R75). -/
def clearLink (s : State) (p : Nat) : State :=
  ((((s.setSpeed p 0).setReg Obj.PORT_WIDTH p 0).setReg Obj.PORT_ACTIVE_WIDTH p 0).setReg Obj.PORT_FLIT_ACTIVE p 0).setReg
    Obj.PORT_PROTOCOLS p 0

theorem clearLink_keptBut : s.KeptBut (s.clearLink p)
    [Obj.PORT_SPEED, Obj.PORT_WIDTH, Obj.PORT_ACTIVE_WIDTH, Obj.PORT_FLIT_ACTIVE, Obj.PORT_PROTOCOLS] :=
  (((((setSpeed_keptBut s p 0).mono (by simp)).trans (setReg_keptBut _ _ p 0 (by simp))).trans
    (setReg_keptBut _ _ p 0 (by simp))).trans (setReg_keptBut _ _ p 0 (by simp))).trans (setReg_keptBut _ _ p 0 (by simp))

theorem trainFail_eq_raise : s.trainFail p = (((s.setPort p (s.failedPort p)).clearLink p).lanesDown p).raise 0x2003
    (if s.drudar p then 0x21 else 0x20) 3 p ((s.port p).rate % 256 + 256 * min ((s.port p).fails + 1) 255) := rfl

theorem trainFail_keptBut_clearLink :
    ((s.setPort p (s.failedPort p)).clearLink p).KeptBut (s.trainFail p) [Obj.LANE_STATE] := by
  rw [trainFail_eq_raise]
  exact (lanesDown_keptBut _ p).trans (raise_keptBut _ _ _ _ _ _ _)

theorem trainFail_keptBut : (s.setPort p (s.failedPort p)).KeptBut (s.trainFail p)
    [Obj.PORT_SPEED, Obj.PORT_WIDTH, Obj.PORT_ACTIVE_WIDTH, Obj.PORT_FLIT_ACTIVE, Obj.PORT_PROTOCOLS, Obj.LANE_STATE] :=
  ((clearLink_keptBut _ p).mono (by simp)).trans ((trainFail_keptBut_clearLink s p).mono (by simp))

theorem width_trainFail : (s.trainFail p).reg Obj.PORT_WIDTH p = 0 := by
  rw [(trainFail_keptBut_clearLink s p).regs _ _ (by decide) (by decide) (by decide)]
  simp [clearLink, reg_setReg]

/-- The port that reports DL_Up (R76). -/
def upPort (s : State) (p : Nat) : Port := { s.port p with st := .l0, phase := .idle, dlUp := true, fails := 0 }

/-- The data of LINK_UP: speed, width and protocols (R76). -/
def linkUpData (s : State) (p : Nat) : Nat :=
  s.reg Obj.PORT_SPEED p % 256 + 256 * s.reg Obj.PORT_WIDTH p + 65536 * (s.reg Obj.PORT_PROTOCOLS p % 256)

/-- A CXL-mode port comes up: its credits and tags start anew, its rate is set, and LINK_UP is raised (R76, R176, R178). -/
theorem linkUp_eq_raise (h : s.drudar p = false) : ∃ v : State, s.linkUp p = v.raise 0x2001 0x20 1 p (s.linkUpData p) ∧
    (s.setPort p (s.upPort p)).KeptBut v [Obj.PORT_CELL_RATE, Obj.CBS_SLOPE_OPER] ∧
    (v.egr p).credit = egressDflt.credit ∧ (v.egr p).vtime = 0 := by
  unfold linkUp
  simp only [h, Bool.false_eq_true, if_false]
  refine ⟨_, rfl, ?_, ?_⟩
  · exact ((egressUp_keptBut _ p _).trans (portRateChange_keptBut _ p)).trans (emit_keptBut _ _ _)
  · rw [egr_emit]
    exact egr_portRateChange_egressUp _ p

theorem linkUpData_enumerated (e : EnumResult) : (s.enumerated p e).linkUpData p = s.linkUpData p := by
  unfold linkUpData
  rw [reg_enumerated s p e p (by decide), reg_enumerated s p e p (by decide), reg_enumerated s p e p (by decide)]

theorem linkUp_keptBut (h : s.drudar p = false) :
    (s.setPort p (s.upPort p)).KeptBut (s.linkUp p) [Obj.PORT_CELL_RATE, Obj.CBS_SLOPE_OPER] := by
  obtain ⟨v, e, k, -⟩ := linkUp_eq_raise s p h
  rw [e]
  exact k.trans (raise_keptBut v _ _ _ _ _ _)

end

end State

/-! ### Commands on a unit -/

/-- A command on a unit that is there answers what its function makes, where a state with the queue, the mode and the security state of
`s` differs from that in no more than objects. -/
theorem onUnit_next {n count : Nat} {s r u : State} {f : State → State} {l : List Nat} (h : n < count) (e : f s = u)
    (k : r.KeptBut u l) (p : r.pending = s.pending) (m : r.mode = s.mode) (q : r.sec = s.sec) : onUnit n count s f = .next u := by
  subst e
  rw [onUnit_eq s f h]
  exact steady_eq s f (k.pending.trans p) (k.mode.trans m) (by rw [k.sec, q])

end Sys2Proof.Machine
end

section
/-!
SUPPORT. What the end of Configuration agrees (R1, R67, R70 to R73), and what the commands of bring-up answer.
-/

namespace Sys2Proof.Machine

namespace State

section

variable (s : State) (p : Nat) (c : CfgResult)

/-- The width and order that the lanes that responded can form (R67). -/
def formedBy : Nat × Bool := s.widest p (fun n => s.laneOk n && bit c.lanes (n - s.firstLane p)) c.reversed

/-- PORT_FLIT_ACTIVE by PORT_FLIT and what the partner offers; 0 where no size is common (R71). -/
def agreedFlit : Nat :=
  match s.reg Obj.PORT_FLIT p with
  | 0 => if c.flit256 && c.flitMode then 1 else if c.flit68 then 2 else 0
  | 1 => if c.flit256 && c.flitMode then 1 else 0
  | _ => if c.flit68 then 2 else 0

/-- L0p is on where flits of 256 bytes, the partner and PORT_L0P_EN allow it. -/
def agreedL0p : Bool := s.agreedFlit p c == 1 && c.l0p && s.flag Obj.PORT_L0P_EN p

/-- PORT_PROTOCOLS, bit by bit as the partners agree. -/
def agreedProtocols : Nat :=
  1 + (if c.mem then 2 else 0) + (if c.cache && s.cacheAllowed p then 4 else 0) + (if c.backInv then 8 else 0) +
    (if s.agreedFlit p c = 1 then 16 else 0) + (if s.agreedL0p p c then 32 else 0)

/-- The agreement, in the port's objects. -/
def agreeRegs : State :=
  (((((s.setReg Obj.PORT_WIDTH p (s.formedBy p c).1).setReg Obj.PORT_ACTIVE_WIDTH p (s.formedBy p c).1).setReg
    Obj.PORT_REVERSED p (if (s.formedBy p c).2 then 1 else 0)).setReg Obj.PORT_SKEW p c.skew).setReg
    Obj.PORT_FLIT_ACTIVE p (s.agreedFlit p c)).setReg Obj.PORT_PROTOCOLS p (s.agreedProtocols p c)

/-- The lanes of the trained width are ACTIVE, with the polarity found from lane `first` on (R67). -/
def agreeLanes (first : Nat) : State :=
  foldS (fun n (u : State) =>
    (if u.laneOk n then u.setReg Obj.LANE_STATE n (if (s.trained p).contains n then 1 else 0) else u).setReg
      Obj.LANE_POLARITY n (if (s.trained p).contains n && bit c.invert (n - first) then 1 else 0)) (s.portLanes p) s

/-- L0p of port `p` is on or off. -/
def setL0p (b : Bool) : State := { s with link := { s.link with l0pOn := s.link.l0pOn.set false (p, 0) b } }

/-- Everything that the agreement writes but the port itself. -/
def agreeLink : State := ((s.agreeRegs p c).agreeLanes p c (s.firstLane p)).setL0p p (s.agreedL0p p c)

/-- The port at the start of the ladder's first rung. -/
def agreedPort : Port :=
  { s.port p with
    phase := .eq, partnerMax := c.maxRate, bypass := c.bypass && s.flag Obj.PORT_EQ_BYPASS p, fullWidth := (s.formedBy p c).1
    fullRev := (s.formedBy p c).2, respond := c.lanes, boardRev := c.reversed, widenTries := 0, narrowedAt := 0, widening := false }

/-- The state in which the ladder's first rung trains. -/
def agree : State := (s.agreeLink p c).setPort p (s.agreedPort p c)

theorem agreeRegs_keptBut : s.KeptBut (s.agreeRegs p c)
    [Obj.PORT_WIDTH, Obj.PORT_ACTIVE_WIDTH, Obj.PORT_REVERSED, Obj.PORT_SKEW, Obj.PORT_FLIT_ACTIVE, Obj.PORT_PROTOCOLS] :=
  (((((setReg_keptBut s _ p _ (by simp)).trans (setReg_keptBut _ _ p _ (by simp))).trans (setReg_keptBut _ _ p _ (by simp))).trans
    (setReg_keptBut _ _ p _ (by simp))).trans (setReg_keptBut _ _ p _ (by simp))).trans (setReg_keptBut _ _ p _ (by simp))

theorem reg_agreeRegs :
    (s.agreeRegs p c).reg Obj.PORT_WIDTH p = (s.formedBy p c).1 ∧ (s.agreeRegs p c).reg Obj.PORT_ACTIVE_WIDTH p = (s.formedBy p c).1 ∧
    (s.agreeRegs p c).reg Obj.PORT_REVERSED p = (if (s.formedBy p c).2 then 1 else 0) ∧
    (s.agreeRegs p c).reg Obj.PORT_SKEW p = c.skew ∧ (s.agreeRegs p c).reg Obj.PORT_FLIT_ACTIVE p = s.agreedFlit p c ∧
    (s.agreeRegs p c).reg Obj.PORT_PROTOCOLS p = s.agreedProtocols p c := by
  simp [agreeRegs, reg_setReg]

theorem agreeLanes_keptBut (first : Nat) : s.KeptBut (s.agreeLanes p c first) [Obj.LANE_STATE, Obj.LANE_POLARITY] := by
  refine .foldS (fun n t => .trans (t := if t.laneOk n then _ else t) ?_ (setReg_keptBut _ _ n _ (by simp))) (s.portLanes p) s
  split
  · exact setReg_keptBut t _ n _ (by simp)
  · exact .refl t _

theorem setL0p_keptBut (b : Bool) (l : List Nat) : s.KeptBut (s.setL0p p b) l :=
  ⟨rfl, rfl, rfl, rfl, fun _ => rfl, fun _ _ _ _ _ => rfl⟩

theorem agreeRegs_keptBut_agreeLink : (s.agreeRegs p c).KeptBut (s.agreeLink p c) [Obj.LANE_STATE, Obj.LANE_POLARITY] :=
  (agreeLanes_keptBut _ p c _).trans (setL0p_keptBut _ p _ _)

theorem agreeLink_keptBut : s.KeptBut (s.agreeLink p c)
    [Obj.PORT_WIDTH, Obj.PORT_ACTIVE_WIDTH, Obj.PORT_REVERSED, Obj.PORT_SKEW, Obj.PORT_FLIT_ACTIVE, Obj.PORT_PROTOCOLS,
      Obj.LANE_STATE, Obj.LANE_POLARITY] :=
  ((agreeRegs_keptBut s p c).mono (by simp)).trans ((agreeRegs_keptBut_agreeLink s p c).mono (by simp))

/-- Training at the first rung leaves every agreed object as it is, but the lanes' and those of the rate. -/
theorem reg_rungDone_agree {o : Nat} (i r : Nat)
    (h : o ∉ [Obj.PORT_SPEED, Obj.PORT_CELL_RATE, Obj.CBS_SLOPE_OPER, Obj.LANE_STATE, Obj.LANE_POLARITY,
      Obj.INT_CAUSE, Obj.EVT_DROPPED]) :
    ((s.agree p c).rungDone p r).reg o i = (s.agreeRegs p c).reg o i := by
  simp only [List.mem_cons, List.not_mem_nil, or_false, not_or] at h
  obtain ⟨speed, rate, slopes, state, polarity, cause, dropped⟩ := h
  rw [(rungDone_keptBut _ p r).regs o i (by simp [speed, rate, slopes]) cause dropped, reg_setPort, agree, reg_setPort,
    (agreeRegs_keptBut_agreeLink s p c).regs o i (by simp [state, polarity]) cause dropped]

/-- The port after the first rung. -/
theorem port_rungDone_agree (r : Nat) : ((s.agree p c).rungDone p r).port p =
    { s.agreedPort p c with rate := r, eqTries := 0, phase := if r < (s.agree p c).targetRate p then .eq else .linkInit } := by
  rw [(rungDone_keptBut _ p r).port, port_setPort_self, rungPort, agree, port_setPort_self]

theorem port_rungDone_agree_of_ne (r : Nat) {q : Nat} (h : q ≠ p) : ((s.agree p c).rungDone p r).port q = s.port q := by
  rw [(rungDone_keptBut _ p r).port, port_setPort_of_ne _ _ _ h, agree, port_setPort_of_ne _ _ _ h, (agreeLink_keptBut s p c).port]

/-- CXL.cache is bit 2 of PORT_PROTOCOLS (R1). -/
theorem bit_agreedProtocols : bit (s.agreedProtocols p c) 2 = (c.cache && s.cacheAllowed p) := by
  have parts : ∀ mem cache backInv flit l0p : Bool, bit (1 + (if mem then 2 else 0) + (if cache then 4 else 0) +
      (if backInv then 8 else 0) + (if flit then 16 else 0) + (if l0p then 32 else 0)) 2 = cache := by decide
  simpa [agreedProtocols] using parts c.mem (c.cache && s.cacheAllowed p) c.backInv (s.agreedFlit p c = 1) (s.agreedL0p p c)

/-- A port that may run both sizes runs flits of 256 bytes where the partner does (R71). -/
theorem agreedFlit_eq_one (any : s.reg Obj.PORT_FLIT p = 0) (size : c.flit256 = true) (mode : c.flitMode = true) :
    s.agreedFlit p c = 1 := by
  simp [agreedFlit, any, size, mode]

end

end State

open State

section

variable {s : State} {p : Nat}

/-- Training fails where no width forms, no flit size is common or the skew passes 20 ns (R70 to R72, R75). -/
theorem execConfigurationEnd_fails {c : CfgResult} (hp : p < 256) (st : (s.port p).st = .training)
    (ph : (s.port p).phase = .polling) (dr : s.drudar p = false) (go : s.stepping p = true)
    (bad : (s.formedBy p c).1 = 0 ∨ s.agreedFlit p c = 0 ∨ 200 < c.skew) :
    execConfigurationEnd p c s = .next (s.trainFail p) :=
  onUnit_next hp ((if_neg (not_not_intro ⟨st, ph, dr, go⟩)).trans (if_pos bad)) (trainFail_keptBut s p) rfl rfl rfl

/-- Where the partners agree, the ladder's first rung has trained (R70 to R73). -/
theorem execConfigurationEnd_agrees {c : CfgResult} (hp : p < 256) (st : (s.port p).st = .training)
    (ph : (s.port p).phase = .polling) (dr : s.drudar p = false) (go : s.stepping p = true)
    (good : ¬ ((s.formedBy p c).1 = 0 ∨ s.agreedFlit p c = 0 ∨ 200 < c.skew)) :
    execConfigurationEnd p c s = .next ((s.agree p c).rungDone p 1) := by
  have k := agreeLink_keptBut s p c
  refine onUnit_next hp ((if_neg (not_not_intro ⟨st, ph, dr, go⟩)).trans ?_) (rungDone_keptBut (s.agree p c) p 1) ?_ ?_ ?_
  · extract_lets first w has256 flit l0p prot s1 lanes s2 links s3 s4
    have order : w = s.formedBy p c := rfl
    have size : flit = s.agreedFlit p c := rfl
    have regs : s1 = s.agreeRegs p c := by
      unfold agreeRegs agreedProtocols agreedL0p
      rw [← size]
      rfl
    have walk : s2 = s1.agreeLanes p c first := rfl
    have link : s3 = s.agreeLink p c := by
      unfold agreeLink agreedL0p
      rw [← regs, ← walk, ← size]
      rfl
    have port : s4 = s.agree p c := by
      rw [agree, ← link]
      rfl
    rw [← order, ← size] at good
    rw [← port, if_neg good]
  · rw [agree, pending_setPort, pending_setPort, k.pending]
  · rw [agree, mode_setPort, mode_setPort, k.mode]
  · rw [agree, sec_setPort, sec_setPort, k.sec]

theorem execLinkLayerInit_downstream (hp : p < 256) (st : (s.port p).st = .training) (ph : (s.port p).phase = .linkInit)
    (dr : s.drudar p = false) (go : s.stepping p = true) (role : s.reg Obj.PORT_ROLE p = 1) :
    execLinkLayerInit p s = .next (s.setPort p { s.port p with st := .l0, phase := .enumerating }) := by
  refine onUnit_next hp ?_ (.refl _ []) rfl rfl rfl
  simp [st, ph, go, dr, role]

theorem execLinkLayerInit_other (hp : p < 256) (st : (s.port p).st = .training) (ph : (s.port p).phase = .linkInit)
    (dr : s.drudar p = false) (go : s.stepping p = true) (role : s.reg Obj.PORT_ROLE p ≠ 1) :
    execLinkLayerInit p s = .next (s.linkUp p) := by
  refine onUnit_next hp ?_ (linkUp_keptBut s p dr) rfl rfl rfl
  simp [st, ph, go, dr, role]

/-- What enumeration found is taken in, and the port comes up (R76, R125). -/
theorem execEnumerationDone_eq {e : EnumResult} (hp : p < 256) (st : (s.port p).st = .l0) (ph : (s.port p).phase = .enumerating)
    (dr : s.drudar p = false) (go : s.stepping p = true) : execEnumerationDone p e s = .next ((s.enumerated p e).linkUp p) := by
  have k := enumerated_keptBut s p e
  refine onUnit_next hp (if_neg (not_not_intro ⟨st, ph, go⟩)) (linkUp_keptBut _ p ?_) ?_ ?_ ?_
  · rw [drudar_enumerated, dr]
  · rw [pending_setPort, k.pending, pending_setEnumd]
  · rw [mode_setPort, k.mode, mode_setEnumd]
  · rw [sec_setPort, k.sec, sec_setEnumd]

end

end Sys2Proof.Machine
end

section
/-!
The obligation `LinkBringUp`, clause by clause.
-/

namespace Sys2Proof.Machine

open State

section

variable {s : State} {p : Nat}

theorem exec_configurationEnd_agrees {c : CfgResult} {w : Nat × Bool} (hp : p < 256) (st : (s.port p).st = .training)
    (ph : (s.port p).phase = .polling) (dr : s.drudar p = false) (go : s.stepping p = true)
    (hw : s.widest p (fun n => s.laneOk n && bit c.lanes (n - s.firstLane p)) c.reversed = w) (w0 : w.1 ≠ 0) (sk : c.skew ≤ 200)
    (any : s.reg Obj.PORT_FLIT p = 0) (size : c.flit256 = true) (mode : c.flitMode = true) :
    ∃ u : State, exec (.configurationEnd p c) s = .next u ∧ u.reg Obj.PORT_WIDTH p = w.1 ∧ u.reg Obj.PORT_ACTIVE_WIDTH p = w.1 ∧
      u.reg Obj.PORT_REVERSED p = (if w.2 then 1 else 0) ∧ u.reg Obj.PORT_SKEW p = c.skew ∧ u.reg Obj.PORT_FLIT_ACTIVE p = 1 ∧
      u.reg Obj.PORT_SPEED p = 1 ∧ (u.port p).rate = 1 ∧ (u.port p).st = .training ∧ (u.port p).partnerMax = c.maxRate ∧
      (u.port p).respond = c.lanes ∧ bit (u.reg Obj.PORT_PROTOCOLS p) 2 = (c.cache && s.cacheAllowed p) ∧
      (∀ q, q ≠ p → u.port q = s.port q) := by
  have flit := agreedFlit_eq_one s p c any size mode
  have good : ¬ ((s.formedBy p c).1 = 0 ∨ s.agreedFlit p c = 0 ∨ 200 < c.skew) := by
    rw [formedBy, hw, flit]
    omega
  have port := port_rungDone_agree s p c 1
  have reg {o : Nat} := reg_rungDone_agree s p c (o := o) p 1
  obtain ⟨width, active, reversed, skew, flits, protocols⟩ := reg_agreeRegs s p c
  rw [formedBy, hw] at width active reversed
  refine ⟨_, execConfigurationEnd_agrees hp st ph dr go good, (reg (by decide)).trans width, (reg (by decide)).trans active,
    (reg (by decide)).trans reversed, (reg (by decide)).trans skew, (reg (by decide)).trans (flits.trans flit), speed_rungDone _ p 1,
    ?_, ?_, ?_, ?_, ?_, fun q h => port_rungDone_agree_of_ne s p c 1 h⟩
  · rw [port]
  · rw [port, agreedPort, st]
  · rw [port, agreedPort]
  · rw [port, agreedPort]
  · rw [reg (by decide), protocols, bit_agreedProtocols]

theorem exec_configurationEnd_skewed {c : CfgResult} (hp : p < 256) (st : (s.port p).st = .training)
    (ph : (s.port p).phase = .polling) (dr : s.drudar p = false) (go : s.stepping p = true) (sk : 200 < c.skew) :
    ∃ u : State, exec (.configurationEnd p c) s = .next u ∧ (u.port p).st = .trainFail ∧ (u.port p).fails = (s.port p).fails + 1 ∧
      u.reg Obj.PORT_WIDTH p = 0 ∧ (∀ q, q ≠ p → u.port q = s.port q) := by
  have port := (trainFail_keptBut s p).port
  refine ⟨_, execConfigurationEnd_fails hp st ph dr go (.inr (.inr sk)), ?_, ?_, width_trainFail s p, fun q h => ?_⟩
  · rw [port, port_setPort_self, failedPort]
  · rw [port, port_setPort_self, failedPort]
  · rw [port, port_setPort_of_ne _ _ _ h]

theorem exec_linkLayerInit_other (hp : p < 256) (st : (s.port p).st = .training) (ph : (s.port p).phase = .linkInit)
    (dr : s.drudar p = false) (go : s.stepping p = true) (role : s.reg Obj.PORT_ROLE p ≠ 1) :
    ∃ v : State, exec (.linkLayerInit p) s = .next (v.raise 0x2001 0x20 1 p (s.linkUpData p)) ∧
      v.port p = s.upPort p ∧ (∀ q, q ≠ p → v.port q = s.port q) ∧
      (v.egr p).credit = egressDflt.credit ∧ (v.egr p).vtime = 0 ∧ s.SameRegs v [Obj.PORT_CELL_RATE, Obj.CBS_SLOPE_OPER] := by
  obtain ⟨v, raised, kept, credit, vtime⟩ := linkUp_eq_raise s p dr
  refine ⟨v, raised ▸ execLinkLayerInit_other hp st ph dr go role, ?_, fun q h => ?_, credit, vtime, kept.regs⟩
  · rw [kept.port, port_setPort_self]
  · rw [kept.port, port_setPort_of_ne _ _ _ h]

theorem exec_enumerationDone {e : EnumResult} (hp : p < 256) (st : (s.port p).st = .l0) (ph : (s.port p).phase = .enumerating)
    (dr : s.drudar p = false) (go : s.stepping p = true) :
    ∃ v : State, exec (.enumerationDone p e) s = .next (v.raise 0x2001 0x20 1 p (s.linkUpData p)) ∧
      v.port p = s.upPort p ∧ v.fab.enumd.get none (p, 0) = some e ∧ (∀ q, q ≠ p → v.port q = s.port q) ∧
      s.SameRegs v [Obj.PORT_CELL_RATE, Obj.CBS_SLOPE_OPER, Obj.LD_SIZE] := by
  have sizes := enumerated_keptBut s p e
  obtain ⟨v, raised, kept, -⟩ := linkUp_eq_raise (s.enumerated p e) p (by rw [drudar_enumerated, dr])
  rw [linkUpData_enumerated] at raised
  refine ⟨v, raised ▸ execEnumerationDone_eq hp st ph dr go, ?_, ?_, fun q h => ?_, fun o i other cause dropped => ?_⟩
  · rw [kept.port, port_setPort_self, upPort, sizes.port, port_setEnumd, upPort]
  · rw [kept.enumd, fab_setPort, sizes.enumd, enumd_setEnumd_self]
  · rw [kept.port, port_setPort_of_ne _ _ _ h, sizes.port, port_setEnumd]
  · simp only [List.mem_cons, List.not_mem_nil, or_false, not_or] at other
    obtain ⟨rate, slopes, size⟩ := other
    rw [kept.regs o i (by simp [rate, slopes]) cause dropped, reg_setPort, sizes.regs o i (by simp [size]) cause dropped,
      reg_setEnumd]

end

/-- Settles O24: the end of Configuration, of the link layer's initialization and of enumeration, each from what its command
answers. -/
theorem linkBringUp : Obligations.LinkBringUp := by
  unfold Obligations.LinkBringUp
  refine ⟨?_, ?_, ?_, ?_, ?_⟩
  · intro s p c w hp st ph dr go hw w0 sk any size mode
    exact exec_configurationEnd_agrees hp st ph dr go hw w0 sk any size mode
  · intro s p c hp st ph dr go sk
    exact exec_configurationEnd_skewed hp st ph dr go sk
  · intro s p hp st ph dr go role
    exact execLinkLayerInit_downstream hp st ph dr go role
  · intro s p hp st ph dr go role
    exact exec_linkLayerInit_other hp st ph dr go role
  · intro s p e hp st ph dr go
    exact exec_enumerationDone hp st ph dr go

end Sys2Proof.Machine
end

section
/-!
The obligation `ModeChangesOnlySo`: the mode that each way of running a command leaves, and the commands that run in each way.
-/

namespace Sys2Proof.Machine

open State

section

variable {s t : State} {f : State → State}

theorem mode_of_steady (h : steady s f = .next t) : t.mode = s.mode := by
  rw [steady_next] at h
  cases h
  rfl

theorem mode_of_burning (h : burning s f = .next t) : t.mode = s.mode := by
  unfold burning at h
  cases h
  rfl

theorem mode_of_modal {m : Mode} (h : modal m s f = .next t) : t.mode = m := by
  rw [modal_next] at h
  cases h
  rfl

/-- Where a command's mode hangs on a condition, it is the mode before it unless the condition held. -/
theorem mode_of_modal_ite {c : Bool} {m : Mode} (h : modal (if c then m else s.mode) s f = .next t) :
    t.mode = s.mode ∨ c = true ∧ t.mode = m := by
  have mode := mode_of_modal h
  cases c
  · exact .inl mode
  · exact .inr ⟨rfl, mode⟩

theorem mode_of_onUnit {n count : Nat} (h : onUnit n count s f = .next t) : t.mode = s.mode := by
  unfold onUnit at h
  split at h
  · exact mode_of_steady h
  · cases h

theorem mode_of_onFeed {ch feed : Nat} (h : onFeed ch feed s f = .next t) : t.mode = s.mode := by
  unfold onFeed at h
  split at h
  · split at h
    · exact mode_of_steady h
    · cases h
  · cases h

theorem mode_of_onEp {ep : Nat} (h : onEp ep s f = .next t) : t.mode = s.mode := by
  unfold onEp at h
  split at h
  · cases h
    rfl
  · cases h

theorem mode_of_writeCmd {x : Verdict} {ep o i : Nat} {b : List Byte} (h : writeCmd x ep o i b s = .next t) : t.mode = s.mode :=
  mode_of_onEp h

theorem mode_of_readCmd {ep o i : Nat} (h : readCmd ep o i s = .next t) : t.mode = s.mode := mode_of_onEp h

theorem mode_of_onFm {ep : Nat} (h : onFm ep s f = .next t) : t.mode = s.mode := mode_of_onEp h

/-- A command of firmware (port number 0xFFFF) or of a port. -/
theorem mode_of_steady_or_onUnit {p count : Nat} (h : (if p = 0xFFFF then steady s f else onUnit p count s f) = .next t) :
    t.mode = s.mode := by
  split at h
  · exact mode_of_steady h
  · exact mode_of_onUnit h

/-! ### The commands that can change the mode -/

theorem mode_of_watchdogExpiry {core : Nat} (h : execWatchdogExpiry core s = .next t) : t.mode = s.mode ∨ t.mode = .boot := by
  unfold execWatchdogExpiry at h
  split at h
  · exact (mode_of_modal_ite h).imp_right And.right
  · cases h

theorem mode_of_pmCommitPoint (h : execPmCommitPoint s = .next t) :
    t.mode = s.mode ∨ s.mayCommit = true ∧ t.mode = s.pm.target :=
  (mode_of_modal_ite (c := s.mayCommit && !s.supplyBad) h).imp_right (.imp_left fun c => (Bool.and_eq_true_iff.mp c).1)

theorem bootMode_eq (s : State) : s.bootMode = .active ∨ s.bootMode = .trim := by
  unfold bootMode
  dsimp only
  split
  · exact .inr rfl
  · exact .inl rfl

theorem mode_of_mayApply (h : s.mayApply = true) : s.mode = .boot := by
  simp only [mayApply, Bool.and_eq_true, beq_iff_eq] at h
  exact h.2

theorem mode_of_profileApplied (h : execProfileApplied s = .next t) :
    t.mode = s.mode ∨ s.mode = .boot ∧ (t.mode = .active ∨ t.mode = .trim) :=
  (mode_of_modal_ite h).imp_right fun ⟨may, mode⟩ => ⟨mode_of_mayApply may, mode ▸ bootMode_eq s⟩

end

/-- Settles O55: every command runs in one of the ways above, and only those that run in `modal` can change the mode. -/
theorem modeChangesOnlySo : Obligations.ModeChangesOnlySo := by
  unfold Obligations.ModeChangesOnlySo
  intro c s t h
  unfold exec at h
  cases c <;> dsimp only at h
  case resetNowDelayEnd | rstNAssert | supplyUndervoltage | wedgeResetDelayEnd =>
    exact (mode_of_modal_ite h).imp_right fun k => .inl ⟨k.2, .inl (by simp)⟩
  case powerOn | vddAonLoss => exact .inr (.inl ⟨mode_of_modal h, .inl (by simp)⟩)
  case watchdogExpiry core => exact (mode_of_watchdogExpiry h).imp_right fun k => .inl ⟨k, .inr ⟨core, rfl⟩⟩
  case pmCommitPoint => exact (mode_of_pmCommitPoint h).imp_right fun k => .inr (.inl ⟨rfl, k⟩)
  case wakeTrafficReady => exact (mode_of_modal_ite h).imp_right fun k => .inr (.inr (.inl ⟨rfl, k⟩))
  case profileApplied => exact (mode_of_profileApplied h).imp_right fun k => .inr (.inr (.inr ⟨rfl, k⟩))
  case resetRelease => exact .inl (mode_of_burning h)
  case rttEntryGrant | routeHoldRelease => exact .inl (mode_of_steady_or_onUnit h)
  case feedWindowExit | insertionTimerDone | gateTimeout | fastTrip | feedLost | feedRestored | fetShort =>
    exact .inl (mode_of_onFeed h)
  case schedTimeWrite | lanePrbsModeWrite | laneClearWrite | hgRebalanceWrite | histClearWrite | dirLookupWrite |
    dirSetClearWrite | agtReviveWrite | moveStart | flTagFillWrite | flTagProbeWrite | dmGoRead | dmGoWrite | chEnableWrite |
    chFaultClearWrite | chMeasClearWrite | pmEnterWrite | intCauseClrWrite | intEnableWrite | intGlobalEnWrite | intWakeEnWrite
    | smpReleaseWrite | cntValueWrite | cntOvfClrWrite | lcRequestWrite | fwChunkWrite | fwUpdateWrite | fwConfirmWrite |
    dbgResponseWrite | dbgDropWrite | dbgAllowWrite | ridgeHaltWrite | talusWindowNowWrite | talusCeilResetWrite |
    fetRebaseWrite | profStoreWrite | profChunkWrite | resetNowWrite =>
    exact .inl (mode_of_writeCmd h)
  case lcNonceRead | dbgChallengeRead => exact .inl (mode_of_readCmd h)
  case identifySwitchDevice | getPhysicalPortState | physicalPortControl | getVirtualCxlSwitchInfo | bindVppb | unbindVppb |
    getLdInfo | getLdAllocations | setLdAllocations | tunnelManagementCommand | fmApiUnsupported =>
    exact .inl (mode_of_onFm h)
  case mctpPacketRx | msgReassemblyTimeout | read | write | blockRead | blockWrite | readInstances | stageOpen | stageCommit |
    stageDiscard | lopAbort | subscribe | unsubscribe | evtFetch | opcodeUnknownRequest | eventSend | slotThresholdWrite |
    intRoutingWrite | cntConfigWrite =>
    exact .inl (mode_of_onEp h)
  case fabricTimeAdvance | ppsEdge | timeRefLost | timeFreqUpdate | slewEnd | timeSourceSwitch | timeHoldover | timeUnsync |
    timePpsOutStart | timePpsOutEnd | schedFire | firmwareEventStart | i3cEntdaa | stageIdleDiscard | tagReadDone |
    multicastEnqueue | didtGclWarnStart | didtGclWarnEnd | histSample | redirectFlashWritten | dmAccessEnd | pmQuiesceDone |
    pmQuiesceTimeout | pmUndoDone | trimEntryDone | serviceDrainDone | wakeStart | wakeTimer | vrSettled | pllLocked |
    rampChainClosed | hbmReady | didtWakeRelease | avsVoltageWrite | avsWriteTimeout | avsPoll | counterTick | fwVerifyDone |
    fwConfirmTimeout | spdmGetVersion | spdmGetCapabilities | spdmNegotiateAlgorithms | spdmGetDigests | spdmGetCertificate |
    spdmChallenge | spdmGetMeasurements | spdmKeyExchange | spdmFinish | spdmHeartbeat | spdmKeyUpdate | spdmEndSession |
    dbgIdleTimeout | tapInstructionLoad | talusMeasureDone | talusCommitPoint | hbmUnitRetired | talusApplyDone |
    talusRecordDone | feedRdsSample | profFlashStepDone | profStoreCommit | bootImageVerified | profileValidate |
    hbmTrainingDone | wedgeCheck | timeRefRestored | holdTimeAdvance | xt32Tick | dbgMailbox =>
    exact .inl (mode_of_steady h)
  all_goals exact .inl (mode_of_onUnit h)

end Sys2Proof.Machine
end

section
/-!
The obligation `BindingCommands`: a pending binding, the end of an unbind walk, and the configuration writes of a host.
-/

namespace Sys2Proof.Machine

open State

/-- A command on a unit that is there, whose function leaves the queue, the mode and the fuses alone, answers what it makes. -/
theorem onUnit_eq_next {n count : Nat} {s u : State} {f : State → State} (h : n < count) (e : f s = u)
    (p : u.pending = s.pending) (m : u.mode = s.mode) (q : u.sec.fuse = s.sec.fuse) : onUnit n count s f = .next u := by
  subst e
  rw [onUnit_eq s f h, steady_eq s f p m q]

namespace State

variable {s : State} {v : Nat} {b : Binding}

/-- vPPB `v` is BOUND under a new epoch of BIND, and its hot-plug is reported (R135). -/
def boundAnew (s : State) (v : Nat) : State :=
  ((s.setReg Obj.VPPB_STATE v 2).setReg Obj.BIND_EPOCH 0 ((s.reg Obj.BIND_EPOCH 0 + 1) % 2 ^ 32)).emit (.hotplug v true)

/-- A pending binding of a commit that has ended is done (R135). -/
theorem pendingBind_done (st : s.reg Obj.VPPB_STATE v = 1) (ld : s.ldPresent (s.reg Obj.VPPB_LD v) = true)
    (dr : s.draining 1 = false) (run : s.coreRuns 2 = true)
    (found : s.fab.bindings.find? (fun (b : Binding) => b.vppb == v && !b.unbind) = some b) (ended : b.lop = 0xFFFF) :
    s.pendingBind v =
      ({ s.boundAnew v with fab := { s.fab with bindings := s.fab.bindings.filter (fun (x : Binding) => x.vppb != v) } }).raise
        0x3101 0x31 1 v (v + 65536 * b.ld + 2 ^ 32 * 0xFFFF) := by
  unfold pendingBind
  dsimp only
  rw [if_pos ⟨st, ld, dr, run⟩, fab_emit, fab_setReg, fab_setReg, found]
  exact if_pos ended

/-- The handle of a commit that still drains keeps its binding (R135). -/
theorem pendingBind_open (st : s.reg Obj.VPPB_STATE v = 1) (ld : s.ldPresent (s.reg Obj.VPPB_LD v) = true)
    (dr : s.draining 1 = false) (run : s.coreRuns 2 = true)
    (found : s.fab.bindings.find? (fun (b : Binding) => b.vppb == v && !b.unbind) = some b) (drains : b.lop ≠ 0xFFFF) :
    s.pendingBind v = s.boundAnew v := by
  unfold pendingBind
  dsimp only
  rw [if_pos ⟨st, ld, dr, run⟩, fab_emit, fab_setReg, fab_setReg, found]
  exact if_neg drains

/-- The bindings of walk `k` with their windows walked. -/
def markWalked (k : Walk) (b : Binding) : Binding :=
  if b.lop = k.lop ∧ b.unbind = true ∧ b.vppb / 64 = k.part then { b with walked := true } else b

/-- The walk of window `w` is taken out and its bindings are marked (R136). -/
def walkOut (s : State) (w : Nat) (k : Walk) : State :=
  { s with fab := { s.fab with
      walks := s.fab.walks.filter (fun (x : Walk) => x.win != w), bindings := s.fab.bindings.map (markWalked k) } }

theorem walkEnd_eq {w : Nat} {k : Walk} (found : s.fab.walks.find? (fun (k : Walk) => k.win == w) = some k)
    (left : k.left.all (· == 0) = true) (todo : k.todo = []) (snoops : k.snoops = 0) (st : s.reg Obj.WIN_STATE w = 2) :
    s.walkEnd w = (s.walkOut w k).setReg Obj.WIN_STATE w 0 := by
  unfold walkEnd
  simp only [found]
  rw [if_neg (by simp [left, todo, snoops])]
  exact if_pos st

end State

section

variable {s : State} {v : Nat} {b : Binding}

theorem exec_pendingBindEffect (s : State) (v : Nat) : exec (.pendingBindEffect v) s = onUnit v 4096 s (fun t => t.pendingBind v) := rfl

theorem exec_unbindWalkEnd {w : Nat} {k : Walk} (hw : w < 4096)
    (found : s.fab.walks.find? (fun (k : Walk) => k.win == w) = some k) (left : k.left.all (· == 0) = true) (todo : k.todo = [])
    (snoops : k.snoops = 0) (st : s.reg Obj.WIN_STATE w = 2) :
    exec (.unbindWalkEnd w) s = .next ((s.walkOut w k).setReg Obj.WIN_STATE w 0) :=
  onUnit_eq_next hw (walkEnd_eq found left todo snoops st) rfl rfl rfl

/-- A binding of the walk's handle and partition reads walked. -/
theorem mem_bindings_walkOut {w : Nat} {k : Walk} (mem : b ∈ s.fab.bindings) (lop : b.lop = k.lop) (un : b.unbind = true)
    (part : b.vppb / 64 = k.part) : { b with walked := true } ∈ (s.walkOut w k).fab.bindings := by
  have marked : markWalked k b = { b with walked := true } := if_pos ⟨lop, un, part⟩
  exact marked ▸ List.mem_map_of_mem mem

/-- A host's write of a register of its vPPB `k` (R121). -/
theorem exec_hostConfigWrite {p n k : Nat} (reg : VppbReg) (value : Nat) (hp : p < 256) (part : s.hostPart p = some n) (hk : k < 64) :
    exec (.hostConfigWrite p k reg value) s = .next (match reg with
      | .busNumbers => { s with fab := { s.fab with vppbBus := s.fab.vppbBus.set 0 (64 * n + k, 0) value } }
      | .memoryWindow => { s with fab := { s.fab with vppbBus := s.fab.vppbBus.set 0 (64 * n + k, 1) value } }
      | .hdmDecoder => s) := by
  cases reg <;> exact onUnit_eq_next hp (by simp only [part]; exact if_neg (by omega)) rfl rfl rfl

end

/-- Settles O18: the two ends of a pending binding, the end of a walk, and the three registers that a host writes. -/
theorem bindingCommands : Obligations.BindingCommands := by
  unfold Obligations.BindingCommands
  refine ⟨?_, ?_, ?_, ?_⟩
  · intro s v b hv st ld dr run found ended
    rw [exec_pendingBindEffect]
    refine onUnit_eq_next hv (pendingBind_done st ld dr run found ended) ?_ ?_ ?_
    · rw [pending_raise]
      rfl
    · rw [mode_raise]
      rfl
    · rw [sec_raise]
      rfl
  · intro s v b hv st ld dr run found drains
    rw [exec_pendingBindEffect]
    exact onUnit_eq_next hv (pendingBind_open st ld dr run found drains) rfl rfl rfl
  · intro s w k hw found left todo snoops st
    refine ⟨_, exec_unbindWalkEnd hw found left todo snoops st, reg_setReg_self _ _ _ _, rfl, fun b => mem_bindings_walkOut,
      fun o i other => ?_, rfl, rfl, rfl⟩
    rw [reg_setReg_of_ne _ _ _ _ other]
    rfl
  · intro s p n k value hp part hk
    exact ⟨exec_hostConfigWrite .busNumbers value hp part hk, exec_hostConfigWrite .memoryWindow value hp part hk,
      exec_hostConfigWrite .hdmDecoder value hp part hk⟩

end Sys2Proof.Machine
end

section
/-!
SUPPORT. Arrival of a message (R11, R12, R114, R155, R156): what its first cell leaves alone, where a fabric ID leads, what follows for
a message that Flint does not check, and what taking a tracking entry writes.
-/

namespace Sys2Proof.Machine

/-- A table without key `k` gains one entry by a write there. -/
theorem Tbl.countP_set_new {α : Type} [DecidableEq α] {t : Tbl α} {d v : α} {k : Key} (q : Key × α → Bool)
    (n : ∀ e ∈ t, e.1 ≠ k) (ne : v ≠ d) : (t.set d k v).countP q = t.countP q + if q (k, v) then 1 else 0 := by
  have count_insert (e : Key × α) (l : Tbl α) : (Tbl.insert e l).countP q = (e :: l).countP q := by
    induction l with
    | nil => rfl
    | cons x r ih =>
      unfold Tbl.insert
      split
      · rw [List.countP_cons, ih, List.countP_cons, List.countP_cons, List.countP_cons]
        omega
      · rfl
  have absent : t.erase k = t := List.filter_eq_self.mpr fun e mem => by simpa using n e mem
  unfold Tbl.set
  rw [if_neg ne, absent, count_insert, List.countP_cons]

/-- The lowest free number above a run of used ones. -/
theorem firstFree_range' {α : Type} (x : α) (i n : Nat) :
    firstFree ((List.range' i n).map fun k => ((k, 0), x)) i = i + n := by
  induction n generalizing i with
  | zero => rfl
  | succ n ih =>
    rw [List.range'_succ, List.map_cons, firstFree, if_pos rfl, ih]
    omega

theorem bit_setBit (v b : Nat) : bit (setBit v b) b = true := by
  unfold setBit
  split
  case isTrue h => exact h
  case isFalse h =>
    unfold bit at h ⊢
    rw [Nat.add_div_right _ (Nat.two_pow_pos b)]
    simp only [beq_iff_eq] at h ⊢
    omega

namespace State

/-! ### The first cell -/

/-- `t` has the objects, ports and clock of `s`, and its requests that wait or hold an entry. -/
structure KeepsTables (s t : State) : Prop where
  regs : t.regs = s.regs
  ports : t.link.ports = s.link.ports
  clk : t.clk = s.clk
  rtt : t.fab.rtt = s.fab.rtt
  rttWait : t.fab.rttWait = s.fab.rttWait
  moved : t.fab.moved = s.fab.moved
  hold : t.fab.hold = s.fab.hold

section

variable {s t u : State}

theorem KeepsTables.trans (h : s.KeepsTables t) (k : t.KeepsTables u) : s.KeepsTables u :=
  ⟨k.regs.trans h.regs, k.ports.trans h.ports, k.clk.trans h.clk, k.rtt.trans h.rtt, k.rttWait.trans h.rttWait,
    k.moved.trans h.moved, k.hold.trans h.hold⟩

theorem KeepsTables.reg (h : s.KeepsTables t) (o i : Nat) : t.reg o i = s.reg o i := by rw [State.reg, h.regs, State.reg]

theorem KeepsTables.dlUp (h : s.KeepsTables t) (p : Nat) : t.dlUp p = s.dlUp p := by
  unfold State.dlUp port
  rw [h.ports]

theorem KeepsTables.rttShared (h : s.KeepsTables t) : t.rttShared = s.rttShared := by
  unfold State.rttShared enabledPorts flag
  simp only [h.reg]

theorem KeepsTables.rttUsed (h : s.KeepsTables t) (p : Nat) : t.rttUsed p = s.rttUsed p := by
  unfold State.rttUsed
  rw [h.rtt]

theorem KeepsTables.rttSharedUsed (h : s.KeepsTables t) : t.rttSharedUsed = s.rttSharedUsed := by
  unfold State.rttSharedUsed
  simp only [h.rttUsed, h.reg]

theorem KeepsTables.rttRoom (h : s.KeepsTables t) (p : Nat) : t.rttRoom p = s.rttRoom p := by
  unfold State.rttRoom
  simp only [h.rttShared, h.rttSharedUsed, h.rttUsed, h.reg]

theorem setDru_keepsTables (s : State) (p : Nat) (x : Dru) : s.KeepsTables (s.setDru p x) := ⟨rfl, rfl, rfl, rfl, rfl, rfl, rfl⟩

theorem refl_keepsTables (s : State) : s.KeepsTables s := ⟨rfl, rfl, rfl, rfl, rfl, rfl, rfl⟩

theorem takeFlit_keepsTables (s : State) (p : Nat) : s.KeepsTables (s.takeFlit p) := by
  unfold takeFlit
  split
  · exact setDru_keepsTables s p _
  · exact refl_keepsTables s

theorem noteSkid_keepsTables (s : State) (m : Msg) : s.KeepsTables (s.noteSkid m) := by
  unfold noteSkid
  split
  · exact setDru_keepsTables s m.inPort _
  · exact refl_keepsTables s

/-- The first cell of a chain follows no other. -/
theorem newCell_noCell (s : State) (c : Cell) : (s.newCell c noCell).2 = s.setCell (firstFree s.fab.cells 0) (some c) := by
  unfold newCell
  dsimp only
  split
  · rw [if_pos rfl]
  · rfl

theorem firstCell_keepsTables (s : State) (m : Msg) : s.KeepsTables (s.firstCell m) := by
  unfold firstCell
  dsimp only
  rw [newCell_noCell]
  exact ⟨rfl, rfl, rfl, rfl, rfl, rfl, rfl⟩

end

/-- The state in which message `a`, whose first cell has been written at port `p`, comes to stage 2. -/
def arrived (s : State) (p : Nat) (a : MsgIn) : State := ((s.takeFlit p).firstCell (s.parse p a)).noteSkid (s.parse p a)

section

variable {s : State} {p : Nat} {a : MsgIn}

theorem arrived_keepsTables (s : State) (p : Nat) (a : MsgIn) : s.KeepsTables (s.arrived p a) :=
  ((takeFlit_keepsTables s p).trans (firstCell_keepsTables _ _)).trans (noteSkid_keepsTables _ _)

theorem parse_takeFlit (s : State) (p : Nat) (a : MsgIn) : (s.takeFlit p).parse p a = s.parse p a := by
  unfold takeFlit
  split <;> rfl

theorem cutShort_none {c : Nat} (h : s.inMsg p c = none) : (s.takeFlit p).cutShort p c = s.takeFlit p := by
  have idle : (s.takeFlit p).inMsg p c = none := by
    rw [← h]
    unfold takeFlit
    split <;> rfl
  unfold cutShort
  rw [idle]

/-- A whole message that is not stomped goes from its first cell to stage 2 (R11). -/
theorem ingress_of_arrives (h : s.Arrives p a) :
    s.ingress p a = (s.arrived p a).afterStage2 ((s.arrived p a).stage2 (s.parse p a) a) := by
  obtain ⟨-, ⟨up, here, clean⟩, -, idle⟩ := h
  unfold ingress
  rw [if_neg (by simp [up, here])]
  dsimp only
  rw [cutShort_none idle, parse_takeFlit, clean, if_neg (by decide)]
  rfl

end

/-! ### Stages 2 and 3 -/

section

variable {s : State} {m : Msg} {a : MsgIn}

/-- The record that stage 2 makes of a message that has no pool address (R114, R131). -/
def recorded (s : State) (m : Msg) (a : MsgIn) : Msg :=
  { m with eRoute := s.reg Obj.ROUTE_EPOCH 0, eBind := s.reg Obj.BIND_EPOCH 0, eFl := s.reg Obj.FL_EPOCH 0
           home := noPool, pool := noPool, dpa := a.addr }

/-- A fabric ID that no LD has leads to its route entry (R114). -/
theorem stage2_of_noLd (peer : s.cacheDevice m.inPort = false ∨ 64 ≤ a.p2pPart) (noLd : s.ldOfFid m.dst = none)
    (chan : cacheChan a.chan = false) (fid : a.byFid = true) : s.stage2 m a = s.lookupRoute (s.recorded m a) := by
  have allowed (e b f : Nat) : s.peerRefused { m with eRoute := e, eBind := b, eFl := f } a = false := by
    unfold peerRefused
    simp only [noLd, Bool.and_false, Bool.or_false, Bool.and_eq_false_imp, decide_eq_true_eq]
    intro dev other
    rcases peer with h | h
    · rw [h] at dev
      cases dev
    · omega
  unfold stage2
  dsimp only
  rw [allowed, chan, fid, noLd]
  simp [recorded]

/-- A route entry of KIND 1 that names a port DL_Up (R114). -/
theorem lookupRoute_direct {q : Nat} (src : m.src ≠ 0xFFFF) (dst : m.dst ≠ 0xFFFF)
    (own : m.dst < s.reg Obj.FID_BASE 0 ∨ s.reg Obj.FID_BASE 0 + 32 ≤ m.dst) (kind : field (s.reg Obj.ROUTE_ENTRY m.dst) 10 2 = 1)
    (port : field (s.reg Obj.ROUTE_ENTRY m.dst) 0 8 = q) (other : q ≠ m.inPort) (up : s.dlUp q = true)
    (chan : cacheChan m.chan = false) : s.lookupRoute m = .to { m with egress := q, bucket := 65536 } := by
  unfold lookupRoute
  simp only [src, dst, kind, port, other, up, chan]
  rw [if_neg (by simp), if_neg (by omega)]
  simp

theorem afterStage2_to (s : State) (m : Msg) : s.afterStage2 (.to m) = s.routed m := rfl

/-- What Flint does not check, and no move or swap holds, comes to take its entry at once (R12, R132, R240). -/
theorem routed_unchecked (free : flintChecks m = false) (plain : m.coherent = false) (moved : s.fab.moved = [])
    (hold : s.fab.hold.row (rttPort m) = []) : s.routed m = s.track m := by
  have notTwo : levelTwo m = false := by simp [levelTwo, free]
  have same : { m with coherent := levelTwo m && m.ld < 4096 && s.coherentAt m.home } = m := by
    rw [notTwo, Bool.false_and, Bool.false_and, ← plain]
  have notFrozen : s.frozen m = false := by
    unfold frozen
    split
    · rfl
    · simp only [notTwo, Bool.and_false, Bool.false_and]
  have calm (k : Key) : s.movedActive k = false := by
    unfold movedActive
    rw [moved]
    rfl
  have notHeld : s.moveHeld m = false := by simp [moveHeld, calm, hold]
  unfold routed
  dsimp only
  rw [same, notFrozen, notHeld]
  rfl

/-- A non-posted request that nothing precedes takes a free entry (R12, R155). -/
theorem track_takes (plain : m.coherent = false) (kind : m.kind = .request) (first : s.rttWaiters (rttPort m) = [])
    (room : s.rttRoom (rttPort m) = true) : s.track m = (s.takeRtt m).2.flint (s.takeRtt m).1 := by
  unfold track
  rw [if_neg (by simp [untracked, plain, kind]), if_pos (by simp [mayTrack, first, room])]

/-! ### Joining an output queue -/

theorem regs_accrue (s : State) (p : Nat) : (s.accrue p).regs = s.regs := by
  unfold accrue
  dsimp only
  split
  · rfl
  · exact regs_setEgr s p _

theorem regs_returnCredit (s : State) (p u : Nat) : (s.returnCredit p u).regs = s.regs := by
  unfold returnCredit
  split
  · rfl
  · split
    · rfl
    · unfold sendCredit
      split <;> rfl

theorem regs_tryShare (s : State) (i : Nat) : (s.tryShare i).regs = s.regs := by
  unfold tryShare
  split
  · rfl
  · split
    · rfl
    · split
      · exact regs_returnCredit _ _ _
      · rfl

theorem regs_appendDesc (s : State) (m : Msg) (ch : Chain) : (s.appendDesc m ch).regs = s.regs := by
  unfold appendDesc
  dsimp only
  refine foldS_keeps (fun (t : State) => t.regs = s.regs) _ (fun i t kept => ?_) _ _ ?_
  · split
    · exact (regs_tryShare _ i).trans kept
    · exact kept
  · rw [regs_setQueue, regs_setDesc]
    split
    · exact regs_accrue s m.egress
    · rfl

theorem regs_releaseMsg (outer : m.internal = false) : (s.releaseMsg m).regs = s.regs := by
  unfold releaseMsg
  split
  · exact regs_appendDesc s m _
  · rw [outer]
    rfl

/-- A message of a port that Flint does not check writes no object on its way on. -/
theorem regs_flint_unchecked (free : flintChecks m = false) (plain : m.coherent = false) (outer : m.internal = false) :
    (s.flint m).regs = s.regs := by
  have notTwo : levelTwo m = false := by simp [levelTwo, free]
  unfold flint
  simp only [free, notTwo, Bool.false_and, Bool.false_eq_true, if_false, List.isEmpty_nil, if_true]
  split
  · rfl
  · unfold stage3 forward
    simp only [notTwo, Bool.not_false, Bool.true_or, if_true, plain, Bool.false_eq_true, if_false]
    exact regs_releaseMsg outer

end

/-! ### Taking an entry -/

section

variable {s : State} {m : Msg}

theorem reg_sampleInt (s : State) (n o i : Nat) : (s.sampleInt n).reg o i = s.reg o i := by
  unfold sampleInt
  split <;> rfl

theorem bit_setCause {code source inst n b : Nat} (src : intSource code source inst = some (n, b)) :
    bit ((s.setCause code source inst).reg Obj.INT_CAUSE n) b = true := by
  unfold setCause
  rw [src]
  dsimp only
  rw [reg_sampleInt, reg_setReg_self, bit_setBit]

theorem reg_enqueueRec (s : State) (ep : Nat) (r : EvtRec) {o : Nat} (i : Nat) (h : o ≠ Obj.EVT_DROPPED) :
    (s.enqueueRec ep r).reg o i = s.reg o i := by
  have reg_bump : (s.bump Obj.EVT_DROPPED ep).reg o i = s.reg o i := reg_setReg_of_ne s _ _ _ fun e => h (Prod.mk.inj e).1
  unfold enqueueRec
  dsimp only
  split
  · rw [reg_sampleInt]
    split
    · rfl
    · exact reg_bump
  · split
    · rfl
    · exact reg_bump

/-- Every event sets the cause bit of its code, also one that is held back (R310). -/
theorem bit_raiseLimited {ns key code source sev inst data n b : Nat} (src : intSource code source inst = some (n, b)) :
    bit ((s.raiseLimited ns key code source sev inst data).reg Obj.INT_CAUSE n) b = true := by
  unfold raiseLimited
  dsimp only
  split
  · unfold raise
    refine foldS_keeps (fun (t : State) => bit (t.reg Obj.INT_CAUSE n) b = true) _ (fun ep t kept => ?_) _ _ (bit_setCause src)
    dsimp only
    split
    · rw [reg_enqueueRec t ep _ n (by decide)]
      exact kept
    · exact kept
  · exact bit_setCause src

/-- The entry of request `m` is written (R155). -/
def withEntry (s : State) (m : Msg) : State :=
  s.setRtt (firstFree s.fab.rtt 0) (some
    { port := rttPort m, egress := m.egress, at_ := s.clk, orphan := false, synth := false, claimed := false
      msg := { m with trk := false, track := firstFree s.fab.rtt 0 } })

/-- The last shared entry is taken with RTT_EXHAUSTED: bit 2 of source 902 (R156). -/
theorem bit_takeRtt_last (before : s.rttSharedUsed < s.rttShared)
    (after : (s.withEntry m).rttShared ≤ (s.withEntry m).rttSharedUsed) :
    bit ((s.takeRtt m).2.reg Obj.INT_CAUSE 902) 2 = true := by
  unfold takeRtt
  dsimp only
  rw [if_pos ⟨before, after⟩]
  exact bit_raiseLimited (by simp [intSource])

theorem rttUsed_eq_countP (s : State) (p : Nat) : s.rttUsed p = s.fab.rtt.countP fun e => e.2.any (·.port == p) := by
  unfold rttUsed
  rw [← Nat.zero_add (List.countP _ _)]
  generalize s.fab.rtt = l, 0 = n
  induction l generalizing n with
  | nil => rfl
  | cons e r ih =>
    rw [List.foldl_cons, ih, List.countP_cons]
    obtain ⟨k, _ | x⟩ := e
    · simp
    · by_cases h : x.port = p
      · simp [h]
        omega
      · simp [h]

theorem rttUsed_withEntry (new : ∀ e ∈ s.fab.rtt, e.1 ≠ (firstFree s.fab.rtt 0, 0)) (p : Nat) :
    (s.withEntry m).rttUsed p = s.rttUsed p + if rttPort m = p then 1 else 0 := by
  rw [rttUsed_eq_countP, rttUsed_eq_countP]
  unfold withEntry setRtt
  dsimp only
  rw [Tbl.countP_set_new _ new (by simp)]
  simp

end

end State

end Sys2Proof.Machine
end

section
/-!
The obligation `MessagesArrive` fails in its third clause: a non-posted message that takes the last shared tracking entry raises
RTT_EXHAUSTED (R156), which sets a cause bit of interrupt source 902, so that the objects do not all stay as they were.
-/

namespace Sys2Proof.Machine

open State

theorem regs_of_onUnit {n count : Nat} {s t : State} {f : State → State} (h : onUnit n count s f = .next t) :
    t.regs = (f s).regs := by
  unfold onUnit at h
  split at h
  · rw [steady_next] at h
    cases h
    rfl
  · cases h

/-- The premises of the clause: a configuration request by fabric ID `k`, routed to port `q`, which nothing holds back. -/
structure State.TakesEntry (s : State) (p q k : Nat) (a : MsgIn) : Prop where
  here : s.Arrives p a
  chan : a.chan = .ioNonPosted
  op : a.op = .ioConfig
  byFid : a.byFid = true
  peer : s.cacheDevice p = false ∨ 64 ≤ a.p2pPart
  fid : s.fidIn p a.dstFid = k
  noLd : ∀ ld ∈ s.ldsKnown, s.reg Obj.LD_FID ld ≠ k
  route : s.RoutedTo p k q (s.parse p a).src
  moved : s.fab.moved = []
  hold : s.fab.hold.row p = []
  room : s.rttRoom p = true

section

variable {s : State} {p q k : Nat} {a : MsgIn}

/-- Stage 2 sends a message whose fabric ID no LD has by its route entry, as it was parsed but for what routing records. -/
theorem stage2_arrived (h : s.TakesEntry p q k a) :
    ∃ m : Msg, (s.arrived p a).stage2 (s.parse p a) a = .to m ∧ m.kind = .request ∧ m.op = a.op ∧ rttPort m = p ∧
      m.coherent = false ∧ m.internal = false := by
  obtain ⟨-, chan, -, byFid, peer, rfl, noLd, ⟨src, dst, own, kind, port, other, up, -⟩, -, -, -⟩ := h
  have kept := arrived_keepsTables s p a
  have ldOf : (s.arrived p a).ldOfFid (s.fidIn p a.dstFid) = none := by
    unfold ldOfFid ldsKnown
    rw [kept.regs]
    exact List.find?_eq_none.mpr fun ld mem => by simpa [kept.reg] using noLd ld mem
  have dev : (s.arrived p a).cacheDevice p = s.cacheDevice p := by
    unfold cacheDevice
    rw [kept.reg, kept.reg]
  have named : (s.parse p a).dst = s.fidIn p a.dstFid := rfl
  rw [← named] at ldOf dst own kind port
  rw [← kept.reg] at own kind port
  rw [← kept.dlUp] at up
  have noCache : cacheChan a.chan = false := by simp [chan, cacheChan]
  have request : (s.parse p a).kind = .request := by simp [parse, chan]
  have route : (s.arrived p a).lookupRoute ((s.arrived p a).recorded (s.parse p a) a) = .to _ :=
    lookupRoute_direct src dst own kind port other up noCache
  rw [← dev] at peer
  exact ⟨_, (stage2_of_noLd (m := s.parse p a) peer ldOf noCache byFid).trans route, request, rfl, rfl, rfl, rfl⟩

/-- Under the premises of the clause the message takes an entry, and only that can write an object. -/
theorem State.TakesEntry.regs_ingress (h : s.TakesEntry p q k a) :
    ∃ m : Msg, rttPort m = p ∧ (s.ingress p a).regs = ((s.arrived p a).takeRtt m).2.regs := by
  have kept := arrived_keepsTables s p a
  obtain ⟨m, onward, kind, sameOp, port, plain, outer⟩ := stage2_arrived h
  obtain ⟨-, -, -, -, -, -, -, waits, -⟩ := h.route
  have free : flintChecks m = false := by simp [flintChecks, sameOp, h.op]
  have row : (s.arrived p a).fab.hold.row (rttPort m) = [] := by rw [port, kept.hold, h.hold]
  have first : (s.arrived p a).rttWaiters (rttPort m) = [] := by rw [port, rttWaiters, kept.rttWait, waits]
  have space : (s.arrived p a).rttRoom (rttPort m) = true := by rw [port, kept.rttRoom, h.room]
  refine ⟨m, port, ?_⟩
  rw [ingress_of_arrives h.here, onward, afterStage2_to, routed_unchecked free plain (kept.moved.trans h.moved) row,
    track_takes plain kind first space]
  exact regs_flint_unchecked (m := ((s.arrived p a).takeRtt m).1) free plain outer

/-- When it takes the last shared entry, a cause bit is set (R156, R310). -/
theorem State.TakesEntry.bit_messageIngress {u : State} (h : s.TakesEntry p q k a) (before : s.rttSharedUsed < s.rttShared)
    (last : ∀ (t : State) (m : Msg), s.KeepsTables t → rttPort m = p → (t.withEntry m).rttShared ≤ (t.withEntry m).rttSharedUsed)
    (runs : exec (.messageIngress p a) s = .next u) : bit (u.reg Obj.INT_CAUSE 902) 2 = true := by
  have kept := arrived_keepsTables s p a
  obtain ⟨m, port, regs⟩ := h.regs_ingress
  have same : u.regs = ((s.arrived p a).takeRtt m).2.regs := (regs_of_onUnit runs).trans regs
  rw [← kept.rttSharedUsed, ← kept.rttShared] at before
  have raised := bit_takeRtt_last before (last _ m kept port)
  rwa [reg, ← same] at raised

end

/-! ### The counterexample -/

/-- A configuration request of one flit to fabric ID 900. -/
def lastRequest : MsgIn :=
  { chan := .ioNonPosted, op := .ioConfig, addr := 4096, srcFid := 7, dstFid := 900, byFid := true, tag := 3, bytes := 4, len := 1
    cls := 0, rcnt := 0, poison := false, stomp := false, whole := false, p2pPart := 64, data := [] }

/-- A tracking entry of an internal requester (R155). -/
def innerEntry : Rtt :=
  { port := 0xFFFF, egress := 16, at_ := 0, orphan := false, synth := false, claimed := false, msg := { msgDflt with egress := 16 } }

/-- A part in ACTIVE with ports 8 and 16 DL_Up, fabric ID 900 routed to port 16, and no tracking entry reserved to a port: of the 65 536
shared ones, internal requesters hold all but the last. -/
def oneEntryLeft : State :=
  let up : Port := { portDflt with st := .l0, dlUp := true }
  let s := (((State.reset.setPort 8 up).setPort 16 up).setReg Obj.RTT_PORT_MIN 0 0).setReg Obj.ROUTE_ENTRY 900 (2 ^ 10 + 16)
  { s with mode := .active, fab := { s.fab with rtt := (List.range' 0 65535).map fun n => ((n, 0), some innerEntry) } }

theorem oneEntryLeft_arrives : oneEntryLeft.Arrives 8 lastRequest := by
  unfold Arrives FlitGood
  decide +kernel

theorem oneEntryLeft_routedTo : oneEntryLeft.RoutedTo 8 900 16 (oneEntryLeft.parse 8 lastRequest).src := by
  unfold RoutedTo
  decide +kernel

theorem oneEntryLeft_limits : oneEntryLeft.reg Obj.RTT_PORT_MIN 0 = 0 ∧ oneEntryLeft.reg Obj.RTT_PORT_MAX 0 = 8192 := by
  decide +kernel

theorem oneEntryLeft_clear : oneEntryLeft.reg Obj.INT_CAUSE 902 = 0 := by decide +kernel

theorem oneEntryLeft_noLd : ∀ ld ∈ oneEntryLeft.ldsKnown, oneEntryLeft.reg Obj.LD_FID ld ≠ 900 := by decide +kernel

theorem rttShared_oneEntryLeft : oneEntryLeft.rttShared = 65536 := by
  rw [rttShared, oneEntryLeft_limits.1, Nat.zero_mul]

theorem rttUsed_oneEntryLeft (p : Nat) : oneEntryLeft.rttUsed p = if p = 0xFFFF then 65535 else 0 := by
  have table : oneEntryLeft.fab.rtt = (List.range' 0 65535).map fun n => ((n, 0), some innerEntry) := rfl
  rw [rttUsed_eq_countP, table, List.countP_map]
  split
  case isTrue h => simp [innerEntry, h, Function.comp_def]
  case isFalse h => simp [innerEntry, Ne.symm h, Function.comp_def]

theorem rttSharedUsed_oneEntryLeft : oneEntryLeft.rttSharedUsed = 65535 := by
  unfold rttSharedUsed
  simp only [rttUsed_oneEntryLeft, oneEntryLeft_limits.1]
  decide +kernel

theorem oneEntryLeft_rttRoom : oneEntryLeft.rttRoom 8 = true := by
  unfold rttRoom
  rw [rttSharedUsed_oneEntryLeft, rttShared_oneEntryLeft, rttUsed_oneEntryLeft, oneEntryLeft_limits.2]
  simp

/-- A request of port 8 takes the last shared entry. -/
theorem rttShared_le_withEntry {t : State} {m : Msg} (kept : oneEntryLeft.KeepsTables t) (port : rttPort m = 8) :
    (t.withEntry m).rttShared ≤ (t.withEntry m).rttSharedUsed := by
  have table : t.fab.rtt = (List.range' 0 65535).map fun n => ((n, 0), some innerEntry) := kept.rtt
  have next : firstFree t.fab.rtt 0 = 65535 := by rw [table, firstFree_range']
  have new : ∀ e ∈ t.fab.rtt, e.1 ≠ (firstFree t.fab.rtt 0, 0) := by
    rw [next, table]
    intro e mem same
    obtain ⟨n, used, rfl⟩ := List.mem_map.mp mem
    have below := (List.mem_range'_1.mp used).2
    have top : n = 65535 := (Prod.mk.inj same).1
    omega
  have min : (t.withEntry m).reg Obj.RTT_PORT_MIN 0 = 0 := (kept.reg _ _).trans oneEntryLeft_limits.1
  have shared : (t.withEntry m).rttShared = 65536 := by rw [rttShared, min, Nat.zero_mul]
  rw [shared]
  unfold rttSharedUsed
  simp only [rttUsed_withEntry new, kept.rttUsed, rttUsed_oneEntryLeft, port, min]
  decide +kernel

theorem oneEntryLeft_takesEntry : oneEntryLeft.TakesEntry 8 16 900 lastRequest where
  here := oneEntryLeft_arrives
  chan := rfl
  op := rfl
  byFid := rfl
  peer := .inr (by decide)
  fid := by decide +kernel
  noLd := oneEntryLeft_noLd
  route := oneEntryLeft_routedTo
  moved := rfl
  hold := rfl
  room := oneEntryLeft_rttRoom

/-- Refutes O30: `lastRequest` meets every premise of the third clause in `oneEntryLeft`, and sets a bit of INT_CAUSE of source 902. -/
theorem not_messagesArrive : ¬ Obligations.MessagesArrive := by
  unfold Obligations.MessagesArrive
  rintro ⟨-, -, clause, -⟩
  have takes := oneEntryLeft_takesEntry
  have before : oneEntryLeft.rttSharedUsed < oneEntryLeft.rttShared := by
    rw [rttSharedUsed_oneEntryLeft, rttShared_oneEntryLeft]
    decide
  obtain ⟨u, -, -, runs, -, -, -, -, -, -, -, -, same⟩ := clause oneEntryLeft 8 16 900 lastRequest takes.here takes.chan takes.op
    takes.byFid takes.peer takes.fid takes.noLd takes.route takes.moved takes.hold takes.room
  have raised := takes.bit_messageIngress before (fun t m => rttShared_le_withEntry) runs
  have still : u.reg Obj.INT_CAUSE 902 = 0 := by
    rw [reg, same]
    exact oneEntryLeft_clear
  rw [still] at raised
  exact absurd raised (by decide)

end Sys2Proof.Machine
end

section
/-!
SUPPORT. What a command with no unit answers, and what the operations of fabric time make of the state: the counter's advance, the entry to
HOLDOVER, and an exchange in FREE_RUN (R25, R26, R33, R409).
-/

namespace Sys2Proof.Machine

/-- A command whose function leaves the queue, the mode and the fuses alone answers what that makes. -/
theorem steady_eq_next {s u : State} {f : State → State} (e : f s = u) (p : u.pending = s.pending) (m : u.mode = s.mode)
    (q : u.sec.fuse = s.sec.fuse) : steady s f = .next u := by
  subst e
  exact steady_eq s f p m q

namespace State

/-! `setTime` writes `time` alone. -/
section

variable (s : State) (x : TimeSt)

@[simp] theorem pending_setTime : (s.setTime x).pending = s.pending := rfl
@[simp] theorem mode_setTime : (s.setTime x).mode = s.mode := rfl
@[simp] theorem sec_setTime : (s.setTime x).sec = s.sec := rfl
@[simp] theorem clk_setTime : (s.setTime x).clk = s.clk := rfl
@[simp] theorem dict_setTime : (s.setTime x).dict = s.dict := rfl
@[simp] theorem time_setTime : (s.setTime x).time = x := rfl

end

/-- Events stay events where both states are given the same fabric time. -/
theorem EventOnly.setTime {s t : State} (h : EventOnly s t) (x : TimeSt) : EventOnly (s.setTime x) (t.setTime x) :=
  ⟨congrArg (State.setTime · x) h.1, h.2⟩

/-- The counter after a forward advance. -/
theorem addCtr_natCast (s : State) (d : Nat) : s.addCtr (d : Int) = s.setTime { s.time with ctr := (s.time.ctr + d) % 2 ^ 96 } := by
  unfold addCtr
  rw [← Int.natCast_add, ← Int.natCast_mod, Int.toNat_natCast]

/-- With no offset to remove, the counter advances by the disciplined increment alone (R25). -/
theorem tickFabric_of_slew_eq_zero (s : State) (n : Nat) (h : s.time.slew = 0) :
    s.tickFabric n = s.setTime { s.time with
      ctr := (s.time.ctr + n * scaled fclkUnit s.time.y) % 2 ^ 96, slots := s.stampDue n } := by
  unfold tickFabric
  simp only [h, Int.natAbs_zero, Nat.min_zero, Nat.cast_zero, lt_irrefl, if_false, add_zero, sub_zero, addCtr_natCast]
  rw [time_setTime, ← h]
  rfl

/-- The state that enters HOLDOVER: the slew ends, and the uncertainty is kept with the time of entry (R33, R34). -/
def heldOver (s : State) : State :=
  s.setTime { s.time with slew := 0, slewing := false, st := .holdover, uncBase := s.timeUnc, uncSince := s.clk }

theorem enterHoldover_eq_raise (s : State) (cause : Nat) :
    s.enterHoldover cause = s.heldOver.raise 0xE002 0xE0 2 0xFFFF cause := rfl

/-- An exchange in FREE_RUN that makes no step starts a slew over the whole offset and moves to LOCKING (R26, R33, R409). -/
theorem exchange_freeRun (s : State) (off : Int) (st : s.time.st = .freeRun) (near : s.stepsBy off = false) :
    s.exchange off = s.setTime { s.time with
      y := s.newRate off false, lastExch := some s.clk, noFreq := false, st := .locking, lockCount := 0
      slew := off, slewing := off != 0 } := by
  unfold exchange
  simp only [st, near, Bool.false_eq_true, if_false]
  rfl

/-- A PPS edge of a grandmaster is an exchange with the offset of its time from the counter (R28). -/
theorem ppsIn_eq_exchange (s : State) (clock : s.ridgeClock = true) (role : s.reg Obj.TIME_ROLE 0 = 1) :
    s.ppsIn = (s.setTime { s.time with edge := some s.edgeTime, edgeClk := s.clk, edgeGap := false, secNext := none }).exchange
      (((s.edgeTime * nsUnit : Nat) : Int) - (s.time.ctr : Int)) := by
  unfold ppsIn
  exact if_neg (by simp [clock, role])

end State

end Sys2Proof.Machine
end

section
/-!
The obligations on fabric time: `TimeCounterAdvances`, `TimeLoopCommands`, `TimeStateTransitions` and `TimeEdgesAndRequests`.
-/

namespace Sys2Proof.Machine

open State

section

variable {s : State}

/-! ### The counter -/

theorem exec_fabricTimeAdvance {n : Nat} (clock : s.ridgeClock = true) (rst : s.rst.step ≠ .inReset) (slew : s.time.slew = 0) :
    exec (.fabricTimeAdvance n) s = .next { s with
      clk := s.clk + n * fclkUnit
      time := { s.time with ctr := (s.time.ctr + n * scaled fclkUnit s.time.y) % 2 ^ 96, slots := s.stampDue n } } := by
  change execFabricTimeAdvance n s = _
  refine steady_eq_next ?_ rfl rfl rfl
  simp only [clock, rst, if_false, Bool.true_eq_false, tickFabric_of_slew_eq_zero s n slew]
  rfl

theorem exec_holdTimeAdvance {n : Nat} (mode : s.mode = .hold) : exec (.holdTimeAdvance n) s = .next { s with
    clk := s.clk + n * refclkUnit
    time := { s.time with ctr := (s.time.ctr + n * scaled refclkUnit s.time.y) % 2 ^ 96 } } :=
  steady_eq_next ((if_pos mode).trans (addCtr_natCast _ _)) rfl rfl rfl

theorem exec_xt32Tick {n : Nat} (mode : s.mode = .sentinel) : exec (.xt32Tick n) s = .next { s with
    clk := s.clk + n * xt32Unit
    time := { s.time with sleepTicks := s.time.sleepTicks + n } } :=
  steady_eq_next (if_pos mode) rfl rfl rfl

/-! ### The loop -/

theorem exec_slewEnd (slewing : s.time.slewing = true) (slew : s.time.slew = 0) :
    exec .slewEnd s = .next { s with time := { s.time with slewing := false } } :=
  steady_eq_next (if_pos ⟨slewing, slew⟩) rfl rfl rfl

theorem exec_timeFreqUpdate {edges : Nat} (role : s.reg Obj.TIME_ROLE 0 = 1) (seen : s.time.refSeen = true)
    (held : s.time.refHeld = false) (second : s.after s.time.freqClk 1000000000 = true) (clock : s.ridgeClock = true) :
    exec (.timeFreqUpdate edges) s = .next { s with time := { s.time with
      y := min (max (((edges * 1000000000 * nsUnit : Nat) : Rat) /
        (((if s.reg Obj.TIME_REF_SEL 0 = 0 then 10000000 else 25000000) * (s.clk - s.time.freqClk) : Nat) : Rat) - 1)
        (-(1 / 1000))) (1 / 1000)
      freqClk := s.clk } } :=
  steady_eq_next (if_pos ⟨role, seen, held, second, clock⟩) rfl rfl rfl

/-! ### The states -/

/-- A grandmaster that has seen no edge for 1.1 s enters HOLDOVER with cause 0 (R33). -/
theorem exec_timeHoldover_master (st : s.time.st = .locked) (clock : s.ridgeClock = true) (role : s.reg Obj.TIME_ROLE 0 = 1)
    (late : s.after s.time.edgeClk 1100000000 = true) :
    exec .timeHoldover s =
      .next ((s.heldOver.raise 0xE002 0xE0 2 0xFFFF 0).setTime { s.heldOver.time with edgeGap := true }) := by
  refine steady_eq_next ((if_pos ⟨st, clock, .inl ⟨role, late⟩⟩).trans ?_) ?_ ?_ ?_
  · simp only [role, if_true, enterHoldover_eq_raise, time_raise, beq_self_eq_true, Bool.or_true]
  · rw [pending_setTime, pending_raise, heldOver, pending_setTime]
  · rw [mode_setTime, mode_raise, heldOver, mode_setTime]
  · rw [sec_setTime, sec_raise, heldOver, sec_setTime]

theorem exec_timeUnsync (mode : s.mode ≠ .sentinel) (st : s.time.st = .holdover) (wide : s.reg Obj.TIME_UNC_LIMIT 0 < s.timeUnc) :
    exec .timeUnsync s = .next (State.raise { s with time := { s.time with st := .unsync, ppsOut := false } }
      0xE003 0xE0 3 0xFFFF s.timeUnc) :=
  steady_eq_next (if_pos ⟨mode, st, wide⟩) (pending_raise ..) (mode_raise ..) (by rw [sec_raise])

/-- A change of a slave's source leaves the queue, the mode and the fuses alone (R30). -/
theorem steady_switchSource {f : State → State} {backup : Bool} (e : f s = s.switchSource backup) :
    steady s f = .next (State.raise { s with time := { s.time with backup := backup, noFreq := true, lastExch := none } }
      0xE005 0xE0 2 0xFFFF (if backup then s.reg Obj.TIME_BACKUP 0 else s.reg Obj.TIME_UPSTREAM 0)) :=
  steady_eq_next e (pending_raise ..) (mode_raise ..) (by rw [sec_raise])

theorem exec_timeSourceSwitch_backup (role : s.reg Obj.TIME_ROLE 0 = 2) (clock : s.ridgeClock = true) (first : s.time.backup = false)
    (port : s.reg Obj.TIME_BACKUP 0 < 256)
    (missing : s.after (max s.time.srcAt ((s.flitDlg (s.reg Obj.TIME_UPSTREAM 0)).lastRx - 1)) 3000000 = true) :
    exec .timeSourceSwitch s = .next (State.raise
      { s with time := { s.time with backup := true, noFreq := true, lastExch := none } }
      0xE005 0xE0 2 0xFFFF (s.reg Obj.TIME_BACKUP 0)) := by
  change execTimeSourceSwitch s = _
  refine steady_switchSource (backup := true) ?_
  rw [if_neg (by simp [role, clock]), if_neg (by simp [first]), if_pos ⟨port, missing⟩]

theorem exec_timeSourceSwitch_upstream (role : s.reg Obj.TIME_ROLE 0 = 2) (clock : s.ridgeClock = true)
    (second : s.time.backup = true) (valid : 10 ≤ (s.flitDlg (s.reg Obj.TIME_UPSTREAM 0)).valid)
    (recent : s.after ((s.flitDlg (s.reg Obj.TIME_UPSTREAM 0)).lastRx - 1) 2000000 = false) :
    exec .timeSourceSwitch s = .next (State.raise
      { s with time := { s.time with backup := false, noFreq := true, lastExch := none } }
      0xE005 0xE0 2 0xFFFF (s.reg Obj.TIME_UPSTREAM 0)) := by
  have back : s.upstreamBack = true := by simp [upstreamBack, valid, recent]
  change execTimeSourceSwitch s = _
  refine steady_switchSource (backup := false) ?_
  rw [if_neg (by simp [role, clock]), if_pos second, if_pos back]

/-! ### Edges, requests and the output pulse -/

theorem exec_ppsEdge_freeRun (clock : s.ridgeClock = true) (role : s.reg Obj.TIME_ROLE 0 = 1) (st : s.time.st = .freeRun)
    (near : s.stepsBy (((s.edgeTime * nsUnit : Nat) : Int) - (s.time.ctr : Int)) = false) :
    exec .ppsEdge s = .next { s with time := { s.time with
      edge := some s.edgeTime, edgeClk := s.clk, edgeGap := false, secNext := none
      y := s.newRate (((s.edgeTime * nsUnit : Nat) : Int) - (s.time.ctr : Int)) false
      lastExch := some s.clk, noFreq := false, st := .locking, lockCount := 0
      slew := ((s.edgeTime * nsUnit : Nat) : Int) - (s.time.ctr : Int)
      slewing := ((s.edgeTime * nsUnit : Nat) : Int) - (s.time.ctr : Int) != 0 } } :=
  steady_eq_next ((ppsIn_eq_exchange s clock role).trans (exchange_freeRun _ _ st near)) rfl rfl rfl

/-- A PTM request is answered from the dialog before it (R31). -/
theorem exec_ptmRequest {p turn : Nat} (hp : p < 256) (dr : s.drudar p = false) (up : s.dlUp p = true) (st : (s.port p).st = .l0) :
    exec (.ptmRequest p turn) s = .next ((s.setPtmDlg p
      { valid := true, arrival := s.clk, departure := s.clk + turn * nsUnit }).emit
        (if (s.ptmDlg p).valid then
          .ptm p true (s.now / 65536) (((s.ptmDlg p).departure - (s.ptmDlg p).arrival) / nsUnit % 2 ^ 32)
        else .ptm p false 0 0)) := by
  refine onUnit_eq_next hp ((if_neg (by simp [dr, up, st])).trans ?_) rfl rfl rfl
  exact (apply_ite (State.emit _) _ _ _).symm

/-- TIME_PPS_OUT rises in the first millisecond of a second that it has not pulsed for (R32). -/
theorem exec_timePpsOutStart {sec ns : Nat} (st : s.time.st = .locked ∨ s.time.st = .holdover) (mode : s.mode ≠ .sentinel)
    (low : s.time.ppsOut = false) (adj : s.reg Obj.TIME_PPS_OUT_ADJ 0 = 0) (now : s.now / 65536 = sec * 1000000000 + ns)
    (early : ns < 1000000) (new : s.time.ppsSec ≠ sec + 1) :
    exec .timePpsOutStart s = .next { s with time := { s.time with ppsOut := true, ppsSec := sec + 1, ppsAt := s.clk } } := by
  have pos : (s.now : Int) - toSigned 4 (s.reg Obj.TIME_PPS_OUT_ADJ 0) * 65536 = s.now := by
    rw [adj]
    simp [toSigned]
  have second : ((s.now : Int) / (65536 * 1000000000)).toNat = sec := by omega
  have within : (s.now : Int) % (65536 * 1000000000) < 65536 * 1000000 := by omega
  refine steady_eq_next ?_ rfl rfl rfl
  simp only [pos, second]
  exact if_pos ⟨st, mode, low, Int.natCast_nonneg _, new, within⟩

theorem exec_timePpsOutEnd (high : s.time.ppsOut = true) (late : s.after s.time.ppsAt 1000000 = true) :
    exec .timePpsOutEnd s = .next { s with time := { s.time with ppsOut := false } } :=
  steady_eq_next (if_pos ⟨high, late⟩) rfl rfl rfl

end

/-- Settles O1: the counter's advance in each of the three clock states. -/
theorem timeCounterAdvances : Obligations.TimeCounterAdvances := by
  unfold Obligations.TimeCounterAdvances
  exact ⟨fun s n => exec_fabricTimeAdvance, fun s n => exec_holdTimeAdvance, fun s n => exec_xt32Tick⟩

/-- Settles O2: the end of a slew, the two edges of the reference, and the frequency update. -/
theorem timeLoopCommands : Obligations.TimeLoopCommands := by
  unfold Obligations.TimeLoopCommands
  exact ⟨fun s => exec_slewEnd, fun _ => rfl, fun _ => rfl,
    fun s edges => exec_timeFreqUpdate⟩

/-- Settles O3: the entries to HOLDOVER and UNSYNC, and both switches of a slave's source. -/
theorem timeStateTransitions : Obligations.TimeStateTransitions := by
  unfold Obligations.TimeStateTransitions
  refine ⟨?_, fun s => exec_timeUnsync, fun s => exec_timeSourceSwitch_backup, fun s => exec_timeSourceSwitch_upstream⟩
  intro s st clock role late
  refine ⟨_, exec_timeHoldover_master st clock role late, rfl, rfl, rfl, rfl, rfl, rfl, rfl, ?_, ?_⟩
  · rw [dict_setTime, seq_raise, heldOver, dict_setTime]
  · exact (raise_eventOnly s.heldOver _ _ _ _ _).setTime _

/-- Settles O4: an edge in FREE_RUN, both answers to a PTM request, and the two edges of TIME_PPS_OUT. -/
theorem timeEdgesAndRequests : Obligations.TimeEdgesAndRequests := by
  unfold Obligations.TimeEdgesAndRequests
  refine ⟨fun s => exec_ppsEdge_freeRun, ?_, ?_, fun s sec ns => exec_timePpsOutStart, fun s => exec_timePpsOutEnd⟩
  · intro s p turn hp dr up st first
    rw [exec_ptmRequest hp dr up st, first]
    rfl
  · intro s p turn hp dr up st again
    rw [exec_ptmRequest hp dr up st, again]
    rfl

end Sys2Proof.Machine
end

section
/-!
SUPPORT. Which due event is the first (R37), what a gate-list swap makes of the state (R171), and what the start of a margin window and
the arming of a periodic slot do (R39, R355).
-/

namespace Sys2Proof.Machine

/-- An entry that has been put in place is the one that taking out its key removes. -/
theorem Tbl.erase_insert {α : Type} (e : Key × α) {t : Tbl α} (new : ∀ x ∈ t, x.1 ≠ e.1) : (Tbl.insert e t).erase e.1 = t := by
  have absent (l : Tbl α) (h : ∀ x ∈ l, x.1 ≠ e.1) : l.erase e.1 = l :=
    List.filter_eq_self.mpr fun x mem => by simpa using h x mem
  induction t with
  | nil => simp [Tbl.insert, Tbl.erase]
  | cons a r ih =>
    have rest : ∀ x ∈ r, x.1 ≠ e.1 := fun x mem => new x (List.mem_cons_of_mem a mem)
    unfold Tbl.insert
    split
    · exact (List.filter_cons_of_pos (by simpa using new a List.mem_cons_self)).trans (congrArg _ (ih rest))
    · exact (List.filter_cons_of_neg (by simp)).trans (absent _ new)

/-- Of two writes of one key the second is left. -/
theorem Tbl.set_set {α : Type} [DecidableEq α] (t : Tbl α) (d : α) (k : Key) (v w : α) : (t.set d k v).set d k w = t.set d k w := by
  have clear : (t.erase k).erase k = t.erase k := by simp [Tbl.erase]
  have erased : (t.set d k v).erase k = t.erase k := by
    unfold Tbl.set
    split
    · exact clear
    · exact Tbl.erase_insert (k, v) fun x mem => (Tbl.mem_erase t k x mem).2
  change (if w = d then (t.set d k v).erase k else Tbl.insert (k, w) ((t.set d k v).erase k)) = _
  rw [erased]
  rfl

namespace State

/-! ### The first of the due events -/

section

variable {lt : (Nat × Slot) → (Nat × Slot) → Bool} {l : List (Nat × Slot)} {m x : Nat × Slot}

theorem mem_of_leastBy_eq_some (h : leastBy lt l = some x) : x ∈ l := by
  induction l generalizing x with
  | nil => cases h
  | cons a r ih =>
    unfold leastBy at h
    split at h
    case h_1 =>
      cases h
      exact List.mem_cons_self
    case h_2 y least =>
      split at h <;> cases h
      · exact List.mem_cons_of_mem a (ih least)
      · exact List.mem_cons_self

/-- Under an order with no two members before each other, the member that is before all others is the first. -/
theorem leastBy_eq_some (asymm : ∀ a b, lt a b = true → lt b a = false) (mem : m ∈ l) (first : ∀ e ∈ l, e = m ∨ lt m e = true) :
    leastBy lt l = some m := by
  induction l with
  | nil => cases mem
  | cons a r ih =>
    unfold leastBy
    by_cases inRest : m ∈ r
    case pos =>
      rw [ih inRest fun e he => first e (List.mem_cons_of_mem a he)]
      rcases first a List.mem_cons_self with same | before
      · rw [same]
        exact ite_self _
      · exact if_pos before
    case neg =>
      have head : a = m := ((List.mem_cons.mp mem).resolve_right inRest).symm
      subst head
      cases least : leastBy lt r with
      | none => rfl
      | some y =>
        have hy := mem_of_leastBy_eq_some least
        rcases first y (List.mem_cons_of_mem a hy) with same | before
        · exact absurd (same ▸ hy) inRest
        · exact if_neg (by simp [asymm a y before])

end

section

variable {s : State}

theorem dueBefore_asymm (a b : Nat × Slot) (h : s.dueBefore a b = true) : s.dueBefore b a = false := by
  simp only [dueBefore, slotBefore, Bool.or_eq_true, Bool.and_eq_true, decide_eq_true_eq, beq_iff_eq, Bool.or_eq_false_iff,
    Bool.and_eq_false_iff, decide_eq_false_iff_not, beq_eq_false_iff_ne] at h ⊢
  omega

/-- Of the due events that `q` accepts, the one before all others is taken (R37). -/
theorem leastBy_dueSlots {q : Nat × Slot → Bool} {e : Nat × Slot} (due : e ∈ s.dueSlots) (ok : q e = true)
    (first : ∀ d ∈ s.dueSlots, q d = true → d = e ∨ s.dueBefore e d = true) :
    leastBy s.dueBefore (s.dueSlots.filter q) = some e := by
  refine leastBy_eq_some dueBefore_asymm (List.mem_filter.mpr ⟨due, ok⟩) fun d hd => ?_
  obtain ⟨mem, accepted⟩ := List.mem_filter.mp hd
  exact first d mem accepted

end

/-! ### A gate-list swap -/

/-- `t` is `s` but for the fabric, the objects and what raising events writes. -/
structure SameElsewhere (s t : State) : Prop where
  pending : t.pending = s.pending
  mode : t.mode = s.mode
  sec : t.sec = s.sec
  time : t.time = s.time
  link : t.link = s.link
  coh : t.coh = s.coh

/-- The objects are those of `s` too, and port `p` has the same gate lists. -/
structure SameLists (s t : State) (p : Nat) : Prop extends SameElsewhere s t where
  regs : t.regs = s.regs
  oper : (t.egr p).oper = (s.egr p).oper
  gclOn : (t.egr p).gclOn = (s.egr p).gclOn
  pendOn : (t.egr p).pendOn = (s.egr p).pendOn
  pendList : (t.egr p).pendList = (s.egr p).pendList

section

variable {s t u : State} {p : Nat}

theorem SameElsewhere.trans (h : s.SameElsewhere t) (k : t.SameElsewhere u) : s.SameElsewhere u :=
  ⟨k.pending.trans h.pending, k.mode.trans h.mode, k.sec.trans h.sec, k.time.trans h.time, k.link.trans h.link, k.coh.trans h.coh⟩

theorem raise_sameElsewhere (s : State) (code source sev inst data : Nat) : s.SameElsewhere (s.raise code source sev inst data) :=
  ⟨pending_raise .., mode_raise .., sec_raise .., time_raise .., link_raise .., coh_raise ..⟩

theorem SameLists.refl (s : State) (p : Nat) : s.SameLists s p := ⟨⟨rfl, rfl, rfl, rfl, rfl, rfl⟩, rfl, rfl, rfl, rfl, rfl⟩

theorem SameLists.trans (h : s.SameLists t p) (k : t.SameLists u p) : s.SameLists u p :=
  ⟨h.toSameElsewhere.trans k.toSameElsewhere, k.regs.trans h.regs, k.oper.trans h.oper, k.gclOn.trans h.gclOn,
    k.pendOn.trans h.pendOn, k.pendList.trans h.pendList⟩

theorem SameLists.reg (h : s.SameLists t p) (o i : Nat) : t.reg o i = s.reg o i := by rw [State.reg, h.regs, State.reg]

theorem setEgr_sameLists {x : Egress} (oper : x.oper = (s.egr p).oper) (gclOn : x.gclOn = (s.egr p).gclOn)
    (pendOn : x.pendOn = (s.egr p).pendOn) (pendList : x.pendList = (s.egr p).pendList) : s.SameLists (s.setEgr p x) p := by
  refine ⟨⟨rfl, rfl, rfl, rfl, rfl, rfl⟩, rfl, ?_, ?_, ?_, ?_⟩ <;> rwa [egr_setEgr_self]

theorem setDesc_sameLists (s : State) (p d : Nat) (x : Option Desc) : s.SameLists (s.setDesc d x) p :=
  ⟨⟨rfl, rfl, rfl, rfl, rfl, rfl⟩, rfl, rfl, rfl, rfl, rfl⟩

theorem accrue_sameLists (s : State) (p : Nat) : s.SameLists (s.accrue p) p := by
  unfold accrue
  dsimp only
  split
  · exact .refl s p
  · exact setEgr_sameLists rfl rfl rfl rfl

theorem turnGates_sameLists (s : State) (p g k time : Nat) : s.SameLists (s.turnGates p g k time) p := by
  unfold turnGates
  refine foldS_keeps (s.SameLists · p) _ (fun c t h => ?_) _ _ (setEgr_sameLists rfl rfl rfl rfl)
  split
  · exact h
  · split
    · split
      · exact h.trans (setDesc_sameLists t p _ _)
      · exact h
    · exact h

theorem syncGates_sameLists (s : State) (p : Nat) : s.SameLists (s.syncGates p) p :=
  (accrue_sameLists s p).trans (turnGates_sameLists _ p _ _ _)

/-- The egress of port `p` with its pending list running (R171). -/
def swappedEgr (s : State) (p : Nat) : Egress :=
  { s.egr p with oper := (s.egr p).pendList, gclOn := true, pendOn := false, pendMissed := false, pendSlot := 512 }

/-- The pending list of port `p` becomes its running list, with base time `sw` (R171). -/
def runPending (s : State) (p sw : Nat) : State :=
  ((((((s.setEgr p (s.swappedEgr p)).setReg Obj.GCL_OPER_BASE p sw).setReg
    Obj.GCL_OPER_CYCLE p (gclCycle (s.egr p).pendList)).setReg Obj.GCL_OPER_LEN p (s.egr p).pendList.length).setReg
    Obj.GCL_SWAP_N p ((s.egr p).pendN % 2 ^ 32)).setReg Obj.GCL_SWAP_TIME p 0).setReg Obj.GCL_STATE p 1

theorem runPending_sameElsewhere (s : State) (p sw : Nat) : s.SameElsewhere (s.runPending p sw) := by
  constructor <;> simp [runPending]

theorem egr_runPending (s : State) (p sw : Nat) : (s.runPending p sw).egr p = s.swappedEgr p := by
  simp only [runPending, egr_setReg, egr_setEgr_self]

theorem reg_runPending (s : State) (p sw : Nat) :
    (s.runPending p sw).reg Obj.GCL_OPER_BASE p = sw ∧
    (s.runPending p sw).reg Obj.GCL_OPER_CYCLE p = gclCycle (s.egr p).pendList ∧
    (s.runPending p sw).reg Obj.GCL_STATE p = 1 ∧ (s.runPending p sw).reg Obj.GCL_SWAP_TIME p = 0 := by
  simp [runPending, reg_setReg]

/-- Before a swap's list takes over and after it, gates turn and credits accrue; then GCL_SWAPPED is raised (R169, R171). -/
theorem gclSwap_eq_raise (pend : (s.egr p).pendOn = true) : ∃ v w data, s.gclSwap p = State.raise w 0x4001 0x40 1 p data ∧
    s.SameLists v p ∧ (v.runPending p (s.reg Obj.GCL_SWAP_TIME p)).SameLists w p := by
  unfold gclSwap
  dsimp only
  rw [if_neg (by simp [pend])]
  exact ⟨_, _, _, rfl, (accrue_sameLists s p).trans (turnGates_sameLists _ p _ _ _), syncGates_sameLists _ p⟩

/-- `u` is `s` with the pending list of port `p` in force (R171). -/
structure SwapsIn (s u : State) (p : Nat) : Prop extends SameElsewhere s u where
  oper : (u.egr p).oper = (s.egr p).pendList
  gclOn : (u.egr p).gclOn = true
  pendOn : (u.egr p).pendOn = false
  base : u.reg Obj.GCL_OPER_BASE p = s.reg Obj.GCL_SWAP_TIME p
  cycle : u.reg Obj.GCL_OPER_CYCLE p = gclCycle (s.egr p).pendList
  state : u.reg Obj.GCL_STATE p = 1
  swapTime : u.reg Obj.GCL_SWAP_TIME p = 0

theorem gclSwap_swapsIn (pend : (s.egr p).pendOn = true) : s.SwapsIn (s.gclSwap p) p := by
  obtain ⟨v, w, data, raised, before, after⟩ := gclSwap_eq_raise pend
  obtain ⟨base, cycle, state, swapTime⟩ := reg_runPending v p (s.reg Obj.GCL_SWAP_TIME p)
  have egr := egr_runPending v p (s.reg Obj.GCL_SWAP_TIME p)
  have reg {o : Nat} (h : o ≠ Obj.INT_CAUSE) (k : o ≠ Obj.EVT_DROPPED) :=
    (reg_raise w 0x4001 0x40 1 p data p h k).trans (after.reg o p)
  have swaps := before.toSameElsewhere.trans (runPending_sameElsewhere v p (s.reg Obj.GCL_SWAP_TIME p))
  rw [raised]
  refine ⟨(swaps.trans after.toSameElsewhere).trans (raise_sameElsewhere w ..), ?_, ?_, ?_, ?_, ?_, ?_, ?_⟩
  · rw [egr_raise, after.oper, egr, swappedEgr, before.pendList]
  · rw [egr_raise, after.gclOn, egr, swappedEgr]
  · rw [egr_raise, after.pendOn, egr, swappedEgr]
  · rw [reg (by decide) (by decide), base]
  · rw [reg (by decide) (by decide), cycle, before.pendList]
  · rw [reg (by decide) (by decide), state]
  · rw [reg (by decide) (by decide), swapTime]

end

/-! ### Writing a unit twice -/

section

variable {s : State} {k h : Nat} {x : Slot}

theorem setSlot_setSlot (s : State) (k : Nat) (x y : Slot) : (s.setSlot k x).setSlot k y = s.setSlot k y := by
  unfold setSlot
  dsimp only
  rw [Tbl.set_set]

theorem setLop_setLop (s : State) (h : Nat) (x y : Lop) : (s.setLop h x).setLop h y = s.setLop h y := by
  unfold setLop
  dsimp only
  rw [Tbl.set_set]

/-! ### A margin window and a periodic slot -/

/-- A handle whose core runs is RUNNING as soon as it is taken (R57). -/
theorem takeLop_running {kind : Nat} (owner arg : Nat) (free : s.freeLop = some h) (notCommit : kind ≠ 1)
    (core : s.coreRuns (s.lopCore kind arg) = true) : s.takeLop kind owner arg = some (h, s.setLop h { lopDflt with
      kind := kind, st := .running, owner := owner, start := s.now, arg := arg, since := s.clk }) := by
  have runs (t : State) (same : t.mode = s.mode) (regs : t.regs = s.regs) : t.coreRuns (t.lopCore kind arg) = true := by
    simp only [lopCore, notCommit, if_false, coreRuns, reg, same, regs] at core ⊢
    exact core
  unfold takeLop
  rw [free]
  dsimp only
  unfold grantLop
  dsimp only
  rw [lop_setLop_self, if_pos ⟨rfl, runs _ rfl rfl⟩, setLop_setLop]

/-- `s` with a margin window begun on handle `h` for `owner` (R355). -/
def withWindow (s : State) (h owner : Nat) (fromSlot : Bool) : State :=
  ((s.setLop h { lopDflt with kind := 5, st := .running, owner := owner, start := s.now, since := s.clk }).setTalus
    { s.talus with lop := h, fromSlot := fromSlot, plan := none, left := [], done := 0, retrain := [] }).setReg Obj.TALUS_STATE 0 1

/-- A window that no other one keeps from starting runs on the lowest free handle (R355). -/
theorem startWindow_eq {owner : Nat} {fromSlot : Bool} (core : s.coreRuns 3 = true) (closed : s.windowOpen = false)
    (free : s.freeLop = some h) : s.startWindow owner fromSlot = some (h, s.withWindow h owner fromSlot) := by
  unfold startWindow
  rw [if_neg (by simp [closed]), takeLop_running (kind := 5) owner 0 free (by decide) core]
  rfl

/-- What a slot that has fired holds: FIRED, or armed for its next time (R39). -/
def afterFiring (s : State) (x : Slot) : Slot :=
  if x.period = 0 then { x with state := 3 } else { x with state := 1, time := s.nextTime x, due := 0 }

theorem rearm_setSlot_fired (kind : x.kind ≠ 0) :
    (s.setSlot k { x with state := 3 }).rearm k = s.setSlot k (s.afterFiring x) := by
  unfold rearm afterFiring
  simp only [slot_setSlot_self, kind, false_or]
  split
  · rfl
  · exact setSlot_setSlot s k _ _

/-- The next occurrence of a periodic slot lies ahead (R39). -/
theorem now_lt_nextTime (period : x.period ≠ 0) : s.now < s.nextTime x := by
  have ahead := Nat.lt_mul_div_succ (s.now - x.first) (b := x.period * 65536) (by omega)
  unfold nextTime
  dsimp only
  split
  case isTrue early => exact early
  case isFalse =>
    rw [Nat.mul_comm] at ahead
    omega

end

end State

end Sys2Proof.Machine
end

section
/-!
The obligation `ScheduledEvents`: the gate-list swap that fires, and the margin window that starts.
-/

namespace Sys2Proof.Machine

open State

section

variable {s : State} {k : Nat} {x : Slot}

/-- The first due hardware event, a gate-list swap, puts the pending list in force and frees its slot (R37, R171, R410). -/
theorem exec_schedFire_gclSwap (clock : s.ridgeClock = true) (due : (k, x) ∈ s.dueSlots) (slot : s.slot k = x) (hk : k < 512)
    (kind : x.kind = 4)
    (first : ∀ e ∈ s.dueSlots, e.2.kind < 5 → s.mayFire e.2 = true → e = (k, x) ∨ s.dueBefore (k, x) e = true)
    (pend : (s.egr x.arg).pendOn = true) :
    exec .schedFire s = .next ((s.gclSwap x.arg).setSlot k slotDflt) := by
  have least : leastBy s.dueBefore (s.dueSlots.filter fun e => e.2.kind < 5 && s.mayFire e.2) = some (k, x) := by
    refine leastBy_dueSlots due (by simp [mayFire, kind]) fun d mem ok => ?_
    simp only [Bool.and_eq_true, decide_eq_true_eq] at ok
    exact first d mem ok.1 ok.2
  have fires : s.fireSlot k = (s.gclSwap x.arg).setSlot k slotDflt := by
    simp only [fireSlot, slot, kind, dropSlot, hk, if_true]
  have same := (gclSwap_swapsIn pend).toSameElsewhere
  change execSchedFire s = _
  refine steady_eq_next ?_ same.pending same.mode (congrArg SecSt.fuse same.sec)
  rw [if_neg (by simp [clock]), least]
  exact fires

/-- The first due firmware event, a margin window, starts on a handle of no endpoint, and its slot has fired (R37, R39, R355). -/
theorem exec_firmwareEventStart_window {h : Nat} (clock : s.ridgeClock = true) (due : (k, x) ∈ s.dueSlots)
    (slot : s.slot k = x) (kind : x.kind = 5)
    (first : ∀ e ∈ s.dueSlots, 5 ≤ e.2.kind → s.mayFire e.2 = true → e = (k, x) ∨ s.dueBefore (k, x) e = true)
    (core : s.coreRuns 3 = true) (closed : s.windowOpen = false) (free : s.freeLop = some h) :
    exec .firmwareEventStart s = .next ((s.withWindow h 0xFFFF true).setSlot k (s.afterFiring x)) := by
  have least : leastBy s.dueBefore (s.dueSlots.filter fun e => 5 ≤ e.2.kind && s.mayFire e.2) = some (k, x) := by
    refine leastBy_dueSlots due (by simp [mayFire, kind, core, closed, free]) fun d mem ok => ?_
    simp only [Bool.and_eq_true, decide_eq_true_eq] at ok
    exact first d mem ok.1 ok.2
  have starts : s.startSlot k = (s.withWindow h 0xFFFF true).setSlot k (s.afterFiring x) := by
    unfold startSlot
    rw [slot, startWindow_eq core closed free]
    dsimp only
    split
    · exact rearm_setSlot_fired (by omega)
    · omega
    · contradiction
  change execFirmwareEventStart s = _
  refine steady_eq_next ?_ rfl rfl rfl
  rw [if_neg (by simp [clock]), least]
  exact starts

end

/-- Settles O21: the first due event of each side fires, here a gate-list swap and a margin window. -/
theorem scheduledEvents : Obligations.ScheduledEvents := by
  unfold Obligations.ScheduledEvents
  constructor
  · intro s k x clock due slot hk kind first pend
    have swap := gclSwap_swapsIn pend
    refine ⟨_, exec_schedFire_gclSwap clock due slot hk kind first pend, slot_setSlot_self _ _ _, swap.oper, swap.gclOn, swap.pendOn,
      swap.base, swap.cycle, swap.state, swap.swapTime, fun j ne => ?_, swap.link, swap.coh⟩
    rw [slot_setSlot_of_ne _ _ _ ne, State.slot, swap.time, State.slot]
  · intro s k h x clock due slot hk kind first core closed free
    refine ⟨_, exec_firmwareEventStart_window clock due slot kind first core closed free, lop_setLop_self s h _,
      reg_setReg_self _ Obj.TALUS_STATE 0 1, rfl, fun once => ?_, fun periodic => ?_,
      fun j ne => slot_setSlot_of_ne _ k _ ne, rfl, rfl, rfl⟩
    · rw [slot_setSlot_self]
      exact if_pos once
    · rw [slot_setSlot_self, afterFiring, if_neg periodic]
      exact ⟨now_lt_nextTime periodic, rfl⟩

end Sys2Proof.Machine
end

section
/-!
SUPPORT. What a command that carries a dictionary request answers once the request passes its checks, and what the operations that take
a handle answer (R49, R57).
-/

namespace Sys2Proof.Machine

namespace State

section

variable (s : State) (ep : Nat) (r : Req) (a : Nat) (b : List Byte)

@[simp] theorem pending_sendMessage (tag : Nat) : (s.sendMessage ep tag b).pending = s.pending := by rw [sendMessage_eq]
@[simp] theorem mode_sendMessage (tag : Nat) : (s.sendMessage ep tag b).mode = s.mode := by rw [sendMessage_eq]
@[simp] theorem sec_sendMessage (tag : Nat) : (s.sendMessage ep tag b).sec = s.sec := by rw [sendMessage_eq]
@[simp] theorem pending_respondReq : (s.respondReq ep r a b).pending = s.pending := pending_sendMessage s ep _ _
@[simp] theorem mode_respondReq : (s.respondReq ep r a b).mode = s.mode := mode_sendMessage s ep _ _
@[simp] theorem sec_respondReq : (s.respondReq ep r a b).sec = s.sec := sec_sendMessage s ep _ _

/-- A refusal carries no payload, whatever the operation had answered. -/
theorem respondReq_refused (h : a ≠ 0) : s.respondReq ep r a b = s.respondReq ep r a [] := by
  unfold respondReq
  rw [if_neg h, if_neg h]

end

/-- Watching for changes during a capture writes the profile's state alone (R376). -/
theorem profWatch_eq (s t : State) : s.profWatch t = { t with prof := (s.profWatch t).prof } := by
  unfold profWatch
  split <;> rfl

@[simp] theorem profWatch_self (s : State) : s.profWatch s = s := if_neg fun changed => changed.2 rfl
@[simp] theorem pending_profWatch (s t : State) : (s.profWatch t).pending = t.pending := by rw [profWatch_eq]
@[simp] theorem mode_profWatch (s t : State) : (s.profWatch t).mode = t.mode := by rw [profWatch_eq]
@[simp] theorem sec_profWatch (s t : State) : (s.profWatch t).sec = t.sec := by rw [profWatch_eq]

end State

open State

section

variable {s u : State} {ep a : Nat} {b : List Byte} {r : Req}

/-- A command of an endpoint whose function leaves the queue, the mode and the fuses alone answers what that makes. -/
theorem onEp_eq_next {f : State → State} (hep : ep < 322) (e : f s = u) (p : u.pending = s.pending) (m : u.mode = s.mode)
    (q : u.sec.fuse = s.sec.fuse) : onEp ep s f = .next u := by
  subst e
  unfold onEp
  dsimp only
  rw [if_pos hep, q, max_self, ← p, ← m, ← q]

/-- A request that passes its checks answers what carrying it out makes. -/
theorem onEp_submit_accepted (acc : s.Accepts ep r) (e : s.carryReq none ep r = { abort := a, state := u, payload := b })
    (p : u.pending = s.pending) (m : u.mode = s.mode) (q : u.sec.fuse = s.sec.fuse) :
    onEp ep s (fun t => t.submit none ep r) = .next (u.respondReq ep r a b) := by
  refine onEp_eq_next acc.2.1.1 ?_ ?_ ?_ ?_
  · rw [submit_accepted none r acc, e]
  · rw [pending_respondReq, p]
  · rw [mode_respondReq, m]
  · rw [sec_respondReq, q]

end

end Sys2Proof.Machine
end

section
/-!
SUPPORT. The handle that a long operation takes (R57), and the served write that starts one.
-/

namespace Sys2Proof.Machine

/-- The first accepted of `n` numbers from `lo` is accepted. -/
theorem of_firstFrom_eq_some {p : Nat → Bool} {n lo k : Nat} (h : firstFrom p n lo = some k) : p k = true := by
  induction n generalizing lo with
  | zero => cases h
  | succ n ih =>
    unfold firstFrom at h
    split at h
    case isTrue accepted =>
      cases h
      exact accepted
    case isFalse => exact ih h

/-- Where one of `n` numbers from `lo` is accepted, the first of them is found. -/
theorem firstFrom_isSome {p : Nat → Bool} {n lo k : Nat} (low : lo ≤ k) (high : k < lo + n) (accepted : p k = true) :
    (firstFrom p n lo).isSome = true := by
  induction n generalizing lo with
  | zero => omega
  | succ n ih =>
    unfold firstFrom
    split
    · rfl
    case isFalse other =>
      have ne : lo ≠ k := fun e => other (e ▸ accepted)
      exact ih (by omega) (by omega)

namespace State

variable {s : State} {h : Nat}

/-- A handle of a kind that is taken now: RUNNING, or QUEUED while the core that runs it is halted (R57). -/
def newLop (s : State) (kind owner arg : Nat) : Lop :=
  { lopDflt with
    kind := kind, st := if s.coreRuns (s.lopCore kind arg) = true then .running else .queued, owner := owner, start := s.now
    arg := arg, since := s.clk }

theorem takeLop_eq (kind owner arg : Nat) (free : s.freeLop = some h) :
    s.takeLop kind owner arg = some (h, s.setLop h (s.newLop kind owner arg)) := by
  have core (x : Lop) : (s.setLop h x).coreRuns ((s.setLop h x).lopCore kind arg) = s.coreRuns (s.lopCore kind arg) := rfl
  unfold takeLop newLop
  rw [free]
  dsimp only
  unfold grantLop
  dsimp only
  rw [lop_setLop_self, core]
  split
  case isTrue runs => rw [setLop_setLop, if_pos runs.2]
  case isFalse halted => rw [if_neg fun runs => halted ⟨rfl, runs⟩]

end State

open State

section

variable {s u : State} {ep o i h : Nat}

/-- Writing 1 to an object of type BOOL carries the value 1. -/
theorem writeVals_writeOf_bool (acc : s.Accepts ep (writeOf o i 1)) (sub : o % 256 ≠ 0)
    (ty : (objRow o).map ObjRow.ty = some .bool) : writeVals (writeOf o i 1) = some [valOf 1] := by
  obtain ⟨row, object, bool⟩ := Option.map_eq_some_iff.mp ty
  have value := writeVals_writeOf acc.2.2 sub object (by rw [bool]; rfl)
  rw [bool] at value
  exact value

/-- A served write of 1 that starts a long operation answers its handle. -/
theorem writeCmd_starts (acc : s.Accepts ep (writeOf o i 1)) (sub : o % 256 ≠ 0) (ty : (objRow o).map ObjRow.ty = some .bool)
    (e : s.writeObj none ep o i (valOf 1) = { abort := 0, state := u, payload := toBytes 2 h }) (p : u.pending = s.pending)
    (m : u.mode = s.mode) (q : u.sec.fuse = s.sec.fuse) :
    writeCmd none ep o i (objBytes o 1) s = .next (s.wrote u ep (writeOf o i 1) (toBytes 2 h)) :=
  writeCmd_served acc (writeVals_writeOf_bool acc sub ty) e rfl p m (by rw [q, max_self])

end

end Sys2Proof.Machine
end

section
/-!
The obligation `LongOperationStarts`: the five writes that start a long operation.
-/

namespace Sys2Proof.Machine

open State

namespace State

variable {s : State} {ep h : Nat}

/-! ### What each start makes of the state -/

/-- An entry to mode `target` begins on handle `h` in step 3 (R295). -/
def enteringMode (s : State) (ep h : Nat) (target : Mode) : State :=
  (s.setLop h { s.newLop 6 ep target.num with st := .running }).setPm
    { s.pm with
      step := .cores, lop := h, target := target, start := s.clk, cause := 0, causePort := 0xFFFF, undoing := false
      stop := s.pm.stop, l1At := [] }

theorem pmChecks_awake {target : Mode} (listed : entryListed s.mode target = true) (awake : target.sleeps = false) :
    s.pmChecks target = none := by
  unfold pmChecks
  cases target with
  | hold | sentinel => cases awake
  | boot | active | trim | service => simp [listed, Mode.sleeps]

theorem pmEnter_now (now : s.reg Obj.PM_ENTER_TIME 0 = 0) (awake : (modeOf (s.reg Obj.PM_TARGET 0)).sleeps = false)
    (listed : entryListed s.mode (modeOf (s.reg Obj.PM_TARGET 0)) = true) (idle : s.pmBusy = false)
    (still : s.pm.undoing = false) (free : s.freeLop = some h) :
    s.pmEnter ep = .ok (s.enteringMode ep h (modeOf (s.reg Obj.PM_TARGET 0)), h) := by
  unfold pmEnter
  dsimp only
  rw [if_neg (by simp [idle, free, now]), pmChecks_awake listed awake, takeLop_eq 6 ep _ free]
  dsimp only
  rw [if_pos now]
  unfold startEntry enteringMode modLop
  simp only [awake, Bool.false_eq_true, if_false, Bool.or_false, pm_setLop, still, lop_setLop_self, setLop_setLop]
  rfl

theorem fwUpdate_free (idle : s.fwLop = none) (free : s.freeLop = some h) :
    s.fwUpdate ep = .ok (s.setLop h (s.newLop 4 ep s.fwIdleArea), h) := by
  unfold fwUpdate
  rw [idle, takeLop_eq 4 ep _ free]
  rfl

/-- A store of profile `p` begins on handle `h` (R375). -/
def withStore (s : State) (ep p h : Nat) : State :=
  (s.setLop h (s.newLop 3 ep (p + 4 * s.reg Obj.PROF_SRC p))).setProf
    { s.prof with step := .capture, prof := p, target := s.targetBank p, lop := h, cand := none, changed := false }

theorem profStore_free {p : Nat} (idle : s.storeBusy = false) (free : s.freeLop = some h) :
    s.profStore p ep = .ok (s.withStore ep p h, h) := by
  unfold profStore
  rw [idle, takeLop_eq 3 ep _ free]
  rfl

/-- A margin window begins on handle `h` (R355). -/
def withQueuedWindow (s : State) (ep h : Nat) : State :=
  ((s.setLop h (s.newLop 5 ep 0)).setTalus
    { s.talus with lop := h, fromSlot := false, plan := none, left := [], done := 0, retrain := [] }).setReg Obj.TALUS_STATE 0 1

theorem windowNow_free (closed : s.windowOpen = false) (free : s.freeLop = some h) :
    s.windowNow ep = { abort := 0, state := s.withQueuedWindow ep h, payload := toBytes 2 h } := by
  unfold windowNow startWindow
  rw [closed, takeLop_eq 5 ep 0 free]
  rfl

/-- Redirect entry `r` redirects the range of move channel `c` in state 1 (R235). -/
def withRedirect (s : State) (c r : Nat) : State :=
  (((s.setReg Obj.RDR_SRC r (s.reg Obj.MOVE_SRC c)).setReg Obj.RDR_DST r (s.reg Obj.MOVE_DST c)).setReg
    Obj.RDR_SIZE r (s.reg Obj.MOVE_SIZE c)).setReg Obj.RDR_STATE r 1

/-- The objects of move channel `c` at the start of a move with handle `h` and redirect entry `r` (R235). -/
def withMoveRegs (s : State) (c h r : Nat) : State :=
  (((((s.setReg Obj.MOVE_PHASE c 1).setReg Obj.MOVE_PASS c 0).setReg Obj.MOVE_COPIED c 0).setReg
    Obj.MOVE_HANDLE c h).setReg Obj.MOVE_FREEZES c 0).setReg Obj.MOVE_RDR c r

/-- A move of channel `c` begins on handle `h` with redirect entry `r` (R235). -/
def withMove (s : State) (ep c h r : Nat) : State :=
  ((((s.setLop h (s.newLop 2 ep c)).withRedirect c r).withMoveRegs c h r).clearBitmap c).setMover c
    { moveDflt with running := true, first := s.fab.uid }

/-- A move whose start conditions hold finds a free redirect entry (R235). -/
theorem free_redirect_of_moveCheck {c : Nat} (ok : s.moveCheck c = none) :
    ∃ r, firstFrom (fun r => s.reg Obj.RDR_STATE r == 0) 64 0 = some r ∧ s.reg Obj.RDR_STATE r = 0 := by
  have some_free : ¬ (List.range 64).all (fun r => s.reg Obj.RDR_STATE r != 0) = true := by
    intro none_free
    unfold moveCheck at ok
    dsimp only at ok
    split at ok
    · cases ok
    · rw [if_pos (.inr (.inl none_free))] at ok
      cases ok
  simp only [List.all_eq_true, List.mem_range, not_forall] at some_free
  obtain ⟨k, below, free⟩ := some_free
  obtain ⟨r, first⟩ := Option.isSome_iff_exists.mp
    (firstFrom_isSome (p := fun r => s.reg Obj.RDR_STATE r == 0) (n := 64) (Nat.zero_le k) (by omega) (by simpa using free))
  exact ⟨r, first, by simpa using of_firstFrom_eq_some first⟩

theorem moveStart_now {c r : Nat} (ok : s.moveCheck c = none) (free : s.freeLop = some h)
    (now : s.reg Obj.MOVE_CUTOVER_TIME c = 0) (first : firstFrom (fun r => s.reg Obj.RDR_STATE r == 0) 64 0 = some r) :
    s.moveStart c ep = .ok (s.withMove ep c h r, h) := by
  unfold moveStart
  rw [ok, takeLop_eq 2 ep c free]
  dsimp only
  rw [if_pos now, first]
  rfl

theorem reg_clearBitmap (s : State) (c o i : Nat) : (s.clearBitmap c).reg o i = s.reg o i := rfl

/-- What a started move of channel `c` has written: its redirect entry `r` and its own objects (R235). -/
theorem reg_withMove (s : State) (ep c h r : Nat) :
    (s.withMove ep c h r).reg Obj.RDR_STATE r = 1 ∧ (s.withMove ep c h r).reg Obj.RDR_SRC r = s.reg Obj.MOVE_SRC c ∧
    (s.withMove ep c h r).reg Obj.RDR_DST r = s.reg Obj.MOVE_DST c ∧
    (s.withMove ep c h r).reg Obj.RDR_SIZE r = s.reg Obj.MOVE_SIZE c ∧ (s.withMove ep c h r).reg Obj.MOVE_PHASE c = 1 ∧
    (s.withMove ep c h r).reg Obj.MOVE_HANDLE c = h ∧ (s.withMove ep c h r).reg Obj.MOVE_RDR c = r := by
  simp [withMove, withMoveRegs, withRedirect, reg_setReg, reg_clearBitmap]

theorem dict_withMove (s : State) (ep c h r : Nat) : (s.withMove ep c h r).dict = (s.setLop h (s.newLop 2 ep c)).dict := by
  simp [withMove, clearBitmap, withMoveRegs, withRedirect]

theorem lop_withMove (s : State) (ep c h r k : Nat) : (s.withMove ep c h r).lop k = (s.setLop h (s.newLop 2 ep c)).lop k := by
  rw [lop, dict_withMove, lop]

/-- A started move leaves everything but the handles, the objects and the moves as it was. -/
theorem frame_withMove (s : State) (ep c h r : Nat) :
    (s.withMove ep c h r).pending = s.pending ∧ (s.withMove ep c h r).mode = s.mode ∧ (s.withMove ep c h r).sec = s.sec ∧
    (s.withMove ep c h r).link = s.link ∧ (s.withMove ep c h r).fab = s.fab ∧ (s.withMove ep c h r).coh = s.coh := by
  simp [withMove, clearBitmap, withMoveRegs, withRedirect]

end State

/-- Settles O9: what each of the five starts makes of the state, and the handle that it answers. -/
theorem longOperationStarts : Obligations.LongOperationStarts := by
  unfold Obligations.LongOperationStarts
  refine ⟨?_, ?_, ?_, ?_, ?_⟩
  · intro s ep h acc now awake listed idle still free
    have e : s.writeObj none ep Obj.PM_ENTER 0 (valOf 1) = starts s (s.pmEnter ep) := writeObj_PM_ENTER s none ep 0 (valOf 1)
    rw [pmEnter_now now awake listed idle still free] at e
    exact ⟨_, writeCmd_starts acc (by decide) rfl e rfl rfl rfl, lop_setLop_self s h _, fun k => lop_setLop_of_ne s h _, rfl, rfl, rfl,
      rfl, rfl, rfl, rfl, rfl⟩
  · intro s ep h acc idle free
    have e : s.writeObj none ep Obj.FW_UPDATE 0 (valOf 1) = starts s (s.fwUpdate ep) := writeObj_FW_UPDATE s none ep 0 (valOf 1)
    rw [fwUpdate_free idle free] at e
    exact ⟨_, writeCmd_starts acc (by decide) rfl e rfl rfl rfl, lop_setLop_self s h _, fun k => lop_setLop_of_ne s h _, rfl⟩
  · intro s ep p h acc idle free
    have e : s.writeObj none ep Obj.PROF_STORE p (valOf 1) = starts s (s.profStore p ep) :=
      writeObj_PROF_STORE s none ep p (valOf 1)
    rw [profStore_free idle free] at e
    exact ⟨_, writeCmd_starts acc (by decide) rfl e rfl rfl rfl, lop_setLop_self s h _, fun k => lop_setLop_of_ne s h _, rfl, rfl, rfl,
      rfl, rfl, rfl, rfl, rfl, rfl⟩
  · intro s ep h acc closed free
    have e : s.writeObj none ep Obj.TALUS_WINDOW_NOW 0 (valOf 1) = s.windowNow ep :=
      writeObj_TALUS_WINDOW_NOW s none ep 0 (valOf 1)
    rw [windowNow_free closed free] at e
    exact ⟨_, writeCmd_starts acc (by decide) rfl e rfl rfl rfl, lop_setLop_self s h _, fun k => lop_setLop_of_ne s h _, rfl,
      reg_setReg_self _ _ _ _, rfl, rfl, rfl, fun o i => reg_setReg_of_ne _ _ _ _⟩
  · intro s ep c h acc ok free now
    obtain ⟨r, first, unused⟩ := free_redirect_of_moveCheck ok
    have e : s.writeObj none ep Obj.MOVE_START c (valOf 1) = starts s (s.moveStart c ep) :=
      writeObj_MOVE_START s none ep c (valOf 1)
    rw [moveStart_now ok free now first] at e
    obtain ⟨pending, mode, sec, link, fab, coh⟩ := frame_withMove s ep c h r
    obtain ⟨state, src, dst, size, phase, handle, redirect⟩ := reg_withMove s ep c h r
    refine ⟨_, r, writeCmd_starts acc (by decide) rfl e pending mode (congrArg SecSt.fuse sec), ?_, unused, state, src, dst, size,
      phase, handle, redirect, ?_, link, fab, coh⟩
    · rw [lop_withMove, lop_setLop_self]
      rfl
    · rw [withMove, mover_setMover_self]

end Sys2Proof.Machine
end

section
/-!
The obligation `DictionaryReads`: the three reads, the objects that they name, and the read of a staged value.
-/

namespace Sys2Proof.Machine

open State

namespace State

variable {s : State} {ep : Nat} {r : Req}

/-- A request that names no stage's values reads the active value (R50). -/
theorem readOne_active (active : bit r.flags 1 = false) (k : Key) : s.readOne ep r k = s.readObj ep k.1 k.2 := by
  unfold readOne
  rw [active, Bool.false_and, if_neg Bool.false_ne_true]

theorem readOne_staged {k : Key} {v : Nat} (asks : bit r.flags 1 = true) (names : r.stage ≠ 0)
    (holds : staged (s.stage r.stage).entries k = some v) : s.readOne ep r k = (valOf v, s) := by
  unfold readOne
  rw [asks, Bool.true_and, if_pos (by simpa using names), holds]

/-- Reads of active values that have no effect of their own answer those values and change nothing (R48). -/
theorem readRun_active (active : bit r.flags 1 = false) {ks : List Key} (still : ∀ k ∈ ks, (s.readObj ep k.1 k.2).2 = s) :
    readRun ep r s ks = (ks.flatMap (s.valueBytes ep), s) := by
  induction ks with
  | nil => rfl
  | cons k ks ih =>
    have rest := ih fun j mem => still j (List.mem_cons_of_mem k mem)
    unfold readRun
    dsimp only
    rw [readOne_active active, still k List.mem_cons_self, rest]
    rfl

/-- A read answers the bytes of its values where they fit in a response, and LENGTH otherwise (R46). -/
theorem doRead_of_readRun {b : List Byte} (e : readRun ep r s (targets r) = (b, s)) :
    s.doRead ep r = if 16 + b.length ≤ 1024 then { abort := 0, state := s, payload := b } else refuse s Ab.LENGTH := by
  unfold doRead
  rw [e]
  dsimp only
  by_cases fits : 16 + b.length ≤ 1024
  · rw [if_neg (by omega), if_pos fits]
  · rw [if_pos (by omega), if_neg fits]

end State

section

variable {s : State} {ep : Nat} {r : Req}

theorem onEp_submit_read (acc : s.Accepts ep r) (reads : Op.reads r.op = true) {b : List Byte}
    (e : readRun ep r s (targets r) = (b, s)) :
    onEp ep s (fun t => t.submit none ep r) =
      .next (if 16 + b.length ≤ 1024 then s.respondReq ep r 0 b else s.respondReq ep r Ab.LENGTH []) := by
  have carried : s.carryReq none ep r = s.doRead ep r := if_pos reads
  rw [doRead_of_readRun e] at carried
  split
  case isTrue fits =>
    rw [if_pos fits] at carried
    exact onEp_submit_accepted acc carried rfl rfl rfl
  case isFalse long =>
    rw [if_neg long] at carried
    exact onEp_submit_accepted acc carried rfl rfl rfl

theorem targets_read (r : Req) : targets (withOp r Op.READ) = [(reqObj r, r.inst)] := rfl

theorem targets_blockRead {n : Byte} (nonzero : n.toNat ≠ 0) (payload : r.payload = [n]) (range : r.sub + n.toNat ≤ 256) :
    targets (withOp r Op.BLOCK_READ) = (List.range n.toNat).map (fun i => (reqObj r + i, r.inst)) := by
  change (List.range (max 1 (ofBytes (r.payload.take 1)))).map (fun i => (if r.sub + i < 256 then reqObj r + i else 0, r.inst)) = _
  have count : max 1 (ofBytes (r.payload.take 1)) = n.toNat := by
    rw [payload]
    simp only [List.take_succ_cons, List.take_nil, ofBytes]
    omega
  rw [count]
  refine List.map_congr_left fun i mem => ?_
  have below := List.mem_range.mp mem
  rw [if_pos (by omega)]

theorem targets_readInstances {a n : Nat} (nonzero : n ≠ 0) (hn : n < 65536) (ha : a < 65536)
    (payload : r.payload = toBytes 2 a ++ toBytes 2 n) :
    targets (withOp r Op.READ_INSTANCES) = (List.range n).map (fun i => (reqObj r, a + i)) := by
  change (if r.payload.length < 4 then [(reqObj r, r.inst)]
    else (List.range (max 1 (ofBytes ((r.payload.drop 2).take 2)))).map fun i => (reqObj r, ofBytes (r.payload.take 2) + i)) = _
  have first : ofBytes (r.payload.take 2) = a := by
    rw [payload, List.take_left' (toBytes_length 2 a), ofBytes_toBytes]
    exact Nat.mod_eq_of_lt ha
  have count : ofBytes ((r.payload.drop 2).take 2) = n := by
    rw [payload, List.drop_left' (toBytes_length 2 a), List.take_of_length_le (toBytes_length 2 n).le, ofBytes_toBytes]
    exact Nat.mod_eq_of_lt hn
  rw [if_neg (by simp [payload]), first, count, max_eq_right (by omega)]

theorem exec_read_staged {row : ObjRow} {v : Nat} (acc : s.Accepts ep (withOp r Op.READ)) (asks : bit r.flags 1 = true)
    (names : r.stage ≠ 0) (object : dictRow (reqObj r) r.inst = some row) (short : (putVal row.ty (valOf v)).length ≤ 1008)
    (holds : staged (s.stage r.stage).entries (reqObj r, r.inst) = some v) :
    exec (.read ep r) s = .next (s.respondReq ep (withOp r Op.READ) 0 (putVal row.ty (valOf v))) := by
  have one : s.readOne ep (withOp r Op.READ) (reqObj r, r.inst) = (valOf v, s) :=
    readOne_staged (r := withOp r Op.READ) asks names holds
  have run : readRun ep (withOp r Op.READ) s (targets (withOp r Op.READ)) = (putVal row.ty (valOf v), s) := by
    rw [targets_read]
    simp only [readRun, one, object, List.append_nil]
  exact (onEp_submit_read acc rfl run).trans (congrArg _ (if_pos (by omega)))

end

/-- Settles O12: the answer of the three reads of active values, the objects that each names, and the read of a staged value. -/
theorem dictionaryReads : Obligations.DictionaryReads := by
  unfold Obligations.DictionaryReads
  refine ⟨?_, targets_read, fun r n => targets_blockRead, fun r a n => targets_readInstances, ?_⟩
  · intro s ep r c op listed acc active still
    have run := readRun_active (r := withOp r op) active still
    simp only [List.mem_cons, List.not_mem_nil, or_false, Prod.mk.injEq] at listed
    rcases listed with ⟨rfl, rfl⟩ | ⟨rfl, rfl⟩ | ⟨rfl, rfl⟩
    · exact onEp_submit_read acc rfl run
    · exact onEp_submit_read acc rfl run
    · exact onEp_submit_read acc rfl run
  · intro s ep r row v acc asks names object short holds
    exact exec_read_staged acc asks names object short holds

end Sys2Proof.Machine
end

section
/-!
The obligation `DictionaryWrites`: values put into an open stage, and the refusals of a stage that is not open and of an object that
another stage holds.
-/

namespace Sys2Proof.Machine

open State

theorem Tbl.length_insert {α : Type} (e : Key × α) (t : Tbl α) : (Tbl.insert e t).length = t.length + 1 := by
  induction t with
  | nil => rfl
  | cons a r ih =>
    unfold Tbl.insert
    split
    · exact congrArg (· + 1) ih
    · rfl

/-- Where only `n` may be accepted anew, the first accepted number stays `n` or none. -/
theorem find?_getD_of_accepts_more {p q : Nat → Bool} {n : Nat} (same : ∀ m, m ≠ n → q m = p m) (more : p n = true → q n = true)
    (l : List Nat) (first : (l.find? p).getD n = n) : (l.find? q).getD n = n := by
  induction l with
  | nil => rfl
  | cons a l ih =>
    rw [List.find?_cons] at first ⊢
    by_cases here : a = n
    · subst here
      cases accepted : q a with
      | true => rfl
      | false =>
        have not_before : p a = false := by
          by_contra before
          rw [more (by simpa using before)] at accepted
          cases accepted
        rw [not_before] at first
        exact ih first
    · rw [same a here]
      cases before : p a with
      | true =>
        rw [before] at first
        exact absurd first here
      | false =>
        rw [before] at first
        exact ih first

namespace State

theorem length_putStaged_le (l : Tbl Nat) (k : Key) (v : Nat) : (putStaged l k v).length ≤ l.length + 1 := by
  have fewer := List.length_filter_le (fun e => !(decide (e.1 = k))) l
  unfold putStaged
  rw [Tbl.length_insert]
  exact Nat.succ_le_succ fewer

theorem staged_isSome {l : Tbl Nat} {k : Key} : (staged l k).isSome = true ↔ ∃ e ∈ l, e.1 = k := by
  simp [staged, List.find?_isSome]

/-- A stage keeps the objects that it holds when one more is put in (R52). -/
theorem staged_putStaged {l : Tbl Nat} {j : Key} (k : Key) (v : Nat) (holds : (staged l j).isSome = true) :
    (staged (putStaged l k v) j).isSome = true := by
  obtain ⟨e, mem, rfl⟩ := staged_isSome.mp holds
  refine staged_isSome.mpr ?_
  by_cases same : e.1 = k
  · exact ⟨(k, v), (Tbl.mem_insert _ _ _).mpr (.inl rfl), same.symm⟩
  · exact ⟨e, (Tbl.mem_insert _ _ _).mpr (.inr (List.mem_filter.mpr ⟨mem, by simpa using same⟩)), rfl⟩

/-- Stage `n` holds `l` as of now. -/
def withStaged (s : State) (n : Nat) (l : Tbl Nat) : State := s.setStage n { s.stage n with entries := l, touched := s.clk }

section

variable {s : State} {n : Nat} {k : Key}

@[simp] theorem stage_withStaged_self (l : Tbl Nat) :
    (s.withStaged n l).stage n = { s.stage n with entries := l, touched := s.clk } := stage_setStage_self s n _

theorem withStaged_withStaged (l m : Tbl Nat) : (s.withStaged n l).withStaged n m = s.withStaged n m := by
  change (s.setStage n _).setStage n { (s.withStaged n l).stage n with entries := m, touched := s.clk } = _
  rw [stage_withStaged_self]
  unfold setStage
  dsimp only
  rw [Tbl.set_set]
  rfl

/-- An object that no other stage holds may be put into stage `n` after another value has been (R52). -/
theorem heldBy_withStaged {j : Key} (v : Nat) (opened : (s.stage n).st ≠ .free) (free : (s.heldBy j).getD n = n) :
    ((s.withStaged n (putStaged (s.stage n).entries k v)).heldBy j).getD n = n := by
  refine find?_getD_of_accepts_more (fun m other => ?_) (fun holds => ?_) _ free
  · rw [withStaged, stage_setStage_of_ne s n _ other]
  · rw [Bool.and_eq_true] at holds ⊢
    rw [stage_withStaged_self]
    exact ⟨by simpa using opened, staged_putStaged k v holds.2⟩

theorem stageValue_free {v : Nat} (free : (s.heldBy k).getD n = n) (room : (s.stage n).entries.length < 1024) :
    s.stageValue n k v = done (s.withStaged n (putStaged (s.stage n).entries k v)) := by
  unfold stageValue
  dsimp only
  rw [if_neg (not_not_intro free), if_neg (by simp [room])]
  rfl

theorem stageValue_held {v : Nat} (held : (s.heldBy k).getD n ≠ n) : s.stageValue n k v = refuse s Ab.BUSY := if_pos held

theorem writeOne_staged {x : Verdict} {ep : Nat} {v : Val} (rws : ∃ row, dictRow k.1 k.2 = some row ∧ row.acc = .rws) :
    s.writeOne x ep n k v = s.stageValue n k v.num := by
  obtain ⟨row, object, access⟩ := rws
  unfold writeOne
  rw [object]
  exact if_pos access

/-- Staged values in order, a later one of an object in place of an earlier one (R52). -/
def putStagedAll (l : Tbl Nat) (es : List (Key × Val)) : Tbl Nat := es.foldl (fun l e => putStaged l e.1 e.2.num) l

/-- A run of staged objects is put into its stage (R49, R51). -/
theorem writeRun_staged {x : Verdict} {ep : Nat} (s0 : State) {es : List (Key × Val)} (any : es ≠ [])
    (opened : (s.stage n).st ≠ .free) (rws : ∀ e ∈ es, ∃ row, dictRow e.1.1 e.1.2 = some row ∧ row.acc = .rws)
    (free : ∀ e ∈ es, (s.heldBy e.1).getD n = n) (room : (s.stage n).entries.length + es.length ≤ 1024) :
    s0.writeRun x ep n s es = done (s.withStaged n (putStagedAll (s.stage n).entries es)) := by
  induction es generalizing s with
  | nil => exact absurd rfl any
  | cons e r ih =>
    rw [List.length_cons] at room
    have one := (writeOne_staged (x := x) (ep := ep) (rws e List.mem_cons_self)).trans
      (stageValue_free (v := e.2.num) (free e List.mem_cons_self) (by omega))
    unfold writeRun
    rw [one]
    dsimp only [done]
    rw [if_pos rfl]
    cases r with
    | nil => rfl
    | cons d r =>
      have shorter := length_putStaged_le (s.stage n).entries e.1 e.2.num
      rw [List.isEmpty_cons, if_neg Bool.false_ne_true, ih (List.cons_ne_nil d r), withStaged_withStaged, stage_withStaged_self]
      · rfl
      · rw [stage_withStaged_self]
        exact opened
      · exact fun y mem => rws y (List.mem_cons_of_mem e mem)
      · exact fun y mem => heldBy_withStaged _ opened (free y (List.mem_cons_of_mem e mem))
      · rw [stage_withStaged_self]
        dsimp only
        omega

end

end State

/-! ### The values that a write carries -/

theorem length_takeVals {ks : List Key} {b : List Byte} {vs : List Val} (h : takeVals ks b = some vs) : vs.length = ks.length := by
  induction ks generalizing b vs with
  | nil =>
    unfold takeVals at h
    split at h <;> cases h
    rfl
  | cons k ks ih =>
    unfold takeVals at h
    split at h
    · cases h
    · split at h
      · cases h
      · obtain ⟨rest, taken, rfl⟩ := Option.map_eq_some_iff.mp h
        exact congrArg (· + 1) (ih taken)

section

variable {s : State} {ep : Nat} {r : Req} {vs : List Val}

theorem targets_ne_nil (writes : Op.writes r.op = true) : targets r ≠ [] := by
  simp only [Op.writes, Bool.or_eq_true, beq_iff_eq] at writes
  unfold targets
  rcases writes with op | op <;> simp [op]

/-- A write in range has one value for each object that it names, and names one at least (R46). -/
theorem length_writeVals (writes : Op.writes r.op = true) (range : s.rangeOk r = true) (vals : writeVals r = some vs) :
    vs.length = (targets r).length := by
  unfold rangeOk at range
  dsimp only at range
  rw [if_pos writes, Bool.and_eq_true, Bool.or_eq_true] at range
  unfold writeVals at vals
  split at vals
  case isTrue => exact length_takeVals vals
  case isFalse other =>
    have count : ofBytes (r.payload.take 1) ≠ 0 := by simpa [other] using range.1
    rw [if_neg count] at vals
    split at vals
    · cases vals
    · exact length_takeVals vals

theorem carryReq_of_writes {x : Verdict} (writes : Op.writes r.op = true) : s.carryReq x ep r = s.doWrite x ep r := by
  unfold carryReq
  rw [if_neg ?_, if_pos writes]
  simp only [Op.writes, Bool.or_eq_true, beq_iff_eq] at writes
  rcases writes with op | op <;> simp [Op.reads, op]

theorem doWrite_opened {x : Verdict} {e : Effect} (opened : (s.stage r.stage).st = .opened) (vals : writeVals r = some vs)
    (run : s.writeRun x ep r.stage s ((targets r).zip vs) = e) :
    s.doWrite x ep r = { e with state := s.profWatch e.state, payload := if r.op = Op.WRITE then e.payload else [] } := by
  unfold doWrite
  rw [if_neg fun closed => closed.2 opened, vals]
  dsimp only [Option.getD_some]
  rw [run]

/-- A write of staged objects that no other stage holds puts its values into the open stage that it names. -/
theorem onEp_submit_write_staged (acc : s.Accepts ep r) (writes : Op.writes r.op = true)
    (opened : (s.stage r.stage).st = .opened)
    (rws : ∀ k ∈ targets r, ∃ row, dictRow k.1 k.2 = some row ∧ row.acc = .rws) (vals : writeVals r = some vs)
    (free : ∀ k ∈ targets r, (s.heldBy k).getD r.stage = r.stage) (room : (s.stage r.stage).entries.length + vs.length ≤ 1024) :
    onEp ep s (fun t => t.submit none ep r) =
      .next (s.wrote (s.withStaged r.stage (putStagedAll (s.stage r.stage).entries ((targets r).zip vs))) ep r []) := by
  obtain ⟨-, -, -, -, -, -, -, -, -, range⟩ := precheck_zero acc.2.2
  have length := length_writeVals writes range vals
  have any : (targets r).zip vs ≠ [] := by
    have := List.length_pos_iff.mpr (targets_ne_nil writes)
    refine List.length_pos_iff.mp ?_
    rw [List.length_zip]
    omega
  have run : s.writeRun none ep r.stage s ((targets r).zip vs) =
      done (s.withStaged r.stage (putStagedAll (s.stage r.stage).entries ((targets r).zip vs))) := by
    refine writeRun_staged s any (by simp [opened]) (fun e mem => rws _ (List.of_mem_zip mem).1)
      (fun e mem => free _ (List.of_mem_zip mem).1) ?_
    rw [List.length_zip]
    omega
  refine onEp_submit_accepted acc ((carryReq_of_writes writes).trans ?_) ?_ ?_ ?_
  · rw [doWrite_opened opened vals run]
    dsimp only [done]
    rw [ite_self]
  · rw [pending_profWatch]
    rfl
  · rw [mode_profWatch]
    rfl
  · rw [sec_profWatch]
    rfl

/-- A WRITE of an object that another stage holds is refused (R52). -/
theorem exec_write_held {row : ObjRow} (acc : s.Accepts ep (withOp r Op.WRITE)) (opened : (s.stage r.stage).st = .opened)
    (object : dictRow (reqObj r) r.inst = some row) (access : row.acc = .rws)
    (held : (s.heldBy (reqObj r, r.inst)).getD r.stage ≠ r.stage) :
    exec (.write ep r) s = .next (s.respondReq ep (withOp r Op.WRITE) Ab.BUSY []) := by
  obtain ⟨-, -, -, -, -, -, -, -, size, range⟩ := precheck_zero acc.2.2
  obtain ⟨vs, vals⟩ := Option.isSome_iff_exists.mp size
  have one := length_writeVals rfl range vals
  obtain ⟨v, rfl⟩ := List.length_eq_one_iff.mp one
  have refused : s.writeOne none ep r.stage (reqObj r, r.inst) v = refuse s Ab.BUSY :=
    (writeOne_staged ⟨row, object, access⟩).trans (stageValue_held held)
  have run : s.writeRun none ep r.stage s [((reqObj r, r.inst), v)] = refuse s Ab.BUSY := by
    unfold writeRun
    rw [refused]
    rfl
  refine onEp_submit_accepted acc ((carryReq_of_writes rfl).trans ?_) rfl rfl rfl
  rw [doWrite_opened (r := withOp r Op.WRITE) opened vals run]
  dsimp only [refuse]
  rw [profWatch_self, ite_self]

theorem exec_write_closed (acc : s.Accepts ep (withOp r Op.WRITE)) (names : r.stage ≠ 0) (closed : (s.stage r.stage).st ≠ .opened) :
    exec (.write ep r) s = .next (s.respondReq ep (withOp r Op.WRITE) Ab.BUSY []) :=
  onEp_submit_accepted acc ((carryReq_of_writes rfl).trans (if_pos ⟨names, closed⟩)) rfl rfl rfl

end

/-- Settles O13: both writes of staged objects, and the two refusals of a WRITE. -/
theorem dictionaryWrites : Obligations.DictionaryWrites := by
  unfold Obligations.DictionaryWrites
  refine ⟨?_, ?_, ?_⟩
  · intro s ep r c op vs listed acc _ opened rws vals free room
    simp only [List.mem_cons, List.not_mem_nil, or_false, Prod.mk.injEq] at listed
    rcases listed with ⟨rfl, rfl⟩ | ⟨rfl, rfl⟩
    · exact onEp_submit_write_staged acc rfl opened rws vals free room
    · exact onEp_submit_write_staged acc rfl opened rws vals free room
  · intro s ep r row acc _ opened object access held
    exact exec_write_held acc opened object access held
  · intro s ep r acc names closed
    exact exec_write_closed acc names closed

end Sys2Proof.Machine
end

section
/-!
SUPPORT. What a commit that puts one read set of a region in place makes of the state (R54, R130, R264), and what the states of the
partitions that follow it leave alone.
-/

namespace Sys2Proof.Machine

theorem foldS_unchanged {α σ : Type} {f : α → σ → σ} (h : ∀ a s, f a s = s) (l : List α) (s : σ) : foldS f l s = s := by
  induction l with
  | nil => rfl
  | cons a r ih => rw [foldS, h, ih]

namespace State

/-! ### What leaves access control alone -/

/-- `t` has the links, directory and security state of `s`, and its access control: the objects of chapter 12 and the values of the old
epoch. -/
structure KeepsAcl (s t : State) : Prop where
  pending : t.pending = s.pending
  mode : t.mode = s.mode
  sec : t.sec = s.sec
  link : t.link = s.link
  coh : t.coh = s.coh
  flOld : t.fab.flOld = s.fab.flOld
  regs : ∀ o i, 0x600000 ≤ o → o < 0x700000 → t.reg o i = s.reg o i

section

variable {s t u : State}

theorem KeepsAcl.refl (s : State) : s.KeepsAcl s := ⟨rfl, rfl, rfl, rfl, rfl, rfl, fun _ _ _ _ => rfl⟩

theorem KeepsAcl.trans (h : s.KeepsAcl t) (k : t.KeepsAcl u) : s.KeepsAcl u :=
  ⟨k.pending.trans h.pending, k.mode.trans h.mode, k.sec.trans h.sec, k.link.trans h.link, k.coh.trans h.coh,
    k.flOld.trans h.flOld, fun o i low high => (k.regs o i low high).trans (h.regs o i low high)⟩

theorem setReg_keepsAcl {o : Nat} (s : State) (i v : Nat) (other : o < 0x600000 ∨ 0x700000 ≤ o) : s.KeepsAcl (s.setReg o i v) where
  pending := rfl
  mode := rfl
  sec := rfl
  link := rfl
  coh := rfl
  flOld := rfl
  regs a b low high := reg_setReg_of_ne s o i v fun same => by
    have := (Prod.mk.inj same).1
    omega

theorem setLop_keepsAcl (s : State) (h : Nat) (x : Lop) : s.KeepsAcl (s.setLop h x) :=
  ⟨rfl, rfl, rfl, rfl, rfl, rfl, fun _ _ _ _ => rfl⟩

theorem setStage_keepsAcl (s : State) (n : Nat) (x : Stage) : s.KeepsAcl (s.setStage n x) :=
  ⟨rfl, rfl, rfl, rfl, rfl, rfl, fun _ _ _ _ => rfl⟩

theorem raise_keepsAcl (s : State) (code source sev inst data : Nat) : s.KeepsAcl (s.raise code source sev inst data) where
  pending := pending_raise ..
  mode := mode_raise ..
  sec := sec_raise ..
  link := link_raise ..
  coh := coh_raise ..
  flOld := by rw [fab_raise]
  regs o i low high := reg_raise s code source sev inst data i (fun e => absurd (e ▸ high) (by decide))
    (fun e => absurd (e ▸ low) (by decide))

theorem profWatch_keepsAcl (s t : State) : t.KeepsAcl (s.profWatch t) := by
  rw [profWatch_eq]
  exact ⟨rfl, rfl, rfl, rfl, rfl, rfl, fun _ _ _ _ => rfl⟩

/-- Taking out entries of other keys leaves what a key reads as. -/
theorem Tbl.get_filter_of_kept {α : Type} (t : Tbl α) (d : α) (k : Key) (q : Key × α → Bool) (kept : ∀ v, q (k, v) = true) :
    Tbl.get (t.filter q) d k = Tbl.get t d k := by
  induction t with
  | nil => rfl
  | cons e r ih =>
    rw [List.filter_cons]
    by_cases here : e.1 = k
    · have accepted : q e = true := by
        subst here
        exact kept e.2
      rw [if_pos accepted, Tbl.get, Tbl.get, if_pos here, if_pos here]
    · rw [Tbl.get, if_neg here]
      split
      · rw [Tbl.get, if_neg here, ih]
      · exact ih

theorem resetSet_keepsAcl (s : State) (k : Nat) : s.KeepsAcl (s.resetSet k) where
  pending := rfl
  mode := rfl
  sec := rfl
  link := rfl
  coh := rfl
  flOld := rfl
  regs o i low high := by
    refine Tbl.get_filter_of_kept s.regs _ (o, i) _ fun v => ?_
    have below : ¬ 0x900000 ≤ o := by omega
    have below' : ¬ 0x910000 ≤ o := by omega
    simp [below, below']

theorem clearEndpoint_keepsAcl (s : State) (ep : Nat) : s.KeepsAcl (s.clearEndpoint ep) where
  pending := rfl
  mode := rfl
  sec := rfl
  link := rfl
  coh := rfl
  flOld := rfl
  regs o i low _ := Tbl.get_set_of_ne s.regs (regDefault (Obj.EVT_DROPPED, ep)) (regDefault (o, i)) 0 fun same =>
    absurd ((Prod.mk.inj same).1 ▸ low) (by decide)

theorem endpointGone_keepsAcl (s : State) (ep : Nat) : s.KeepsAcl (s.endpointGone ep) := by
  refine KeepsAcl.trans ?_ (clearEndpoint_keepsAcl _ ep)
  refine foldS_keeps s.KeepsAcl _ (fun i t h => ?_) _ _ (.refl s)
  split
  · exact (h.trans (raise_keepsAcl t _ _ _ _ _)).trans (setStage_keepsAcl _ _ _)
  · exact h

/-- PART_STATE as R124 has it. -/
def partBound (s : State) (n : Nat) : Nat :=
  if s.flag Obj.PART_ENABLE n && decide (s.reg Obj.PART_HOST_PORT n < 256) && s.flag Obj.PORT_ENABLE (s.reg Obj.PART_HOST_PORT n) &&
    s.reg Obj.PORT_ROLE (s.reg Obj.PART_HOST_PORT n) == 0 then 1 else 0

/-- A partition whose binding has changed has its counter set as at reset (R326), and its endpoint gone where it is unbound (R56). -/
def refreshPart (n : Nat) (s : State) : State :=
  if s.reg Obj.PART_STATE n = s.partBound n then s
  else if s.partBound n = 0 then ((s.setReg Obj.PART_STATE n (s.partBound n)).resetSet n).endpointGone (257 + n)
  else (s.setReg Obj.PART_STATE n (s.partBound n)).resetSet n

theorem refreshParts_eq (s : State) : s.refreshParts = foldS refreshPart (List.range 64) s := rfl

theorem refreshPart_keepsAcl (n : Nat) (s : State) : s.KeepsAcl (refreshPart n s) := by
  have reset : s.KeepsAcl ((s.setReg Obj.PART_STATE n (s.partBound n)).resetSet n) :=
    (setReg_keepsAcl s n _ (.inl (by decide))).trans (resetSet_keepsAcl _ n)
  unfold refreshPart
  split
  · exact .refl s
  · split
    · exact reset.trans (endpointGone_keepsAcl _ _)
    · exact reset

theorem refreshParts_keepsAcl (s : State) : s.KeepsAcl s.refreshParts :=
  foldS_keeps s.KeepsAcl refreshPart (fun n t h => h.trans (refreshPart_keepsAcl n t)) _ _ (.refl s)

theorem noteMoved_keepsAcl (s : State) : s.KeepsAcl s.noteMoved := by
  refine foldS_keeps s.KeepsAcl _ (fun e t h => ?_) _ _ (.refl s)
  split
  · split
    · exact h.trans ⟨rfl, rfl, rfl, rfl, rfl, rfl, fun _ _ _ _ => rfl⟩
    · exact h
  · exact h

end

/-! ### The commit of a read set -/

section

variable (s : State) (i v : Nat)

/-- The entries of a stage that holds a read set of region `i` alone. -/
abbrev readSetEntry (i v : Nat) : Tbl Nat := [((Obj.RGN_READ, i), v)]

theorem unbound_readSet (c : State) : s.unbound c (readSetEntry i v) = [] := by
  simp [unbound]

/-- A stage with only a read set makes a configuration with that read set. -/
theorem candidate_readSet : s.candidate (readSetEntry i v) = s.setReg Obj.RGN_READ i v := by
  have put : s.putAll (readSetEntry i v) = s.setReg Obj.RGN_READ i v := rfl
  unfold candidate
  dsimp only
  rw [put, unbound_readSet, foldS_unchanged fun w t => if_neg (by simp)]
  rfl

theorem changedWins_readSet : s.changedWins (s.setReg Obj.RGN_READ i v) = [] := by
  have reg {o : Nat} (w : Nat) (ne : o ≠ Obj.RGN_READ) : (s.setReg Obj.RGN_READ i v).reg o w = s.reg o w :=
    reg_setReg_of_ne s _ i v fun same => ne (Prod.mk.inj same).1
  unfold changedWins
  refine List.filter_eq_nil_iff.mpr fun w _ => ?_
  have on : (s.setReg Obj.RGN_READ i v).winOn w = s.winOn w := by rw [winOn, winOn, reg w (by decide)]
  have cfg : (s.setReg Obj.RGN_READ i v).winCfg w = s.winCfg w := by
    unfold winCfg
    simp only [reg w (show Obj.WIN_WAYS ≠ Obj.RGN_READ by decide), reg w (show Obj.WIN_TARGETS ≠ Obj.RGN_READ by decide),
      reg w (show Obj.WIN_PART ≠ Obj.RGN_READ by decide), reg w (show Obj.WIN_HPA_BASE ≠ Obj.RGN_READ by decide),
      reg w (show Obj.WIN_SIZE ≠ Obj.RGN_READ by decide), reg w (show Obj.WIN_GRAN ≠ Obj.RGN_READ by decide),
      reg w (show Obj.WIN_DPA_BASE ≠ Obj.RGN_READ by decide), reg w (show Obj.WIN_ATTR ≠ Obj.RGN_READ by decide)]
  simp [on, cfg]

theorem gclTouched_readSet (c : State) : gclTouched s c (readSetEntry i v) = [] := by
  unfold gclTouched
  simp

theorem slotsNeeded_readSet (c : State) : s.slotsNeeded c (readSetEntry i v) = 0 := by
  unfold slotsNeeded
  rw [gclTouched_readSet]
  simp

theorem objectCommit_readSet (c : State) : s.objectCommit c ((Obj.RGN_READ, i), v) = c := by
  simp [objectCommit]

/-- The read set of region `i` is in place, its old value kept for the old epoch, and FL_EPOCH one further (R130, R264). -/
def withReadSet : State :=
  ({ s.setReg Obj.RGN_READ i v with fab := { s.fab with flOld := s.keepOldAcl (readSetEntry i v) } }).setReg Obj.FL_EPOCH 0
    ((s.reg Obj.FL_EPOCH 0 + 1) % 2 ^ 32)

theorem subjectOf_RGN_READ : subjectOf Obj.RGN_READ = some 2 := rfl

theorem subjects_readSet : subjects (readSetEntry i v) = [2] := by
  have one : (readSetEntry i v).filterMap (fun e => subjectOf e.1.1) = [2] := by simp [subjectOf_RGN_READ]
  rw [subjects, one]
  rfl

theorem keepOldAcl_readSet :
    s.keepOldAcl (readSetEntry i v) = Tbl.set [] none (Obj.RGN_READ, i) (some (s.reg Obj.RGN_READ i)) := by
  simp [keepOldAcl, subjectOf_RGN_READ]

/-- The commit point of a read set touches no window, group, route or gate list (R130). -/
theorem applyStage_readSet (h : Nat) :
    s.applyStage h (readSetEntry i v) = s.profWatch (s.withReadSet i v).refreshParts.noteMoved := by
  unfold applyStage
  dsimp only
  rw [candidate_readSet, changedWins_readSet, gclTouched_readSet, subjects_readSet]
  simp [unbound_readSet, foldS, objectCommit_readSet, withReadSet]

/-- `u` is `s` with read set `v` of region `i` in force under a new epoch, the old one kept for the old epoch (R130, R264). -/
structure PutsReadSet (s u : State) (i v : Nat) : Prop where
  pending : u.pending = s.pending
  mode : u.mode = s.mode
  sec : u.sec = s.sec
  link : u.link = s.link
  coh : u.coh = s.coh
  readSet : u.reg Obj.RGN_READ i = v
  old : u.fab.flOld.get none (Obj.RGN_READ, i) = some (s.reg Obj.RGN_READ i)
  epoch : u.reg Obj.FL_EPOCH 0 = (s.reg Obj.FL_EPOCH 0 + 1) % 2 ^ 32

theorem withReadSet_putsReadSet : s.PutsReadSet (s.withReadSet i v) i v where
  pending := rfl
  mode := rfl
  sec := rfl
  link := rfl
  coh := rfl
  readSet := by
    rw [withReadSet, reg_setReg_of_ne _ _ _ _ (by simp)]
    exact reg_setReg_self s Obj.RGN_READ i v
  old := by
    change (s.keepOldAcl (readSetEntry i v)).get none (Obj.RGN_READ, i) = _
    rw [keepOldAcl_readSet, Tbl.get_set_self]
  epoch := reg_setReg_self ..

variable {s i v} {t u : State}

theorem PutsReadSet.trans (h : s.PutsReadSet t i v) (k : t.KeepsAcl u) : s.PutsReadSet u i v where
  pending := k.pending.trans h.pending
  mode := k.mode.trans h.mode
  sec := k.sec.trans h.sec
  link := k.link.trans h.link
  coh := k.coh.trans h.coh
  readSet := (k.regs Obj.RGN_READ i (by decide) (by decide)).trans h.readSet
  old := (congrArg (Tbl.get · none (Obj.RGN_READ, i)) k.flOld).trans h.old
  epoch := (k.regs Obj.FL_EPOCH 0 (by decide) (by decide)).trans h.epoch

theorem KeepsAcl.putsReadSet (h : s.KeepsAcl t) (k : t.PutsReadSet u i v) : s.PutsReadSet u i v where
  pending := k.pending.trans h.pending
  mode := k.mode.trans h.mode
  sec := k.sec.trans h.sec
  link := k.link.trans h.link
  coh := k.coh.trans h.coh
  readSet := k.readSet
  old := k.old.trans (congrArg some (h.regs Obj.RGN_READ i (by decide) (by decide)))
  epoch := k.epoch.trans (by rw [h.regs Obj.FL_EPOCH 0 (by decide) (by decide)])

theorem applyStage_putsReadSet (s : State) (i v h : Nat) : s.PutsReadSet (s.applyStage h (readSetEntry i v)) i v := by
  rw [applyStage_readSet]
  exact (((withReadSet_putsReadSet s i v).trans (refreshParts_keepsAcl _)).trans (noteMoved_keepsAcl _)).trans
    (profWatch_keepsAcl s _)

end

end State

end Sys2Proof.Machine
end

section
/-!
The obligation `StageCommands`: stages opened, committed and discarded.
-/

namespace Sys2Proof.Machine

open State

namespace State

variable {s : State} {n h k : Nat}

/-- The LDs that are present of those that stage entries bind (R134). -/
def presentLds (s : State) (l : Tbl Nat) : List Nat :=
  l.filterMap (fun e => if e.1.1 = Obj.VPPB_LD ∧ s.ldPresent e.2 = true then some e.2 else none)

/-- Stage `n` sealed for the commit of handle `h` (R413). -/
def sealedStage (s : State) (n h : Nat) : Stage :=
  { s.stage n with st := .sealed, lop := h, present := s.presentLds (s.stage n).entries }

/-- Stage `n` is sealed and its commit has taken handle `h` (R53, R57). -/
def sealStage (s : State) (n h : Nat) : State :=
  (s.setLop h (s.newLop 1 (s.stage n).owner n)).setStage n (s.sealedStage n h)

theorem lop_setStage (s : State) (n h : Nat) (x : Stage) : (s.setStage n x).lop h = s.lop h := rfl
theorem stage_setLop (s : State) (n h : Nat) (x : Lop) : (s.setLop h x).stage n = s.stage n := rfl

theorem lop_sealStage (s : State) (n h : Nat) : (s.sealStage n h).lop h = s.newLop 1 (s.stage n).owner n := by
  rw [sealStage, lop_setStage, lop_setLop_self]

theorem stage_sealStage (s : State) (n h : Nat) : (s.sealStage n h).stage n = s.sealedStage n h := stage_setStage_self _ n _

theorem takeSlot_eq (kind time period policy arg : Nat) (slot : s.freeSlot = some k) :
    s.takeSlot kind time period policy arg = some (k, s.setSlot k
      { kind := kind, state := 1, time := time, first := time, period := period, policy := policy, missed := 0, arg := arg
        due := 0 }) := by
  unfold takeSlot
  rw [slot]

/-- A valid commit at once is carried out where the core of its tables runs, and waits for it otherwise (R13, R53). -/
theorem stageCommit_now (free : s.freeLop = some h)
    (room : s.slotsNeeded (s.candidate (s.stage n).entries) (s.stage n).entries ≤ s.slotsFree)
    (valid : s.validate (s.stage n).entries [] false true = none) :
    s.stageCommit n 0 =
      (if ((s.sealStage n h).lop h).st = .queued then s.sealStage n h else (s.sealStage n h).commitStage n h, (0, h)) := by
  unfold stageCommit
  dsimp only
  rw [if_neg (by simp [free, room]), valid, takeLop_eq 1 _ n free]
  rfl

/-- An event slot armed for the commit of stage `n` at `time` (R54). -/
def commitSlot (n time : Nat) : Slot :=
  { kind := 1, state := 1, time := time, first := time, period := 0, policy := 0, missed := 0, arg := n, due := 0 }

/-- The commit of stage `n` waits for `time` in event slot `k` (R54). -/
def scheduleStage (s : State) (n time h k : Nat) : State :=
  (((s.sealStage n h).setSlot k (commitSlot n time)).setLop h { s.newLop 1 (s.stage n).owner n with slot := k }).setStage n
    { s.sealedStage n h with slot := k }

theorem slot_scheduleStage (s : State) (n time h k : Nat) : (s.scheduleStage n time h k).slot k = commitSlot n time :=
  slot_setSlot_self _ k _

/-- A commit that waits for its time has written its stage, its handle and its event slot alone (R54). -/
theorem frame_scheduleStage (s : State) (n time h k : Nat) :
    (s.scheduleStage n time h k).pending = s.pending ∧ (s.scheduleStage n time h k).mode = s.mode ∧
    (s.scheduleStage n time h k).sec = s.sec ∧ (s.scheduleStage n time h k).regs = s.regs ∧
    (s.scheduleStage n time h k).link = s.link ∧ (s.scheduleStage n time h k).fab = s.fab ∧
    (s.scheduleStage n time h k).coh = s.coh := by
  simp [scheduleStage, sealStage]

/-- A valid commit at a time takes an event slot (R53, R54). -/
theorem stageCommit_at {time : Nat} (later : time ≠ 0) (free : s.freeLop = some h) (slot : s.freeSlot = some k)
    (room : s.slotsNeeded (s.candidate (s.stage n).entries) (s.stage n).entries < s.slotsFree)
    (valid : s.validate (s.stage n).entries [] false true = none) :
    s.stageCommit n time = (s.scheduleStage n time h k, (0, h)) := by
  have armed : (s.sealStage n h).takeSlot 1 time 0 0 n = some (k, (s.sealStage n h).setSlot k (commitSlot n time)) :=
    takeSlot_eq 1 time 0 0 n slot
  have taken : ((s.sealStage n h).setSlot k (commitSlot n time)).lop h = s.newLop 1 (s.stage n).owner n := lop_sealStage s n h
  have enough : ¬ (s.freeLop = none ∨
      s.slotsFree < s.slotsNeeded (s.candidate (s.stage n).entries) (s.stage n).entries + if time = 0 then 0 else 1) := by
    rw [free, if_neg later]
    simp only [reduceCtorEq, false_or]
    omega
  unfold sealStage sealedStage presentLds at armed taken
  unfold stageCommit scheduleStage modLop sealStage sealedStage presentLds
  dsimp only
  rw [if_neg enough, valid, takeLop_eq 1 _ n free]
  dsimp only
  rw [if_neg later, armed]
  dsimp only
  rw [taken]

/-- Stage `n` and handle `h` past the commit point, with the subjects that the stage touches (R54, R55, R413). -/
def committed (s : State) (n h : Nat) (subs : List Nat) : State :=
  (s.setStage n { s.stage n with st := .committing }).setLop h
    { s.lop h with st := .committed, commit := s.now, since := s.clk, subjects := subs }

theorem commitStage_subjects (touches : (subjects (s.stage n).entries).isEmpty = false) :
    s.commitStage n h = (s.applyStage h (s.stage n).entries).committed n h (subjects (s.stage n).entries) := by
  unfold commitStage commitLop modLop
  dsimp only
  generalize s.applyStage h (s.stage n).entries = t
  rw [touches, if_neg Bool.false_ne_true, lop_setStage, lop_setLop_self, setLop_setLop]
  rfl

end State

section

variable {s : State} {ep n : Nat} {r : Req}

theorem exec_stageOpen_free (acc : s.Accepts ep (withOp r Op.STAGE_OPEN)) (free : s.freeStage = some n) :
    exec (.stageOpen ep r) s = .next ((s.setStage n { stageDflt with st := .opened, owner := ep, touched := s.clk }).respondReq ep
      (withOp r Op.STAGE_OPEN) 0 (toBytes 1 n)) := by
  refine onEp_submit_accepted acc ?_ rfl rfl rfl
  change s.doOpen ep = _
  unfold doOpen
  rw [free]

theorem exec_stageOpen_none (acc : s.Accepts ep (withOp r Op.STAGE_OPEN)) (free : s.freeStage = none) :
    exec (.stageOpen ep r) s = .next (s.respondReq ep (withOp r Op.STAGE_OPEN) Ab.BUSY []) := by
  refine onEp_submit_accepted acc ?_ rfl rfl rfl
  change s.doOpen ep = _
  unfold doOpen
  rw [free]
  rfl

theorem doCommit_opened {u : State} {a h : Nat} (opened : (s.stage r.stage).st = .opened)
    (e : s.stageCommit r.stage (ofBytes r.payload) = (u, (a, h))) :
    s.doCommit r = { abort := a, state := u, payload := toBytes 2 h } := by
  unfold doCommit
  rw [if_neg (not_not_intro opened), e]

/-- A commit of an open stage answers its handle (R53). -/
theorem exec_stageCommit {u : State} {h time : Nat} (acc : s.Accepts ep (withOp r Op.STAGE_COMMIT))
    (at_ : ofBytes r.payload = time) (opened : (s.stage r.stage).st = .opened)
    (e : s.stageCommit r.stage time = (u, (0, h))) (p : u.pending = s.pending) (m : u.mode = s.mode) (q : u.sec = s.sec) :
    exec (.stageCommit ep r) s = .next (u.respondReq ep (withOp r Op.STAGE_COMMIT) 0 (toBytes 2 h)) := by
  subst at_
  refine onEp_submit_accepted acc ?_ p m (congrArg SecSt.fuse q)
  change s.doCommit (withOp r Op.STAGE_COMMIT) = _
  exact doCommit_opened opened e

theorem exec_stageDiscard (acc : s.Accepts ep (withOp r Op.STAGE_DISCARD)) (opened : (s.stage r.stage).st = .opened) :
    exec (.stageDiscard ep r) s = .next ((s.setStage r.stage stageDflt).respondReq ep (withOp r Op.STAGE_DISCARD) 0 []) := by
  refine onEp_submit_accepted acc ?_ rfl rfl rfl
  change s.doDiscard (withOp r Op.STAGE_DISCARD) = _
  exact if_neg (not_not_intro opened)

theorem exec_stageIdleDiscard (low : 1 ≤ n) (high : n ≤ 16) (opened : (s.stage n).st = .opened)
    (idle : s.after (s.stage n).touched 600000000000 = true) : exec (.stageIdleDiscard n) s =
      .next ((s.raise 0x1001 0x10 2 n (n + 256 * (s.stage n).owner)).setStage n stageDflt) := by
  change execStageIdleDiscard n s = _
  exact steady_eq_next (if_pos ⟨low, high, opened, idle⟩) (pending_raise ..) (mode_raise ..) (congrArg SecSt.fuse (sec_raise ..))

/-- The whole commit of a read set puts it in force. -/
theorem putsReadSet_committed (s : State) (n h i v : Nat) :
    s.PutsReadSet (((s.sealStage n h).applyStage h (readSetEntry i v)).committed n h [2]) i v :=
  ((setLop_keepsAcl s h _).trans (setStage_keepsAcl _ n _)).putsReadSet
    ((applyStage_putsReadSet (s.sealStage n h) i v h).trans ((setStage_keepsAcl _ n _).trans (setLop_keepsAcl _ h _)))

/-- A commit of a read set at once, with a free handle and its core running (R54, R130). -/
theorem stageCommit_readSet {h i v : Nat} (entries : (s.stage n).entries = readSetEntry i v) (free : s.freeLop = some h)
    (core : s.coreRuns 0 = true) (valid : s.validate (s.stage n).entries [] false true = none) :
    s.stageCommit n 0 = (((s.sealStage n h).applyStage h (readSetEntry i v)).committed n h [2], (0, h)) := by
  have runs : ((s.sealStage n h).lop h).st = .running := by
    have duty : s.lopCore 1 n = 0 := by simp [lopCore, entries, Obj.RGN_READ]
    rw [lop_sealStage, newLop, duty, core, if_pos rfl]
  have sealed_ : ((s.sealStage n h).stage n).entries = readSetEntry i v := by rw [stage_sealStage, sealedStage, entries]
  have room : s.slotsNeeded (s.candidate (s.stage n).entries) (s.stage n).entries ≤ s.slotsFree := by
    rw [entries, slotsNeeded_readSet]
    exact Nat.zero_le _
  rw [stageCommit_now free room valid, runs, if_neg (by decide), commitStage_subjects, sealed_, subjects_readSet]
  rw [sealed_, subjects_readSet]
  rfl

end

/-- Settles O14: both answers to STAGE_OPEN, a commit at a time and one at once, and both ways in which a stage is discarded. -/
theorem stageCommands : Obligations.StageCommands := by
  unfold Obligations.StageCommands
  refine ⟨?_, ?_, ?_, ?_, ?_, ?_⟩
  · intro s ep n r acc free
    exact exec_stageOpen_free acc free
  · intro s ep r acc free
    exact exec_stageOpen_none acc free
  · intro s ep time h k r acc at_ later opened free slot room valid
    obtain ⟨pending, mode, sec, regs, link, fab, coh⟩ := frame_scheduleStage s r.stage time h k
    refine ⟨_, exec_stageCommit acc at_ opened (stageCommit_at later free slot room valid) pending mode sec, ?_, ?_, ?_, ?_, ?_, ?_,
      ?_, ?_, regs, link, fab, coh⟩
    · rw [scheduleStage, lop_setStage, lop_setLop_self]
      rfl
    · rw [scheduleStage, stage_setStage_self]
      rfl
    · rw [scheduleStage, stage_setStage_self]
      rfl
    · rw [scheduleStage, stage_setStage_self]
      rfl
    all_goals
      rw [slot_scheduleStage]
      rfl
  · intro s ep h i v r acc now opened entries free core valid
    have puts := putsReadSet_committed s r.stage h i v
    refine ⟨_, exec_stageCommit acc now opened (stageCommit_readSet entries free core valid) puts.pending puts.mode puts.sec,
      puts.readSet, puts.old, puts.epoch, ?_, ?_, ?_, puts.link, puts.coh⟩
    · rw [committed, lop_setLop_self]
    · rw [committed, lop_setLop_self]
    · rw [committed, stage_setLop, stage_setStage_self]
  · intro s ep r acc opened
    exact exec_stageDiscard acc opened
  · intro s n low high opened idle
    exact exec_stageIdleDiscard low high opened idle

end Sys2Proof.Machine
end

section
/-!
The obligation `HandleCommands`: aborts of handles, the end of a drain, and the expiry of an ended handle.
-/

namespace Sys2Proof.Machine

open State

namespace State

/-! ### The end of a handle -/

section

variable {s : State} {h : Nat}

/-- `t` is `s` but for the stages, the handles, the event slots, what is sent, and what raising events writes. -/
structure EndsHandle (s t : State) : Prop where
  pending : t.pending = s.pending
  mode : t.mode = s.mode
  sec : t.sec = s.sec
  link : t.link = s.link
  fab : t.fab = s.fab
  coh : t.coh = s.coh

theorem EndsHandle.refl (s : State) : s.EndsHandle s := ⟨rfl, rfl, rfl, rfl, rfl, rfl⟩

theorem EndsHandle.trans {s t u : State} (a : s.EndsHandle t) (b : t.EndsHandle u) : s.EndsHandle u :=
  ⟨b.pending.trans a.pending, b.mode.trans a.mode, b.sec.trans a.sec, b.link.trans a.link, b.fab.trans a.fab, b.coh.trans a.coh⟩

theorem dropSlot_endsHandle (s : State) (k : Nat) : s.EndsHandle (s.dropSlot k) := by
  unfold dropSlot
  split
  · exact ⟨rfl, rfl, rfl, rfl, rfl, rfl⟩
  · exact .refl s

theorem dict_dropSlot (s : State) (k : Nat) : (s.dropSlot k).dict = s.dict := by
  unfold dropSlot
  split <;> rfl

theorem releaseLop_endsHandle (s : State) (h : Nat) : s.EndsHandle (s.releaseLop h) := by
  unfold releaseLop
  dsimp only
  split
  · exact (dropSlot_endsHandle s _).trans ⟨rfl, rfl, rfl, rfl, rfl, rfl⟩
  · exact dropSlot_endsHandle s _

theorem lops_releaseLop (s : State) (h : Nat) : (s.releaseLop h).dict.lops = s.dict.lops := by
  unfold releaseLop
  dsimp only
  split
  · change (dropSlot s _).dict.lops = _
    rw [dict_dropSlot]
  · rw [dict_dropSlot]

/-- A commit that ends frees its stage (R413). -/
theorem stage_releaseLop {n : Nat} (kind : (s.lop h).kind = 1) (arg : (s.lop h).arg = n) (low : 1 ≤ n) (high : n ≤ 16)
    (own : (s.stage n).lop = h) : (s.releaseLop h).stage n = stageDflt := by
  have owned : ((s.dropSlot (s.lop h).slot).stage n).lop = h := by rw [stage, dict_dropSlot, ← own]; rfl
  unfold releaseLop
  dsimp only
  rw [arg, if_pos ⟨kind, low, high, owned⟩, stage_setStage_self]

/-- What handle `h` has released goes with a report to a CXL FM API endpoint, where it is one's (R139). -/
def reportLop (s : State) (h result : Nat) : State :=
  if (s.lop h).fm then (s.releaseLop h).emit (.fmApi (s.lop h).owner (if result = 0 then 0 else Config.fmApiCode result) [])
  else s.releaseLop h

/-- A handle that has ended (R57). -/
def endedLop (s : State) (h : Nat) (st : LopSt) (result : Nat) : Lop :=
  { s.lop h with st := st, result := result, ended := s.clk, slot := 512, progress := if st = .done then 1000 else (s.lop h).progress }

theorem endLop_eq_raise (s : State) (h : Nat) (st : LopSt) (result : Nat) :
    s.endLop h st result = ((s.reportLop h result).setLop h (s.endedLop h st result)).raise 0x1003 0x10 1 h
      (h + 65536 * (s.lop h).kind + 2 ^ 24 * result) := rfl

theorem reportLop_endsHandle (s : State) (h result : Nat) : s.EndsHandle (s.reportLop h result) := by
  unfold reportLop
  split
  · exact (releaseLop_endsHandle s h).trans ⟨rfl, rfl, rfl, rfl, rfl, rfl⟩
  · exact releaseLop_endsHandle s h

theorem dict_reportLop (s : State) (h result : Nat) : (s.reportLop h result).dict = (s.releaseLop h).dict := by
  unfold reportLop
  split <;> rfl

theorem endLop_endsHandle (s : State) (h : Nat) (st : LopSt) (result : Nat) : s.EndsHandle (s.endLop h st result) := by
  rw [endLop_eq_raise]
  refine (reportLop_endsHandle s h result).trans ?_
  constructor <;> simp

theorem lop_endLop_self (s : State) (h : Nat) (st : LopSt) (result : Nat) : (s.endLop h st result).lop h = s.endedLop h st result := by
  rw [endLop_eq_raise, lop_raise, lop_setLop_self]

theorem lop_endLop_of_ne (s : State) (st : LopSt) (result : Nat) {k : Nat} (ne : k ≠ h) : (s.endLop h st result).lop k = s.lop k := by
  rw [endLop_eq_raise, lop_raise, lop_setLop_of_ne _ _ _ ne, lop, dict_reportLop, lops_releaseLop, lop]

/-- A commit that ends frees its stage (R413). -/
theorem stage_endLop (st : LopSt) (result : Nat) {n : Nat} (kind : (s.lop h).kind = 1) (arg : (s.lop h).arg = n) (low : 1 ≤ n)
    (high : n ≤ 16) (own : (s.stage n).lop = h) : (s.endLop h st result).stage n = stageDflt := by
  have freed := stage_releaseLop kind arg low high own
  rw [endLop_eq_raise, stage_raise]
  change (s.reportLop h result).stage n = _
  rw [stage, dict_reportLop]
  exact freed

end

/-! ### Aborts and drains -/

section

variable {s : State} {ep h : Nat}

/-- An abort of handle `h` has begun (R58). -/
def abortBegun (s : State) (h : Nat) : State := s.setLop h { s.lop h with st := .aborting }

theorem abortLop_commit (kind : (s.lop h).kind = 1) : s.abortLop h = (s.abortBegun h).endLop h .aborted Ab.ABORTED := by
  unfold abortLop abortBegun
  dsimp only
  rw [kind]
  rfl

theorem lopAbort_running (hh : h < 64) (own : (s.lop h).owner = ep) (st : (s.lop h).st = .running) :
    s.lopAbort ep h = if s.commitDue h then (Ab.TOO_LATE, s) else (0, s.abortLop h) := by
  unfold lopAbort
  dsimp only
  rw [if_neg (by simp [st, hh]), if_neg (by simp [own]), st]

theorem lopAbort_committed (hh : h < 64) (own : (s.lop h).owner = ep) (st : (s.lop h).st = .committed) :
    s.lopAbort ep h = (Ab.TOO_LATE, s) := by
  unfold lopAbort
  dsimp only
  rw [if_neg (by simp [st, hh]), if_neg (by simp [own]), st]

/-- A fabric manager may abort its own handles and those of the service only (R58). -/
theorem lopAbort_other (hh : h < 64) (used : (s.lop h).st ≠ .free) (remote : ep ≠ 0) (fm : ep < 257) (other : (s.lop h).owner ≠ ep)
    (owned : (s.lop h).owner ≠ 0xFFFF) : s.lopAbort ep h = (Ab.ACCESS_DENIED, s) := by
  unfold lopAbort
  dsimp only
  rw [if_neg (by simp [used, hh]), if_pos ⟨remote, other, fun service => owned service.1⟩, if_neg (by omega)]

/-- The old epochs of handle `h` have drained: no binding is left, and the old access-control values go (R55, R264). -/
def drainedOut (s : State) (h : Nat) : State :=
  { s with fab := { s.fab with bindings := [], flOld := if (s.lop h).subjects.contains 2 then [] else s.fab.flOld } }

theorem drainEnd_eq (kind : (s.lop h).kind = 1) (st : (s.lop h).st = .committed) (drained : (s.lop h).subjects.all s.drained = true)
    (walks : s.fab.walks.any (fun (k : Walk) => k.lop == h) = false) (bindings : s.fab.bindings = []) :
    s.drainEnd h = (s.drainedOut h).endLop h .done 0 := by
  unfold drainEnd
  dsimp only
  rw [if_neg (by simp only [kind, st, drained, walks]; decide), bindings]
  dsimp only [List.filter_nil, foldS]
  rw [bindings]
  rfl

end

end State

section

variable {s : State} {ep h : Nat} {r : Req}

theorem exec_lopAbort {a : Nat} {u : State} (acc : s.Accepts ep (withOp r Op.LOP_ABORT)) (handle : ofBytes r.payload = h)
    (e : s.lopAbort ep h = (a, u)) (p : u.pending = s.pending) (m : u.mode = s.mode) (q : u.sec = s.sec) :
    exec (.lopAbort ep r) s = .next (u.respondReq ep (withOp r Op.LOP_ABORT) a []) := by
  subst handle
  refine onEp_submit_accepted acc ?_ p m (congrArg SecSt.fuse q)
  change verdictOf (s.lopAbort ep (ofBytes r.payload)) = _
  rw [e]
  rfl

/-- A running commit whose time has not come is aborted (R58). -/
theorem exec_lopAbort_commit (acc : s.Accepts ep (withOp r Op.LOP_ABORT)) (handle : ofBytes r.payload = h) (hh : h < 64)
    (own : (s.lop h).owner = ep) (kind : (s.lop h).kind = 1) (st : (s.lop h).st = .running) (early : s.commitDue h = false) :
    exec (.lopAbort ep r) s =
      .next (((s.abortBegun h).endLop h .aborted Ab.ABORTED).respondReq ep (withOp r Op.LOP_ABORT) 0 []) := by
  have ends := endLop_endsHandle (s.abortBegun h) h .aborted Ab.ABORTED
  refine exec_lopAbort acc handle ?_ ends.pending ends.mode ends.sec
  rw [lopAbort_running hh own st, early, abortLop_commit kind]
  rfl

theorem exec_lopAbort_late (acc : s.Accepts ep (withOp r Op.LOP_ABORT)) (handle : ofBytes r.payload = h) (hh : h < 64)
    (own : (s.lop h).owner = ep) (late : (s.lop h).st = .committed ∨ ((s.lop h).st = .running ∧ s.commitDue h = true)) :
    exec (.lopAbort ep r) s = .next (s.respondReq ep (withOp r Op.LOP_ABORT) Ab.TOO_LATE []) := by
  refine exec_lopAbort acc handle ?_ rfl rfl rfl
  rcases late with st | ⟨st, due⟩
  · exact lopAbort_committed hh own st
  · exact (lopAbort_running hh own st).trans (if_pos due)

theorem exec_epochDrainEnd (hh : h < 64) (kind : (s.lop h).kind = 1) (st : (s.lop h).st = .committed)
    (drained : (s.lop h).subjects.all s.drained = true) (walks : s.fab.walks.any (fun (k : Walk) => k.lop == h) = false)
    (bindings : s.fab.bindings = []) : exec (.epochDrainEnd h) s = .next ((s.drainedOut h).endLop h .done 0) := by
  have ends := endLop_endsHandle (s.drainedOut h) h .done 0
  change execEpochDrainEnd h s = _
  exact onUnit_eq_next hh (drainEnd_eq kind st drained walks bindings) ends.pending ends.mode (congrArg SecSt.fuse ends.sec)

theorem exec_lopExpire (hh : h < 64) (ended : (s.lop h).st = .done ∨ (s.lop h).st = .aborted ∨ (s.lop h).st = .failed)
    (old : s.after (s.lop h).ended 60000000000 = true) : exec (.lopExpire h) s = .next (s.setLop h lopDflt) := by
  change execLopExpire h s = _
  exact onUnit_eq_next hh (if_pos ⟨ended, old⟩) rfl rfl rfl

end

/-- Settles O15: the three answers to LOP_ABORT, the end of a drain, and the expiry of a handle. -/
theorem handleCommands : Obligations.HandleCommands := by
  unfold Obligations.HandleCommands
  refine ⟨?_, ?_, ?_, ?_, ?_⟩
  · intro s ep h r acc handle hh own kind _ st low high staged early
    have ends := endLop_endsHandle (s.abortBegun h) h .aborted Ab.ABORTED
    have begun : (s.abortBegun h).lop h = { s.lop h with st := .aborting } := lop_setLop_self s h _
    refine ⟨_, exec_lopAbort_commit acc handle hh own kind st early, ?_, ?_, ?_, fun k ne => ?_, ends.link, ends.fab, ends.coh⟩
    · rw [lop_endLop_self, endedLop]
    · rw [lop_endLop_self, endedLop]
    · exact stage_endLop _ _ (by rw [begun, kind]) (by rw [begun]) low high staged
    · rw [lop_endLop_of_ne _ _ _ ne, abortBegun, lop_setLop_of_ne _ _ _ ne]
  · intro s ep h r acc handle hh own late
    exact exec_lopAbort_late acc handle hh own late
  · intro s ep h r acc handle hh remote fm other owned used
    exact exec_lopAbort acc handle (lopAbort_other hh used remote fm other owned) rfl rfl rfl
  · intro s h hh kind st drained walks bindings
    have ends := endLop_endsHandle (s.drainedOut h) h .done 0
    refine ⟨_, exec_epochDrainEnd hh kind st drained walks bindings, ?_, ?_, ?_, fun acl => ?_, fun k ne => ?_, ends.link, ends.coh⟩
    · rw [lop_endLop_self, endedLop]
    · rw [lop_endLop_self, endedLop]
    · rw [lop_endLop_self, endedLop]
      rfl
    · rw [ends.fab]
      exact if_pos (by simpa using acl)
    · rw [lop_endLop_of_ne _ _ _ ne]
      rfl
  · intro s h hh ended old
    exact exec_lopExpire hh ended old

end Sys2Proof.Machine
end

section
/-!
The obligation `EventCommands`: filters, fetched and sent records, and unknown opcodes.
-/

namespace Sys2Proof.Machine

open State

namespace State

variable (s : State) (ep : Nat)

theorem filters_setFilter_self (n : Nat) (f : Option Filter) : (s.setFilter ep n f).dict.filters.get none (ep, n) = f :=
  Tbl.get_set_self _ _ _ _

theorem filters_setFilter_of_ne (n : Nat) (f : Option Filter) {k : Key} (h : k ≠ (ep, n)) :
    (s.setFilter ep n f).dict.filters.get none k = s.dict.filters.get none k := Tbl.get_set_of_ne _ _ _ _ h

/-- The endpoint's queue without its `n` oldest records, the next of which has no drop mark (R60, R62). -/
def withoutRecords (n : Nat) : State :=
  { s with dict := { s.dict with
    queues := s.dict.queues.set [] (ep, 0) ((s.dict.queues.get [] (ep, 0)).drop n)
    dropMark := s.dict.dropMark.set false (ep, 0) false } }

variable {s ep}

theorem takeRecords_succ {e : EvtRec} {rest : List EvtRec} (n : Nat) (queued : s.dict.queues.get [] (ep, 0) = e :: rest) :
    s.takeRecords ep (n + 1) =
      ({ e with dropped := s.dict.dropMark.get false (ep, 0) } :: rest.take n, s.withoutRecords ep (n + 1)) := by
  unfold takeRecords withoutRecords
  rw [queued]
  rfl

theorem queue_withoutRecords {e : EvtRec} {rest : List EvtRec} (n : Nat) (queued : s.dict.queues.get [] (ep, 0) = e :: rest) :
    (s.withoutRecords ep (n + 1)).dict.queues.get [] (ep, 0) = rest.drop n := by
  refine (Tbl.get_set_self _ _ _ _).trans ?_
  rw [queued, List.drop_succ_cons]

theorem dropMark_withoutRecords (n : Nat) : (s.withoutRecords ep n).dict.dropMark.get false (ep, 0) = false :=
  Tbl.get_set_self s.dict.dropMark false (ep, 0) false

theorem queue_withoutRecords_of_ne (n : Nat) {k : Key} (h : k ≠ (ep, 0)) :
    (s.withoutRecords ep n).dict.queues.get [] k = s.dict.queues.get [] k := Tbl.get_set_of_ne _ _ _ _ h

theorem precheck_unknown {r : Req} (header : headerOk r = true) (unknown : Op.known r.op = false) :
    s.precheck ep r = Ab.OPCODE_UNKNOWN := by
  unfold precheck
  rw [header, unknown]
  rfl

end State

section

variable {s : State} {ep : Nat} {r : Req}

theorem exec_subscribe (acc : s.Accepts ep (withOp r Op.SUBSCRIBE)) : exec (.subscribe ep r) s = .next
    ((s.setFilter ep (takeFilter r.payload).1 (some (takeFilter r.payload).2)).respondReq ep (withOp r Op.SUBSCRIBE) 0 []) :=
  onEp_submit_accepted acc rfl rfl rfl rfl

theorem exec_unsubscribe (acc : s.Accepts ep (withOp r Op.UNSUBSCRIBE)) : exec (.unsubscribe ep r) s = .next
    ((s.setFilter ep (ofBytes r.payload) none).respondReq ep (withOp r Op.UNSUBSCRIBE) 0 []) :=
  onEp_submit_accepted acc rfl rfl rfl rfl

theorem exec_evtFetch {e : EvtRec} {rest : List EvtRec} {n : Nat} (acc : s.Accepts ep (withOp r Op.EVT_FETCH))
    (count : min (ofBytes r.payload) 31 = n + 1) (queued : s.dict.queues.get [] (ep, 0) = e :: rest) :
    exec (.evtFetch ep r) s = .next ((s.withoutRecords ep (n + 1)).respondReq ep (withOp r Op.EVT_FETCH) 0
      (evtBytes { e with dropped := s.dict.dropMark.get false (ep, 0) } ++ (rest.take n).flatMap evtBytes)) := by
  refine onEp_submit_accepted acc ?_ rfl rfl rfl
  change s.doFetch ep (withOp r Op.EVT_FETCH) = _
  have taken := takeRecords_succ n queued
  rw [← count] at taken
  unfold doFetch
  dsimp only [withOp]
  rw [taken, ← count]
  rfl

theorem exec_eventSend {e : EvtRec} {rest : List EvtRec} (low : 1 ≤ ep) (high : ep ≤ 256) (up : s.endpointUp ep = true)
    (clock : s.ridgeClock = true) (queued : s.dict.queues.get [] (ep, 0) = e :: rest) :
    exec (.eventSend ep) s = .next ((s.withoutRecords ep 31).sendMessage ep 8
      (eventBytes ({ e with dropped := s.dict.dropMark.get false (ep, 0) } :: rest.take 30))) := by
  have taken := takeRecords_succ 30 queued
  have waits : (s.dict.queues.get [] (ep, 0)).isEmpty = false := congrArg List.isEmpty queued
  change execEventSend ep s = _
  refine onEp_eq_next (by omega) ?_ (pending_sendMessage ..) (mode_sendMessage ..) (congrArg SecSt.fuse (sec_sendMessage ..))
  rw [if_pos ⟨low, high, up, clock, waits⟩, taken]

theorem exec_opcodeUnknownRequest (serves : s.Serves ep) (ne : ep ≠ 321) (header : headerOk r = true)
    (unknown : Op.known r.op = false) :
    exec (.opcodeUnknownRequest ep r) s = .next (s.respondReq ep r Ab.OPCODE_UNKNOWN []) := by
  change execOpcodeUnknownRequest ep r s = _
  refine onEp_eq_next serves.1 ?_ (pending_respondReq ..) (mode_respondReq ..)
    (congrArg SecSt.fuse (sec_respondReq ..))
  rw [unknown, if_neg Bool.false_ne_true, submit_served none r serves]
  unfold serveReq
  dsimp only
  rw [noteDebug_of_ne ne, precheck_unknown header unknown]
  rfl

end

/-- Settles O16: both changes of a filter, the records that are fetched and sent, and the answer to an unknown opcode. -/
theorem eventCommands : Obligations.EventCommands := by
  unfold Obligations.EventCommands
  refine ⟨?_, ?_, ?_, ?_, ?_⟩
  · intro s ep r acc
    exact ⟨_, exec_subscribe acc, filters_setFilter_self s ep _ _, fun k => filters_setFilter_of_ne s ep _ _, rfl⟩
  · intro s ep r acc
    exact ⟨_, exec_unsubscribe acc, filters_setFilter_self s ep _ _, fun k => filters_setFilter_of_ne s ep _ _, rfl⟩
  · intro s ep r e rest acc asked queued
    have count : min (ofBytes r.payload) 31 = min (ofBytes r.payload) 31 - 1 + 1 := by omega
    exact ⟨_, exec_evtFetch acc count queued, queue_withoutRecords _ queued, dropMark_withoutRecords _,
      fun k => queue_withoutRecords_of_ne _, rfl, rfl, rfl⟩
  · intro s ep e rest low high up clock queued
    exact ⟨_, exec_eventSend low high up clock queued, queue_withoutRecords 30 queued, dropMark_withoutRecords _,
      fun k => queue_withoutRecords_of_ne _, rfl, rfl, rfl⟩
  · intro s ep r serves ne header unknown
    exact exec_opcodeUnknownRequest serves ne header unknown

end Sys2Proof.Machine
end

section
/-!
The obligation `Transports`: packets of MCTP, I3C address assignment and the two mailboxes.
-/

namespace Sys2Proof.Machine

open State

namespace State

variable {s : State} {ep : Nat} {r : Req}

/-- The endpoint ID that sent packet `pkt` is noted, and what has come of its message is put away (R44, R45). -/
def notePacket (s : State) (ep : Nat) (pkt : MctpPacket) (x : Option Reasm) : State :=
  { s with dict := { s.dict with peers := s.dict.peers.set 0 (ep, 0) pkt.src, reasm := s.dict.reasm.set none (ep, pkt.tag) x } }

/-- The unit of every transport lies far below the size of a message (R44). -/
theorem mctpUnit_le (s : State) (ep : Nat) : s.mctpUnit ep ≤ 252 := by
  unfold mctpUnit
  split <;> omega

theorem take_mctpType (b : List Byte) : (mctpType ++ b).take 5 = mctpType := List.take_left' rfl

theorem drop_mctpType (b : List Byte) : (mctpType ++ b).drop 5 = b := List.drop_left' rfl

/-- The first packet of a message: it arrives whole where it is the last one too, and waits for the rest otherwise (R44, R45). -/
theorem mctpIn_first {pkt : MctpPacket} {b : List Byte} (som : pkt.som = true) (fits : pkt.bytes.length ≤ s.mctpUnit ep)
    (bytes : pkt.bytes = mctpType ++ b) :
    mctpIn s ep pkt = if pkt.eom then (s.notePacket ep pkt none).arrive ep { parseReq b with mtag := pkt.tag }
      else s.notePacket ep pkt (some { bytes := b, tooLong := false, started := s.clk }) := by
  have short : b.length ≤ 252 := by
    have := mctpUnit_le s ep
    have := congrArg List.length bytes
    rw [List.length_append] at this
    omega
  have fit : ¬ 1024 < b.length := by omega
  unfold mctpIn
  dsimp only
  rw [if_neg (Nat.not_lt.mpr fits), som, bytes, take_mctpType, drop_mctpType]
  simp only [if_true, List.nil_append, Bool.false_or, decide_eq_false fit, Bool.false_eq_true, if_false]
  rfl

/-- A request that its endpoint may send waits for the service, or in its transport from step 3 of a mode entry on (R47, R295). -/
theorem arrive_waits (up : s.firmwareUp = true) (present : s.endpointUp ep = true) (awake : s.mode.sleeps = false)
    (room : (s.inboxOf ep).length + (s.lateOf ep).length < 16) :
    s.arrive ep r = if s.coresWait then s.setLate ep (s.lateOf ep ++ [(s.clk, r)])
      else s.setInbox ep (s.inboxOf ep ++ [(s.clk, r)]) := by
  unfold arrive enqueueReq
  rw [if_neg (by simp [up, present]), if_neg (by simp [awake]), if_neg (Nat.not_le.mpr room)]

end State

section

variable {s : State} {ep : Nat}

theorem exec_mctpPacketRx_first {pkt : MctpPacket} {b : List Byte} {u : State} (high : ep ≤ 256) (present : s.endpointUp ep = true)
    (up : s.firmwareUp = true) (som : pkt.som = true) (fits : pkt.bytes.length ≤ s.mctpUnit ep)
    (bytes : pkt.bytes = mctpType ++ b)
    (e : (if pkt.eom then (s.notePacket ep pkt none).arrive ep { parseReq b with mtag := pkt.tag }
      else s.notePacket ep pkt (some { bytes := b, tooLong := false, started := s.clk })) = u)
    (p : u.pending = s.pending) (m : u.mode = s.mode) (q : u.sec = s.sec) : exec (.mctpPacketRx ep pkt) s = .next u := by
  change execMctpPacketRx ep pkt s = _
  refine onEp_eq_next (by omega) ?_ p m (congrArg SecSt.fuse q)
  rw [if_pos ⟨high, present, up⟩, mctpIn_first som fits bytes, e]

theorem exec_msgReassemblyTimeout {tag : Nat} {x : Reasm} (hep : ep < 322) (begun : s.dict.reasm.get none (ep, tag) = some x)
    (old : s.after x.started 100000000 = true) : exec (.msgReassemblyTimeout ep tag) s =
      .next { s with dict := { s.dict with reasm := s.dict.reasm.set none (ep, tag) none } } := by
  change execMsgReassemblyTimeout ep tag s = _
  refine onEp_eq_next hep ?_ rfl rfl rfl
  rw [begun]
  exact if_pos old

theorem exec_i3cEntdaa (a : Nat) (up : s.rst.step ≠ .inReset) :
    exec (.i3cEntdaa a) s = .next { s with dict := { s.dict with i3cAddr := a % 128 } } := by
  change execI3cEntdaa a s = _
  exact steady_eq_next (if_neg up) rfl rfl rfl

theorem exec_tenantMailboxCommand {p n : Nat} (bytes : List Byte) (hp : p < 256) (part : s.hostPart p = some n)
    (on : s.flag Obj.TEN_MAILBOX_EN p = true) (dl : s.dlUp p = true) {u : State} (e : s.arrive (257 + n) (parseReq bytes) = u)
    (h : u.pending = s.pending) (m : u.mode = s.mode) (q : u.sec = s.sec) :
    exec (.tenantMailboxCommand p 0xC001 bytes) s = .next u := by
  change execTenantMailboxCommand p 0xC001 bytes s = _
  refine onUnit_eq_next hp ?_ h m (congrArg SecSt.fuse q)
  rw [part, ← e]
  exact if_pos ⟨rfl, on, dl⟩

theorem exec_dbgMailbox (bytes : List Byte) (ir : s.sec.tapIr = 3) {u : State} (e : s.arrive 321 (parseReq bytes) = u)
    (p : u.pending = s.pending) (m : u.mode = s.mode) (q : u.sec = s.sec) : exec (.dbgMailbox bytes) s = .next u := by
  change execDbgMailbox bytes s = _
  exact steady_eq_next ((if_pos ir).trans e) p m (congrArg SecSt.fuse q)

end

/-- Settles O17: a whole message and a fragment in a packet, the time limit of a message, I3C address assignment, and both mailboxes,
that of the debug port also while the service takes no request. -/
theorem transports : Obligations.Transports := by
  unfold Obligations.Transports
  refine ⟨?_, ?_, ?_, ?_, ?_, ?_, ?_⟩
  · intro s ep pkt b high present up awake room serves som eom fits bytes
    refine exec_mctpPacketRx_first high present up som fits bytes ?_ rfl rfl rfl
    have waits := arrive_waits (s := s.notePacket ep pkt none) (r := { parseReq b with mtag := pkt.tag }) up present awake room
    rw [if_pos eom, waits]
    exact if_neg (ne_true_of_eq_false serves)
  · intro s ep pkt b high present up som eom fits bytes
    exact exec_mctpPacketRx_first high present up som fits bytes (if_neg (ne_true_of_eq_false eom)) rfl rfl rfl
  · intro s ep tag x hep begun old
    exact exec_msgReassemblyTimeout hep begun old
  · intro s a up
    exact exec_i3cEntdaa a up
  · intro s p n bytes hp part on dl up present awake room serves
    have waits := arrive_waits (r := parseReq bytes) up present awake room
    exact exec_tenantMailboxCommand bytes hp part on dl (waits.trans (if_neg (ne_true_of_eq_false serves))) rfl rfl rfl
  · intro s bytes ir up awake room serves
    have waits := arrive_waits (r := parseReq bytes) up rfl awake room
    exact exec_dbgMailbox bytes ir (waits.trans (if_neg (ne_true_of_eq_false serves))) rfl rfl rfl
  · intro s bytes ir up awake room waiting
    have waits := arrive_waits (r := parseReq bytes) up rfl awake room
    exact exec_dbgMailbox bytes ir (waits.trans (if_pos waiting)) rfl rfl rfl

end Sys2Proof.Machine
end

section
/-!
SUPPORT. Walks over the lanes of a port, and what the operations of a link leave alone beyond its objects: the counters of lanes, the
queues of the fabric, the numbering of the records (R65, R83, R84, R149, R175 to R177).
-/

namespace Sys2Proof.Machine

/-- What no step of a walk changes, the walk does not change. -/
theorem foldS_unseen {α σ β : Type} {view : σ → β} {f : α → σ → σ} {l : List α} (h : ∀ a ∈ l, ∀ t, view (f a t) = view t) (s : σ) :
    view (foldS f l s) = view s := by
  induction l generalizing s with
  | nil => rfl
  | cons a r ih => exact (ih (fun b mem => h b (List.mem_cons_of_mem a mem)) (f a s)).trans (h a List.mem_cons_self s)

/-- What only the step of `a` changes, the walk changes once. -/
theorem foldS_seen_once {α σ β : Type} {view : σ → β} {g : β → β} {f : α → σ → σ} {l : List α} {a : α} (mem : a ∈ l) (nodup : l.Nodup)
    (here : ∀ t, view (f a t) = g (view t)) (other : ∀ b ∈ l, b ≠ a → ∀ t, view (f b t) = view t) (s : σ) :
    view (foldS f l s) = g (view s) := by
  induction l generalizing s with
  | nil => cases mem
  | cons b r ih =>
    obtain ⟨fresh, nodup⟩ := List.nodup_cons.mp nodup
    rcases List.mem_cons.mp mem with rfl | later
    · have rest : ∀ b ∈ r, ∀ t, view (f b t) = view t := fun b mem =>
        other b (List.mem_cons_of_mem a mem) (fun e => fresh (e ▸ mem))
      exact (foldS_unseen rest (f a s)).trans (here s)
    · have first : b ≠ a := fun e => fresh (e ▸ later)
      refine (ih later nodup (fun c mem => other c (List.mem_cons_of_mem b mem)) (f b s)).trans ?_
      rw [other b List.mem_cons_self first]

namespace State

section

variable (s : State) (p : Nat)

/-! ### Reading a unit after another has been written -/

@[simp] theorem port_setReg (o i v : Nat) : (s.setReg o i v).port p = s.port p := rfl
@[simp] theorem port_setLane (n : Nat) (x : Lane) : (s.setLane n x).port p = s.port p := rfl
@[simp] theorem port_setDru (q : Nat) (x : Dru) : (s.setDru q x).port p = s.port p := rfl
@[simp] theorem lane_setReg (o i v : Nat) : (s.setReg o i v).lane p = s.lane p := rfl
@[simp] theorem lane_setPort (q : Nat) (x : Port) : (s.setPort q x).lane p = s.lane p := rfl
@[simp] theorem lane_setDru (q : Nat) (x : Dru) : (s.setDru q x).lane p = s.lane p := rfl
@[simp] theorem dru_setReg (o i v : Nat) : (s.setReg o i v).dru p = s.dru p := rfl
@[simp] theorem dru_setPort (q : Nat) (x : Port) : (s.setPort q x).dru p = s.dru p := rfl
@[simp] theorem dru_setLane (n : Nat) (x : Lane) : (s.setLane n x).dru p = s.dru p := rfl

/-! ### The lanes of a port -/

theorem nodup_portLanes : (s.portLanes p).Nodup :=
  List.nodup_range.map fun _ _ e => Nat.add_left_cancel e

theorem portLanes_eq {t : State} (h : t.reg Obj.LC_BIFURC (p / 8) = s.reg Obj.LC_BIFURC (p / 8)) : t.portLanes p = s.portLanes p := by
  rw [portLanes, formedWidth, h, portLanes, formedWidth]
  rfl

theorem nodup_trained : (s.trained p).Nodup := by
  unfold trained
  dsimp only
  refine List.Sublist.nodup (List.take_sublist _ _) ?_
  split
  · exact List.nodup_reverse.mpr (nodup_portLanes s p)
  · exact nodup_portLanes s p

end

/-! ### Steps that write nothing but objects, free values and lanes -/

/-- `t` is `s` but for objects, the free values taken and the lanes. -/
def LanesOnly (s t : State) : Prop :=
  t = { s with regs := t.regs, freeCtr := t.freeCtr, link := { s.link with lanes := t.link.lanes } }

namespace LanesOnly

variable {s t u : State}

theorem refl (s : State) : s.LanesOnly s := rfl

theorem trans (h : s.LanesOnly t) (k : t.LanesOnly u) : s.LanesOnly u := by
  have e := k
  unfold LanesOnly at e
  rw [h] at e
  exact e

theorem foldS {α : Type} {f : α → State → State} (h : ∀ a (t : State), t.LanesOnly (f a t)) (l : List α) (s : State) :
    s.LanesOnly (foldS f l s) :=
  foldS_keeps (fun t => s.LanesOnly t) f (fun a t k => k.trans (h a t)) l s (refl s)

theorem pending (h : s.LanesOnly t) : t.pending = s.pending := by rw [h]
theorem mode (h : s.LanesOnly t) : t.mode = s.mode := by rw [h]
theorem sec (h : s.LanesOnly t) : t.sec = s.sec := by rw [h]
theorem clk (h : s.LanesOnly t) : t.clk = s.clk := by rw [h]
theorem out (h : s.LanesOnly t) : t.out = s.out := by rw [h]
theorem dict (h : s.LanesOnly t) : t.dict = s.dict := by rw [h]
theorem fab (h : s.LanesOnly t) : t.fab = s.fab := by rw [h]
theorem coh (h : s.LanesOnly t) : t.coh = s.coh := by rw [h]
theorem port (h : s.LanesOnly t) (p : Nat) : t.port p = s.port p := by rw [h]; rfl
theorem dru (h : s.LanesOnly t) (p : Nat) : t.dru p = s.dru p := by rw [h]; rfl

theorem setReg (h : s.LanesOnly t) (o i v : Nat) : s.LanesOnly (t.setReg o i v) := h.trans rfl
theorem setLane (h : s.LanesOnly t) (n : Nat) (x : Lane) : s.LanesOnly (t.setLane n x) := h.trans rfl

end LanesOnly

/-! ### The counters of lanes (R83, R84) -/

/-- Lane `y` is lane `x` but for its counters. -/
def CountersOnly (x y : Lane) : Prop := y = { x with errs := y.errs, bits := y.bits, countAt := y.countAt }

theorem CountersOnly.trans {x y z : Lane} (h : CountersOnly x y) (k : CountersOnly y z) : CountersOnly x z := by
  have e := k
  unfold CountersOnly at e
  rw [h] at e
  exact e

section

variable (s : State)

theorem settleLane_lanesOnly (n : Nat) : s.LanesOnly (s.settleLane n) := by
  unfold settleLane
  dsimp only
  split
  · exact .refl s
  · split <;> rfl

theorem lane_settleLane_of_ne {n m : Nat} (h : m ≠ n) : (s.settleLane n).lane m = s.lane m := by
  unfold settleLane
  dsimp only
  split
  · rfl
  · split <;> exact lane_setLane_of_ne _ _ _ h

theorem lane_settleLane_self (n : Nat) : CountersOnly (s.lane n) ((s.settleLane n).lane n) := by
  unfold settleLane
  dsimp only
  split
  · rfl
  · split <;> rw [lane_setLane_self] <;> rfl

theorem lane_settleLane (n m : Nat) : CountersOnly (s.lane m) ((s.settleLane n).lane m) := by
  rcases eq_or_ne m n with rfl | h
  · exact lane_settleLane_self s m
  · rw [lane_settleLane_of_ne s h]
    rfl

theorem settleLanes_lanesOnly (p : Nat) : s.LanesOnly (s.settleLanes p) := .foldS (fun n t => settleLane_lanesOnly t n) _ s

theorem lane_settleLanes (p m : Nat) : CountersOnly (s.lane m) ((s.settleLanes p).lane m) :=
  foldS_keeps (fun (t : State) => CountersOnly (s.lane m) (t.lane m)) (fun n t => t.settleLane n)
    (fun n t k => k.trans (lane_settleLane t n m)) (s.portLanes p) s rfl

theorem regs_settleLanes (p : Nat) : (s.settleLanes p).regs = s.regs := by
  refine foldS_unseen (view := State.regs) (fun n _ t => ?_) s
  unfold settleLane
  dsimp only
  split
  · rfl
  · split <;> rfl

theorem setSpeed_lanesOnly (p r : Nat) : s.LanesOnly (s.setSpeed p r) := (settleLanes_lanesOnly s p).trans rfl

theorem lane_setSpeed (p r m : Nat) : CountersOnly (s.lane m) ((s.setSpeed p r).lane m) := lane_settleLanes s p m

theorem reg_setSpeed (p r o i : Nat) : (s.setSpeed p r).reg o i = if o = Obj.PORT_SPEED ∧ i = p then r else s.reg o i := by
  rw [setSpeed, reg_setReg, State.reg, regs_settleLanes, ← State.reg]

end

/-! ### Rates, queues and records -/

section

variable (s : State) (p : Nat)

@[simp] theorem link_accrue : (s.accrue p).link = s.link := by
  unfold accrue
  dsimp only
  split <;> rfl

@[simp] theorem clk_accrue : (s.accrue p).clk = s.clk := by
  unfold accrue
  dsimp only
  split <;> rfl

@[simp] theorem out_accrue : (s.accrue p).out = s.out := by
  unfold accrue
  dsimp only
  split <;> rfl

@[simp] theorem dict_accrue : (s.accrue p).dict = s.dict := by
  unfold accrue
  dsimp only
  split <;> rfl

@[simp] theorem link_shaperSlopes : (s.shaperSlopes p).link = s.link := by
  unfold shaperSlopes
  dsimp only
  split
  · split
    · rw [link_raise, link_setReg, link_setEgr]
    · rw [link_setReg, link_setEgr]
  · rw [link_setReg, link_setEgr]

@[simp] theorem link_portRateChange : (s.portRateChange p).link = s.link := by
  rw [portRateChange, link_shaperSlopes, link_setReg, link_accrue]

theorem lane_of_link {t : State} (h : t.link = s.link) (n : Nat) : t.lane n = s.lane n := by rw [lane, h, lane]
theorem dru_of_link {t : State} (h : t.link = s.link) (n : Nat) : t.dru n = s.dru n := by rw [dru, h, dru]
theorem port_of_link {t : State} (h : t.link = s.link) (n : Nat) : t.port n = s.port n := by rw [port, h, port]

end

end State

end Sys2Proof.Machine
end

section
/-!
The obligation `LadderSteps`: the start of the ladder, receiver detection, the end of a rung, the failure of training and its back-off.
-/

namespace Sys2Proof.Machine

namespace State

section

variable (s : State) (p : Nat)

/-! ### Receiver settings (R87) -/

/-- The receiver settings of lane `l` start anew. -/
def freshCodes (l : Lane) : Lane := { l with codes := laneDflt.codes, below := 0 }

theorem lane_foldS_freshCodes {l : List Nat} {n : Nat} (nodup : l.Nodup) (mem : n ∈ l) :
    (foldS (fun m (t : State) => t.modLane m freshCodes) l s).lane n = freshCodes (s.lane n) :=
  foldS_seen_once (view := fun t => t.lane n) mem nodup (fun t => lane_setLane_self t n _)
    (fun m _ ne t => lane_setLane_of_ne t m _ ne.symm) s

theorem foldS_modLane_keptBut (f : Lane → Lane) (l : List Nat) (k : List Nat) :
    s.KeptBut (foldS (fun m (t : State) => t.modLane m f) l s) k :=
  .foldS (fun m t => setLane_keptBut t k m _) l s

/-! ### The lanes of a port that is down (R82, R105) -/

/-- The lane and its state once its port is down: a FAILED one stays FAILED, and one on trial is FAILED again. -/
def laneDown (x : Nat × Lane) : Nat × Lane :=
  (if x.1 = 4 ∨ x.2.restoring = true then 4 else 0, { x.2 with restoring := false, lossAt := 0, lossPend := 0 })

theorem lanesDown_lanesOnly : s.LanesOnly (s.lanesDown p) :=
  (settleLanes_lanesOnly s p).trans (.foldS (fun n t => ((LanesOnly.refl t).setReg _ n _).setLane n _) (s.portLanes p) _)

theorem laneState_lanesDown {n : Nat} (mem : n ∈ s.portLanes p) : (s.lanesDown p).reg Obj.LANE_STATE n =
    if s.reg Obj.LANE_STATE n = 4 ∨ (s.lane n).restoring = true then 4 else 0 := by
  have seen : ((s.lanesDown p).reg Obj.LANE_STATE n, (s.lanesDown p).lane n) =
      laneDown ((s.settleLanes p).reg Obj.LANE_STATE n, (s.settleLanes p).lane n) := by
    refine foldS_seen_once (view := fun (t : State) => (t.reg Obj.LANE_STATE n, t.lane n)) mem (nodup_portLanes s p) ?_ ?_ _
    · intro t
      simp [modLane, laneDown]
    · intro m _ ne t
      simp [modLane, reg_setReg, lane_setLane_of_ne _ _ _ ne.symm, ne.symm]
  have restoring : ((s.settleLanes p).lane n).restoring = (s.lane n).restoring := by rw [lane_settleLanes s p n]
  refine (congrArg Prod.fst seen).trans ?_
  rw [laneDown, restoring, State.reg, regs_settleLanes, ← State.reg]

/-! ### The skew of a rung (R72) -/

theorem targetRate_setSkew (v : Nat) : (s.setReg Obj.PORT_SKEW p v).targetRate p = s.targetRate p := by
  simp [targetRate, reg_setReg]

theorem climbing_setSkew (v : Nat) : (s.setReg Obj.PORT_SKEW p v).climbing p = s.climbing p := by
  rw [climbing, targetRate_setSkew, climbing]
  rfl

theorem trained_setSkew (v : Nat) : (s.setReg Obj.PORT_SKEW p v).trained p = s.trained p := by
  simp [trained, flag, portLanes, formedWidth, firstLane, reg_setReg]

/-! ### A failure of training (R75) -/

theorem clearLink_lanesOnly : s.LanesOnly (s.clearLink p) :=
  ((((setSpeed_lanesOnly s p 0).setReg _ p 0).setReg _ p 0).setReg _ p 0).setReg _ p 0

theorem lane_clearLink (n : Nat) : CountersOnly (s.lane n) ((s.clearLink p).lane n) := by
  rw [clearLink, lane_setReg, lane_setReg, lane_setReg, lane_setReg]
  exact lane_setSpeed s p 0 n

theorem seq_trainFail : (s.trainFail p).dict.seq = (s.dict.seq + 1) % 65536 := by
  rw [trainFail_eq_raise, seq_raise, (lanesDown_lanesOnly _ p).dict, (clearLink_lanesOnly _ p).dict, dict_setPort]

theorem laneState_trainFail {n : Nat} (mem : n ∈ s.portLanes p) : (s.trainFail p).reg Obj.LANE_STATE n =
    if s.reg Obj.LANE_STATE n = 4 ∨ (s.lane n).restoring = true then 4 else 0 := by
  have cleared := clearLink_keptBut (s.setPort p (s.failedPort p)) p
  have bifurc := cleared.regs Obj.LC_BIFURC (p / 8) (by decide) (by decide) (by decide)
  have state := cleared.regs Obj.LANE_STATE n (by decide) (by decide) (by decide)
  have lane := lane_clearLink (s.setPort p (s.failedPort p)) p n
  rw [trainFail_eq_raise, reg_raise _ _ _ _ _ _ _ (by decide) (by decide), laneState_lanesDown, state, lane, reg_setPort, lane_setPort]
  rw [portLanes_eq _ _ bifurc]
  exact mem

theorem speed_trainFail : (s.trainFail p).reg Obj.PORT_SPEED p = 0 := by
  rw [(trainFail_keptBut_clearLink s p).regs _ _ (by decide) (by decide) (by decide)]
  simp [clearLink, reg_setReg, reg_setSpeed]

theorem activeWidth_trainFail : (s.trainFail p).reg Obj.PORT_ACTIVE_WIDTH p = 0 := by
  rw [(trainFail_keptBut_clearLink s p).regs _ _ (by decide) (by decide) (by decide)]
  simp [clearLink, reg_setReg]

theorem port_trainFail (q : Nat) : (s.trainFail p).port q = (s.setPort p (s.failedPort p)).port q := (trainFail_keptBut s p).port q

end

end State

open State

section

variable {s : State} {p : Nat}

theorem exec_ladderStart (hp : p < 256) (st : (s.port p).st = .detect) (ph : (s.port p).phase = .idle) (form : s.trainable p = true)
    (runs : s.ladderRuns = true) (perst : s.perstFree p = true) (free : s.link.halted = false) :
    exec (.ladderStart p) s = .next (s.setPort p { s.port p with phase := .detecting, ladderWaits := false }) := by
  change execLadderStart p s = _
  exact onUnit_eq_next hp (if_pos ⟨st, ph, by simp [stepping, form, runs, free], perst⟩) rfl rfl rfl

/-- Receiver detection leaves Detect for Polling at 2.5 GT/s (R75). -/
theorem exec_receiverDetect (hp : p < 256) (st : (s.port p).st = .detect) (ph : (s.port p).phase = .detecting)
    (dr : s.drudar p = false) (go : s.stepping p = true) : exec (.receiverDetect p) s = .next ((s.setPort p { s.port p with
      st := .training, phase := .polling, rate := 1, leftDetect := s.clk, eqTries := 0 }).setSpeed p 1) := by
  change execReceiverDetect p s = _
  exact onUnit_next hp (if_pos ⟨st, ph, dr, go⟩) (setSpeed_keptBut _ p 1) rfl rfl rfl

/-- A rung that trains leads on, with fresh receiver settings on the trained lanes (R73, R74, R87). -/
theorem exec_rungEqDone_trained {skew : Nat} (hp : p < 256) (st : (s.port p).st = .training) (ph : (s.port p).phase = .eq)
    (dr : s.drudar p = false) (go : s.stepping p = true) (near : skew ≤ 200) : exec (.rungEqDone p ⟨true, skew⟩) s =
      .next (foldS (fun n (t : State) => t.modLane n freshCodes) (s.trained p)
        ((s.setReg Obj.PORT_SKEW p skew).rungDone p (s.climbing p))) := by
  change execRungEqDone p ⟨true, skew⟩ s = _
  have done : (⟨true, skew⟩ : EqResult).ok = true ∧ (⟨true, skew⟩ : EqResult).skew ≤ 200 := ⟨rfl, near⟩
  have kept := (rungDone_keptBut (s.setReg Obj.PORT_SKEW p skew) p (s.climbing p)).trans
    (foldS_modLane_keptBut _ freshCodes (s.trained p) _)
  refine onUnit_next hp ((if_neg (by simp [st, ph, go, dr])).trans ((if_pos done).trans ?_)) kept rfl rfl rfl
  rw [climbing_setSkew, trained_setSkew]
  rfl

/-- What a rung that trains leaves of the port, its objects and its lanes (R72, R73). -/
theorem exec_rungEqDone_climbs {r skew : Nat} (hp : p < 256) (st : (s.port p).st = .training) (ph : (s.port p).phase = .eq)
    (dr : s.drudar p = false) (go : s.stepping p = true) (climb : s.climbing p = r) (near : skew ≤ 200) :
    ∃ u : State, exec (.rungEqDone p ⟨true, skew⟩) s = .next u ∧ u.reg Obj.PORT_SPEED p = r ∧ u.reg Obj.PORT_SKEW p = skew ∧
      (u.port p).rate = r ∧ (u.port p).st = .training ∧ (u.port p).phase = (if r < s.targetRate p then .eq else .linkInit) ∧
      (∀ n ∈ s.trained p, (u.lane n).codes = laneDflt.codes) ∧ (∀ q, q ≠ p → u.port q = s.port q) ∧
      s.SameRegs u [Obj.PORT_SPEED, Obj.PORT_SKEW, Obj.PORT_CELL_RATE, Obj.CBS_SLOPE_OPER] := by
  have rung := rungDone_keptBut (s.setReg Obj.PORT_SKEW p skew) p r
  have codes := foldS_modLane_keptBut ((s.setReg Obj.PORT_SKEW p skew).rungDone p r) freshCodes (s.trained p) []
  have own : ((s.setReg Obj.PORT_SKEW p skew).rungDone p r).port p = (s.setReg Obj.PORT_SKEW p skew).rungPort p r := by
    rw [rung.port, port_setPort_self]
  refine ⟨_, climb ▸ exec_rungEqDone_trained hp st ph dr go near, ?_, ?_, ?_, ?_, ?_, fun n mem => ?_, fun q ne => ?_,
    fun o i other cause dropped => ?_⟩
  · rw [codes.regs _ _ (by simp) (by decide) (by decide), speed_rungDone]
  · rw [codes.regs _ _ (by simp) (by decide) (by decide), rung.regs _ _ (by decide) (by decide) (by decide), reg_setPort,
      reg_setReg_self]
  · rw [codes.port, own, rungPort]
  · rw [codes.port, own, rungPort, port_setReg, st]
  · rw [codes.port, own, rungPort, targetRate_setSkew]
  · rw [lane_foldS_freshCodes _ (nodup_trained s p) mem, freshCodes]
  · rw [codes.port, rung.port, port_setPort_of_ne _ _ _ ne, port_setReg]
  · simp only [List.mem_cons, List.not_mem_nil, or_false, not_or] at other
    obtain ⟨speed, skews, rate, slopes⟩ := other
    rw [codes.regs _ _ (by simp) cause dropped, rung.regs _ _ (by simp [speed, rate, slopes]) cause dropped, reg_setPort,
      reg_setReg_of_ne _ _ _ _ (by simp [skews])]

theorem not_trained {skew : Nat} {ok : Bool} (bad : ok = false ∨ 200 < skew) :
    ¬ ((⟨ok, skew⟩ : EqResult).ok = true ∧ (⟨ok, skew⟩ : EqResult).skew ≤ 200) := by
  rintro ⟨rfl, near⟩
  rcases bad with bad | bad
  · cases bad
  · exact absurd near (Nat.not_le.mpr bad)

theorem exec_rungEqDone_retried {skew : Nat} {ok : Bool} (hp : p < 256) (st : (s.port p).st = .training) (ph : (s.port p).phase = .eq)
    (dr : s.drudar p = false) (go : s.stepping p = true) (first : (s.port p).eqTries = 0) (rung : s.climbing p ≠ 2)
    (bad : ok = false ∨ 200 < skew) : exec (.rungEqDone p ⟨ok, skew⟩) s =
      .next ((s.setReg Obj.PORT_SKEW p skew).setPort p { s.port p with eqTries := 1 }) := by
  change execRungEqDone p ⟨ok, skew⟩ s = _
  rw [← climbing_setSkew s p skew] at rung
  exact onUnit_eq_next hp ((if_neg (by simp [st, ph, go, dr])).trans ((if_neg (not_trained bad)).trans (if_pos ⟨first, rung⟩)))
    rfl rfl rfl

/-- The port settles below a rung that does not train (R74). -/
theorem exec_rungEqDone_settled {skew : Nat} {ok : Bool} (hp : p < 256) (st : (s.port p).st = .training) (ph : (s.port p).phase = .eq)
    (dr : s.drudar p = false) (go : s.stepping p = true) (last : (s.port p).eqTries ≠ 0 ∨ s.climbing p = 2)
    (bad : ok = false ∨ 200 < skew) : exec (.rungEqDone p ⟨ok, skew⟩) s =
      .next ((((s.setReg Obj.PORT_SKEW p skew).setPort p
        { s.port p with noRate := s.climbing p, eqTries := 0, phase := .linkInit }).setReg
        Obj.PORT_FALLBACK p (s.climbing p)).raise 0x2004 0x20 2 p (s.climbing p % 256 + 256 * (s.port p).rate)) := by
  change execRungEqDone p ⟨ok, skew⟩ s = _
  have again : ¬ ((s.port p).eqTries = 0 ∧ (s.setReg Obj.PORT_SKEW p skew).climbing p ≠ 2) := by
    rw [climbing_setSkew]
    tauto
  have mode : (s.setReg Obj.PORT_SKEW p skew).drudar p = false := by rw [drudar, reg_setReg_of_ne _ _ _ _ (by simp), ← drudar, dr]
  refine onUnit_eq_next hp ((if_neg (by simp [st, ph, go, dr])).trans ((if_neg (not_trained bad)).trans ((if_neg again).trans ?_)))
    ?_ ?_ ?_
  · rw [settle, mode, climbing_setSkew]
    rfl
  all_goals simp

/-- 200 ms without DL_Up fail the training (R75). -/
theorem exec_trainTimeout (hp : p < 256) (st : (s.port p).st = .training) (down : (s.port p).dlUp = false)
    (go : s.stepping p = true) (late : s.after (s.port p).leftDetect 200000000 = true) :
    exec (.trainTimeout p) s = .next (s.trainFail p) := by
  change execTrainTimeout p s = _
  exact onUnit_next hp (if_pos ⟨.inl st, down, go, late⟩) (trainFail_keptBut s p) rfl rfl rfl

theorem exec_trainBackoffEnd_spent (hp : p < 256) (spent : (s.port p).spent = true) :
    exec (.trainBackoffEnd p) s = .next s := by
  change execTrainBackoffEnd p s = _
  exact onUnit_eq_next hp (if_neg (by simp [spent])) rfl rfl rfl

theorem exec_trainBackoffEnd (hp : p < 256) (st : (s.port p).st = .trainFail) (spent : (s.port p).spent = false)
    (late : s.after (s.port p).failedAt (backoff (s.port p).fails) = true) (go : s.stepping p = true) :
    exec (.trainBackoffEnd p) s = .next (s.setPort p { s.port p with st := .detect, phase := .idle }) := by
  change execTrainBackoffEnd p s = _
  exact onUnit_eq_next hp (if_pos ⟨st, spent, late, go⟩) rfl rfl rfl

theorem exec_aspmL1Request (hp : p < 256) (dr : s.drudar p = false) (st : (s.port p).st = .l0) (awake : (s.port p).l1Req = false) :
    exec (.aspmL1Request p) s = .next (s.emit (.l1Refused p)) := by
  change execAspmL1Request p s = _
  exact onUnit_eq_next hp (if_pos ⟨dr, st, awake⟩) rfl rfl rfl

end

/-- Settles O23: each step of the ladder from what its command answers. -/
theorem ladderSteps : Obligations.LadderSteps := by
  unfold Obligations.LadderSteps
  refine ⟨?_, ?_, ?_, ?_, ?_, ?_, ?_, ?_, ?_⟩
  · intro s p hp st ph form runs perst free
    exact exec_ladderStart hp st ph form runs perst free
  · intro s p hp st ph dr go
    have lanes := setSpeed_lanesOnly (s.setPort p { s.port p with
      st := .training, phase := .polling, rate := 1, leftDetect := s.clk, eqTries := 0 }) p 1
    have kept := setSpeed_keptBut (s.setPort p { s.port p with
      st := .training, phase := .polling, rate := 1, leftDetect := s.clk, eqTries := 0 }) p 1
    refine ⟨_, exec_receiverDetect hp st ph dr go, reg_setReg_self _ _ _ _, kept.regs, lanes.fab, ?_, fun q ne => ?_⟩
    · rw [kept.port, port_setPort_self]
    · rw [kept.port, port_setPort_of_ne _ _ _ ne]
  · intro s p r skew hp st ph dr go climb near
    exact exec_rungEqDone_climbs hp st ph dr go climb near
  · intro s p skew ok hp st ph dr go first rung bad
    exact exec_rungEqDone_retried hp st ph dr go first rung bad
  · intro s p skew ok hp st ph dr go last bad
    exact exec_rungEqDone_settled hp st ph dr go last bad
  · intro s p hp st down go late
    have own : (s.trainFail p).port p = s.failedPort p := by rw [port_trainFail, port_setPort_self]
    refine ⟨_, exec_trainTimeout hp st down go late, ?_, ?_, ?_, ?_, ?_, ?_, ?_, fun n => laneState_trainFail s p, seq_trainFail s p,
      fun q ne => ?_⟩
    · rw [own, failedPort]
    · rw [own, failedPort]
    · rw [own, failedPort]
    · rw [own, failedPort]
      exact decide_eq_true_iff
    · exact speed_trainFail s p
    · exact width_trainFail s p
    · exact activeWidth_trainFail s p
    · rw [port_trainFail, port_setPort_of_ne _ _ _ ne]
  · intro s p hp st spent
    exact exec_trainBackoffEnd_spent hp spent
  · intro s p hp st spent late go
    exact exec_trainBackoffEnd hp st spent late go
  · intro s p hp dr st awake
    exact exec_aspmL1Request hp dr st awake

end Sys2Proof.Machine
end

section
/-!
The obligation `LaneLossAndWidth` fails: its clause on a failed Recovery speaks of every port number below 256, also of one that its
cluster's division does not form (R4, R65), and such a port does not go DL_Down.
-/

namespace Sys2Proof.Machine

open State

/-- A port number that is not formed has no link to take down (R65, R159). -/
theorem State.portDown_of_not_formed {s : State} {p : Nat} (cause : Nat) (h : s.formed p = false) : s.portDown p cause = s :=
  if_pos (.inr (.inr (by simp [h])))

theorem exec_recoveryEnd_of_not_formed {s : State} {p skew : Nat} {l : List Nat} (hp : p < 256) (form : s.formed p = false) :
    exec (.recoveryEnd p false ⟨l, skew⟩) s = .next s := by
  change execRecoveryEnd p false ⟨l, skew⟩ s = _
  refine onUnit_eq_next hp ?_ rfl rfl rfl
  simp [portDown_of_not_formed 1 form]

/-- A state whose cluster 0 forms one port of 16 lanes, port 0, and in which the link of port number 1 is in Recovery. -/
def unformedRecovery : State := State.reset.setPort 1 { portDflt with st := .recovery, dlUp := true }

theorem unformedRecovery_not_formed : unformedRecovery.formed 1 = false := by decide +kernel

theorem unformedRecovery_calm : unformedRecovery.Calm 1 := by
  unfold Calm
  decide +kernel

/-- Refutes O25: in `unformedRecovery` Recovery fails at port number 1, and it is not FLUSHING. -/
theorem not_laneLossAndWidth : ¬ Obligations.LaneLossAndWidth := by
  unfold Obligations.LaneLossAndWidth
  rintro ⟨-, -, -, clause, -⟩
  obtain ⟨u, runs, st, -⟩ := clause unformedRecovery 1 0 false [] (by decide) (by decide +kernel) (by decide +kernel)
    (by decide +kernel) (by decide +kernel) unformedRecovery_calm (.inl rfl)
  rw [exec_recoveryEnd_of_not_formed (by decide) unformedRecovery_not_formed] at runs
  cases runs
  exact absurd st (by decide +kernel)

end Sys2Proof.Machine
end

section
/-!
The obligation `UnitCommandWrites` fails: the slot wheel gives the lookup of DIR_LOOKUP the unit number 273, and no premise keeps the
requests that wait for Cairn from naming an ingress port of that number. Such a request's turn is taken for the lookup's, which is then
admitted while its set is being read from HBM.
-/

namespace Sys2Proof.Machine

open State

/-- The response to a served write changes nothing of Cairn. -/
theorem State.coh_wrote (s u : State) (ep : Nat) (r : Req) (b : List Byte) : (s.wrote u ep r b).coh = u.coh := by
  rw [wrote, respondReq, sendMessage_eq, profWatch_eq]

/-- A RD_S in slice 0 whose ingress port has the number of the unit of DIR_LOOKUP. -/
def lookupAlias : CohReq :=
  { slice := 0, ty := 1, msg := { msgDflt with inPort := 273, internal := false }, cause := 0, wait := 4095, ncnt := 0, readyAt := 0
    entry := 511, rsv := 64, since := 0, admitted := false }

/-- A part in ACTIVE that reads set 0 of slice 0 from HBM, while `lookupAlias` waits for the slice; its slot 0 is INTERNAL's. -/
def aliasWaits : State :=
  ({ State.reset with
      mode := .active, rst := { State.reset.rst with step := .done }
      coh := { State.reset.coh with reads := [(0, 0)], reqs := [lookupAlias] } } : State).setReg Obj.WHEEL_SLOT 0 0x23

theorem aliasWaits_accepts : aliasWaits.Accepts 0 (writeOf Obj.DIR_LOOKUP 0 0) := by
  unfold Accepts Serves
  decide +kernel

theorem exec_dirLookupWrite_aliasWaits : exec (.dirLookupWrite 0 0) aliasWaits =
    .next (aliasWaits.wrote (dirLookup aliasWaits 0) 0 (writeOf Obj.DIR_LOOKUP 0 0) []) := by
  change execDirLookupWrite 0 0 aliasWaits = _
  have value : writeVals (writeOf Obj.DIR_LOOKUP 0 0) = some [valOf 0] := by decide +kernel
  have effect : aliasWaits.writeObj none 0 Obj.DIR_LOOKUP 0 (valOf 0) = done (dirLookup aliasWaits 0) :=
    writeObj_DIR_LOOKUP aliasWaits none 0 0 (valOf 0)
  have pending : (done (dirLookup aliasWaits 0)).state.pending = aliasWaits.pending := by decide +kernel
  have mode : (done (dirLookup aliasWaits 0)).state.mode = aliasWaits.mode := by decide +kernel
  have fuse : (done (dirLookup aliasWaits 0)).state.sec.fuse = aliasWaits.sec.fuse := by decide +kernel
  exact writeCmd_served (e := done (dirLookup aliasWaits 0)) aliasWaits_accepts value effect rfl pending mode (by rw [fuse, max_self])

/-- The lookup has taken the first slot of the cycle. -/
theorem slotAt_dirLookup_aliasWaits : (dirLookup aliasWaits 0).coh.slotAt.get 0 (0, 0) = 1 := by decide +kernel

/-- Refutes O6: in `aliasWaits` a lookup of address 0, whose set is being read from HBM, does not wait. -/
theorem not_unitCommandWrites : ¬ Obligations.UnitCommandWrites := by
  unfold Obligations.UnitCommandWrites
  rintro ⟨-, -, -, -, -, clause, -⟩
  have runs := clause aliasWaits 0 0 0 0 0 aliasWaits_accepts (by decide) (by decide +kernel) (by decide +kernel)
  rw [exec_dirLookupWrite_aliasWaits] at runs
  injection runs with same
  have coh := congrArg State.coh same
  rw [coh_wrote, coh_wrote] at coh
  have slot := slotAt_dirLookup_aliasWaits
  rw [coh] at slot
  exact absurd slot (by decide +kernel)

end Sys2Proof.Machine
end

section
/-!
The obligation `LaneInstruments`: the rounds and slots of a Quartz engine, and the PRBS checker.
-/

namespace Sys2Proof.Machine

namespace State

section

variable (s : State) (q : Nat)

/-! ### The state of an engine -/

@[simp] theorem setQuartz_setQuartz (x y : Quartz) : (s.setQuartz q x).setQuartz q y = s.setQuartz q y := by
  unfold setQuartz
  rw [Tbl.set_set]

@[simp] theorem lane_setQuartz (n : Nat) (x : Quartz) : (s.setQuartz q x).lane n = s.lane n := rfl
@[simp] theorem quartz_setReg (o i v : Nat) : (s.setReg o i v).quartz q = s.quartz q := rfl
@[simp] theorem quartz_setLane (n : Nat) (x : Lane) : (s.setLane n x).quartz q = s.quartz q := rfl
@[simp] theorem quartz_emit (x : Output) : (s.emit x).quartz q = s.quartz q := rfl
@[simp] theorem scanFrom_setQuartz (k : Nat) (x : Quartz) : (s.setQuartz q x).scanFrom q k = s.scanFrom q k := rfl

/-- `t` is `s` but for objects, outputs, free values, lanes, engines and what Talus keeps. -/
def QuartzOnly (s t : State) : Prop :=
  t = { s with
    regs := t.regs, out := t.out, freeCtr := t.freeCtr, talus := t.talus
    link := { s.link with lanes := t.link.lanes, qz := t.link.qz } }

namespace QuartzOnly

variable {s t u : State}

theorem refl (s : State) : s.QuartzOnly s := rfl

theorem trans (h : s.QuartzOnly t) (k : t.QuartzOnly u) : s.QuartzOnly u := by
  have e := k
  unfold QuartzOnly at e
  rw [h] at e
  exact e

theorem pending (h : s.QuartzOnly t) : t.pending = s.pending := by rw [h]
theorem mode (h : s.QuartzOnly t) : t.mode = s.mode := by rw [h]
theorem sec (h : s.QuartzOnly t) : t.sec = s.sec := by rw [h]
theorem fab (h : s.QuartzOnly t) : t.fab = s.fab := by rw [h]

theorem setQuartz (h : s.QuartzOnly t) (q : Nat) (x : Quartz) : s.QuartzOnly (t.setQuartz q x) := h.trans rfl
theorem setReg (h : s.QuartzOnly t) (o i v : Nat) : s.QuartzOnly (t.setReg o i v) := h.trans rfl
theorem setLane (h : s.QuartzOnly t) (n : Nat) (x : Lane) : s.QuartzOnly (t.setLane n x) := h.trans rfl
theorem emit (h : s.QuartzOnly t) (x : Output) : s.QuartzOnly (t.emit x) := h.trans rfl
theorem nextFree (h : s.QuartzOnly t) : s.QuartzOnly t.nextFree := h.trans rfl
theorem setFom (h : s.QuartzOnly t) (n f : Nat) : s.QuartzOnly (t.setFom n f) := h.trans rfl

end QuartzOnly

/-! ### Scans (R86) -/

theorem reg_setFom (n f o i : Nat) : (s.setFom n f).reg o i = if o = Obj.LANE_FOM ∧ i = n then f else s.reg o i := reg_setReg s _ _ _ _ _

@[simp] theorem lane_setFom (n f m : Nat) : (s.setFom n f).lane m = s.lane m := rfl
@[simp] theorem quartz_setFom (n f : Nat) : (s.setFom n f).quartz q = s.quartz q := rfl
@[simp] theorem out_setFom (n f : Nat) : (s.setFom n f).out = s.out := rfl

theorem scanDone_quartzOnly (n : Nat) (eyes : List (Nat × Nat)) : s.QuartzOnly (s.scanDone n eyes) := by
  unfold scanDone
  split
  · exact .refl s
  · exact ((((QuartzOnly.refl s).setFom n _).setReg _ n _).setReg _ n _).setReg _ n _

@[simp] theorem lane_scanDone (n m : Nat) (eyes : List (Nat × Nat)) : (s.scanDone n eyes).lane m = s.lane m := by
  unfold scanDone
  split <;> rfl

@[simp] theorem quartz_scanDone (n : Nat) (eyes : List (Nat × Nat)) : (s.scanDone n eyes).quartz q = s.quartz q := by
  unfold scanDone
  split <;> rfl

@[simp] theorem out_scanDone (n : Nat) (eyes : List (Nat × Nat)) : (s.scanDone n eyes).out = s.out := by
  unfold scanDone
  split <;> rfl

/-- The figures that a finished scan leaves (R86). -/
theorem reg_scanDone {eyes : List (Nat × Nat)} (seen : eyes ≠ []) (n o i : Nat) : (s.scanDone n eyes).reg o i =
    if o = Obj.LANE_EYE_TIME ∧ i = n then s.now
    else if o = Obj.LANE_EYE_W ∧ i = n then eyes.foldl (fun a e => min a e.2) 65535
    else if o = Obj.LANE_EYE_H ∧ i = n then eyes.foldl (fun a e => min a e.1) 65535
    else if o = Obj.LANE_FOM ∧ i = n then eyeFom eyes else s.reg o i := by
  rw [scanDone, if_neg (by simp [seen])]
  simp only [reg_setReg, reg_setFom]

/-- A step of the scan within a lane. -/
theorem scanStep_within {scan : Option EyeScan} (more : s.scanFrom q (s.quartz q).lane = (s.quartz q).lane) (lane : (s.quartz q).lane ≠ 64)
    (step : (s.quartz q).step < 15) :
    s.scanStep q scan = s.setQuartz q { s.quartz q with step := (s.quartz q).step + 1 } := by
  unfold scanStep
  simp [more, lane, step]

/-- The last step of the scan of a lane that is not the last of its group. -/
theorem scanStep_last {e : EyeScan} (more : s.scanFrom q (s.quartz q).lane = (s.quartz q).lane) (lane : (s.quartz q).lane ≠ 64)
    (step : (s.quartz q).step = 15) (next : s.scanFrom q ((s.quartz q).lane + 1) ≠ 64) :
    s.scanStep q (some e) = (s.scanDone (64 * q + (s.quartz q).lane) e.eyes).setQuartz q
      { s.quartz q with lane := s.scanFrom q ((s.quartz q).lane + 1), step := 0 } := by
  unfold scanStep
  simp [more, lane, step, next]

theorem scanStep_quartzOnly (scan : Option EyeScan) : s.QuartzOnly (s.scanStep q scan) := by
  have done (n : Nat) : s.QuartzOnly (match scan with | some e => s.scanDone n e.eyes | none => s) := by
    split
    · exact scanDone_quartzOnly s n _
    · exact .refl s
  unfold scanStep
  extract_lets z cur w k
  split_ifs with last early sweep
  · exact .refl s
  · exact (QuartzOnly.refl s).setQuartz q _
  · exact ((done _).setReg _ q _).setQuartz q _
  · exact (done _).setQuartz q _

/-- A step of the scan sends nothing, and leaves the margining commands that wait. -/
theorem scanStep_quiet (scan : Option EyeScan) :
    (s.scanStep q scan).out = s.out ∧ ((s.scanStep q scan).quartz q).margins = (s.quartz q).margins := by
  have done (n : Nat) : (match scan with | some e => s.scanDone n e.eyes | none => s).out = s.out := by
    split
    · exact out_scanDone s n _
    · rfl
  unfold scanStep
  extract_lets z cur w k
  split_ifs with last early sweep
  · exact ⟨rfl, rfl⟩
  · exact ⟨rfl, by rw [quartz_setQuartz_self]⟩
  · exact ⟨done _, by rw [quartz_setQuartz_self]⟩
  · exact ⟨done _, by rw [quartz_setQuartz_self]⟩

/-! ### Margining (R88) -/

/-- The margining commands that wait at an engine. -/
def setMargins (s : State) (q : Nat) (l : List (Nat × MarginCmd)) : State := s.setQuartz q { s.quartz q with margins := l }

/-- No waiting command is served where none is of a lane that `f` accepts. -/
theorem serveMargins_none {f : Nat → Bool} (h : ∀ m ∈ (s.quartz q).margins, f m.1 = false) :
    s.serveMargins q f = s.setQuartz q (s.quartz q) := by
  have none : (s.quartz q).margins.filter (fun m => f m.1) = [] := by simpa using h
  have all : (s.quartz q).margins.filter (fun m => !f m.1) = (s.quartz q).margins := by simpa using h
  unfold serveMargins
  dsimp only
  rw [none, all]
  rfl

/-- The one command that waits is served. -/
theorem serveMargins_one {f : Nat → Bool} {n : Nat} {c : MarginCmd} (only : (s.quartz q).margins = [(n, c)]) (h : f n = true) :
    s.serveMargins q f = (s.setMargins q []).serveMargin n c := by
  unfold serveMargins
  simp [only, h, foldS, setMargins]

/-- What a margining command of a lane that is not privileged is answered. -/
def marginAnswer (s : State) (n : Nat) : MarginCmd → State
  | .normal => s
  | .report => s.emit (.marginCaps n 32 50 64 12 true true true true)
  | .timing left k => s.nextFree.emit (.margined n (.timing left k) s.freeVal)
  | .voltage up k => s.nextFree.emit (.margined n (.voltage up k) s.freeVal)

theorem serveMargin_unprivileged {n : Nat} (c : MarginCmd) (priv : s.flag Obj.LANE_PRIV n = false) :
    s.serveMargin n c = s.marginAnswer n c := by
  unfold serveMargin marginAnswer
  simp only [priv, Bool.false_eq_true, if_false]
  cases c <;> rfl

theorem serveMargin_quartzOnly (n : Nat) (c : MarginCmd) : s.QuartzOnly (s.serveMargin n c) := by
  have priv : s.QuartzOnly (if s.flag Obj.LANE_PRIV n then s.modLane n (fun l => { l with margining := c != .normal }) else s) := by
    split
    · exact (QuartzOnly.refl s).setLane n _
    · exact .refl s
  unfold serveMargin
  cases c with
  | normal => exact priv
  | report => exact priv.emit _
  | timing left k => exact priv.nextFree.emit _
  | voltage up k => exact priv.nextFree.emit _

theorem serveMargins_quartzOnly (f : Nat → Bool) : s.QuartzOnly (s.serveMargins q f) :=
  foldS_keeps s.QuartzOnly (fun (m : Nat × MarginCmd) t => t.serveMargin m.1 m.2)
    (fun m t k => k.trans (serveMargin_quartzOnly t m.1 m.2)) _ _
    ((QuartzOnly.refl s).setQuartz q _)

theorem quartz_marginAnswer (n : Nat) (c : MarginCmd) : (s.marginAnswer n c).quartz q = s.quartz q := by
  cases c <;> rfl

/-! ### Adaptation (R87) -/

/-- Lane `l` after its slot, where its eye is not below its target: the parameter's step is kept or not, and the next one's turn has
come. -/
def adapted (l : Lane) (keep : Bool) : Lane :=
  { l with
    param := (l.param + 1) % 8
    codes := if keep then setAt l.codes l.param (l.codes.getD l.param 0 + l.dirs.getD l.param 1) else l.codes
    dirs := if keep then setAt l.dirs l.param (l.dirs.getD l.param 1) else l.dirs
    below := 0 }

theorem privSlot_eq {n f0 f1 f2 : Nat} {doubled : Bool} (free : (s.lane n).margining = false) (gate : s.gatedLC (n / 16) = false)
    (good : s.reg Obj.LANE_FOM_TARGET n ≤ f2) : s.privSlot n f0 f1 doubled f2 =
      (s.setLane n (adapted (s.lane n) (!(f1 < f0 + s.reg Obj.FOM_HYST 0 || doubled)))).setFom n (min f2 65535) := by
  unfold privSlot
  simp [free, gate, Nat.not_lt.mpr good, adapted]

/-! ### The lane counters (R83, R84) -/

theorem lane_modLane_self (n : Nat) (f : Lane → Lane) : (s.modLane n f).lane n = f (s.lane n) := lane_setLane_self s n _

theorem lane_modLane_of_ne (n : Nat) (f : Lane → Lane) {m : Nat} (h : m ≠ n) : (s.modLane n f).lane m = s.lane m :=
  lane_setLane_of_ne s n _ h

theorem reg_modLane (n : Nat) (f : Lane → Lane) (o i : Nat) : (s.modLane n f).reg o i = s.reg o i := rfl

theorem countAt_settleLane (n : Nat) : ((s.settleLane n).lane n).countAt = s.clk := by
  unfold settleLane
  dsimp only
  split
  · assumption
  · split <;> rw [lane_setLane_self]

/-- A lane's counts do not fall, but for the limit of the error count. -/
theorem counts_settleLane (n : Nat) (small : (s.lane n).errs < 2 ^ 48) :
    (s.lane n).errs ≤ ((s.settleLane n).lane n).errs ∧ (s.lane n).bits ≤ ((s.settleLane n).lane n).bits := by
  unfold settleLane
  dsimp only
  split
  · exact ⟨le_rfl, le_rfl⟩
  · split
    · rw [lane_setLane_self]
      exact ⟨le_rfl, le_rfl⟩
    · rw [lane_setLane_self]
      dsimp only
      constructor
      · split <;> omega
      · split <;> omega

theorem reg_settleLane (n o i : Nat) : (s.settleLane n).reg o i = s.reg o i := by
  unfold settleLane
  dsimp only
  split
  · rfl
  · split <;> rfl

/-! ### The commands -/

/-- A new round of an engine begins (R86). -/
def newRound (t : State) (q clk : Nat) (slots : List Nat) : State :=
  t.setQuartz q { t.quartz q with roundAt := clk + 1, freeAt := clk, slots := slots }

/-- The engine whose slot of a privileged lane ends now: the next lane's slot begins (R86). -/
def nextSlot (s : State) (q : Nat) : State :=
  s.setQuartz q { s.quartz q with slots := (s.slotsDue q).tail, freeAt := s.clk }

theorem exec_quartzRound (h : s.RoundEnds q) (ms : List (Nat × MarginCmd)) (here : ∀ m ∈ ms, m.1 / 64 = q) (e : Option EyeScan) :
    exec (.quartzRound q ms e) s = .next ((((s.setMargins q ms).serveMargins q (fun n => !s.flag Obj.LANE_PRIV n)).scanStep q e).newRound
      q s.clk (s.privLanes q)) := by
  obtain ⟨hq, runs, due, slots, margins⟩ := h
  have mine : ms.filter (fun m => decide (m.1 / 64 = q)) = ms := by simpa using here
  have frame : s.QuartzOnly ((((s.setMargins q ms).serveMargins q (fun n => !s.flag Obj.LANE_PRIV n)).scanStep q e).newRound
      q s.clk (s.privLanes q)) :=
    ((((QuartzOnly.refl s).setQuartz q _).trans (serveMargins_quartzOnly _ q _)).trans (scanStep_quartzOnly _ q e)).setQuartz q _
  change execQuartzRound q ms e s = _
  refine onUnit_eq_next hq ?_ frame.pending frame.mode (by rw [frame.sec])
  dsimp only
  rw [if_neg (by simp [runs, slots]; rintro ne; simpa [ne] using due), mine, margins]
  rfl

/-- The round of an engine that no margining command waits for. -/
theorem exec_quartzRound_idle (h : s.RoundEnds q) (e : Option EyeScan) : exec (.quartzRound q [] e) s =
    .next (((s.setQuartz q (s.quartz q)).scanStep q e).newRound q s.clk (s.privLanes q)) := by
  obtain ⟨-, -, -, -, margins⟩ := id h
  have same : s.setMargins q [] = s.setQuartz q (s.quartz q) := by rw [setMargins, ← margins]
  rw [exec_quartzRound s q h [] (by simp), serveMargins_none _ _ (by simp [setMargins]), same, quartz_setQuartz_self, setQuartz_setQuartz]

theorem exec_quartzPrivSlot {n f0 f1 f2 : Nat} {doubled : Bool} (h : s.SlotEnds n) (good : s.reg Obj.LANE_FOM_TARGET n ≤ f2) :
    exec (.quartzPrivSlot n f0 f1 doubled f2) s = .next (((s.nextSlot (n / 64)).setLane n
      (adapted (s.lane n) (!(f1 < f0 + s.reg Obj.FOM_HYST 0 || doubled)))).setFom n (min f2 65535)) := by
  obtain ⟨hn, runs, due, after, margins, free, gate⟩ := h
  have none : (s.nextSlot (n / 64)).serveMargins (n / 64) (· == n) = s.nextSlot (n / 64) := by
    rw [serveMargins_none _ _ (by simpa [nextSlot] using margins)]
    simp [nextSlot]
  change execQuartzPrivSlot n f0 f1 doubled f2 s = _
  refine onUnit_eq_next hn ((if_pos ⟨runs, due, after⟩).trans ?_) rfl rfl rfl
  change ((s.nextSlot (n / 64)).serveMargins (n / 64) (· == n)).privSlot n f0 f1 doubled f2 = _
  rw [none, privSlot_eq (s.nextSlot (n / 64)) free gate good]
  rfl

/-- What a slot that leaves lane `n` as `x`, of figure of merit `v`, changes. -/
theorem slotEnd (n v : Nat) (x : Lane) :
    (((s.nextSlot (n / 64)).setLane n x).setFom n v).lane n = x ∧
    (((s.nextSlot (n / 64)).setLane n x).setFom n v).reg Obj.LANE_FOM n = v ∧
    (∀ m, m ≠ n → (((s.nextSlot (n / 64)).setLane n x).setFom n v).lane m = s.lane m ∧
      (((s.nextSlot (n / 64)).setLane n x).setFom n v).reg Obj.LANE_FOM m = s.reg Obj.LANE_FOM m) ∧
    s.SameRegs (((s.nextSlot (n / 64)).setLane n x).setFom n v) [Obj.LANE_FOM] := by
  refine ⟨?_, ?_, fun m hm => ⟨?_, ?_⟩, fun o i ho _ _ => ?_⟩
  · rw [lane_setFom, lane_setLane_self]
  · rw [reg_setFom, if_pos ⟨rfl, rfl⟩]
  · rw [lane_setFom, lane_setLane_of_ne _ _ _ hm]
    rfl
  · rw [reg_setFom, if_neg (fun e => hm e.2)]
    rfl
  · rw [reg_setFom, if_neg (fun e => ho (by simp [e.1]))]
    rfl

theorem quartz_slotEnd (n v : Nat) (x : Lane) : (((s.nextSlot (n / 64)).setLane n x).setFom n v).quartz (n / 64) =
    { s.quartz (n / 64) with slots := (s.slotsDue (n / 64)).tail, freeAt := s.clk } := by
  rw [quartz_setFom, quartz_setLane, nextSlot, quartz_setQuartz_self]

theorem exec_marginCommand {n : Nat} (hn : n < 512) (c : MarginCmd) : exec (.marginCommand n c) s =
    .next (s.setQuartz (n / 64) { s.quartz (n / 64) with margins := (s.quartz (n / 64)).margins ++ [(n, c)] }) := by
  change execMarginCommand n c s = _
  exact onUnit_eq_next hn rfl rfl rfl rfl

theorem exec_prbsPatternLock {n : Nat} (hn : n < 512) (mode : s.reg Obj.LANE_PRBS_MODE n ≠ 0) :
    exec (.prbsPatternLock n) s = .next ((s.settleLane n).modLane n (fun l => { l with prbsLocked := true })) := by
  have frame := settleLane_lanesOnly s n
  change execPrbsPatternLock n s = _
  exact onUnit_eq_next hn (if_neg mode) frame.pending frame.mode (congrArg (fun k => k.fuse) frame.sec)

theorem exec_prbsPatternLockLost {n : Nat} (hn : n < 512) (mode : s.reg Obj.LANE_PRBS_MODE n ≠ 0) (locked : (s.lane n).prbsLocked = true) :
    exec (.prbsPatternLockLost n) s =
      .next (((s.settleLane n).setReg Obj.LANE_ERR_PAIR n (2 ^ 63)).modLane n (fun l => { l with prbsLocked := false })) := by
  have frame := settleLane_lanesOnly s n
  change execPrbsPatternLockLost n s = _
  exact onUnit_eq_next hn (if_neg (by simp [mode, locked])) frame.pending frame.mode (congrArg (fun k => k.fuse) frame.sec)

/-- The PRBS checker of a lane locks (R83). -/
theorem prbsPatternLock_locks {n : Nat} (hn : n < 512) (mode : s.reg Obj.LANE_PRBS_MODE n ≠ 0) :
    ∃ u : State, exec (.prbsPatternLock n) s = .next u ∧ (u.lane n).prbsLocked = true ∧ (u.lane n).countAt = s.clk ∧
      (∀ m, m ≠ n → u.lane m = s.lane m) ∧ s.SameRegs u [] ∧ u.fab = s.fab := by
  refine ⟨_, exec_prbsPatternLock s hn mode, ?_, ?_, fun m hm => ?_, fun o i _ _ _ => ?_, (settleLane_lanesOnly s n).fab⟩
  · rw [lane_modLane_self]
  · rw [lane_modLane_self]
    exact countAt_settleLane s n
  · rw [lane_modLane_of_ne _ _ _ hm, lane_settleLane_of_ne s hm]
  · rw [reg_modLane, reg_settleLane]

/-- The PRBS checker of a lane loses its lock (R84). -/
theorem prbsPatternLockLost_unlocks {n : Nat} (hn : n < 512) (mode : s.reg Obj.LANE_PRBS_MODE n ≠ 0) (locked : (s.lane n).prbsLocked = true)
    (small : (s.lane n).errs < 2 ^ 48) :
    ∃ u : State, exec (.prbsPatternLockLost n) s = .next u ∧ (u.lane n).prbsLocked = false ∧ u.reg Obj.LANE_ERR_PAIR n = 2 ^ 63 ∧
      (s.lane n).errs ≤ (u.lane n).errs ∧ (s.lane n).bits ≤ (u.lane n).bits ∧ (∀ m, m ≠ n → u.lane m = s.lane m) ∧
      (∀ m, m ≠ n → u.reg Obj.LANE_ERR_PAIR m = s.reg Obj.LANE_ERR_PAIR m) ∧ s.SameRegs u [Obj.LANE_ERR_PAIR] ∧ u.fab = s.fab := by
  obtain ⟨errs, bits⟩ := counts_settleLane s n small
  refine ⟨_, exec_prbsPatternLockLost s hn mode locked, ?_, ?_, ?_, ?_, fun m hm => ?_, fun m hm => ?_, fun o i ho _ _ => ?_,
    (settleLane_lanesOnly s n).fab⟩
  · rw [lane_modLane_self]
  · rw [reg_modLane, reg_setReg_self]
  · rw [lane_modLane_self]
    exact errs
  · rw [lane_modLane_self]
    exact bits
  · rw [lane_modLane_of_ne _ _ _ hm]
    exact lane_settleLane_of_ne s hm
  · rw [reg_modLane, reg_setReg_of_ne _ _ _ _ (by simp [hm]), reg_settleLane]
  · rw [reg_modLane, reg_setReg_of_ne _ _ _ _ (fun e => ho (by simp [(Prod.mk.inj e).1])), reg_settleLane]

/-- A round that takes a step of the scan within a lane (R86). -/
theorem quartzRound_scans (h : s.RoundEnds q) (more : s.scanFrom q (s.quartz q).lane = (s.quartz q).lane) (lane : (s.quartz q).lane ≠ 64)
    (step : (s.quartz q).step < 15) (e : Option EyeScan) : ∃ u : State, exec (.quartzRound q [] e) s = .next u ∧
      u.quartz q = { s.quartz q with step := (s.quartz q).step + 1, roundAt := s.clk + 1, freeAt := s.clk, slots := s.privLanes q } ∧
      (∀ k, k ≠ q → u.quartz k = s.quartz k) ∧ (∀ n, u.lane n = s.lane n) ∧ s.SameRegs u [] ∧ u.fab = s.fab ∧ u.out = s.out := by
  refine ⟨_, exec_quartzRound_idle s q h e, ?_⟩
  rw [scanStep_within (s.setQuartz q (s.quartz q)) q (by simpa using more) (by simpa using lane) (by simpa using step)]
  refine ⟨by simp [newRound], fun k hk => ?_, fun n => ?_, fun o i _ _ _ => ?_, ?_, ?_⟩
  · simp [newRound, quartz_setQuartz_of_ne _ _ _ hk]
  · simp [newRound]
  · simp [newRound]
  · simp [newRound]
  · simp [newRound]

/-- A round that finishes the scan of a lane (R86). -/
theorem quartzRound_finishes {e : EyeScan} (h : s.RoundEnds q) (more : s.scanFrom q (s.quartz q).lane = (s.quartz q).lane)
    (lane : (s.quartz q).lane ≠ 64) (step : (s.quartz q).step = 15) (seen : e.eyes ≠ [])
    (next : s.scanFrom q ((s.quartz q).lane + 1) ≠ 64) :
    ∃ u : State, exec (.quartzRound q [] (some e)) s = .next u ∧ u.reg Obj.LANE_FOM (64 * q + (s.quartz q).lane) = eyeFom e.eyes ∧
      u.reg Obj.LANE_EYE_H (64 * q + (s.quartz q).lane) = e.eyes.foldl (fun a e => min a e.1) 65535 ∧
      u.reg Obj.LANE_EYE_W (64 * q + (s.quartz q).lane) = e.eyes.foldl (fun a e => min a e.2) 65535 ∧
      u.reg Obj.LANE_EYE_TIME (64 * q + (s.quartz q).lane) = s.now ∧
      u.quartz q = { s.quartz q with
        lane := s.scanFrom q ((s.quartz q).lane + 1), step := 0, roundAt := s.clk + 1, freeAt := s.clk, slots := s.privLanes q } ∧
      (∀ k, k ≠ q → u.quartz k = s.quartz k) ∧ (∀ n, u.lane n = s.lane n) ∧
      s.SameRegs u [Obj.LANE_FOM, Obj.LANE_EYE_H, Obj.LANE_EYE_W, Obj.LANE_EYE_TIME] ∧ u.fab = s.fab := by
  refine ⟨_, exec_quartzRound_idle s q h (some e), ?_⟩
  rw [scanStep_last (s.setQuartz q (s.quartz q)) q (by simpa using more) (by simpa using lane) (by simpa using step) (by simpa using next)]
  have regs (o i : Nat) := reg_scanDone (s.setQuartz q (s.quartz q)) seen (64 * q + (s.quartz q).lane) o i
  simp only [quartz_setQuartz_self, scanFrom_setQuartz]
  refine ⟨?_, ?_, ?_, ?_, ?_, fun k hk => ?_, fun n => ?_, fun o i ho _ _ => ?_, ?_⟩
  · rw [newRound, reg_setQuartz, reg_setQuartz, regs]
    simp
  · rw [newRound, reg_setQuartz, reg_setQuartz, regs]
    simp
  · rw [newRound, reg_setQuartz, reg_setQuartz, regs]
    simp
  · rw [newRound, reg_setQuartz, reg_setQuartz, regs, if_pos ⟨rfl, rfl⟩]
    rfl
  · simp [newRound]
  · simp [newRound, quartz_setQuartz_of_ne _ _ _ hk]
  · simp [newRound]
  · simp only [List.mem_cons, List.not_mem_nil, not_or] at ho
    obtain ⟨fom, h, w, time, -⟩ := ho
    rw [newRound, reg_setQuartz, reg_setQuartz, regs]
    simp [fom, h, w, time]
  · rw [newRound, fab_setQuartz, fab_setQuartz, (scanDone_quartzOnly _ _ _).fab, fab_setQuartz]

/-- A round with one margining command, of a lane that is not privileged, answers it (R88). -/
theorem quartzRound_answers {n : Nat} (h : s.RoundEnds q) (here : n / 64 = q) (priv : s.flag Obj.LANE_PRIV n = false) (c : MarginCmd)
    (e : Option EyeScan) : ∃ u : State, exec (.quartzRound q [(n, c)] e) s = .next u ∧ u.out = (s.marginAnswer n c).out ∧
      (u.quartz q).margins = [] := by
  have serve : (s.setMargins q [(n, c)]).serveMargins q (fun n => !s.flag Obj.LANE_PRIV n) =
      ((s.setMargins q [(n, c)]).setMargins q []).marginAnswer n c := by
    rw [serveMargins_one (s.setMargins q [(n, c)]) q (n := n) (c := c) (by simp [setMargins]) (by simp [priv])]
    exact serveMargin_unprivileged _ c priv
  refine ⟨_, exec_quartzRound s q h [(n, c)] (by simpa using here) e, ?_⟩
  rw [serve]
  obtain ⟨out, margins⟩ := scanStep_quiet (((s.setMargins q [(n, c)]).setMargins q []).marginAnswer n c) q e
  constructor
  · rw [newRound, out_setQuartz, out]
    cases c <;> rfl
  · rw [newRound, quartz_setQuartz_self]
    dsimp only
    rw [margins, quartz_marginAnswer]
    simp [setMargins]

end

end State

open State

/-- Settles O26: no waiting command changes an engine's scan, and the scan sends nothing. -/
theorem laneInstruments : Obligations.LaneInstruments := by
  unfold Obligations.LaneInstruments
  refine ⟨?_, ?_, ?_, ?_, ?_, ?_, ?_, ?_⟩
  · intro s q cur e ends more notEnd lane step seen next
    subst lane
    exact quartzRound_finishes s q ends more notEnd step seen next
  · intro s q cur e ends more notEnd lane step
    subst lane
    exact quartzRound_scans s q ends more notEnd step e
  · intro s q n e ends here priv
    exact ⟨quartzRound_answers s q ends here priv .report e, fun left k => quartzRound_answers s q ends here priv (.timing left k) e⟩
  · intro s n f0 f1 f2 ends same good
    have keep : (!(decide (f1 < f0 + s.reg Obj.FOM_HYST 0) || false)) = true := by simpa using same
    refine ⟨_, exec_quartzPrivSlot s ends good, ?_⟩
    rw [keep]
    obtain ⟨lane, fom, others, regs⟩ := slotEnd s n (min f2 65535) (adapted (s.lane n) true)
    exact ⟨lane, fom, quartz_slotEnd s n _ _, others, regs, rfl⟩
  · intro s n f0 f1 f2 doubled ends worse good
    have keep : (!(decide (f1 < f0 + s.reg Obj.FOM_HYST 0) || doubled)) = false := by simpa [imp_iff_not_or] using worse
    refine ⟨_, exec_quartzPrivSlot s ends good, ?_⟩
    rw [keep]
    obtain ⟨lane, fom, others, regs⟩ := slotEnd s n (min f2 65535) (adapted (s.lane n) false)
    exact ⟨lane, fom, others, regs, rfl⟩
  · exact fun s n c hn => exec_marginCommand s hn c
  · exact fun s n => prbsPatternLock_locks s
  · exact fun s n => prbsPatternLockLost_unlocks s

end Sys2Proof.Machine
end

section
/-!
SUPPORT. Frames and phases of a Drudar link: what sending a control frame and taking the reports of one change, and the state that the
steps of Drudar training leave (R90 to R102).
-/

namespace Sys2Proof.Machine

namespace State

section

variable (s : State) (p : Nat)

@[simp] theorem dru_setEgr (q r : Nat) (x : Egress) : (s.setEgr q x).dru r = s.dru r := rfl
@[simp] theorem dru_emit (q : Nat) (x : Output) : (s.emit x).dru q = s.dru q := rfl
@[simp] theorem lane_setEgr (n q : Nat) (x : Egress) : (s.setEgr q x).lane n = s.lane n := rfl
@[simp] theorem lane_emit (n : Nat) (x : Output) : (s.emit x).lane n = s.lane n := rfl

theorem setDru_keptBut (l : List Nat) (x : Dru) : s.KeptBut (s.setDru p x) l :=
  ⟨rfl, rfl, rfl, rfl, fun _ => rfl, fun _ _ _ _ _ => rfl⟩

/-! ### Control frames (R98, R100, R102) -/

/-- `y` is `x` but for the credit report that is due and the bits that wait for a codeword. -/
def LineOnly (x y : Dru) : Prop := y = { x with crDirty := y.crDirty, crPtr := y.crPtr, lineBits := y.lineBits, lineLen := y.lineLen }

/-- A frame that is sent changes no more of the link state than the line (R100, R102). -/
theorem lineOnly_sendCtrl (ct : Nat) (rest : List Byte) : LineOnly (s.dru p) ((s.sendCtrl p ct rest).dru p) := by
  unfold sendCtrl frameTime putFrame
  dsimp only
  rw [dru_setEgr, dru_emit, dru_setEgr, dru_setDru_self]
  rfl

theorem sendCtrl_keptBut (l : List Nat) (ct : Nat) (rest : List Byte) : s.KeptBut (s.sendCtrl p ct rest) l :=
  (((setDru_keptBut s p l _).trans (setEgr_keptBut _ l p _)).trans (emit_keptBut _ l _)).trans (setEgr_keptBut _ l p _)

theorem regs_sendCtrl (ct : Nat) (rest : List Byte) : (s.sendCtrl p ct rest).regs = s.regs := rfl
theorem reg_sendCtrl (ct : Nat) (rest : List Byte) (o i : Nat) : (s.sendCtrl p ct rest).reg o i = s.reg o i := rfl
theorem port_sendCtrl (ct : Nat) (rest : List Byte) (q : Nat) : (s.sendCtrl p ct rest).port q = s.port q := rfl

/-- The CRC of a frame that is sent holds (R98). -/
theorem frameGood_fillFrame {f : Frame} (known : f.ftype < 6) : frameGood (s.fillFrame p f) = true := by
  have crc : (s.fillFrame p f).crc = frameCrc (s.fillFrame p f) := rfl
  rw [frameGood, ← crc, beq_self_eq_true, Bool.true_and]
  exact decide_eq_true known

theorem sendCtrl_sentCtrl (ct : Nat) (rest : List Byte) : s.SentCtrl (s.sendCtrl p ct rest) p ct rest :=
  ⟨s.fillFrame p (plainFrame 4 (toBytes 2 ct ++ rest)), rfl, rfl, rfl, frameGood_fillFrame s p (show 4 < 6 by decide)⟩

/-! ### Frames that arrive (R98, R99) -/

/-- A good frame has nothing but its reports taken. -/
theorem receivePlain_good {f : Frame} (good : frameGood f = true) : s.receivePlain p f = (true, s.takeReports p f) := by
  rw [receivePlain, good]
  rfl

theorem onCtrl_good {ct : Nat} {f : Frame} {g : State → State} (live : s.druLive p = true) (good : frameGood f = true) (ft : f.ftype = 4)
    (c : ctype f = ct) : s.onCtrl p ct f g = g (s.takeReports p f) := by
  unfold onCtrl
  simp [live, receivePlain_good s p good, ft, c]

end

end State

end Sys2Proof.Machine
end

section
/-!
The obligation `DrudarTraining`: signal detection, SYNC, equalization, FEC lock and the exchange of INIT frames.
-/

namespace Sys2Proof.Machine

/-! ### Training words (*Training word*) -/

theorem upright_of_sync {w : Nat} (short : w < 2 ^ 128) (sync : field w 0 32 = 0x3C3CA5A5) (inverted : Bool) :
    upright (if inverted then 2 ^ 128 - 1 - w else w) = (w, inverted) := by
  have low : w % 2 ^ 32 = 0x3C3CA5A5 := by simpa [field] using sync
  cases inverted with
  | false =>
    rw [if_neg (by decide), upright, low, if_neg (by decide), Nat.mod_eq_of_lt short]
  | true =>
    have turned : (2 ^ 128 - 1 - w) % 2 ^ 32 = 0xC3C35A5A := by omega
    rw [upright]
    simp only [if_true, turned]
    congr 1
    omega

theorem sync_of_goodWord {w : Nat} (good : goodWord w = true) : field w 0 32 = 0x3C3CA5A5 := by
  simp only [goodWord, Bool.and_eq_true, beq_iff_eq] at good
  exact good.1

theorem lt_of_mem_bitsOf {m w i : Nat} (small : m < 2 ^ w) (mem : i ∈ bitsOf 16 m) : i < w := by
  have set : bit m i = true := (List.mem_filter.mp mem).2
  by_contra high
  have none : m / 2 ^ i = 0 := Nat.div_eq_of_lt (lt_of_lt_of_le small (Nat.pow_le_pow_right (by decide) (Nat.le_of_not_lt high)))
  rw [bit, none] at set
  cases set

namespace State

section

variable (s : State) (p : Nat)

/-! ### Signal detection (R91) -/

/-- The lane and its state at the start of SYNC (R91, R105): it has not locked, and a FAILED one with attempts left is tried again. -/
def signalLane (x : Nat × Lane) : Nat × Lane :=
  (if x.1 = 4 ∧ x.2.tries < 3 then 0 else x.1,
    { x.2 with goodWords := 0, lockAt := 0, peerLock := false, eqDone := false, restoring := false })

/-- The lanes of a port at the start of SYNC (R91). -/
def signalLanes : State :=
  foldS (fun n (u : State) =>
    (if u.reg Obj.LANE_STATE n = 4 ∧ (u.lane n).tries < 3 then u.setReg Obj.LANE_STATE n 0 else u).modLane n
      (fun l => { l with goodWords := 0, lockAt := 0, peerLock := false, eqDone := false, restoring := false })) (s.portLanes p) s

theorem signalLanes_keptBut : s.KeptBut (s.signalLanes p) [Obj.LANE_STATE] := by
  refine .foldS (fun n t => ?_) (s.portLanes p) s
  split
  · exact (setReg_keptBut t _ n 0 (by simp)).trans (setLane_keptBut _ _ n _)
  · exact setLane_keptBut t _ n _

theorem lane_signalLanes {n : Nat} (mem : n ∈ s.portLanes p) :
    ((s.signalLanes p).reg Obj.LANE_STATE n, (s.signalLanes p).lane n) = signalLane (s.reg Obj.LANE_STATE n, s.lane n) := by
  refine foldS_seen_once (view := fun (t : State) => (t.reg Obj.LANE_STATE n, t.lane n)) mem (nodup_portLanes s p) ?_ ?_ s
  · intro t
    split <;> simp_all [modLane, signalLane]
  · intro m _ ne t
    split <;> simp [modLane, reg_setReg, lane_setLane_of_ne _ _ _ ne.symm, ne.symm]

/-- The port in SYNC at rate 7 (R91). -/
def syncPort (s : State) (p : Nat) : Port :=
  { s.port p with st := .training, phase := .sync, phaseAt := s.clk, leftDetect := s.clk, rate := 7, eqTries := 0 }

/-! ### Equalization (R74, R94) -/

/-- The equalization of lane `l` starts anew. -/
def eqAnew (l : Lane) : Lane := { l with eqDone := false, codes := laneDflt.codes, below := 0 }

theorem lane_foldS_eqAnew {l : List Nat} {n : Nat} (nodup : l.Nodup) (mem : n ∈ l) :
    (foldS (fun m (t : State) => t.modLane m eqAnew) l s).lane n = eqAnew (s.lane n) :=
  foldS_seen_once (view := fun t => t.lane n) mem nodup (fun t => lane_setLane_self t n _)
    (fun m _ ne t => lane_setLane_of_ne t m _ ne.symm) s

/-- The lanes of a port whose equalization starts anew. -/
def eqLanes : State := foldS (fun n (t : State) => t.modLane n eqAnew) (s.portLanes p) s

/-- The port that equalizes at rate `r` (R94). -/
def eqPort (s : State) (p r tries : Nat) : Port := { s.port p with rate := r, eqTries := tries, phase := .druEq, phaseAt := s.clk }

theorem eqLanes_keptBut (l : List Nat) : s.KeptBut (s.eqLanes p) l := foldS_modLane_keptBut s eqAnew (s.portLanes p) l

theorem druEqAt_eq (r tries : Nat) : s.druEqAt p r tries = ((s.eqLanes p).setPort p (s.eqPort p r tries)).setSpeed p r := by
  have own : (s.eqLanes p).port p = s.port p := (eqLanes_keptBut s p []).port p
  unfold druEqAt modPort
  rw [eqPort, ← own]
  rfl

/-- The state of a port in FEC_LOCK, with the stripe of the lanes that the peer locks to (R96). -/
theorem toFecLock_eq : s.toFecLock p = ((((s.setReg Obj.DRU_TX_MASK p (s.laneMask p (fun n => (s.lane n).peerLock))).setReg
    Obj.DRU_TX_WIDTH p (popCount 16 (s.laneMask p (fun n => (s.lane n).peerLock)))).setDru p { s.dru p with amAt := 0 }).setPort p
    { s.port p with phase := .fecLock, phaseAt := s.clk }) := by
  simp [toFecLock, druPhase, modPort, modDru]

/-! ### FEC lock (R96, R102) -/

/-- Lane `l` with its skew from the lock of the stripe. -/
def fecLane (d : Nat) (l : Lane) : Lane := { l with skew := d }

/-- The lanes of a port with their skews (R96). -/
def skewLanes (skews : List Nat) (t : State) : State :=
  foldS (fun i (t : State) => t.modLane (s.firstLane p + i) (fecLane (skews.getD i 0))) (List.range (s.formedWidth p)) t

theorem skewLanes_keptBut (skews : List Nat) (t : State) (l : List Nat) : t.KeptBut (s.skewLanes p skews t) l :=
  .foldS (fun _ t => setLane_keptBut t l _ _) _ t

theorem lane_skewLanes (skews : List Nat) (t : State) {i : Nat} (h : i < s.formedWidth p) :
    (s.skewLanes p skews t).lane (s.firstLane p + i) = fecLane (skews.getD i 0) (t.lane (s.firstLane p + i)) :=
  foldS_seen_once (view := fun (t : State) => t.lane (s.firstLane p + i)) (List.mem_range.mpr h) List.nodup_range
    (fun t => lane_setLane_self t _ _) (fun _ _ ne t => lane_setLane_of_ne t _ _ (fun e => ne (Nat.add_left_cancel e).symm)) t

/-- The widths of the stripe that has locked (R96). -/
def fecWidths : State :=
  (s.setReg Obj.PORT_WIDTH p (popCount 16 (s.reg Obj.DRU_RX_MASK p))).setReg Obj.PORT_ACTIVE_WIDTH p
    (popCount 16 (s.reg Obj.DRU_RX_MASK p))

/-- The new link layer of a port, with the grants of R102. -/
def fecDru : Dru :=
  { druDflt with
    grant := (List.range 8).map (fun c => min 2048 (s.grantOf p c)) ++ [min 2048 (s.reg Obj.MGMT_GRANT p)]
    nakSent := true, amSeq := (s.dru p).amSeq, amAt := (s.dru p).amAt }

theorem fecLocked_eq (skews : List Nat) : s.fecLocked p skews =
    (((s.skewLanes p skews (s.fecWidths p)).applySkew p).setDru p (s.fecDru p)).druPhase p .init := rfl

theorem fecWidths_keptBut : s.KeptBut (s.fecWidths p) [Obj.PORT_WIDTH, Obj.PORT_ACTIVE_WIDTH] :=
  (setReg_keptBut s _ p _ (by simp)).trans (setReg_keptBut _ _ p _ (by simp))

theorem applySkew_keptBut : s.KeptBut (s.applySkew p) [Obj.PORT_SKEW] := setReg_keptBut s _ p _ (by simp)

/-- A stripe's skew is the largest of its lanes (R96). -/
theorem skew_applySkew_skewLanes {skews : List Nat} {t : State} (same : t.reg Obj.DRU_RX_MASK p = s.reg Obj.DRU_RX_MASK p)
    (stripe : s.reg Obj.DRU_RX_MASK p < 2 ^ s.formedWidth p) : ((s.skewLanes p skews t).applySkew p).reg Obj.PORT_SKEW p =
      (bitsOf 16 (s.reg Obj.DRU_RX_MASK p)).foldl (fun a i => max a (skews.getD i 0)) 0 := by
  have mask : (s.skewLanes p skews t).reg Obj.DRU_RX_MASK p = s.reg Obj.DRU_RX_MASK p :=
    ((skewLanes_keptBut s p skews t []).regs _ _ (by simp) (by decide) (by decide)).trans same
  rw [applySkew, reg_setReg_self, mask]
  refine List.foldl_ext _ _ 0 fun a i mem => ?_
  exact congrArg (fun l => max a l.skew) (lane_skewLanes s p skews t (lt_of_mem_bitsOf stripe mem))

/-! ### DL_Up (R76, R102) -/

/-- A Drudar port comes up: its rate is set, and LINK_UP is raised (R76). -/
theorem linkUp_drudar (h : s.drudar p = true) : s.linkUp p =
    (((s.setPort p (s.upPort p)).egressUp p).portRateChange p).raise 0x2001 0x21 1 p (s.linkUpData p) := by
  unfold linkUp
  simp only [h, if_true]
  rfl

theorem linkUp_drudar_keptBut (h : s.drudar p = true) :
    (s.setPort p (s.upPort p)).KeptBut (s.linkUp p) [Obj.PORT_CELL_RATE, Obj.CBS_SLOPE_OPER] := by
  rw [linkUp_drudar s p h]
  exact ((egressUp_keptBut _ p _).trans (portRateChange_keptBut _ p)).trans (raise_keptBut _ _ _ _ _ _ _)

theorem dru_linkUp_drudar (h : s.drudar p = true) (q : Nat) : (s.linkUp p).dru q = s.dru q := by
  rw [linkUp_drudar s p h, dru_raise, dru_of_link _ (link_portRateChange _ p), egressUp, dru_setEgr, dru_setPort]

end

end State

end Sys2Proof.Machine
end

section
/-!
The obligation `DrudarTraining`: what each command of Drudar training answers.
-/

namespace Sys2Proof.Machine

namespace State

section

variable {s : State} {p n : Nat}

/-- Signal on enough lanes starts SYNC at rate 7 (R91). -/
theorem exec_druSignalDetect {mask : Nat} (hp : p < 256) (dr : s.drudar p = true) (st : (s.port p).st = .detect)
    (ph : (s.port p).phase = .detecting) (go : s.stepping p = true) (wide : s.reg Obj.DRU_MIN_WIDTH p ≤ popCount (s.formedWidth p) mask)
    (some_ : mask % 2 ^ s.formedWidth p ≠ 0) :
    exec (.druSignalDetect p mask) s = .next (((s.signalLanes p).setPort p (s.syncPort p)).setSpeed p 7) := by
  have lanes := signalLanes_keptBut s p
  change execDruSignalDetect p mask s = _
  refine onUnit_next hp ((if_pos ⟨dr, st, ph, go, wide, some_⟩).trans rfl) (setSpeed_keptBut _ p 7) lanes.pending lanes.mode lanes.sec

/-! ### Training words (R90, R94) -/

/-- A lane of a port takes part in Drudar training, with restore attempts left (R105). -/
structure Trains (s : State) (p n : Nat) (ph : Phase) : Prop where
  drudar : s.drudar p = true
  st : (s.port p).st = .training
  phase : (s.port p).phase = ph
  mem : n ∈ s.portLanes p
  tries : (s.lane n).tries < 3

theorem Trains.not_off {ph : Phase} (h : Trains s p n ph) :
    ¬ (s.drudar p = false ∨ (s.port p).st ≠ .training ∨ (s.portLanes p).contains n = false ∨ 3 ≤ (s.lane n).tries) := by
  simp [h.drudar, h.st, h.mem, h.tries]

/-- A step keeps the queue, the mode and the security state. -/
def KeepsCourse (s t : State) : Prop := t.pending = s.pending ∧ t.mode = s.mode ∧ t.sec = s.sec

theorem exec_trainingWordRx {w : Nat} {u : State} (hp : p < 256) (e : s.trainingWord p n w = u) (k : s.KeepsCourse u) :
    exec (.trainingWordRx p n w) s = .next u := by
  obtain ⟨pending, mode, sec⟩ := k
  change execTrainingWordRx p n w s = _
  exact onUnit_eq_next hp e pending mode (congrArg (fun k => k.fuse) sec)

theorem trainingWord_bad {w : Nat} (h : Trains s p n .sync) (bad : goodWord (upright w).1 = false) :
    s.trainingWord p n w = s.setLane n { s.lane n with goodWords := 0 } := by
  unfold trainingWord
  dsimp only
  rw [if_neg h.not_off, if_pos h.phase, bad]
  rfl

theorem trainingWord_unnamed {w : Nat} (h : Trains s p n .sync) (good : goodWord (upright w).1 = true)
    (plane : field (upright w).1 32 4 = 0) (kind : field (upright w).1 50 2 ∈ [0, 3]) : s.trainingWord p n w = s.setLane n { s.lane n with
      goodWords := 0, lockAt := if (s.lane n).lockAt = 0 then s.clk + 1 else (s.lane n).lockAt } := by
  have unnamed : (field (upright w).1 50 2 == 1 || field (upright w).1 50 2 == 2) = false := by
    simp only [List.mem_cons, List.not_mem_nil, or_false] at kind
    rcases kind with kind | kind <;> rw [kind] <;> rfl
  unfold trainingWord
  dsimp only
  rw [if_neg h.not_off, if_pos h.phase, good, plane, unnamed]
  rfl

/-- Lane `l` after a good word that names its sender (R90). -/
def heardLane (s : State) (n w : Nat) : Lane :=
  { s.lane n with
    goodWords := min ((s.lane n).goodWords + 1) 4
    lockAt := if (s.lane n).lockAt = 0 then s.clk + 1 else (s.lane n).lockAt
    peerLock := bit (field w 88 8) 1 }

/-- What a good word in SYNC tells of the lane's polarity, the order of the lanes and the peer (R90). -/
def heardWord (s : State) (p n w : Nat) (inverted : Bool) : State :=
  (((((s.setLane n (heardLane s n w)).setReg Obj.LANE_POLARITY n (if inverted then 1 else 0)).setReg Obj.PORT_REVERSED p
    (if field w 36 5 ≠ n - s.firstLane p ∧ field w 36 5 + (n - s.firstLane p) + 1 = s.formedWidth p then 1 else 0)).setReg
    Obj.DRU_PEER_ID p (field w 52 16)).setReg Obj.DRU_PEER_KIND p (field w 50 2)).modPort p
    (fun y => { y with partnerMax := field w 68 4, partnerCeil := field w 72 4 })

theorem heardWord_keeps (s : State) (p n w : Nat) (inverted : Bool) : s.KeepsCourse (s.heardWord p n w inverted) := by
  simp [KeepsCourse, heardWord, modPort]

theorem syncReady_of_few (mem : n ∈ s.portLanes p) (locked : (s.lane n).lockAt ≠ 0) (few : (s.lane n).goodWords < 4) :
    s.syncReady p = false := by
  have waits : ((s.portLanes p).filter (fun n => (s.lane n).lockAt != 0)).all (fun n => 4 ≤ (s.lane n).goodWords) = false := by
    rw [List.all_eq_false]
    exact ⟨n, List.mem_filter.mpr ⟨mem, by simp [locked]⟩, by simp [few]⟩
  rw [syncReady]
  simp [waits]

theorem trainingWord_heard {w : Nat} {inverted : Bool} (h : Trains s p n .sync) (short : w < 2 ^ 128) (good : goodWord w = true)
    (plane : field w 32 4 = 0) (kind : field w 50 2 = 1 ∨ field w 50 2 = 2) (few : (s.lane n).goodWords < 3) :
    s.trainingWord p n (if inverted then 2 ^ 128 - 1 - w else w) = s.heardWord p n w inverted := by
  have named : (field w 50 2 == 1 || field w 50 2 == 2) = true := by simpa using kind
  have lane : (s.heardWord p n w inverted).lane n = heardLane s n w := by simp [heardWord, modPort]
  have waits : (s.heardWord p n w inverted).syncReady p = false := by
    refine syncReady_of_few (n := n) ?_ ?_ ?_
    · rw [portLanes_eq s p (by simp [heardWord, modPort, reg_setReg])]
      exact h.mem
    · rw [lane, heardLane]
      dsimp only
      split <;> omega
    · rw [lane, heardLane]
      dsimp only
      omega
  unfold trainingWord
  rw [upright_of_sync short (sync_of_goodWord good)]
  dsimp only
  rw [if_neg h.not_off, if_pos h.phase, good, plane, named]
  unfold heardWord heardLane at waits ⊢
  simp only [waits, Bool.false_and, Bool.and_true, Bool.not_true, Bool.false_eq_true, if_false, beq_self_eq_true]

/-- Lane `n` after a good word in EQ (R94). -/
def eqLane (s : State) (n w : Nat) : Lane :=
  { s.lane n with
    eqDone := (s.lane n).eqDone || bit (field w 88 8) 2
    peerLock := bit (field w 88 8) 1 }

theorem lastEq_keeps (s : State) (p n w : Nat) : s.KeepsCourse ((s.setLane n (eqLane s n w)).toFecLock p) := by
  rw [toFecLock_eq]
  simp [KeepsCourse]

/-- The word that ends the last equalization fixes the transmit stripe (R94, R96). -/
theorem trainingWord_lastEq {w : Nat} (h : Trains s p n .druEq) (good : goodWord (upright w).1 = true) (go : s.stepping p = true)
    (top : s.druTarget p ≤ (s.port p).rate) (ready : (s.setLane n (eqLane s n (upright w).1)).druEqReady p = true) :
    s.trainingWord p n w = (s.setLane n (eqLane s n (upright w).1)).toFecLock p := by
  have steps : (s.setLane n (eqLane s n (upright w).1)).stepping p = true := go
  have last : ¬ ((s.setLane n (eqLane s n (upright w).1)).port p).rate < (s.setLane n (eqLane s n (upright w).1)).druTarget p :=
    Nat.not_lt.mpr top
  unfold trainingWord
  dsimp only
  rw [if_neg h.not_off, if_neg (by simp [h.phase]), if_pos h.phase, good]
  change (if (s.setLane n (eqLane s n (upright w).1)).druEqReady p && (s.setLane n (eqLane s n (upright w).1)).stepping p then
    (s.setLane n (eqLane s n (upright w).1)).druRungDone p else _) = _
  rw [ready, steps, druRungDone, if_neg last]
  rfl

/-! ### Timeouts and locks (R74, R91, R94, R96) -/

theorem exec_druSyncTimeout (hp : p < 256) (st : (s.port p).st = .training) (ph : (s.port p).phase = .sync) (go : s.stepping p = true)
    (late : s.after (s.port p).phaseAt 5000000 = true) (few : popCount 16 (s.syncLocked p) < s.reg Obj.DRU_MIN_WIDTH p) :
    exec (.druSyncTimeout p) s = .next (s.trainFail p) := by
  change execDruSyncTimeout p s = _
  exact onUnit_next hp (if_pos ⟨st, ph, go, late, .inl few⟩) (trainFail_keptBut s p) rfl rfl rfl

/-- A first equalization that times out is tried once more (R74). -/
theorem exec_druEqTimeout (hp : p < 256) (st : (s.port p).st = .training) (ph : (s.port p).phase = .druEq) (high : (s.port p).rate ≠ 7)
    (go : s.stepping p = true) (late : s.after (s.port p).phaseAt 5000000 = true) (first : (s.port p).eqTries = 0) :
    exec (.druEqTimeout p) s = .next (((s.eqLanes p).setPort p (s.eqPort p (s.port p).rate 1)).setSpeed p (s.port p).rate) := by
  have lanes := eqLanes_keptBut s p []
  change execDruEqTimeout p s = _
  refine onUnit_next hp ((if_pos ⟨st, ph, high, go, late⟩).trans ?_) (setSpeed_keptBut _ p _) lanes.pending lanes.mode lanes.sec
  rw [druEqFail, if_pos first, druEqAt_eq]

/-- The stripe's state before the new link layer starts (R96). -/
def stripeLocked (s : State) (p : Nat) (skews : List Nat) : State := (s.skewLanes p skews (s.fecWidths p)).applySkew p

theorem stripeLocked_keptBut (skews : List Nat) :
    s.KeptBut (s.stripeLocked p skews) [Obj.PORT_WIDTH, Obj.PORT_ACTIVE_WIDTH, Obj.PORT_SKEW] :=
  (((fecWidths_keptBut s p).mono (by simp)).trans (skewLanes_keptBut s p skews _ _)).trans ((applySkew_keptBut _ p).mono (by simp))

/-- The codewords of a stripe lock within the skew that FEC may take in (R96). -/
theorem exec_druFecLock {skews : List Nat} (hp : p < 256) (st : (s.port p).st = .training) (ph : (s.port p).phase = .fecLock)
    (go : s.stepping p = true) (near : ∀ i ∈ bitsOf 16 (s.reg Obj.DRU_RX_MASK p), skews.getD i 0 ≤ 400) :
    exec (.druFecLock p skews) s = .next (((s.stripeLocked p skews).setDru p (s.fecDru p)).druPhase p .init) := by
  have all : (bitsOf 16 (s.reg Obj.DRU_RX_MASK p)).all (fun i => decide (skews.getD i 0 ≤ 400)) = true := by
    rw [List.all_eq_true]
    exact fun i mem => decide_eq_true (near i mem)
  have lanes := stripeLocked_keptBut (s := s) (p := p) skews
  change execDruFecLock p skews s = _
  exact onUnit_eq_next hp ((if_neg (not_not_intro ⟨st, ph, go⟩)).trans ((if_pos all).trans (fecLocked_eq s p skews))) lanes.pending
    lanes.mode (congrArg (fun k => k.fuse) lanes.sec)

/-! ### INIT (R102) -/

theorem exec_initTx (hp : p < 256) (ph : (s.port p).phase = .init) (none : (s.dru p).initRx = false)
    (due : (s.dru p).initTx = 0 ∨ s.after ((s.dru p).initTx - 1) 1000 = true) :
    exec (.initTx p) s = .next ((s.setDru p { s.dru p with initTx := s.clk + 1 }).sendCtrl p 1 (s.initBody p)) := by
  change execInitTx p s = _
  exact onUnit_next hp (if_pos ⟨ph, none, due⟩) (sendCtrl_keptBut _ p [] 1 _) rfl rfl rfl

theorem exec_initRx_bad {f : Frame} (hp : p < 256) (ph : (s.port p).phase = .init) (bad : frameGood f = false) :
    exec (.initRx p f) s = .next (s.setReg Obj.DRU_CRC_ERR p (min (s.reg Obj.DRU_CRC_ERR p + 1) 0xFFFF_FFFF)) := by
  change execInitRx p f s = _
  exact onUnit_eq_next hp ((if_neg (not_not_intro ph)).trans (if_pos (by rw [bad]; rfl))) rfl rfl rfl

/-- The peer's grants are taken (R102). -/
def initTaken (s : State) (p : Nat) (f : Frame) : State :=
  s.modDru p (fun d => { d with txCr := (List.range 9).map (fun i => min 2048 (ctrlU16 f i)), initRx := true, ackAt := s.clk })

/-- The peer's INIT is answered, where none has been sent (R102). -/
def initAnswered (s : State) (p : Nat) (f : Frame) : State :=
  if (s.dru p).initTx = 0 then
    ((s.initTaken p f).modDru p (fun d => { d with initTx := s.clk + 1 })).sendCtrl p 1 ((s.initTaken p f).initBody p)
  else s.initTaken p f

theorem initAnswered_keptBut (f : Frame) : s.KeptBut (s.initAnswered p f) [] := by
  unfold initAnswered
  split
  · exact ((setDru_keptBut s p [] _).trans (setDru_keptBut _ p [] _)).trans (sendCtrl_keptBut _ p [] 1 _)
  · exact setDru_keptBut s p [] _

theorem dru_initAnswered (f : Frame) : ((s.initAnswered p f).dru p).txCr = (List.range 9).map (fun i => min 2048 (ctrlU16 f i)) ∧
    ((s.initAnswered p f).dru p).initRx = true := by
  unfold initAnswered
  split
  · rw [(lineOnly_sendCtrl _ p 1 _)]
    simp [initTaken, modDru]
  · simp [initTaken, modDru]

/-- The peer's INIT of the same IDE mode brings DL_Up (R102). -/
theorem exec_initRx {f : Frame} (hp : p < 256) (ph : (s.port p).phase = .init) (dr : s.drudar p = true) (good : frameGood f = true)
    (ft : f.ftype = 4) (ct : ctype f = 1) (ide : ctrlU16 f 9 % 256 = s.reg Obj.DRU_IDE_MODE p) :
    exec (.initRx p f) s = .next (((s.initAnswered p f).linkUp p).modPort p (fun x => { x with phase := .up })) := by
  have answered := initAnswered_keptBut (s := s) (p := p) f
  have mode : (s.initAnswered p f).drudar p = true := by rw [drudar, answered.regs _ _ (by simp) (by decide) (by decide), ← drudar, dr]
  have up := linkUp_drudar_keptBut _ p mode
  change execInitRx p f s = _
  refine onUnit_eq_next hp ?_ ?_ ?_ ?_
  · unfold initAnswered initTaken
    dsimp only
    rw [if_neg (not_not_intro ph), good, if_neg (by decide), if_neg (by simp [ft, ct])]
    simp only [ide, if_true]
  · rw [modPort, pending_setPort, up.pending, pending_setPort, answered.pending]
  · rw [modPort, mode_setPort, up.mode, mode_setPort, answered.mode]
  · rw [modPort, sec_setPort, up.sec, sec_setPort, answered.sec]

end

end State

end Sys2Proof.Machine
end

section
/-!
The obligation `DrudarTraining`: what each step leaves, and the obligation.
-/

namespace Sys2Proof.Machine

namespace State

section

variable {s : State} {p n : Nat}

theorem druSignalDetect_leaves :
    let u := ((s.signalLanes p).setPort p (s.syncPort p)).setSpeed p 7
    u.port p = s.syncPort p ∧ u.reg Obj.PORT_SPEED p = 7 ∧ (∀ n ∈ s.portLanes p, (u.lane n).goodWords = 0 ∧ (u.lane n).lockAt = 0 ∧
        u.reg Obj.LANE_STATE n = if s.reg Obj.LANE_STATE n = 4 ∧ (s.lane n).tries < 3 then 0 else s.reg Obj.LANE_STATE n) ∧
      (∀ q, q ≠ p → u.port q = s.port q) ∧ s.SameRegs u [Obj.PORT_SPEED, Obj.LANE_STATE] := by
  intro u
  have lanes := signalLanes_keptBut s p
  have speed : ((s.signalLanes p).setPort p (s.syncPort p)).KeptBut u [Obj.PORT_SPEED] := setSpeed_keptBut _ p 7
  refine ⟨?_, reg_setReg_self _ _ _ _, fun n mem => ?_, fun q ne => ?_, fun o i other cause dropped => ?_⟩
  · rw [speed.port, port_setPort_self]
  · have lane : CountersOnly ((s.signalLanes p).lane n) (u.lane n) := lane_setSpeed _ p 7 n
    obtain ⟨state, own⟩ := Prod.mk.inj (lane_signalLanes s p mem)
    rw [lane, speed.regs _ _ (by decide) (by decide) (by decide), reg_setPort, state, own]
    exact ⟨rfl, rfl, rfl⟩
  · rw [speed.port, port_setPort_of_ne _ _ _ ne, lanes.port]
  · simp only [List.mem_cons, List.not_mem_nil, or_false, not_or] at other
    rw [speed.regs o i (by simp [other.1]) cause dropped, reg_setPort, lanes.regs o i (by simp [other.2]) cause dropped]

theorem heardWord_leaves {w : Nat} {inverted : Bool} (ph : (s.port p).phase = .sync) (few : (s.lane n).goodWords < 3) :
    let u := s.heardWord p n w inverted
    (u.lane n).goodWords = (s.lane n).goodWords + 1 ∧ (u.lane n).lockAt = (if (s.lane n).lockAt = 0 then s.clk + 1 else (s.lane n).lockAt) ∧
      u.reg Obj.LANE_POLARITY n = (if inverted then 1 else 0) ∧ u.reg Obj.DRU_PEER_ID p = field w 52 16 ∧
      u.reg Obj.DRU_PEER_KIND p = field w 50 2 ∧ (u.port p).partnerMax = field w 68 4 ∧ (u.port p).partnerCeil = field w 72 4 ∧
      (u.port p).phase = .sync ∧ (∀ m, m ≠ n → u.lane m = s.lane m) ∧
      s.SameRegs u [Obj.LANE_POLARITY, Obj.PORT_REVERSED, Obj.DRU_PEER_ID, Obj.DRU_PEER_KIND] := by
  intro u
  have lane : u.lane n = heardLane s n w := by simp [u, heardWord, modPort]
  have port : u.port p = { s.port p with partnerMax := field w 68 4, partnerCeil := field w 72 4 } := by simp [u, heardWord, modPort]
  refine ⟨?_, ?_, ?_, ?_, ?_, ?_, ?_, ?_, fun m ne => ?_, fun o i other _ _ => ?_⟩
  · rw [lane, heardLane]
    exact Nat.min_eq_left (by omega)
  · rw [lane, heardLane]
  · simp [u, heardWord, modPort, reg_setReg]
  · simp [u, heardWord, modPort, reg_setReg]
  · simp [u, heardWord, modPort]
  · rw [port]
  · rw [port]
  · rw [port]
    exact ph
  · simp [u, heardWord, modPort, lane_setLane_of_ne _ _ _ ne]
  · simp only [List.mem_cons, List.not_mem_nil, or_false, not_or] at other
    simp [u, heardWord, modPort, reg_setReg, other]

theorem lastEq_leaves {w : Nat} :
    let u := (s.setLane n (eqLane s n w)).toFecLock p
    u.port p = { s.port p with phase := .fecLock, phaseAt := s.clk } ∧
      u.reg Obj.DRU_TX_MASK p = s.laneMask p (fun m => (u.lane m).peerLock) ∧
      u.reg Obj.DRU_TX_WIDTH p = popCount 16 (u.reg Obj.DRU_TX_MASK p) ∧ u.lane n = eqLane s n w ∧
      (∀ m, m ≠ n → u.lane m = s.lane m) ∧ (∀ q, q ≠ p → u.port q = s.port q) ∧ s.SameRegs u [Obj.DRU_TX_MASK, Obj.DRU_TX_WIDTH] := by
  intro u
  have e := toFecLock_eq (s.setLane n (eqLane s n w)) p
  have lanes (m : Nat) : u.lane m = (s.setLane n (eqLane s n w)).lane m := by simp [u, e]
  refine ⟨?_, ?_, ?_, ?_, fun m ne => ?_, fun q ne => ?_, fun o i other _ _ => ?_⟩
  · simp [u, e]
  · simp only [lanes]
    simp [u, e, reg_setReg]
    rfl
  · simp [u, e, reg_setReg]
  · rw [lanes, lane_setLane_self]
  · rw [lanes, lane_setLane_of_ne _ _ _ ne]
  · simp [u, e, port_setPort_of_ne _ _ _ ne]
  · simp only [List.mem_cons, List.not_mem_nil, or_false, not_or] at other
    simp [u, e, reg_setReg, other]

theorem eqAgain_leaves :
    let u := ((s.eqLanes p).setPort p (s.eqPort p (s.port p).rate 1)).setSpeed p (s.port p).rate
    u.port p = { s.port p with eqTries := 1, phase := .druEq, phaseAt := s.clk } ∧
      u.reg Obj.PORT_SPEED p = (s.port p).rate ∧ (∀ n ∈ s.portLanes p, (u.lane n).eqDone = false ∧ (u.lane n).codes = laneDflt.codes) ∧
      (∀ q, q ≠ p → u.port q = s.port q) ∧ s.SameRegs u [Obj.PORT_SPEED] := by
  intro u
  have lanes := eqLanes_keptBut s p [Obj.PORT_SPEED]
  have speed : ((s.eqLanes p).setPort p (s.eqPort p (s.port p).rate 1)).KeptBut u [Obj.PORT_SPEED] := setSpeed_keptBut _ p _
  refine ⟨?_, reg_setReg_self _ _ _ _, fun n mem => ?_, fun q ne => ?_, fun o i other cause dropped => ?_⟩
  · rw [speed.port, port_setPort_self, eqPort]
  · have lane : CountersOnly ((s.eqLanes p).lane n) (u.lane n) := lane_setSpeed _ p _ n
    rw [lane, eqLanes, lane_foldS_eqAnew s (nodup_portLanes s p) mem]
    exact ⟨rfl, rfl⟩
  · rw [speed.port, port_setPort_of_ne _ _ _ ne, lanes.port]
  · rw [speed.regs o i other cause dropped, reg_setPort, lanes.regs o i other cause dropped]

theorem fecLock_leaves {skews : List Nat} (stripe : s.reg Obj.DRU_RX_MASK p < 2 ^ s.formedWidth p) :
    let u := ((s.stripeLocked p skews).setDru p (s.fecDru p)).druPhase p .init
    (u.port p).phase = .init ∧ u.reg Obj.PORT_WIDTH p = popCount 16 (s.reg Obj.DRU_RX_MASK p) ∧
      u.reg Obj.PORT_ACTIVE_WIDTH p = popCount 16 (s.reg Obj.DRU_RX_MASK p) ∧
      u.reg Obj.PORT_SKEW p = (bitsOf 16 (s.reg Obj.DRU_RX_MASK p)).foldl (fun a i => max a (skews.getD i 0)) 0 ∧
      u.dru p = s.fecDru p ∧ (∀ q, q ≠ p → u.port q = s.port q) ∧
      s.SameRegs u [Obj.PORT_WIDTH, Obj.PORT_ACTIVE_WIDTH, Obj.PORT_SKEW] := by
  intro u
  have kept := stripeLocked_keptBut (s := s) (p := p) skews
  have regs (o i : Nat) : u.reg o i = (s.stripeLocked p skews).reg o i := rfl
  have lanes := skewLanes_keptBut s p skews (s.fecWidths p) []
  have widths (o : Nat) (h : o ≠ Obj.PORT_SKEW) (a : o ≠ Obj.INT_CAUSE) (b : o ≠ Obj.EVT_DROPPED) :
      u.reg o p = (s.fecWidths p).reg o p := by
    rw [regs, stripeLocked, (applySkew_keptBut _ p).regs o p (by simp [h]) a b, lanes.regs o p (by simp) a b]
  refine ⟨?_, ?_, ?_, ?_, ?_, fun q ne => ?_, fun o i other cause dropped => ?_⟩
  · simp [u, druPhase, modPort]
  · rw [widths _ (by decide) (by decide) (by decide)]
    simp [fecWidths, reg_setReg]
  · rw [widths _ (by decide) (by decide) (by decide)]
    simp [fecWidths]
  · rw [regs, stripeLocked, skew_applySkew_skewLanes s p ((fecWidths_keptBut s p).regs _ _ (by decide) (by decide) (by decide)) stripe]
  · simp [u, druPhase, modPort]
  · simp [u, druPhase, modPort, port_setPort_of_ne _ _ _ ne, kept.port]
  · rw [regs, kept.regs o i other cause dropped]

theorem initTx_leaves :
    let u := (s.setDru p { s.dru p with initTx := s.clk + 1 }).sendCtrl p 1 (s.initBody p)
    (u.dru p).initTx = s.clk + 1 ∧ s.SentCtrl u p 1 ((s.dru p).grant.flatMap (toBytes 2) ++ toBytes 1 (s.reg Obj.DRU_IDE_MODE p)) ∧
      u.regs = s.regs ∧ ∀ q, u.port q = s.port q := by
  intro u
  refine ⟨?_, sendCtrl_sentCtrl (s.setDru p { s.dru p with initTx := s.clk + 1 }) p 1 (s.initBody p), ?_, fun q => ?_⟩
  · rw [(lineOnly_sendCtrl (s.setDru p { s.dru p with initTx := s.clk + 1 }) p 1 (s.initBody p)), dru_setDru_self]
  · exact regs_sendCtrl _ p 1 _
  · exact port_sendCtrl _ p 1 _ q

theorem initRx_leaves {f : Frame} (dr : s.drudar p = true) :
    let u := ((s.initAnswered p f).linkUp p).modPort p (fun x => { x with phase := .up })
    (u.port p).st = .l0 ∧ (u.port p).phase = .up ∧ (u.port p).dlUp = true ∧
      (u.dru p).txCr = (List.range 9).map (fun i => min 2048 (ctrlU16 f i)) ∧ (u.dru p).initRx = true ∧
      (∀ q, q ≠ p → u.port q = s.port q) ∧ s.SameRegs u [Obj.PORT_CELL_RATE, Obj.CBS_SLOPE_OPER] := by
  intro u
  have answered := initAnswered_keptBut (s := s) (p := p) f
  have mode : (s.initAnswered p f).drudar p = true := by rw [drudar, answered.regs _ _ (by simp) (by decide) (by decide), ← drudar, dr]
  have up := linkUp_drudar_keptBut _ p mode
  have port : u.port p = { ((s.initAnswered p f).linkUp p).port p with phase := .up } := by simp [u, modPort]
  rw [up.port, port_setPort_self, upPort] at port
  have dru : u.dru p = (s.initAnswered p f).dru p := by
    rw [← dru_linkUp_drudar _ p mode]
    simp [u, modPort]
  refine ⟨by rw [port], by rw [port], by rw [port], ?_, ?_, fun q ne => ?_, fun o i other cause dropped => ?_⟩
  · rw [dru, (dru_initAnswered f).1]
  · rw [dru, (dru_initAnswered f).2]
  · simp [u, modPort, port_setPort_of_ne _ _ _ ne, up.port, answered.port]
  · simp only [u, modPort, reg_setPort]
    rw [up.regs o i other cause dropped, reg_setPort, answered.regs o i (by simp) cause dropped]

end

end State

open State

/-- Settles O27: each step of Drudar training from what its command answers. -/
theorem drudarTraining : Obligations.DrudarTraining := by
  unfold Obligations.DrudarTraining
  refine ⟨?_, ?_, ?_, ?_, ?_, ?_, ?_, ?_, ?_, ?_, ?_⟩
  · intro s p mask hp dr st ph go wide signal
    exact ⟨_, exec_druSignalDetect hp dr st ph go wide signal, druSignalDetect_leaves⟩
  · intro s p n w inverted hp dr st ph mem short good plane kind few tries
    exact ⟨_, exec_trainingWordRx hp (trainingWord_heard ⟨dr, st, ph, mem, tries⟩ short good plane kind few)
      (heardWord_keeps s p n w inverted), heardWord_leaves ph few⟩
  · intro s p n w hp dr st ph mem tries bad
    exact exec_trainingWordRx hp (trainingWord_bad ⟨dr, st, ph, mem, tries⟩ bad) ⟨rfl, rfl, rfl⟩
  · intro s p n w hp dr st ph mem tries good plane kind
    exact exec_trainingWordRx hp (trainingWord_unnamed ⟨dr, st, ph, mem, tries⟩ good plane kind) ⟨rfl, rfl, rfl⟩
  · intro s p n w hp dr st ph mem tries good go top ready
    exact ⟨_, exec_trainingWordRx hp (trainingWord_lastEq ⟨dr, st, ph, mem, tries⟩ good go top ready) (lastEq_keeps s p n _), lastEq_leaves⟩
  · intro s p hp st ph go late few
    have own : (s.trainFail p).port p = s.failedPort p := by rw [port_trainFail, port_setPort_self]
    refine ⟨_, exec_druSyncTimeout hp st ph go late few, ?_, ?_, ?_, seq_trainFail s p, fun q ne => ?_⟩
    · rw [own, failedPort]
    · rw [own, failedPort]
    · rw [own, failedPort]
    · rw [port_trainFail, port_setPort_of_ne _ _ _ ne]
  · intro s p hp st ph high go late first
    exact ⟨_, exec_druEqTimeout hp st ph high go late first, eqAgain_leaves⟩
  · intro s p skews hp st ph go stripe near
    obtain ⟨init, width, active, skew, dru, others, regs⟩ := fecLock_leaves (skews := skews) stripe
    refine ⟨_, exec_druFecLock hp st ph go near, init, width, active, skew, ?_, ?_, ?_, ?_, others, regs⟩
    · rw [dru]
      rfl
    · rw [dru, fecDru]
    · rw [dru, fecDru]
    · rw [dru, fecDru]
      rfl
  · intro s p hp ph none due
    exact ⟨_, exec_initTx hp ph none due, initTx_leaves⟩
  · intro s p f hp ph dr good ft ct ide
    exact ⟨_, exec_initRx hp ph dr good ft ct ide, initRx_leaves dr⟩
  · intro s p f hp ph bad
    exact exec_initRx_bad hp ph bad

end Sys2Proof.Machine
end

section
/-!
SUPPORT. A calm port goes DL_Down (R89, R159): the state that it leaves.
-/

namespace Sys2Proof.Machine

namespace State

/-! ### What ends with a port -/

section

variable {s t u : State}

/-- `t` is `s` but for handles, stages, movers, hash buckets and what raising events writes. -/
structure EndsMoves (s t : State) : Prop where
  frame : s.EndsHandle t
  regs : s.SameRegs t [Obj.HG_BUCKETS, Obj.MOVE_PHASE]

namespace EndsMoves

theorem refl (s : State) : s.EndsMoves s := ⟨.refl s, fun _ _ _ _ _ => rfl⟩

theorem trans (h : s.EndsMoves t) (k : t.EndsMoves u) : s.EndsMoves u :=
  ⟨h.frame.trans k.frame, fun o i a b c => (k.regs o i a b c).trans (h.regs o i a b c)⟩

theorem foldS {α : Type} {f : α → State → State} (h : ∀ a (t : State), t.EndsMoves (f a t)) (l : List α) (s : State) :
    s.EndsMoves (foldS f l s) :=
  foldS_keeps (fun t => s.EndsMoves t) f (fun a t k => k.trans (h a t)) l s (refl s)

end EndsMoves

end

section

variable (s : State)

theorem raise_endsMoves (code source sev inst data : Nat) : s.EndsMoves (s.raise code source sev inst data) where
  frame := by constructor <;> simp
  regs _ i _ a b := reg_raise s code source sev inst data i a b

theorem setReg_endsMoves {o : Nat} (i v : Nat) (h : o ∈ [Obj.HG_BUCKETS, Obj.MOVE_PHASE]) : s.EndsMoves (s.setReg o i v) where
  frame := ⟨rfl, rfl, rfl, rfl, rfl, rfl⟩
  regs _ _ n _ _ := reg_setReg_of_ne s o i v (fun e => n ((Prod.mk.inj e).1 ▸ h))

theorem regs_releaseLop (h : Nat) : (s.releaseLop h).regs = s.regs := by
  have slots (k : Nat) : (s.dropSlot k).regs = s.regs := by
    unfold dropSlot
    split <;> rfl
  unfold releaseLop
  dsimp only
  split
  · exact slots _
  · exact slots _

theorem regs_reportLop (h result : Nat) : (s.reportLop h result).regs = s.regs := by
  unfold reportLop
  split <;> exact regs_releaseLop s h

theorem endLop_endsMoves (h : Nat) (st : LopSt) (result : Nat) : s.EndsMoves (s.endLop h st result) where
  frame := endLop_endsHandle s h st result
  regs o i _ a b := by
    rw [endLop_eq_raise, reg_raise _ _ _ _ _ _ i a b]
    exact congrArg (fun r => Tbl.get r (regDefault (o, i)) (o, i)) (regs_reportLop s h result)

theorem moveFail_endsMoves (c cause addr : Nat) : s.EndsMoves (s.moveFail c cause addr) := by
  have phase := setReg_endsMoves s (o := Obj.MOVE_PHASE) c 7 (by simp)
  have stopped (t : State) (x : MoveCh) : t.EndsMoves (t.setMover c x) := ⟨⟨rfl, rfl, rfl, rfl, rfl, rfl⟩, fun _ _ _ _ _ => rfl⟩
  exact ((phase.trans (stopped _ _)).trans (endLop_endsMoves _ _ _ _)).trans (raise_endsMoves _ _ _ _ _ _)

theorem movePortDown_endsMoves (p : Nat) : s.EndsMoves (s.movePortDown p) := by
  have free (t : State) : t.EndsMoves t.nextFree := ⟨⟨rfl, rfl, rfl, rfl, rfl, rfl⟩, fun _ _ _ _ _ => rfl⟩
  refine .foldS (fun c t => ?_) _ s
  split
  · exact .refl t
  · dsimp only
    split_ifs
    · exact (free t).trans (moveFail_endsMoves _ c 1 _)
    · exact (free t).trans (moveFail_endsMoves _ c 2 _)
    · exact .refl t

theorem hgMemberDown_endsMoves (g p : Nat) : s.EndsMoves (s.hgMemberDown g p) := by
  unfold hgMemberDown
  split
  · exact .refl s
  · exact (setReg_endsMoves s g _ (by simp)).trans (raise_endsMoves _ _ _ _ _ _)

theorem endpointGone_endsMoves (ep : Nat) : s.EndsMoves (s.endpointGone ep) := by
  have stage (t : State) (n : Nat) : t.EndsMoves (t.discardStage n 1) :=
    (raise_endsMoves t _ _ _ _ _).trans ⟨⟨rfl, rfl, rfl, rfl, rfl, rfl⟩, fun _ _ _ _ _ => rfl⟩
  have clear (t : State) : t.EndsMoves (t.clearEndpoint ep) :=
    ⟨⟨rfl, rfl, rfl, rfl, rfl, rfl⟩, fun o i _ _ b => reg_setReg_of_ne t _ ep 0 (fun e => b (Prod.mk.inj e).1)⟩
  refine EndsMoves.trans (.foldS (fun i t => ?_) _ s) (clear _)
  split
  · exact stage t _
  · exact .refl t

end

/-! ### The port itself (R89) -/

section

variable (s : State) (p : Nat)

/-- The port that has gone DL_Down (R89, R159). -/
def downPort (s : State) (p : Nat) : Port :=
  { s.port p with
    st := .flushing, phase := .idle, dlUp := false, flushAt := (s.accrue p).clk, flushDone := false, flushCells := 0
    flushSynth := 0, purge := (s.port p).dlUp && (s.accrue p).needsPurge p, changing := false, widening := false
    byL0p := false, l1Req := false, wantWidth := 0, rate := 0, bypass := false }

/-- The speed, the widths, the stripes and the Drudar link of a port are cleared (R89). -/
def linkCleared (s : State) (p : Nat) : State :=
  ((((((((s.setSpeed p 0).setReg Obj.PORT_WIDTH p 0).setReg Obj.PORT_ACTIVE_WIDTH p 0).setReg Obj.PORT_FLIT_ACTIVE p 0).setReg
    Obj.PORT_PROTOCOLS p 0).setReg Obj.DRU_RX_MASK p 0).setReg Obj.DRU_TX_MASK p 0).setReg Obj.DRU_TX_WIDTH p 0).druReset p

/-- The keys, the precision-time dialogue and the MGMT queue of a port are cleared (R89, R342). -/
def keysCleared (s : State) (p : Nat) : State :=
  ((((s.setPtmDlg p ptmDflt).setIde p ideDflt).setReg Obj.PORT_IDE_STATE p 0).setReg Obj.DRU_IDE_STATE p 0).setEgr p
    { (s.setPtmDlg p ptmDflt).egr p with cur := 8, under := false, mgmt := [] }

/-- The state of a port that is down, before what hung on it ends (R89, R159). -/
def portCleared (s : State) (p : Nat) : State :=
  ((((s.accrue p).setPort p (s.downPort p)).linkCleared p).lanesDown p).keysCleared p

theorem linkCleared_keptBut : s.KeptBut (s.linkCleared p) [Obj.PORT_SPEED, Obj.PORT_WIDTH, Obj.PORT_ACTIVE_WIDTH, Obj.PORT_FLIT_ACTIVE,
    Obj.PORT_PROTOCOLS, Obj.DRU_RX_MASK, Obj.DRU_TX_MASK, Obj.DRU_TX_WIDTH] :=
  (((((((((setSpeed_keptBut s p 0).mono (by simp)).trans (setReg_keptBut _ _ p 0 (by simp))).trans
    (setReg_keptBut _ _ p 0 (by simp))).trans (setReg_keptBut _ _ p 0 (by simp))).trans (setReg_keptBut _ _ p 0 (by simp))).trans
    (setReg_keptBut _ _ p 0 (by simp))).trans (setReg_keptBut _ _ p 0 (by simp))).trans (setReg_keptBut _ _ p 0 (by simp))).trans
    (setDru_keptBut _ p _ _)

theorem dru_linkCleared : (s.linkCleared p).dru p = druDflt := dru_setDru_self _ p _

theorem lane_linkCleared (n : Nat) : CountersOnly (s.lane n) ((s.linkCleared p).lane n) := by
  rw [linkCleared, druReset, lane_setDru]
  simp only [lane_setReg]
  exact lane_setSpeed s p 0 n

theorem cleared_linkCleared {o : Nat} (h : o ∈ [Obj.PORT_SPEED, Obj.PORT_WIDTH, Obj.PORT_ACTIVE_WIDTH]) :
    (s.linkCleared p).reg o p = 0 := by
  simp only [List.mem_cons, List.not_mem_nil, or_false] at h
  rcases h with rfl | rfl | rfl <;> simp [linkCleared, druReset, reg_setReg, reg_setSpeed]

theorem fab_linkCleared : (s.linkCleared p).fab = s.fab := by
  rw [linkCleared, druReset, fab_setDru]
  simp only [fab_setReg]
  exact (setSpeed_lanesOnly s p 0).fab

theorem coh_linkCleared : (s.linkCleared p).coh = s.coh := by
  rw [linkCleared, druReset, coh_setDru]
  simp only [coh_setReg]
  exact (setSpeed_lanesOnly s p 0).coh

/-- What hung on a port that was DL_Up ends (R159, R218, R244). -/
def hangersEnd (s : State) (p : Nat) : State :=
  let s6 := foldS (fun g (t : State) => t.hgMemberDown g p) s.hgUsed s
  let s7 := foldS (fun a (t : State) => t.agentLost a) (s6.agentsOfPort p) s6
  let s8 := s7.portRsvDown p
  let s9 := s8.stompPort p
  ((s9.modPort p (fun q => { q with flushCells := s8.fab.cells.length - s9.fab.cells.length })).movePortDown p).endpointGone (p + 1)

theorem portDown_eq (cause : Nat) (form : s.formed p = true) (st : (s.port p).st = .recovery) : s.portDown p cause =
    if !(s.port p).dlUp then s.portCleared p
    else ((s.portCleared p).raise 0x2002 (if (s.accrue p).drudar p then 0x21 else 0x20) 3 p cause).hangersEnd p := by
  unfold portDown hangersEnd portCleared keysCleared linkCleared downPort
  dsimp only
  rw [if_neg (by simp [form, st])]

end

end State

end Sys2Proof.Machine
end

section
/-!
SUPPORT. What a calm port that goes DL_Down reads (R89, R159).
-/

namespace Sys2Proof.Machine

namespace State

section

variable (s : State) (p : Nat)

/-- What clearing a port does not touch: the queue, the mode, the fuses, the coherence and the messages in progress. -/
structure ClearsOnly (s t : State) : Prop where
  pending : t.pending = s.pending
  mode : t.mode = s.mode
  fuse : t.sec.fuse = s.sec.fuse
  coh : t.coh = s.coh
  inMsgs : t.fab.inMsgs = s.fab.inMsgs

theorem ClearsOnly.trans {s t u : State} (h : s.ClearsOnly t) (k : t.ClearsOnly u) : s.ClearsOnly u :=
  ⟨k.pending.trans h.pending, k.mode.trans h.mode, k.fuse.trans h.fuse, k.coh.trans h.coh, k.inMsgs.trans h.inMsgs⟩

theorem accrue_clearsOnly : s.ClearsOnly (s.accrue p) := by
  unfold accrue
  dsimp only
  split
  · exact ⟨rfl, rfl, rfl, rfl, rfl⟩
  · exact ⟨rfl, rfl, rfl, rfl, rfl⟩

theorem keysCleared_clearsOnly : s.ClearsOnly (s.keysCleared p) := by
  have dlg (t : State) (x : PtmDlg) : t.ClearsOnly (t.setPtmDlg p x) := ⟨rfl, rfl, rfl, rfl, rfl⟩
  have ide (t : State) (x : Ide) : t.ClearsOnly (t.setIde p x) := ⟨rfl, rfl, rfl, rfl, rfl⟩
  have object (t : State) (o v : Nat) : t.ClearsOnly (t.setReg o p v) := ⟨rfl, rfl, rfl, rfl, rfl⟩
  have queues (t : State) (x : Egress) : t.ClearsOnly (t.setEgr p x) := ⟨rfl, rfl, rfl, rfl, rfl⟩
  exact ((((dlg s _).trans (ide _ _)).trans (object _ _ _)).trans (object _ _ _)).trans (queues _ _)

theorem portCleared_clearsOnly : s.ClearsOnly (s.portCleared p) := by
  have lanes (t : State) : t.ClearsOnly (t.lanesDown p) := by
    have only := lanesDown_lanesOnly t p
    exact ⟨only.pending, only.mode, by rw [only.sec], only.coh, by rw [only.fab]⟩
  have link (t : State) : t.ClearsOnly (t.linkCleared p) := by
    have kept := linkCleared_keptBut t p
    exact ⟨kept.pending, kept.mode, by rw [kept.sec], coh_linkCleared t p, by rw [fab_linkCleared]⟩
  have port (t : State) (x : Port) : t.ClearsOnly (t.setPort p x) := ⟨rfl, rfl, rfl, rfl, rfl⟩
  exact ((((accrue_clearsOnly s p).trans (port _ _)).trans (link _)).trans (lanes _)).trans (keysCleared_clearsOnly _ p)

theorem link_keysCleared : (s.keysCleared p).link = s.link := by
  simp [keysCleared]

theorem reg_keysCleared {o i : Nat} (h : o ∉ [Obj.PORT_IDE_STATE, Obj.DRU_IDE_STATE]) : (s.keysCleared p).reg o i = s.reg o i := by
  simp only [List.mem_cons, List.not_mem_nil, or_false, not_or] at h
  simp only [keysCleared, reg_setEgr, reg_setReg, h, false_and, if_false]
  rfl

theorem port_portCleared (q : Nat) : (s.portCleared p).port q = (s.setPort p (s.downPort p)).port q := by
  rw [portCleared, port_of_link _ (link_keysCleared _ p), (lanesDown_lanesOnly _ p).port, (linkCleared_keptBut _ p).port]
  rcases eq_or_ne q p with rfl | ne
  · rw [port_setPort_self, port_setPort_self]
  · rw [port_setPort_of_ne _ _ _ ne, port_setPort_of_ne _ _ _ ne, port_of_link _ (link_accrue s p)]

theorem dru_portCleared : (s.portCleared p).dru p = druDflt := by
  rw [portCleared, dru_of_link _ (link_keysCleared _ p), (lanesDown_lanesOnly _ p).dru, dru_linkCleared]

/-- The objects of other ports, and the objects of a port that its fall leaves. -/
theorem reg_portCleared {o i : Nat} (h : o ∉ [Obj.PORT_SPEED, Obj.PORT_WIDTH, Obj.PORT_ACTIVE_WIDTH, Obj.PORT_FLIT_ACTIVE,
    Obj.PORT_PROTOCOLS, Obj.DRU_RX_MASK, Obj.DRU_TX_MASK, Obj.DRU_TX_WIDTH, Obj.LANE_STATE, Obj.PORT_IDE_STATE, Obj.DRU_IDE_STATE,
    Obj.INT_CAUSE, Obj.EVT_DROPPED]) : (s.portCleared p).reg o i = s.reg o i := by
  simp only [List.mem_cons, List.not_mem_nil, or_false, not_or] at h
  obtain ⟨speed, width, active, flit, protocols, rx, tx, txWidth, lane, ide, dru, cause, dropped⟩ := h
  rw [portCleared, reg_keysCleared _ _ (by simp [ide, dru]), (lanesDown_keptBut _ p).regs o i (by simp [lane]) cause dropped,
    (linkCleared_keptBut _ p).regs o i (by simp [speed, width, active, flit, protocols, rx, tx, txWidth]) cause dropped, reg_setPort,
    reg, regs_accrue, reg]

theorem cleared_portCleared {o : Nat} (h : o ∈ [Obj.PORT_SPEED, Obj.PORT_WIDTH, Obj.PORT_ACTIVE_WIDTH]) :
    (s.portCleared p).reg o p = 0 := by
  have zero := cleared_linkCleared ((s.accrue p).setPort p (s.downPort p)) p h
  simp only [List.mem_cons, List.not_mem_nil, or_false] at h
  rw [portCleared, reg_keysCleared, (lanesDown_keptBut _ p).regs, zero]
  all_goals rcases h with rfl | rfl | rfl <;> decide

theorem laneState_portCleared {n : Nat} (mem : n ∈ s.portLanes p) : (s.portCleared p).reg Obj.LANE_STATE n =
    if s.reg Obj.LANE_STATE n = 4 ∨ (s.lane n).restoring = true then 4 else 0 := by
  have kept := linkCleared_keptBut ((s.accrue p).setPort p (s.downPort p)) p
  have regs {o i : Nat} : ((s.accrue p).setPort p (s.downPort p)).reg o i = s.reg o i := by rw [reg_setPort, reg, regs_accrue, reg]
  have lane : ((s.accrue p).setPort p (s.downPort p)).lane n = s.lane n := by rw [lane_setPort, lane_of_link _ (link_accrue s p)]
  have restoring := congrArg Lane.restoring (lane_linkCleared ((s.accrue p).setPort p (s.downPort p)) p n)
  rw [portCleared, reg_keysCleared _ _ (by decide), laneState_lanesDown, kept.regs _ _ (by decide) (by decide) (by decide), regs, restoring,
    lane]
  rw [portLanes_eq s p]
  · exact mem
  · rw [kept.regs _ _ (by decide) (by decide) (by decide), regs]

/-! ### A calm port -/

/-- A port that was cleared may since have counted its flushed cells, and moves, handles and stages have ended. -/
structure PortEnds (s t : State) (p : Nat) : Prop where
  pending : t.pending = s.pending
  mode : t.mode = s.mode
  sec : t.sec = s.sec
  port : ∃ k, t.port p = { s.port p with flushCells := k }
  others : ∀ q, q ≠ p → t.port q = s.port q
  dru : t.dru p = s.dru p
  regs : s.SameRegs t [Obj.HG_BUCKETS, Obj.MOVE_PHASE]

theorem PortEnds.refl : s.PortEnds s p := ⟨rfl, rfl, rfl, ⟨_, rfl⟩, fun _ _ => rfl, rfl, fun _ _ _ _ _ => rfl⟩

theorem agentsOfPort_eq {t : State} (h : ∀ o ∈ [Obj.AGT_KIND, Obj.AGT_REF, Obj.PART_HOST_PORT], ∀ i, t.reg o i = s.reg o i) :
    t.agentsOfPort p = s.agentsOfPort p := by
  unfold agentsOfPort agentPort
  congr 1
  funext a
  rw [h Obj.AGT_KIND (by decide), h Obj.AGT_REF (by decide), h Obj.PART_HOST_PORT (by decide)]

theorem agentsOfPort_endsMoves {t : State} (h : s.EndsMoves t) : t.agentsOfPort p = s.agentsOfPort p := by
  refine agentsOfPort_eq s p fun o mem i => ?_
  simp only [List.mem_cons, List.not_mem_nil, or_false] at mem
  rcases mem with rfl | rfl | rfl <;> exact h.regs _ i (by decide) (by decide) (by decide)

theorem agentsOfPort_portCleared : (s.portCleared p).agentsOfPort p = s.agentsOfPort p := by
  refine agentsOfPort_eq s p fun o mem i => ?_
  simp only [List.mem_cons, List.not_mem_nil, or_false] at mem
  rcases mem with rfl | rfl | rfl <;> exact reg_portCleared s p (by decide)

/-- Nothing hangs on a calm port but moves and stages. -/
theorem hangersEnd_portEnds (agents : s.agentsOfPort p = []) (rsv : s.coh.rsv = []) (msgs : s.fab.inMsgs.row p = []) :
    s.PortEnds (s.hangersEnd p) p := by
  have groups : s.EndsMoves (foldS (fun g (t : State) => t.hgMemberDown g p) s.hgUsed s) :=
    .foldS (fun g t => hgMemberDown_endsMoves t g p) s.hgUsed s
  unfold hangersEnd
  generalize foldS (fun g (t : State) => t.hgMemberDown g p) s.hgUsed s = t at groups ⊢
  have none : t.agentsOfPort p = [] := (agentsOfPort_endsMoves s p groups).trans agents
  have unreserved : t.portRsvDown p = t := by rw [portRsvDown, groups.frame.coh, rsv]; rfl
  have whole : t.stompPort p = t := by rw [stompPort, groups.frame.fab, msgs]; rfl
  dsimp only
  rw [none]
  dsimp only [foldS]
  rw [unreserved, whole]
  generalize t.fab.cells.length - t.fab.cells.length = k
  have ends := (movePortDown_endsMoves (t.modPort p (fun q => { q with flushCells := k })) p).trans (endpointGone_endsMoves _ (p + 1))
  generalize ((t.modPort p (fun q => { q with flushCells := k })).movePortDown p).endpointGone (p + 1) = u at ends ⊢
  refine ⟨?_, ?_, ?_, ⟨k, ?_⟩, fun q ne => ?_, ?_, fun o i other cause dropped => ?_⟩
  · rw [ends.frame.pending, modPort, pending_setPort, groups.frame.pending]
  · rw [ends.frame.mode, modPort, mode_setPort, groups.frame.mode]
  · rw [ends.frame.sec, modPort, sec_setPort, groups.frame.sec]
  · rw [port_of_link _ ends.frame.link, modPort, port_setPort_self, port_of_link _ groups.frame.link]
  · rw [port_of_link _ ends.frame.link, modPort, port_setPort_of_ne _ _ _ ne, port_of_link _ groups.frame.link]
  · rw [dru_of_link _ ends.frame.link, modPort, dru_setPort, dru_of_link _ groups.frame.link]
  · rw [ends.regs o i other cause dropped, modPort, reg_setPort, groups.regs o i other cause dropped]

theorem PortEnds.of_endsMoves {s t u : State} {p : Nat} (h : s.EndsMoves t) (k : t.PortEnds u p) : s.PortEnds u p where
  pending := k.pending.trans h.frame.pending
  mode := k.mode.trans h.frame.mode
  sec := k.sec.trans h.frame.sec
  port := port_of_link s h.frame.link p ▸ k.port
  others q ne := (k.others q ne).trans (port_of_link s h.frame.link q)
  dru := k.dru.trans (dru_of_link s h.frame.link p)
  regs o i a b c := (k.regs o i a b c).trans (h.regs o i a b c)

theorem portDown_portEnds (cause : Nat) (form : s.formed p = true) (st : (s.port p).st = .recovery) (calm : s.Calm p) :
    (s.portCleared p).PortEnds (s.portDown p cause) p := by
  obtain ⟨agents, rsv, msgs, -⟩ := calm
  have cleared := portCleared_clearsOnly s p
  have raised := raise_endsMoves (s.portCleared p) 0x2002 (if (s.accrue p).drudar p then 0x21 else 0x20) 3 p cause
  rw [portDown_eq s p cause form st]
  split
  · exact .refl _ p
  · refine .of_endsMoves raised (hangersEnd_portEnds _ p ?_ ?_ ?_)
    · rw [agentsOfPort_endsMoves _ p raised, agentsOfPort_portCleared, agents]
    · rw [raised.frame.coh, cleared.coh, rsv]
    · rw [raised.frame.fab, cleared.inMsgs, msgs]

/-- A calm port that goes DL_Down (R89, R159). -/
theorem portDown_wentDown (cause : Nat) (form : s.formed p = true) (st : (s.port p).st = .recovery) (calm : s.Calm p) :
    s.WentDown (s.portDown p cause) p := by
  have ends := portDown_portEnds s p cause form st calm
  generalize s.portDown p cause = u at ends ⊢
  obtain ⟨k, port⟩ := ends.port
  rw [port_portCleared, port_setPort_self] at port
  have zero {o : Nat} (h : o ∈ [Obj.PORT_SPEED, Obj.PORT_WIDTH, Obj.PORT_ACTIVE_WIDTH]) : u.reg o p = 0 := by
    rw [ends.regs, cleared_portCleared s p h]
    all_goals
      simp only [List.mem_cons, List.not_mem_nil, or_false] at h
      rcases h with rfl | rfl | rfl <;> decide
  refine ⟨?_, ?_, ?_, zero (by decide), zero (by decide), zero (by decide), ?_, fun n mem => ?_, fun q ne => ?_⟩
  · rw [port, downPort]
  · rw [port, downPort]
  · rw [port, downPort, clk_accrue]
  · rw [ends.dru, dru_portCleared]
  · rw [ends.regs _ _ (by decide) (by decide) (by decide), laneState_portCleared s p mem]
  · rw [ends.others q ne, port_portCleared, port_setPort_of_ne _ _ _ ne]

end

end State

end Sys2Proof.Machine
end

section
/-!
The obligation `DrudarRetrainAndStripes`: RETRAIN and alignment markers.
-/

namespace Sys2Proof.Machine

namespace State

/-! ### RETRAIN (R101) -/

section

variable {s t : State} {p cause : Nat}

theorem SentCtrl.of_out {ct : Nat} {rest : List Byte} (h : s.SentCtrl t p ct rest) {r : State} (out : s.out = r.out) :
    r.SentCtrl t p ct rest := by
  obtain ⟨f, sent, frame⟩ := h
  exact ⟨f, out ▸ sent, frame⟩

/-- What only the link state of a port changes before a RETRAIN does not show in it. -/
theorem Retrains.of_setDru {x : Dru} (h : (s.setDru p x).Retrains t p cause) : s.Retrains t p cause := by
  obtain ⟨port, count, sent, regs⟩ := h
  exact ⟨port, count, sent.of_out rfl, regs⟩

/-- The state of a RETRAIN before the peer is told (R101). -/
def retraining (s : State) (p cause : Nat) : State :=
  (((s.accrue p).setPort p { s.port p with st := .recovery, phase := .retrain, phaseAt := s.clk, lastRetrain := cause }).bump
    Obj.PORT_RECOVERY_CNT p).setDru p { s.dru p with sameSeq := 0, lastFrom := 0, amMiss := 0, resend := 0, amAt := 0 }

theorem startRetrain_eq (up : s.druUp p = true) : s.startRetrain p cause = (s.retraining p cause).sendCtrl p 5 (toBytes 1 cause) := by
  have dru : (s.accrue p).dru p = s.dru p := dru_of_link s (link_accrue s p) p
  have port : (s.accrue p).port p = s.port p := port_of_link s (link_accrue s p) p
  unfold startRetrain retraining
  simp only [up, Bool.true_eq_false, if_false, modPort, modDru, bump, dru_setReg, dru_setPort, dru, port, clk_accrue]

theorem startRetrain_keeps (up : s.druUp p = true) : s.KeepsCourse (s.startRetrain p cause) := by
  have accrued := accrue_keptBut s p []
  have sent := sendCtrl_keptBut (s.retraining p cause) p [] 5 (toBytes 1 cause)
  rw [startRetrain_eq up]
  refine ⟨sent.pending.trans ?_, sent.mode.trans ?_, sent.sec.trans ?_⟩
  · simp [retraining, bump, accrued.pending]
  · simp [retraining, bump, accrued.mode]
  · simp [retraining, bump, accrued.sec]

theorem startRetrain_retrains (up : s.druUp p = true) : s.Retrains (s.startRetrain p cause) p cause := by
  have regs (o i : Nat) : (s.accrue p).reg o i = s.reg o i := by rw [reg, regs_accrue, reg]
  rw [startRetrain_eq up]
  refine ⟨?_, ?_, ?_, fun o i other _ _ => ?_⟩
  · rw [port_sendCtrl]
    simp [retraining, bump]
  · rw [reg_sendCtrl]
    simp [retraining, bump, regs]
  · refine (sendCtrl_sentCtrl (s.retraining p cause) p 5 (toBytes 1 cause)).of_out ?_
    simp [retraining, bump]
  · simp only [List.mem_singleton] at other
    rw [reg_sendCtrl]
    simp [retraining, bump, regs, reg_setReg, other]

theorem druLive_of_druUp (up : s.druUp p = true) : s.druLive p = true := by
  simp only [druUp, sending, Bool.and_eq_true] at up
  simp [druLive, up]

/-- The peer asks for a RETRAIN (R101). -/
theorem exec_retrainRx {f : Frame} (hp : p < 256) (up : s.druUp p = true) (good : frameGood f = true) (ft : f.ftype = 4)
    (ct : ctype f = 5) : exec (.retrainRx p f) s = .next ((s.takeReports p f).startRetrain p 2) := by
  obtain ⟨pending, mode, sec⟩ := startRetrain_keeps (s := s.takeReports p f) (p := p) (cause := 2) up
  change execRetrainRx p f s = _
  exact onUnit_eq_next hp (onCtrl_good s p (druLive_of_druUp up) good ft ct) pending mode (congrArg (fun k => k.fuse) sec)

theorem exec_retrainStart (hp : p < 256) (up : s.druUp p = true)
    (due : (cause = 0 ∧ 4 ≤ (s.dru p).sameSeq) ∨ (cause = 1 ∧ 4 ≤ (s.dru p).amMiss)) :
    exec (.retrainStart p cause) s = .next (s.startRetrain p cause) := by
  obtain ⟨pending, mode, sec⟩ := startRetrain_keeps (cause := cause) up
  change execRetrainStart p cause s = _
  exact onUnit_eq_next hp (if_pos due) pending mode (congrArg (fun k => k.fuse) sec)

theorem exec_druMarkersLost (hp : p < 256) (up : s.druUp p = true) : exec (.druMarkersLost p) s = .next (s.startRetrain p 1) := by
  obtain ⟨pending, mode, sec⟩ := startRetrain_keeps (cause := 1) up
  change execDruMarkersLost p s = _
  exact onUnit_eq_next hp rfl pending mode (congrArg (fun k => k.fuse) sec)

/-- A RETRAIN with nothing to resend ends (R101). -/
theorem exec_druRetrainDone (hp : p < 256) (dr : s.drudar p = true) (st : (s.port p).st = .recovery) (ph : (s.port p).phase = .retrain)
    (soon : s.after (s.port p).phaseAt 10000000 = false) (none : (s.dru p).replay = []) :
    exec (.druRetrainDone p) s = .next ((((s.accrue p).setPort p { s.port p with st := .l0, phase := .up }).setDru p
      { s.dru p with nakSent := false }).raise 0x2012 0x21 2 p ((s.port p).lastRetrain % 256)) := by
  have dru : (s.accrue p).dru p = s.dru p := dru_of_link s (link_accrue s p) p
  have accrued := accrue_keptBut s p []
  change execDruRetrainDone p s = _
  refine onUnit_eq_next hp ((if_pos ⟨dr, st, ph, soon⟩).trans ?_) ?_ ?_ ?_
  · simp only [none, List.isEmpty_nil, if_true, modDru, dru_setPort, dru]
  · simp [accrued.pending]
  · simp [accrued.mode]
  · simp [accrued.sec]

theorem exec_druRetrainTimeout (hp : p < 256) (dr : s.drudar p = true) (st : (s.port p).st = .recovery) (ph : (s.port p).phase = .retrain)
    (late : s.after (s.port p).phaseAt 10000000 = true) (form : s.formed p = true) (calm : s.Calm p) :
    exec (.druRetrainTimeout p) s = .next (s.portDown p 1) := by
  have cleared := portCleared_clearsOnly s p
  have ends := portDown_portEnds s p 1 form st calm
  change execDruRetrainTimeout p s = _
  exact onUnit_eq_next hp (if_pos ⟨dr, st, ph, late⟩) (ends.pending.trans cleared.pending) (ends.mode.trans cleared.mode)
    ((congrArg (fun k => k.fuse) ends.sec).trans cleared.fuse)

/-! ### Alignment markers (R95, R96) -/

/-- No codeword is sent where a marker group is due (R96). -/
theorem sendCodewords_due (due : (s.dru p).restripeTx = true ∨ 4096 ≤ (s.dru p).cwCount) : s.sendCodewords p = s := by
  have one : s.sendCodeword p = s := by
    unfold sendCodeword
    dsimp only
    rw [if_pos (by tauto)]
  exact foldS_keeps (fun t => t = s) (fun _ t => t.sendCodeword p) (fun _ t e => e ▸ one) _ s rfl

theorem markerDue_up (dr : s.drudar p = true) (ph : (s.port p).phase = .up)
    (due : (s.dru p).restripeTx = true ∨ 4096 ≤ (s.dru p).cwCount) : s.markerDue p = true := by
  rw [markerDue]
  rcases due with due | due <;> simp [dr, ph, due]

/-- A marker on every stripe lane, behind fill that ends the round (R96). -/
theorem exec_alignmentMarkerTx (hp : p < 256) (dr : s.drudar p = true) (ph : (s.port p).phase = .up)
    (due : (s.dru p).restripeTx = true ∨ 4096 ≤ (s.dru p).cwCount) :
    exec (.alignmentMarkerTx p) s = .next ((s.setDru p { s.dru p with
      amSeq := ((s.dru p).amSeq + 1) % 65536, amAt := s.clk + 1, cwCount := 0, symPos := 0, restripeTx := false }).emit (.markers p
        (((s.txLanes p).length - (s.dru p).symPos % (s.txLanes p).length) % (s.txLanes p).length)
        ((List.range (s.txLanes p).length).map (fun i =>
          marker i ((s.txLanes p).getD i 0) (s.txLanes p).length (s.dru p).restripeTx (s.dru p).amSeq
            (if (s.dru p).restripeTx then 0 else (s.dru p).lineLen % 2176))))) := by
  change execAlignmentMarkerTx p s = _
  refine onUnit_eq_next hp ?_ rfl rfl rfl
  rw [sendCodewords_due due]
  dsimp only
  rw [markerDue_up dr ph due, if_neg (by decide)]

/-- The state that a marker group is judged in: its corrections and its codewords that could not be are counted (R95). -/
def markersCounted (s : State) (p : Nat) (m : MarkersIn) : State :=
  (s.noteCorrected p m.corrected).bump64 Obj.DRU_FEC_UNCORR p m.uncorrectable

theorem noteCorrected_keptBut (l : List Nat) (k : List Nat) : s.KeptBut (s.noteCorrected p l) k := by
  have counted (t : State) (e : CntEvt) : t.KeptBut (t.count e) k := ⟨rfl, rfl, rfl, rfl, fun _ => rfl, fun _ _ _ _ _ => rfl⟩
  refine .foldS (fun pos t => ?_) l s
  dsimp only
  split
  · exact counted t _
  · exact (counted t _).trans (setLane_keptBut _ k _ _)

theorem markersCounted_keptBut (m : MarkersIn) : s.KeptBut (s.markersCounted p m) [Obj.DRU_FEC_UNCORR] :=
  (noteCorrected_keptBut _ _).trans (setReg_keptBut _ _ p _ (by simp))

/-- A group with no good marker is missed (R96). -/
theorem markersRx_missed {m : MarkersIn} (bad : ∀ w ∈ m.markers, goodMarker w = false) :
    s.markersRx p m.markers m.corrected m.uncorrectable = (s.markersCounted p m).setDru p
      { (s.markersCounted p m).dru p with amMiss := ((s.markersCounted p m).dru p).amMiss + 1 } := by
  have none : m.markers.filter goodMarker = [] := by simpa using bad
  unfold markersRx
  rw [none]
  rfl

theorem exec_alignmentMarkerRx_missed {m : MarkersIn} (hp : p < 256) (live : s.druLive p = true)
    (bad : ∀ w ∈ m.markers, goodMarker w = false) : exec (.alignmentMarkerRx p m) s = .next ((s.markersCounted p m).setDru p
      { (s.markersCounted p m).dru p with amMiss := ((s.markersCounted p m).dru p).amMiss + 1 }) := by
  have counted := markersCounted_keptBut (s := s) (p := p) m
  change execAlignmentMarkerRx p m s = _
  exact onUnit_next hp ((if_pos live).trans (markersRx_missed bad)) (setDru_keptBut _ p [] _) counted.pending counted.mode counted.sec

/-- A symbol corrected at a place of the stripe counts against its lane (R83, R95). -/
theorem lane_noteCorrected_one {pos n : Nat} (stripe : bitsOf 16 (s.reg Obj.DRU_RX_MASK p) ≠ [])
    (own : s.firstLane p + (bitsOf 16 (s.reg Obj.DRU_RX_MASK p)).getD (pos % (bitsOf 16 (s.reg Obj.DRU_RX_MASK p)).length) 0 = n)
    (mission : s.reg Obj.LANE_PRBS_MODE n = 0) (m : Nat) : (s.noteCorrected p [pos]).lane m =
      if m = n then { s.lane n with errs := min ((s.lane n).errs + 1) (2 ^ 48 - 1) } else s.lane m := by
  have place : pos % (bitsOf 16 (s.reg Obj.DRU_RX_MASK p)).length < (bitsOf 16 (s.reg Obj.DRU_RX_MASK p)).length :=
    Nat.mod_lt _ (List.length_pos_of_ne_nil stripe)
  have lane : ((bitsOf 16 (s.reg Obj.DRU_RX_MASK p)).map (s.firstLane p + ·)).getD
      (pos % ((bitsOf 16 (s.reg Obj.DRU_RX_MASK p)).map (s.firstLane p + ·)).length) 0 = n := by
    rw [List.length_map, ← own]
    simp [List.getD_eq_getElem?_getD, place]
  unfold noteCorrected foldS foldS
  dsimp only
  rw [lane, if_neg (by simp [stripe, mission])]
  split
  · rename_i same
    rw [same]
    exact lane_setLane_self _ n _
  · rename_i ne
    exact lane_setLane_of_ne _ n _ ne

end

end State

end Sys2Proof.Machine
end

section
/-!
The obligation `DrudarRetrainAndStripes`: re-striping, and the obligation.
-/

namespace Sys2Proof.Machine

namespace State

section

variable {s : State} {p n : Nat}

/-! ### A new receive stripe (R104, R105) -/

/-- The receive stripe of the mask that is open (R104). -/
def stripeTaken (s : State) (p : Nat) : State :=
  (s.setReg Obj.DRU_RX_MASK p (s.dru p).dropMask).setReg Obj.PORT_ACTIVE_WIDTH p (popCount 16 (s.dru p).dropMask)

/-- A lane that is added is on trial (R105). -/
def laneAdded (s : State) (p : Nat) (t : State) : State :=
  if (s.dru p).dropAdd then
    (t.setReg Obj.LANE_STATE (s.dru p).dropLane 3).modLane (s.dru p).dropLane
      (fun l => { l with restoring := true, lossAt := s.clk + 1, countAt := s.clk })
  else t

/-- The state of a new receive stripe before its skew is known (R104, R105). -/
def stripeOpened (s : State) (p : Nat) : State := (s.laneAdded p (s.stripeTaken p)).setDru p { s.dru p with dropMask := 0 }

theorem restripeRx_eq : s.restripeRx p = ((s.stripeOpened p).applySkew p).raiseRestripe
    p (s.dru p).dropMask (s.reg Obj.PORT_ACTIVE_WIDTH p) (s.dru p).dropLane (s.dru p).dropAdd false := rfl

theorem stripeTaken_keptBut : s.KeptBut (s.stripeTaken p) [Obj.DRU_RX_MASK, Obj.PORT_ACTIVE_WIDTH] :=
  (setReg_keptBut s _ p _ (by simp)).trans (setReg_keptBut _ _ p _ (by simp))

theorem laneAdded_keptBut (t : State) : t.KeptBut (s.laneAdded p t) [Obj.LANE_STATE] := by
  unfold laneAdded
  split
  · exact (setReg_keptBut t _ _ _ (by simp)).trans (setLane_keptBut _ _ _ _)
  · exact .refl t _

/-- A lane that is added keeps its stored skew. -/
theorem skew_laneAdded (t : State) (m : Nat) : ((s.laneAdded p t).lane m).skew = (t.lane m).skew := by
  unfold laneAdded
  split
  · rcases eq_or_ne m (s.dru p).dropLane with rfl | ne
    · rw [lane_modLane_self]
      rfl
    · rw [lane_modLane_of_ne _ _ _ ne]
      rfl
  · rfl

theorem raiseRestripe_keptBut (mask old lane : Nat) (add tx : Bool) :
    s.KeptBut (s.raiseRestripe p mask old lane add tx) [Obj.DRU_RESTRIPE_CNT] :=
  (setReg_keptBut s _ p _ (by simp)).trans (raise_keptBut _ _ _ _ _ _ _)

theorem dru_raiseRestripe (mask old lane : Nat) (add tx : Bool) (q : Nat) : (s.raiseRestripe p mask old lane add tx).dru q = s.dru q := by
  rw [raiseRestripe, dru_raise, bump, dru_setReg]

theorem count_raiseRestripe (mask old lane : Nat) (add tx : Bool) : (s.raiseRestripe p mask old lane add tx).reg Obj.DRU_RESTRIPE_CNT p =
    min (s.reg Obj.DRU_RESTRIPE_CNT p + 1) 0xFFFF_FFFF := by
  rw [raiseRestripe, reg_raise _ _ _ _ _ _ _ (by decide) (by decide), bump, reg_setReg_self]

theorem restripeGroup_of {good : List Nat} {w : Nat}
    (h : ∀ j < w, ∃ m ∈ good, bit m 59 = true ∧ field m 54 5 = w ∧ field m 40 5 = j) : restripeGroup good w = true := by
  rw [restripeGroup, List.all_eq_true]
  intro j mem
  obtain ⟨m, here, mark, width, place⟩ := h j (List.mem_range.mp mem)
  exact List.any_eq_true.mpr ⟨m, here, by simp [mark, width, place]⟩

/-- Good markers that name every place of the open mask start the new stripe (R104). -/
theorem markersRx_restripes {m : MarkersIn} (open_ : ((s.markersCounted p m).dru p).dropMask ≠ 0)
    (wide : 0 < popCount 16 ((s.markersCounted p m).dru p).dropMask)
    (all : ∀ j < popCount 16 ((s.markersCounted p m).dru p).dropMask, ∃ w ∈ m.markers, goodMarker w = true ∧ bit w 59 = true ∧
      field w 54 5 = popCount 16 ((s.markersCounted p m).dru p).dropMask ∧ field w 40 5 = j) :
    s.markersRx p m.markers m.corrected m.uncorrectable =
      ((s.markersCounted p m).setDru p { (s.markersCounted p m).dru p with amMiss := 0 }).restripeRx p := by
  have group : restripeGroup (m.markers.filter goodMarker) (popCount 16 ((s.markersCounted p m).dru p).dropMask) = true :=
    restripeGroup_of fun j small => by
      obtain ⟨w, mem, good, mark⟩ := all j small
      exact ⟨w, List.mem_filter.mpr ⟨mem, good⟩, mark⟩
  have seen : (m.markers.filter goodMarker).isEmpty = false := by
    obtain ⟨w, mem, good, -⟩ := all 0 wide
    exact List.isEmpty_eq_false_iff.mpr (List.ne_nil_of_mem (List.mem_filter.mpr ⟨mem, good⟩))
  unfold markersCounted at open_ group ⊢
  unfold markersRx
  dsimp only
  rw [seen, if_neg (by decide), if_pos ⟨open_, group⟩]

theorem stripeOpened_keptBut : s.KeptBut (s.stripeOpened p) [Obj.DRU_RX_MASK, Obj.PORT_ACTIVE_WIDTH, Obj.LANE_STATE] :=
  ((stripeTaken_keptBut.mono (by simp)).trans ((laneAdded_keptBut _).mono (by simp))).trans (setDru_keptBut _ p _ _)

theorem restripeRx_keptBut : s.KeptBut (s.restripeRx p)
    [Obj.DRU_RX_MASK, Obj.PORT_ACTIVE_WIDTH, Obj.LANE_STATE, Obj.PORT_SKEW, Obj.DRU_RESTRIPE_CNT] := by
  rw [restripeRx_eq]
  exact ((stripeOpened_keptBut.mono (by simp)).trans ((applySkew_keptBut _ p).mono (by simp))).trans
    ((raiseRestripe_keptBut _ _ _ _ _).mono (by simp))

theorem mask_stripeOpened : (s.stripeOpened p).reg Obj.DRU_RX_MASK p = (s.dru p).dropMask := by
  rw [stripeOpened, reg_setDru, (laneAdded_keptBut _).regs _ _ (by decide) (by decide) (by decide)]
  simp [stripeTaken, reg_setReg]

theorem width_stripeOpened : (s.stripeOpened p).reg Obj.PORT_ACTIVE_WIDTH p = popCount 16 (s.dru p).dropMask := by
  rw [stripeOpened, reg_setDru, (laneAdded_keptBut _).regs _ _ (by decide) (by decide) (by decide)]
  simp [stripeTaken]

theorem skew_stripeOpened (m : Nat) : ((s.stripeOpened p).lane m).skew = (s.lane m).skew := by
  rw [stripeOpened, lane_setDru, skew_laneAdded, stripeTaken, lane_setReg, lane_setReg]

theorem applySkew_stripeOpened : (((s.stripeOpened p).applySkew p).reg Obj.PORT_SKEW p) =
    (bitsOf 16 (s.dru p).dropMask).foldl (fun a i => max a (s.lane (s.firstLane p + i)).skew) 0 := by
  rw [applySkew, reg_setReg_self, mask_stripeOpened]
  simp only [skew_stripeOpened]
  rfl

theorem laneState_stripeOpened (add : (s.dru p).dropAdd = true) : (s.stripeOpened p).reg Obj.LANE_STATE (s.dru p).dropLane = 3 := by
  rw [stripeOpened, reg_setDru, laneAdded, if_pos add, reg_modLane, reg_setReg_self]

theorem reg_restripeRx {o i : Nat} (h : o ∉ [Obj.DRU_RESTRIPE_CNT, Obj.INT_CAUSE, Obj.EVT_DROPPED]) :
    (s.restripeRx p).reg o i = ((s.stripeOpened p).applySkew p).reg o i := by
  simp only [List.mem_cons, List.not_mem_nil, or_false, not_or] at h
  obtain ⟨count, cause, dropped⟩ := h
  exact (raiseRestripe_keptBut _ _ _ _ _).regs o i (by simp [count]) cause dropped

theorem dru_restripeRx : (s.restripeRx p).dru p = { s.dru p with dropMask := 0 } := by
  rw [restripeRx_eq, dru_raiseRestripe, applySkew, dru_setReg, stripeOpened, dru_setDru_self]

theorem count_restripeRx : (s.restripeRx p).reg Obj.DRU_RESTRIPE_CNT p = min (s.reg Obj.DRU_RESTRIPE_CNT p + 1) 0xFFFF_FFFF := by
  rw [restripeRx_eq, count_raiseRestripe, (applySkew_keptBut _ p).regs _ _ (by decide) (by decide) (by decide),
    stripeOpened_keptBut.regs _ _ (by decide) (by decide) (by decide)]

/-- What a new receive stripe leaves (R104, R105). -/
theorem restripeRx_leaves :
    let u := s.restripeRx p
    u.reg Obj.DRU_RX_MASK p = (s.dru p).dropMask ∧ u.reg Obj.PORT_ACTIVE_WIDTH p = popCount 16 (s.dru p).dropMask ∧
      u.dru p = { s.dru p with dropMask := 0 } ∧
      u.reg Obj.PORT_SKEW p = (bitsOf 16 (s.dru p).dropMask).foldl (fun a i => max a (s.lane (s.firstLane p + i)).skew) 0 ∧
      u.reg Obj.DRU_RESTRIPE_CNT p = min (s.reg Obj.DRU_RESTRIPE_CNT p + 1) 0xFFFF_FFFF ∧
      ((s.dru p).dropAdd = true → u.reg Obj.LANE_STATE (s.dru p).dropLane = 3) := by
  intro u
  have skew := applySkew_keptBut (s.stripeOpened p) p
  refine ⟨?_, ?_, dru_restripeRx, ?_, count_restripeRx, fun add => ?_⟩
  · rw [reg_restripeRx (by decide), skew.regs _ _ (by decide) (by decide) (by decide), mask_stripeOpened]
  · rw [reg_restripeRx (by decide), skew.regs _ _ (by decide) (by decide) (by decide), width_stripeOpened]
  · rw [reg_restripeRx (by decide), applySkew_stripeOpened]
  · rw [reg_restripeRx (by decide), skew.regs _ _ (by decide) (by decide) (by decide), laneState_stripeOpened add]

end

end State

end Sys2Proof.Machine
end

section
/-!
The obligation `DrudarRetrainAndStripes`: lost lanes, DROP and ADD, and the obligation.
-/

namespace Sys2Proof.Machine

namespace State

section

variable {s : State} {p n : Nat}

/-! ### DROP and ADD (R104) -/

theorem sendDrop_keptBut (l : List Nat) : s.KeptBut (s.sendDrop p) l :=
  (setDru_keptBut s p l _).trans (sendCtrl_keptBut _ p l _ _)

theorem regs_sendDrop : (s.sendDrop p).regs = s.regs := regs_sendCtrl _ p _ _

theorem dru_sendDrop : LineOnly { s.dru p with dropAt := s.clk } ((s.sendDrop p).dru p) := by
  have line := (lineOnly_sendCtrl (s.setDru p { s.dru p with dropAt := s.clk }) p (if (s.dru p).dropAdd then 4 else 3)
    (toBytes 2 (s.dru p).rxExp ++ toBytes 2 (s.dru p).dropMask))
  rw [dru_setDru_self] at line
  exact line

theorem sendDrop_sentCtrl : s.SentCtrl (s.sendDrop p) p (if (s.dru p).dropAdd then 4 else 3)
    (toBytes 2 (s.dru p).rxExp ++ toBytes 2 (s.dru p).dropMask) :=
  (sendCtrl_sentCtrl (s.setDru p { s.dru p with dropAt := s.clk }) p _ _).of_out rfl

/-- The link state of a port with a DROP or ADD open. -/
def dropOpened (s : State) (p mask lane : Nat) (add : Bool) : State :=
  s.setDru p { s.dru p with dropMask := mask, dropAdd := add, dropLane := lane }

theorem openDrop_eq (mask lane : Nat) (add : Bool) : s.openDrop p mask lane add = (s.dropOpened p mask lane add).sendDrop p := rfl

theorem openDrop_keptBut (mask lane : Nat) (add : Bool) (l : List Nat) : s.KeptBut (s.openDrop p mask lane add) l :=
  (setDru_keptBut s p l _).trans (sendDrop_keptBut l)

theorem regs_openDrop (mask lane : Nat) (add : Bool) : (s.openDrop p mask lane add).regs = s.regs := by
  rw [openDrop_eq, regs_sendDrop, dropOpened, regs_setDru]

/-- A DROP or ADD with its mask is sent (R104). -/
theorem openDrop_leaves (mask lane : Nat) (add : Bool) :
    let u := s.openDrop p mask lane add
    (u.dru p).dropMask = mask ∧ (u.dru p).dropAdd = add ∧
      s.SentCtrl u p (if add then 4 else 3) (toBytes 2 (s.dru p).rxExp ++ toBytes 2 mask) := by
  intro u
  have dru : (s.dropOpened p mask lane add).dru p = { s.dru p with dropMask := mask, dropAdd := add, dropLane := lane } :=
    dru_setDru_self _ p _
  have line : LineOnly _ (u.dru p) := dru_sendDrop (s := s.dropOpened p mask lane add) (p := p)
  have sent : (s.dropOpened p mask lane add).SentCtrl u p _ _ := sendDrop_sentCtrl
  rw [dru] at line sent
  refine ⟨?_, ?_, sent.of_out rfl⟩
  · rw [line]
  · rw [line]

theorem exec_dropAddResend (hp : p < 256) (live : s.druLive p = true) (open_ : (s.dru p).dropMask ≠ 0)
    (due : s.after (s.dru p).dropAt 200 = true) : exec (.dropAddResend p) s = .next (s.sendDrop p) := by
  change execDropAddResend p s = _
  exact onUnit_next hp (if_pos ⟨live, open_, due⟩) (sendDrop_keptBut []) rfl rfl rfl

/-! ### Lost lanes (R79, R103) -/

/-- A lane of a Drudar port that is dropped and FAILED (R103). -/
def laneDropped (s : State) (p n : Nat) : State :=
  (s.modLane n (fun y => { y with
    droppedAt := s.clk + 1, tries := if (s.lane n).restoring then (s.lane n).tries + 1 else (s.lane n).tries })).failLane p n

theorem failLane_drudar (dr : s.drudar p = true) : s.failLane p n =
    ((s.setReg Obj.LANE_STATE n 4).modLane n (fun l => { l with lossAt := 0, restoring := false, lossPend := 0 })).raise
      0x2006 0x21 3 p n := by
  unfold failLane
  simp [dr]

theorem laneDropped_eq (dr : s.drudar p = true) : s.laneDropped p n = (((s.modLane n (fun y => { y with
    droppedAt := s.clk + 1, tries := if (s.lane n).restoring then (s.lane n).tries + 1 else (s.lane n).tries })).setReg
    Obj.LANE_STATE n 4).modLane n (fun l => { l with lossAt := 0, restoring := false, lossPend := 0 })).raise 0x2006 0x21 3 p n :=
  failLane_drudar dr

theorem laneDropped_keptBut (dr : s.drudar p = true) : s.KeptBut (s.laneDropped p n) [Obj.LANE_STATE] := by
  rw [laneDropped_eq dr]
  exact (((setLane_keptBut s _ n _).trans (setReg_keptBut _ _ n 4 (by simp))).trans (setLane_keptBut _ _ n _)).trans
    (raise_keptBut _ _ _ _ _ _ _)

theorem laneState_laneDropped (dr : s.drudar p = true) : (s.laneDropped p n).reg Obj.LANE_STATE n = 4 := by
  rw [laneDropped_eq dr, reg_raise _ _ _ _ _ _ _ (by decide) (by decide), reg_modLane, reg_setReg_self]

theorem dru_laneDropped (dr : s.drudar p = true) : (s.laneDropped p n).dru p = s.dru p := by
  rw [laneDropped_eq dr, dru_raise]
  rfl

theorem out_laneDropped (dr : s.drudar p = true) : (s.laneDropped p n).out = s.out := by
  rw [laneDropped_eq dr, out_raise]
  rfl

theorem drudar_of_druLive (live : s.druLive p = true) : s.drudar p = true := by
  simp only [druLive, Bool.and_eq_true] at live
  exact live.1

/-- A lost lane that leaves enough others is dropped (R103). -/
theorem exec_druLaneLost {cause : Nat} (hp : p < 256) (live : s.druLive p = true) (mem : n ∈ s.portLanes p)
    (used : bit (s.reg Obj.DRU_RX_MASK p) (n - s.firstLane p) = true) (ok : s.reg Obj.LANE_STATE n ≠ 4) (detector : cause < 2)
    (idle : (s.dru p).dropMask = 0)
    (wide : s.reg Obj.DRU_MIN_WIDTH p ≤ popCount 16 (clrBit (s.reg Obj.DRU_RX_MASK p) (n - s.firstLane p)))
    (left : clrBit (s.reg Obj.DRU_RX_MASK p) (n - s.firstLane p) ≠ 0) : exec (.druLaneLost p n cause) s =
      .next ((s.laneDropped p n).openDrop p (clrBit (s.reg Obj.DRU_RX_MASK p) (n - s.firstLane p)) n false) := by
  have dropped := laneDropped_keptBut (n := n) (drudar_of_druLive live)
  have here : (s.portLanes p).contains n = true := by simpa using mem
  have gone : s.druLaneGone p n =
      (s.laneDropped p n).openDrop p (clrBit (s.reg Obj.DRU_RX_MASK p) (n - s.firstLane p)) n false := by
    unfold druLaneGone
    simp only [idle, ne_eq, not_true_eq_false, if_false]
    rw [if_neg (by simp [left, Nat.not_lt.mpr wide])]
    rfl
  change execDruLaneLost p n cause s = _
  refine onUnit_next hp ?_ (openDrop_keptBut _ n false []) dropped.pending dropped.mode dropped.sec
  dsimp only
  rw [if_neg (Nat.not_le.mpr detector), if_neg (by simp [live, mem, used, laneOk, ok]), if_neg (by omega), gone]

theorem exec_druLaneRestoreAttempt (hp : p < 256) (up : s.druUp p = true) (mem : n ∈ s.portLanes p) (failed : s.reg Obj.LANE_STATE n = 4)
    (widens : s.flag Obj.PORT_AUTO_WIDEN p = true) (dropped : (s.lane n).droppedAt ≠ 0) (tries : (s.lane n).tries < 3)
    (due : s.after ((s.lane n).droppedAt - 1) 60000000000 = true) (idle : (s.dru p).dropMask = 0) (clean : Bool) :
    exec (.druLaneRestoreAttempt p n clean) s =
      .next (if clean then s.openDrop p (setBit (s.reg Obj.DRU_RX_MASK p) (n - s.firstLane p)) n true
        else s.setLane n { s.lane n with droppedAt := s.clk + 1, tries := (s.lane n).tries + 1 }) := by
  have may : s.druUp p = true ∧ (s.portLanes p).contains n = true ∧ s.laneOk n = false ∧ s.flag Obj.PORT_AUTO_WIDEN p = true ∧
      (s.lane n).droppedAt ≠ 0 ∧ (s.lane n).tries < 3 ∧ s.after ((s.lane n).droppedAt - 1) 60000000000 = true ∧ (s.dru p).dropMask = 0 :=
    ⟨up, by simpa using mem, by simp [laneOk, failed], widens, dropped, tries, due, idle⟩
  change execDruLaneRestoreAttempt p n clean s = _
  cases clean with
  | true => exact onUnit_next hp (if_pos may) (openDrop_keptBut _ n true []) rfl rfl rfl
  | false => exact onUnit_next hp (if_pos may) (setLane_keptBut s [] n _) rfl rfl rfl

/-! ### A new transmit stripe (R104) -/

theorem sendCodeword_keptBut (l : List Nat) : s.KeptBut (s.sendCodeword p) l := by
  unfold sendCodeword
  dsimp only
  split
  · exact .refl s l
  · exact (setDru_keptBut s p l _).trans (emit_keptBut _ l _)

theorem finishCodeword_keptBut (l : List Nat) : s.KeptBut (s.finishCodeword p) l := by
  have sent : s.KeptBut (s.sendCodewords p) l := .foldS (fun _ t => sendCodeword_keptBut l) _ s
  unfold finishCodeword
  dsimp only
  split
  · exact sent
  · exact (sent.trans (setDru_keptBut _ p l _)).trans (emit_keptBut _ l _)

theorem startReplay_keptBut (eseq : Nat) : s.KeptBut (s.startReplay p eseq) [Obj.DRU_REPLAY_CNT] :=
  ((setDru_keptBut s p _ _).trans (setReg_keptBut _ _ p _ (by simp))).trans ⟨rfl, rfl, rfl, rfl, fun _ => rfl, fun _ _ _ _ _ => rfl⟩

theorem dru_startReplay (eseq : Nat) : (s.startReplay p eseq).dru p = { s.dru p with
    resend := replayFrom (s.dru p) eseq
    sameSeq := if (s.dru p).lastFrom = eseq % 4096 + 1 then (s.dru p).sameSeq + 1 else 1
    lastFrom := eseq % 4096 + 1, ackAt := s.clk } := by
  rw [startReplay, dru_of_link _ (link_count _ _), bump, dru_setReg, dru_setDru_self]

/-- The transmitter leaves its stripe: the codeword in progress is finished, and the lanes that leave send PRBS31 (R104). -/
def stripeLeft (s : State) (p mask : Nat) : State :=
  foldS (fun i (u : State) => u.emit (.prbs31 (s.firstLane p + i)))
    ((bitsOf 16 (s.reg Obj.DRU_TX_MASK p)).filter (fun i => !bit mask i)) ((s.accrue p).finishCodeword p)

/-- The transmitter's new stripe, with its rate (R104). -/
def stripeMade (s : State) (p mask : Nat) : State :=
  ((((s.stripeLeft p mask).setReg Obj.DRU_TX_MASK p mask).setReg Obj.DRU_TX_WIDTH p (popCount 16 mask)).portRateChange p).modDru p
    (fun d => { d with restripeTx := true })

theorem stripeLeft_keptBut (mask : Nat) (l : List Nat) : s.KeptBut (s.stripeLeft p mask) l :=
  ((accrue_keptBut s p l).trans (finishCodeword_keptBut l)).trans (.foldS (fun _ t => emit_keptBut t l _) _ _)

theorem stripeMade_keptBut (mask : Nat) :
    s.KeptBut (s.stripeMade p mask) [Obj.DRU_TX_MASK, Obj.DRU_TX_WIDTH, Obj.PORT_CELL_RATE, Obj.CBS_SLOPE_OPER] :=
  ((((stripeLeft_keptBut mask _).trans (setReg_keptBut _ _ p _ (by simp))).trans (setReg_keptBut _ _ p _ (by simp))).trans
    ((portRateChange_keptBut _ p).mono (by simp))).trans (setDru_keptBut _ p _ _)

theorem mask_stripeMade (mask : Nat) : (s.stripeMade p mask).reg Obj.DRU_TX_MASK p = mask := by
  rw [stripeMade, modDru, reg_setDru, (portRateChange_keptBut _ p).regs _ _ (by decide) (by decide) (by decide)]
  simp [reg_setReg]

theorem width_stripeMade (mask : Nat) : (s.stripeMade p mask).reg Obj.DRU_TX_WIDTH p = popCount 16 mask := by
  rw [stripeMade, modDru, reg_setDru, (portRateChange_keptBut _ p).regs _ _ (by decide) (by decide) (by decide)]
  simp

theorem restripeTx_stripeMade (mask : Nat) : ((s.stripeMade p mask).dru p).restripeTx = true := by
  rw [stripeMade, modDru, dru_setDru_self]

theorem restripeTx_eq {mask0 mask eseq : Nat} {add : Bool} (e : mask0 &&& (2 ^ s.formedWidth p - 1) = mask) (some_ : mask ≠ 0)
    (new : mask ≠ s.reg Obj.DRU_TX_MASK p) : s.restripeTx p mask0 eseq add = ((s.stripeMade p mask).startReplay p eseq).raiseRestripe p mask
      (popCount 16 (s.reg Obj.DRU_TX_MASK p)) (s.firstLane p + ((bitsOf 16 (mask ^^^ s.reg Obj.DRU_TX_MASK p)).headD 0)) add true := by
  unfold restripeTx stripeMade stripeLeft
  dsimp only
  rw [e, if_neg (by simp [some_, new])]

theorem restripeTx_keptBut {mask0 mask eseq : Nat} {add : Bool} (e : mask0 &&& (2 ^ s.formedWidth p - 1) = mask) (some_ : mask ≠ 0)
    (new : mask ≠ s.reg Obj.DRU_TX_MASK p) : s.KeptBut (s.restripeTx p mask0 eseq add)
      [Obj.DRU_TX_MASK, Obj.DRU_TX_WIDTH, Obj.PORT_CELL_RATE, Obj.CBS_SLOPE_OPER, Obj.DRU_REPLAY_CNT, Obj.DRU_RESTRIPE_CNT] := by
  rw [restripeTx_eq e some_ new]
  exact (((stripeMade_keptBut mask).mono (by simp)).trans ((startReplay_keptBut eseq).mono (by simp))).trans
    ((raiseRestripe_keptBut _ _ _ _ _).mono (by simp))

/-- What a new transmit stripe leaves (R104). -/
theorem restripeTx_leaves {mask0 mask eseq : Nat} {add : Bool} (e : mask0 &&& (2 ^ s.formedWidth p - 1) = mask) (some_ : mask ≠ 0)
    (new : mask ≠ s.reg Obj.DRU_TX_MASK p) :
    (s.restripeTx p mask0 eseq add).reg Obj.DRU_TX_MASK p = mask ∧
      (s.restripeTx p mask0 eseq add).reg Obj.DRU_TX_WIDTH p = popCount 16 mask ∧
      ((s.restripeTx p mask0 eseq add).dru p).restripeTx = true ∧
      ((s.restripeTx p mask0 eseq add).dru p).resend = replayFrom ((s.restripeTx p mask0 eseq add).dru p) eseq ∧
      (s.restripeTx p mask0 eseq add).reg Obj.DRU_RX_MASK p = s.reg Obj.DRU_RX_MASK p ∧
      ∀ q, (s.restripeTx p mask0 eseq add).port q = s.port q := by
  have kept := restripeTx_keptBut (eseq := eseq) (add := add) e some_ new
  have replay := startReplay_keptBut (s := s.stripeMade p mask) (p := p) eseq
  have dru : (s.restripeTx p mask0 eseq add).dru p = ((s.stripeMade p mask).startReplay p eseq).dru p := by
    rw [restripeTx_eq e some_ new, dru_raiseRestripe]
  refine ⟨?_, ?_, ?_, ?_, kept.regs _ _ (by decide) (by decide) (by decide), kept.port⟩
  · rw [restripeTx_eq e some_ new, (raiseRestripe_keptBut _ _ _ _ _).regs _ _ (by decide) (by decide) (by decide),
      replay.regs _ _ (by decide) (by decide) (by decide), mask_stripeMade]
  · rw [restripeTx_eq e some_ new, (raiseRestripe_keptBut _ _ _ _ _).regs _ _ (by decide) (by decide) (by decide),
      replay.regs _ _ (by decide) (by decide) (by decide), width_stripeMade]
  · rw [dru, dru_startReplay, restripeTx_stripeMade]
  · rw [dru, dru_startReplay]
    rfl

end

end State

end Sys2Proof.Machine
end

section
/-!
The obligation `DrudarRetrainAndStripes`: the marker groups and DROP and ADD frames that arrive, and the obligation.
-/

namespace Sys2Proof.Machine

namespace State

section

variable {s : State} {p n : Nat}

/-- A DROP or ADD that names another stripe moves the transmitter to it (R104). -/
theorem exec_dropOrAddRx {f : Frame} {c : Instr} {ct mask : Nat} (kind : (c, ct) ∈ [(Instr.dropRx p f, 3), (.addRx p f, 4)]) (hp : p < 256)
    (live : s.druLive p = true) (good : frameGood f = true) (ft : f.ftype = 4) (t : ctype f = ct)
    (e : ctrlU16 f 1 &&& (2 ^ s.formedWidth p - 1) = mask) (some_ : mask ≠ 0) (new : mask ≠ s.reg Obj.DRU_TX_MASK p) :
    ∃ add, exec c s = .next ((s.takeReports p f).restripeTx p (ctrlU16 f 1) (ctrlU16 f 0) add) := by
  have kept (add : Bool) := restripeTx_keptBut (s := s.takeReports p f) (eseq := ctrlU16 f 0) (add := add) e some_ new
  simp only [List.mem_cons, List.not_mem_nil, or_false, Prod.mk.injEq] at kind
  rcases kind with ⟨rfl, rfl⟩ | ⟨rfl, rfl⟩
  · refine ⟨false, ?_⟩
    change execDropRx p f s = _
    exact onUnit_next hp (onCtrl_good s p live good ft t) (kept false) rfl rfl rfl
  · refine ⟨true, ?_⟩
    change execAddRx p f s = _
    exact onUnit_next hp (onCtrl_good s p live good ft t) (kept true) rfl rfl rfl

/-- What a group whose markers are all bad leaves, with nothing corrected (R96). -/
theorem missed_leaves {ms : List Nat} {unc : Nat} :
    let v := s.markersCounted p ⟨ms, [], unc⟩
    let u := v.setDru p { v.dru p with amMiss := (v.dru p).amMiss + 1 }
    u.dru p = { s.dru p with amMiss := (s.dru p).amMiss + 1 } ∧
      u.reg Obj.DRU_FEC_UNCORR p = (s.reg Obj.DRU_FEC_UNCORR p + unc) % 2 ^ 64 ∧ s.SameRegs u [Obj.DRU_FEC_UNCORR] ∧ u.fab = s.fab := by
  intro v u
  have counted : v = s.bump64 Obj.DRU_FEC_UNCORR p unc := rfl
  refine ⟨dru_setDru_self _ p _, ?_, ?_, rfl⟩
  · exact reg_setReg_self s _ p _
  · exact (setReg_keptBut s [Obj.DRU_FEC_UNCORR] p _ (by simp)).regs

/-- A new receive stripe starts with the group that names all its places (R104). -/
theorem exec_alignmentMarkerRx_restripes {ms : List Nat} (hp : p < 256) (live : s.druLive p = true) (open_ : (s.dru p).dropMask ≠ 0)
    (wide : 0 < popCount 16 (s.dru p).dropMask)
    (all : ∀ j < popCount 16 (s.dru p).dropMask, ∃ m ∈ ms, goodMarker m = true ∧ bit m 59 = true ∧
      field m 54 5 = popCount 16 (s.dru p).dropMask ∧ field m 40 5 = j) :
    exec (.alignmentMarkerRx p ⟨ms, [], 0⟩) s =
      .next (((s.bump64 Obj.DRU_FEC_UNCORR p 0).setDru p { s.dru p with amMiss := 0 }).restripeRx p) := by
  change execAlignmentMarkerRx p ⟨ms, [], 0⟩ s = _
  exact onUnit_next hp ((if_pos live).trans (markersRx_restripes (m := ⟨ms, [], 0⟩) open_ wide all)) restripeRx_keptBut rfl rfl rfl

end

end State

open State

/-- Settles O29: each step of a RETRAIN and of a re-stripe from what its command answers. -/
theorem drudarRetrainAndStripes : Obligations.DrudarRetrainAndStripes := by
  unfold Obligations.DrudarRetrainAndStripes
  refine ⟨?_, ?_, ?_, ?_, ?_, ?_, ?_, ?_, ?_, ?_, ?_, ?_, ?_⟩
  · intro s p f hp up good ft ct
    exact ⟨_, exec_retrainRx hp up good ft ct, Retrains.of_setDru (startRetrain_retrains (s := s.takeReports p f) up)⟩
  · intro s p cause hp up due
    exact ⟨_, exec_retrainStart hp up due, startRetrain_retrains up⟩
  · intro s p hp up
    exact ⟨_, exec_druMarkersLost hp up, startRetrain_retrains up⟩
  · intro s p hp dr st ph soon none
    exact exec_druRetrainDone hp dr st ph soon none
  · intro s p hp dr st ph late form calm
    exact ⟨_, exec_druRetrainTimeout hp dr st ph late form calm, portDown_wentDown s p 1 form st calm⟩
  · intro s p hp dr ph due
    exact exec_alignmentMarkerTx hp dr ph due
  · intro s p unc ms hp live bad
    exact ⟨_, exec_alignmentMarkerRx_missed (m := ⟨ms, [], unc⟩) hp live bad, missed_leaves⟩
  · intro s p pos n ms hp live bad stripe own mission few
    have lane := lane_noteCorrected_one (s := s) (p := p) stripe own mission
    refine ⟨_, exec_alignmentMarkerRx_missed (m := ⟨ms, [pos], 0⟩) hp live bad, ?_, fun m ne => ?_⟩
    · refine (lane n).trans ?_
      rw [if_pos rfl, Nat.min_eq_left (by omega)]
    · exact (lane m).trans (if_neg ne)
  · intro s p ms hp live open_ wide all
    obtain ⟨mask, width, dru, skew, count, added⟩ :=
      restripeRx_leaves (s := (s.bump64 Obj.DRU_FEC_UNCORR p 0).setDru p { s.dru p with amMiss := 0 }) (p := p)
    rw [dru_setDru_self] at mask width dru skew added
    refine ⟨_, exec_alignmentMarkerRx_restripes hp live open_ wide all, mask, width, ?_, ?_, skew, ?_, added⟩
    · rw [dru]
    · rw [dru]
    · rw [count, reg_setDru, bump64, reg_setReg_of_ne _ _ _ _ (by simp)]
  · intro s p n cause hp live mem used ok detector idle wide left
    have dr := drudar_of_druLive live
    have dropped := laneDropped_keptBut (n := n) dr
    obtain ⟨mask, drop, sent⟩ :=
      openDrop_leaves (s := s.laneDropped p n) (p := p) (clrBit (s.reg Obj.DRU_RX_MASK p) (n - s.firstLane p)) n false
    have opened := openDrop_keptBut (s := s.laneDropped p n) (p := p) (clrBit (s.reg Obj.DRU_RX_MASK p) (n - s.firstLane p)) n false []
    have regs := (dropped.trans (opened.mono (by simp))).regs
    rw [dru_laneDropped dr] at sent
    refine ⟨_, exec_druLaneLost hp live mem used ok detector idle wide left, ?_, mask, drop, sent.of_out (out_laneDropped dr), ?_, regs,
      fun q => ?_⟩
    · rw [opened.regs _ _ (by simp) (by decide) (by decide), laneState_laneDropped dr]
    · exact regs _ _ (by decide) (by decide) (by decide)
    · rw [opened.port, dropped.port]
  · intro s p mask ct f c kind hp live good ft t e some_ new
    obtain ⟨add, answer⟩ := exec_dropOrAddRx kind hp live good ft t e some_ new
    exact ⟨_, answer, restripeTx_leaves (s := s.takeReports p f) e some_ new⟩
  · intro s p hp live open_ due
    have dru := dru_sendDrop (s := s) (p := p)
    refine ⟨_, exec_dropAddResend hp live open_ due, ?_, ?_, sendDrop_sentCtrl, regs_sendDrop⟩
    · rw [dru]
    · rw [dru]
  · intro s p n clean hp up mem failed widens dropped tries due idle
    refine ⟨_, exec_druLaneRestoreAttempt hp up mem failed widens dropped tries due idle clean, ?_, fun yes => ?_, fun no => ?_⟩
    · cases clean with
      | true => exact regs_openDrop _ n true
      | false => rfl
    · subst yes
      exact openDrop_leaves _ n true
    · subst no
      rfl

end Sys2Proof.Machine
end

section
/-!
SUPPORT. Frames that a Drudar port sends and receives (R98 to R102, R107): what sending one leaves alone, and what its acceptance, its
discard and the reports it carries make of the link state.
-/

namespace Sys2Proof.Machine

/-- An element that is replaced reads as its new value. -/
theorem getD_setAt_self {α : Type} {l : List α} {i : Nat} (h : i < l.length) (x d : α) : (setAt l i x).getD i d = x := by
  induction l generalizing i with
  | nil => cases h
  | cons a r ih =>
    cases i with
    | zero => rfl
    | succ n => exact ih (Nat.lt_of_succ_lt_succ h)

namespace State

/-! ### Steps that keep the queue, the mode and the security state -/

theorem KeepsCourse.trans {s t u : State} (h : s.KeepsCourse t) (k : t.KeepsCourse u) : s.KeepsCourse u := by
  obtain ⟨pending, mode, sec⟩ := h
  obtain ⟨pending', mode', sec'⟩ := k
  exact ⟨pending'.trans pending, mode'.trans mode, sec'.trans sec⟩

theorem KeptBut.keepsCourse {s t : State} {l : List Nat} (h : s.KeptBut t l) : s.KeepsCourse t := ⟨h.pending, h.mode, h.sec⟩

/-- A command on a port whose function keeps its course answers what that makes. -/
theorem KeepsCourse.onUnit_next {s u : State} {p : Nat} {g : State → State} (k : s.KeepsCourse u) (hp : p < 256) (e : g s = u) :
    onUnit p 256 s g = .next u := by
  obtain ⟨pending, mode, sec⟩ := k
  exact onUnit_eq_next hp e pending mode (congrArg SecSt.fuse sec)

/-! ### Steps that write nothing but the Drudar link state -/

/-- `t` is `s` but for the link state of Drudar ports. -/
def DruOnly (s t : State) : Prop := t = { s with link := { s.link with dru := t.link.dru } }

namespace DruOnly

variable {s t u : State}

theorem refl (s : State) : s.DruOnly s := rfl

theorem trans (h : s.DruOnly t) (k : t.DruOnly u) : s.DruOnly u := by
  have e := k
  unfold DruOnly at e
  rw [h] at e
  exact e

theorem pending (h : s.DruOnly t) : t.pending = s.pending := by rw [h]
theorem mode (h : s.DruOnly t) : t.mode = s.mode := by rw [h]
theorem sec (h : s.DruOnly t) : t.sec = s.sec := by rw [h]
theorem keepsCourse (h : s.DruOnly t) : s.KeepsCourse t := ⟨h.pending, h.mode, h.sec⟩
theorem out (h : s.DruOnly t) : t.out = s.out := by rw [h]
theorem time (h : s.DruOnly t) : t.time = s.time := by rw [h]
theorem dict (h : s.DruOnly t) : t.dict = s.dict := by rw [h]
theorem regs (h : s.DruOnly t) : t.regs = s.regs := by rw [h]
theorem fab (h : s.DruOnly t) : t.fab = s.fab := by rw [h]
theorem port (h : s.DruOnly t) (q : Nat) : t.port q = s.port q := by rw [h]; rfl
theorem endpointUp (h : s.DruOnly t) (ep : Nat) : t.endpointUp ep = s.endpointUp ep := by rw [h]; rfl

end DruOnly

section

variable (s : State) (p : Nat)

theorem setDru_druOnly (x : Dru) : s.DruOnly (s.setDru p x) := rfl

/-! ### The keys of a port (R107) -/

@[simp] theorem fuse_setIde (q : Nat) (x : Ide) : (s.setIde q x).sec.fuse = s.sec.fuse := rfl
@[simp] theorem port_setIde (q : Nat) (x : Ide) : (s.setIde q x).port p = s.port p := rfl
@[simp] theorem dru_setIde (q : Nat) (x : Ide) : (s.setIde q x).dru p = s.dru p := rfl

/-- A frame more that is counted under a key leaves the keys set. -/
theorem druIde_countRx (k : Nat) : (s.countRx p k).druIde p = s.druIde p := by
  simp [druIde, countRx]

theorem dru_countRx (k : Nat) : (s.countRx p k).dru p = s.dru p := dru_setIde s p p _

/-! ### Frames that are sent (R98, R100, R102) -/

/-- A frame that is sent changes no more of the link state than the line. -/
theorem lineOnly_putFrame (f : Frame) : LineOnly (s.dru p) ((s.putFrame p f).dru p) := by
  unfold putFrame
  dsimp only
  rw [dru_emit, dru_setEgr, dru_setDru_self]
  rfl

theorem out_putFrame (f : Frame) : (s.putFrame p f).out = .frame p (s.fillFrame p f) :: s.out := rfl
theorem regs_putFrame (f : Frame) : (s.putFrame p f).regs = s.regs := rfl
theorem time_putFrame (f : Frame) : (s.putFrame p f).time = s.time := rfl
theorem putFrame_keepsCourse (f : Frame) : s.KeepsCourse (s.putFrame p f) := ⟨rfl, rfl, rfl⟩

theorem out_frameTime : (s.frameTime p).out = s.out := rfl
theorem regs_frameTime : (s.frameTime p).regs = s.regs := rfl
theorem time_frameTime : (s.frameTime p).time = s.time := rfl
theorem frameTime_keepsCourse : s.KeepsCourse (s.frameTime p) := ⟨rfl, rfl, rfl⟩

/-- The CRC of a frame that is sent is that over its other bytes (R98). -/
theorem crc_fillFrame (f : Frame) : (s.fillFrame p f).crc = frameCrc (s.fillFrame p f) := rfl

end

/-! ### The queues of one port -/

namespace FabKept

variable {s t u : State} {p : Nat}

theorem of_fab (h : t.fab = s.fab) : s.FabKept t p :=
  ⟨by rw [h], fun q _ => congrArg (fun k : FabSt => k.egress.get egressDflt (q, 0)) h⟩

theorem trans (h : s.FabKept t p) (k : t.FabKept u p) : s.FabKept u p := by
  obtain ⟨fab, queues⟩ := h
  obtain ⟨fab', queues'⟩ := k
  refine ⟨?_, fun q ne => (queues' q ne).trans (queues q ne)⟩
  rw [fab] at fab'
  exact fab'

end FabKept

section

variable (s : State) (p : Nat)

theorem setEgr_fabKept (x : Egress) : s.FabKept (s.setEgr p x) p := ⟨rfl, fun _ ne => egr_setEgr_of_ne s p x ne⟩

theorem putFrame_fabKept (f : Frame) : s.FabKept (s.putFrame p f) p := setEgr_fabKept s p _

theorem frameTime_fabKept : s.FabKept (s.frameTime p) p := setEgr_fabKept s p _

theorem sendCtrl_fabKept (ct : Nat) (rest : List Byte) : s.FabKept (s.sendCtrl p ct rest) p :=
  (putFrame_fabKept s p _).trans (frameTime_fabKept _ p)

/-! ### The reports of a frame (R100, R102) -/

/-- `y` is `x` but for what the reports of a frame say: what the peer holds, and its credits. -/
def ReportsOnly (x y : Dru) : Prop :=
  y = { x with
    replay := y.replay, resend := y.resend, ackAt := y.ackAt, sameSeq := y.sameSeq, lastFrom := y.lastFrom
    txCr := y.txCr, crSeen := y.crSeen }

theorem takeReports_druOnly (f : Frame) : s.DruOnly (s.takeReports p f) := rfl

/-- The link state with the acknowledgement of a frame taken (R100). -/
def ackedDru (s : State) (p : Nat) (f : Frame) : Dru :=
  if !f.ackValid then s.dru p
  else match ackFrames (s.dru p).replay f.ack with
    | some l => { s.dru p with replay := l, resend := min (s.dru p).resend l.length, ackAt := s.clk, sameSeq := 0, lastFrom := 0 }
    | none => s.dru p

/-- An acknowledgement touches no more than the replay (R100). -/
theorem ackedDru_eq (f : Frame) : ∃ replay resend ackAt sameSeq lastFrom, s.ackedDru p f =
    { s.dru p with replay := replay, resend := resend, ackAt := ackAt, sameSeq := sameSeq, lastFrom := lastFrom } := by
  unfold ackedDru
  split
  · exact ⟨_, _, _, _, _, rfl⟩
  · split
    · exact ⟨_, _, _, _, _, rfl⟩
    · exact ⟨_, _, _, _, _, rfl⟩

theorem dru_takeReports (f : Frame) : (s.takeReports p f).dru p =
    if f.crClass < 9 then
      { s.ackedDru p f with
        txCr := setAt (s.ackedDru p f).txCr f.crClass ((s.ackedDru p f).txCr.getD f.crClass 0 +
          (f.crTotal + 4096 - (s.ackedDru p f).crSeen.getD f.crClass 0) % 4096)
        crSeen := setAt (s.ackedDru p f).crSeen f.crClass (f.crTotal % 4096) }
    else s.ackedDru p f := dru_setDru_self s p _

theorem takeReports_reportsOnly (f : Frame) : ReportsOnly (s.dru p) ((s.takeReports p f).dru p) := by
  obtain ⟨_, _, _, _, _, acked⟩ := ackedDru_eq s p f
  rw [dru_takeReports, acked]
  split <;> rfl

/-- A report gives the credits that its class has returned since the last one (R102). -/
theorem txCr_takeReports {f : Frame} (known : f.crClass < 9) (nine : (s.dru p).txCr.length = 9) :
    ((s.takeReports p f).dru p).txCr.getD f.crClass 0 =
      (s.dru p).txCr.getD f.crClass 0 + (f.crTotal + 4096 - (s.dru p).crSeen.getD f.crClass 0) % 4096 := by
  obtain ⟨_, _, _, _, _, acked⟩ := ackedDru_eq s p f
  rw [dru_takeReports, acked, if_pos known]
  exact getD_setAt_self (nine.symm ▸ known) _ 0

/-! ### Discards (R98, R99) -/

/-- A discard is the first of its run where no NAK has been sent in it. -/
theorem discardFrame_first (quiet : (s.dru p).nakSent = false) : s.discardFrame p =
    (s.setDru p { s.dru p with nakSent := true }).sendCtrl p 2 (toBytes 2 (s.dru p).rxExp) := by
  unfold discardFrame
  simp [quiet]

theorem discardFrame_later (sent : (s.dru p).nakSent = true) : s.discardFrame p = s := by
  unfold discardFrame
  simp [sent]

theorem discardFrame_keptBut : s.KeptBut (s.discardFrame p) [] := by
  cases sent : (s.dru p).nakSent with
  | true => rw [discardFrame_later s p sent]; exact .refl s []
  | false => rw [discardFrame_first s p sent]; exact (setDru_keptBut s p [] _).trans (sendCtrl_keptBut _ p [] 2 _)

theorem regs_discardFrame : (s.discardFrame p).regs = s.regs := by
  cases sent : (s.dru p).nakSent with
  | true => rw [discardFrame_later s p sent]
  | false => rw [discardFrame_first s p sent, regs_sendCtrl, regs_setDru]

theorem discardFrame_fabKept : s.FabKept (s.discardFrame p) p := by
  cases sent : (s.dru p).nakSent with
  | true => rw [discardFrame_later s p sent]; exact .of_fab rfl
  | false =>
    rw [discardFrame_first s p sent]
    exact sendCtrl_fabKept (s.setDru p { s.dru p with nakSent := true }) p 2 _

/-- A discard notes the NAK of its run, and touches no more than the line beyond that. -/
theorem dru_discardFrame : LineOnly { s.dru p with nakSent := true } ((s.discardFrame p).dru p) := by
  cases sent : (s.dru p).nakSent with
  | true => rw [discardFrame_later s p sent, ← sent]; rfl
  | false =>
    have line := lineOnly_sendCtrl (s.setDru p { s.dru p with nakSent := true }) p 2 (toBytes 2 (s.dru p).rxExp)
    rw [dru_setDru_self] at line
    rw [discardFrame_first s p sent]
    exact line

theorem discardFrame_sentCtrl (quiet : (s.dru p).nakSent = false) :
    s.SentCtrl (s.discardFrame p) p 2 (toBytes 2 (s.dru p).rxExp) := by
  rw [discardFrame_first s p quiet]
  exact (sendCtrl_sentCtrl (s.setDru p { s.dru p with nakSent := true }) p 2 _).of_out rfl

/-! ### Sequenced frames that arrive (R98, R99, R107) -/

/-- The state with a sequenced frame of the expected SEQ accepted, and its reports taken. -/
def acceptFrame (s : State) (p : Nat) (f : Frame) : State :=
  (s.setDru p { s.dru p with rxExp := ((s.dru p).rxExp + 1) % 4096, rxAny := true, nakSent := false }).takeReports p f

theorem acceptFrame_druOnly (f : Frame) : s.DruOnly (s.acceptFrame p f) := rfl

theorem druIde_acceptFrame (f : Frame) : (s.acceptFrame p f).druIde p = s.druIde p := rfl

theorem dru_acceptFrame (f : Frame) :
    ReportsOnly { s.dru p with rxExp := ((s.dru p).rxExp + 1) % 4096, rxAny := true, nakSent := false } ((s.acceptFrame p f).dru p) := by
  have reports := takeReports_reportsOnly
    (s.setDru p { s.dru p with rxExp := ((s.dru p).rxExp + 1) % 4096, rxAny := true, nakSent := false }) p f
  rw [dru_setDru_self] at reports
  exact reports

theorem dru_acceptFrame_of_ne (f : Frame) {q : Nat} (ne : q ≠ p) : (s.acceptFrame p f).dru q = s.dru q := by
  rw [acceptFrame, takeReports, dru_setDru_of_ne _ _ _ ne, dru_setDru_of_ne _ _ _ ne]

theorem txCr_acceptFrame {f : Frame} (known : f.crClass < 9) (nine : (s.dru p).txCr.length = 9) :
    ((s.acceptFrame p f).dru p).txCr.getD f.crClass 0 =
      (s.dru p).txCr.getD f.crClass 0 + (f.crTotal + 4096 - (s.dru p).crSeen.getD f.crClass 0) % 4096 := by
  have credits := txCr_takeReports
    (s.setDru p { s.dru p with rxExp := ((s.dru p).rxExp + 1) % 4096, rxAny := true, nakSent := false }) p known
  rw [dru_setDru_self] at credits
  exact credits nine

theorem receiveSeq_expected {f : Frame} (good : frameGood f = true) (seq : f.seq = (s.dru p).rxExp) :
    s.receiveSeq p f =
      (true, if s.druIde p then (s.acceptFrame p f).countRx p f.keySlot else s.acceptFrame p f) := by
  unfold receiveSeq
  simp only [good, seq, Bool.not_true, Bool.false_eq_true, if_false, bne_self_eq_false]
  rfl

theorem receiveSeq_outOfOrder {f : Frame} (good : frameGood f = true) (seq : f.seq ≠ (s.dru p).rxExp) :
    s.receiveSeq p f = (false, s.discardFrame p) := by
  unfold receiveSeq
  simp [good, seq]

end

end State

end Sys2Proof.Machine
end

section
/-!
The obligation `TimeFlits`: the flit that a port sends, and what a flit sets at a port that is not the source.
-/

namespace Sys2Proof.Machine

namespace State

section

variable {s : State} {p : Nat}

/-! ### A time flit that is sent (R106) -/

/-- The dialogue of a port with its next time flit on its way. -/
def sentDlg (s : State) (p : Nat) : FlitDlg :=
  { s.flitDlg p with
    txTid := ((s.flitDlg p).txTid + 1) % 65536, txT := s.now, lastTx := s.clk + 1, exT1 := (s.flitDlg p).peerT1
    exT2 := (s.flitDlg p).rxT, exT3 := s.now, have3 := (s.flitDlg p).rxT != 0 }

/-- The state as a time flit is sent: a port with no time role takes a free value for its hop count. -/
def timeFlitReady (s : State) (p : Nat) : State :=
  (if s.reg Obj.TIME_ROLE 0 = 0 then s.nextFree else s).setFlitDlg p (s.sentDlg p)

theorem timeFlitReady_leaves (s : State) (p : Nat) :
    let t := s.timeFlitReady p
    t.out = s.out ∧ t.regs = s.regs ∧ t.fab = s.fab ∧ t.time.ctr = s.time.ctr ∧ t.flitDlg p = s.sentDlg p ∧ s.KeepsCourse t := by
  unfold timeFlitReady
  split
  · exact ⟨rfl, rfl, rfl, rfl, flitDlg_setFlitDlg_self _ p _, rfl, rfl, rfl⟩
  · exact ⟨rfl, rfl, rfl, rfl, flitDlg_setFlitDlg_self _ p _, rfl, rfl, rfl⟩

/-- A time flit goes out with a body that begins with the fabric time. -/
theorem sendTimeFlit_eq (s : State) (p : Nat) : ∃ rest, s.sendTimeFlit p =
    ((s.timeFlitReady p).putFrame p (plainFrame 3 (toBytes 10 s.now ++ rest))).frameTime p := by
  unfold sendTimeFlit
  simp only [List.append_assoc]
  exact ⟨_, rfl⟩

/-- What a time flit that is sent leaves. -/
theorem sendTimeFlit_leaves (s : State) (p : Nat) :
    let t := s.sendTimeFlit p
    ∃ f, t.out = .frame p f :: s.out ∧ f.ftype = 3 ∧ f.body.take 10 = toBytes 10 s.now ∧ f.crc = frameCrc f ∧
      t.flitDlg p = s.sentDlg p ∧ t.regs = s.regs ∧ s.FabKept t p ∧ t.time.ctr = s.time.ctr ∧ s.KeepsCourse t := by
  obtain ⟨out, regs, fab, ctr, dlg, course⟩ := timeFlitReady_leaves s p
  obtain ⟨rest, e⟩ := sendTimeFlit_eq s p
  have head : (frameBody (toBytes 10 s.now ++ rest)).take 10 = toBytes 10 s.now := by
    rw [frameBody, List.take_take, List.append_assoc]
    exact List.take_left' (toBytes_length 10 s.now)
  generalize s.timeFlitReady p = t at *
  generalize frame : plainFrame 3 (toBytes 10 s.now ++ rest) = f at e
  have time : ((t.putFrame p f).frameTime p).time = t.time := by rw [time_frameTime, time_putFrame]
  intro u
  rw [show u = _ from e]
  refine ⟨t.fillFrame p f, ?_, ?_, ?_, crc_fillFrame t p f, ?_, ?_, ?_, ?_, ?_⟩
  · rw [out_frameTime, out_putFrame, out]
  · subst frame
    rfl
  · subst frame
    exact head
  · rw [flitDlg, time, ← flitDlg, dlg]
  · rw [regs_frameTime, regs_putFrame, regs]
  · exact (FabKept.of_fab fab).trans ((putFrame_fabKept t p f).trans (frameTime_fabKept _ p))
  · rw [time, ctr]
  · exact course.trans ((putFrame_keepsCourse t p f).trans (frameTime_keepsCourse _ p))

theorem exec_timeFlitTx (hp : p < 256) (up : s.druUp p = true) (clock : s.ridgeClock = true)
    (serves : s.flag Obj.TIME_PORT_SERVE p = true)
    (due : (s.flitDlg p).lastTx = 0 ∨ s.after ((s.flitDlg p).lastTx - 1) 1000000 = true) :
    exec (.timeFlitTx p) s = .next (s.sendTimeFlit p) := by
  obtain ⟨_, -, -, -, -, -, -, -, -, course⟩ := sendTimeFlit_leaves s p
  change execTimeFlitTx p s = _
  exact course.onUnit_next hp (if_pos ⟨up, clock, due, .inl serves⟩)

/-! ### A time flit that arrives (R106) -/

theorem setFlitDlg_keepsCourse (q : Nat) (x : FlitDlg) : s.KeepsCourse (s.setFlitDlg q x) := ⟨rfl, rfl, rfl⟩

@[simp] theorem ctr_setFlitDlg (q : Nat) (x : FlitDlg) : (s.setFlitDlg q x).time.ctr = s.time.ctr := rfl
@[simp] theorem y_setFlitDlg (q : Nat) (x : FlitDlg) : (s.setFlitDlg q x).time.y = s.time.y := rfl
@[simp] theorem slew_setFlitDlg (q : Nat) (x : FlitDlg) : (s.setFlitDlg q x).time.slew = s.time.slew := rfl
@[simp] theorem st_setFlitDlg (q : Nat) (x : FlitDlg) : (s.setFlitDlg q x).time.st = s.time.st := rfl

/-- What the next flit reports, from a flit with body `b` that arrives now. -/
def heardDlg (s : State) (b : List Byte) (d : FlitDlg) : FlitDlg :=
  { d with rxT := s.now, peerT1 := ofBytes (b.take 10), rxTid := ofBytes ((b.drop 20).take 2) }

/-- At a port that is not the source a flit makes no exchange. -/
theorem takeTimeFlit_of_not_source (b : List Byte) (other : s.isSource p = false) :
    ∃ d, s.takeTimeFlit p b = (s.setFlitDlg p d).setFlitDlg p (s.heardDlg b d) := by
  unfold takeTimeFlit
  simp only [other, Bool.false_eq_true, and_false, if_false, flitDlg_setFlitDlg_self]
  exact ⟨_, rfl⟩

theorem exec_timeFlitRx {f : Frame} {tagOk : Bool} (hp : p < 256) (live : s.druLive p = true) (clock : s.ridgeClock = true)
    (good : frameGood f = true) (ft : f.ftype = 3) (tag : tagOk = true ∨ s.druIde p = false) (other : s.isSource p = false) :
    ∃ d, exec (.timeFlitRx p f tagOk) s =
      .next (((s.takeReports p f).setFlitDlg p d).setFlitDlg p (s.heardDlg f.body d)) := by
  obtain ⟨d, taken⟩ := takeTimeFlit_of_not_source (s := s.takeReports p f) f.body other
  refine ⟨d, ?_⟩
  have course := ((takeReports_druOnly s p f).keepsCourse.trans (setFlitDlg_keepsCourse p d)).trans
    (setFlitDlg_keepsCourse p (s.heardDlg f.body d))
  change execTimeFlitRx p f tagOk s = _
  refine course.onUnit_next hp ((if_neg (by simp [live, clock])).trans ?_)
  rw [receivePlain_good s p good]
  exact (if_pos ⟨rfl, ft, tag⟩).trans taken

end

end State

open State

/-- Settles O5: the flit that is sent, and the one that arrives where it is not the source's. -/
theorem timeFlits : Obligations.TimeFlits := by
  unfold Obligations.TimeFlits
  refine ⟨?_, ?_⟩
  · intro s p hp up clock serves due
    obtain ⟨f, out, ftype, head, crc, dlg, regs, ⟨fab, -⟩, ctr, -⟩ := sendTimeFlit_leaves s p
    refine ⟨_, f, exec_timeFlitTx hp up clock serves due, out, ftype, head, crc, ?_, ?_, ?_, regs, fab, ctr⟩
    · rw [dlg, sentDlg]
    · rw [dlg, sentDlg]
    · rw [dlg, sentDlg]
  · intro s p f tagOk hp live clock good ft tag other
    obtain ⟨d, answer⟩ := exec_timeFlitRx hp live clock good ft tag other
    have dlg := flitDlg_setFlitDlg_self ((s.takeReports p f).setFlitDlg p d) p (s.heardDlg f.body d)
    have reports := takeReports_druOnly s p f
    refine ⟨_, answer, ?_, ?_, ?_, ?_, ?_, ?_, ?_, ?_, ?_, ?_⟩
    · rw [dlg, heardDlg]
    · rw [dlg, heardDlg]
    · rw [dlg, heardDlg]
    · simp [reports.time]
    · simp [reports.time]
    · simp [reports.time]
    · simp [reports.time]
    · simp [reports.regs]
    · simp [reports.fab]
    · simp [reports.out]

end Sys2Proof.Machine
end

section
/-!
The obligation `DrudarFrames`: what each frame that arrives makes of the state, the MAC frame that is sent, and the replays.
-/

namespace Sys2Proof.Machine

namespace State

section

variable {s : State} {p : Nat} {f : Frame}

/-! ### DATA and MGMT frames (R99, R108) -/

/-- Without Drudar IDE a body arrives as it was sent. -/
theorem openBody_plain (plain : s.druIde p = false) : s.openBody p f = f := by
  unfold openBody
  simp [plain]

theorem acceptFrame_not_contained (plain : s.druIde p = false) : (s.acceptFrame p f).contained p = false := by
  rw [contained, druIde_acceptFrame, plain, Bool.false_and]

theorem handFlit_druOnly (q : Nat) (g : Frame) : s.DruOnly (s.handFlit q g) := rfl

theorem dru_handFlit (g : Frame) : (s.handFlit p g).dru p = { s.dru p with flits := (s.dru p).flits ++ [g] } := dru_setDru_self s p _

theorem exec_dataFrameRx (hp : p < 256) (live : s.druLive p = true) (good : frameGood f = true) (seq : f.seq = (s.dru p).rxExp)
    (ft : f.ftype = 1) (plain : s.druIde p = false) :
    exec (.dataFrameRx p f) s = .next ((s.acceptFrame p f).handFlit p f) := by
  have course := (acceptFrame_druOnly s p f).keepsCourse.trans (handFlit_druOnly p f).keepsCourse
  change execDataFrameRx p f s = _
  refine course.onUnit_next hp ((if_neg (by simp [live])).trans ?_)
  rw [receiveSeq_expected s p good seq, plain]
  refine (if_neg (by simp [ft])).trans ?_
  simp only [Bool.false_eq_true, if_false, acceptFrame_not_contained plain, openBody_plain plain]

/-- The credit of a MGMT frame goes back with the reports (R102). -/
theorem sendCredit_mgmt (s : State) (p : Nat) : s.sendCredit p 24 =
    (s.setDru p { s.dru p with
      crTotal := setAt (s.dru p).crTotal 8 (((s.dru p).crTotal.getD 8 0 + 1) % 4096)
      crDirty := setAt (s.dru p).crDirty 8 true }).emit (.credit p 24) := if_pos (by decide)

theorem port_emit (x : Output) (q : Nat) : (s.emit x).port q = s.port q := rfl
theorem endpointUp_emit (x : Output) (ep : Nat) : (s.emit x).endpointUp ep = s.endpointUp ep := rfl

theorem sendCredit_mgmt_leaves (s : State) (p : Nat) :
    let u := s.sendCredit p 24
    u.regs = s.regs ∧ u.fab = s.fab ∧ u.dict = s.dict ∧ (∀ q, u.port q = s.port q) ∧ (∀ q, q ≠ p → u.dru q = s.dru q) ∧
      ∃ total dirty, u.dru p = { s.dru p with crTotal := total, crDirty := dirty } := by
  rw [sendCredit_mgmt]
  refine ⟨rfl, rfl, rfl, fun q => ?_, fun q ne => ?_, _, _, dru_setDru_self s p _⟩
  · rw [port_emit, port_setDru]
  · rw [dru_emit, dru_setDru_of_ne _ _ _ ne]

theorem sendCredit_mgmt_keepsCourse : s.KeepsCourse (s.sendCredit p 24) := by
  rw [sendCredit_mgmt]
  exact ⟨rfl, rfl, rfl⟩

/-- A packet for a port that is no endpoint is dropped; its credit goes back (R44, R99). -/
theorem mgmtDeliver_no_endpoint (gone : s.endpointUp (p + 1) = false) : mgmtDeliver p f s = s.sendCredit p 24 := by
  have still : (s.sendCredit p 24).endpointUp (p + 1) = false := by
    rw [sendCredit_mgmt, endpointUp_emit, (setDru_druOnly s p _).endpointUp, gone]
  unfold mgmtDeliver
  dsimp only
  split
  · exact if_neg (by simp [still])
  · rfl

theorem exec_mgmtFrameRx (hp : p < 256) (live : s.druLive p = true) (good : frameGood f = true) (seq : f.seq = (s.dru p).rxExp)
    (ft : f.ftype = 2) (plain : s.druIde p = false) (gone : s.endpointUp (p + 1) = false) :
    exec (.mgmtFrameRx p f) s = .next ((s.acceptFrame p f).sendCredit p 24) := by
  have gone' : (s.acceptFrame p f).endpointUp (p + 1) = false := by rw [(acceptFrame_druOnly s p f).endpointUp, gone]
  have course := (acceptFrame_druOnly s p f).keepsCourse.trans (sendCredit_mgmt_keepsCourse (p := p))
  change execMgmtFrameRx p f s = _
  refine course.onUnit_next hp ((if_neg (by simp [live])).trans ?_)
  rw [receiveSeq_expected s p good seq, plain]
  refine (if_neg (by simp [ft])).trans ?_
  simp only [Bool.false_eq_true, if_false, acceptFrame_not_contained plain, openBody_plain plain]
  exact mgmtDeliver_no_endpoint gone'

/-! ### Discards (R98, R99) -/

/-- A frame out of order is discarded, whatever it carries. -/
theorem exec_outOfOrder {tagOk : Bool} {c : Instr} (kind : c ∈ [Instr.dataFrameRx p f, .mgmtFrameRx p f, .macFrameRx p f tagOk])
    (hp : p < 256) (live : s.druLive p = true) (good : frameGood f = true) (seq : f.seq ≠ (s.dru p).rxExp) :
    exec c s = .next (s.discardFrame p) := by
  have discards {g : State → State} (e : g s = s.discardFrame p) : onUnit p 256 s g = .next (s.discardFrame p) :=
    (discardFrame_keptBut s p).keepsCourse.onUnit_next hp e
  have received := receiveSeq_outOfOrder s p good seq
  simp only [List.mem_cons, List.not_mem_nil, or_false] at kind
  rcases kind with rfl | rfl | rfl
  · change execDataFrameRx p f s = _
    exact discards (by simp [live, received])
  · change execMgmtFrameRx p f s = _
    exact discards (by simp [live, received])
  · change execMacFrameRx p f tagOk s = _
    exact discards (by simp [live, received])

/-! ### IDLE frames (R98, R100) -/

theorem exec_idleFrameRx (hp : p < 256) (live : s.druLive p = true) (good : frameGood f = true) :
    exec (.idleFrameRx p f) s = .next (s.takeReports p f) := by
  change execIdleFrameRx p f s = _
  refine (takeReports_druOnly s p f).keepsCourse.onUnit_next hp ((if_pos live).trans ?_)
  rw [receivePlain_good s p good]

theorem exec_idleFrameRx_bad (hp : p < 256) (live : s.druLive p = true) (bad : frameGood f = false) :
    exec (.idleFrameRx p f) s = .next ((s.bump Obj.DRU_CRC_ERR p).discardFrame p) := by
  change execIdleFrameRx p f s = _
  refine onUnit_next hp ((if_pos live).trans ?_) (discardFrame_keptBut _ p) rfl rfl rfl
  rw [receivePlain, bad]
  rfl

/-! ### MAC frames (R107, R108) -/

/-- A held frame is released: a packet is delivered, a flit handed to the ingress (R108). -/
def releaseFrame (p : Nat) (s : State) (h : Frame) : State := if h.ftype = 2 then mgmtDeliver p h s else s.handFlit p h

theorem releaseFrame_data {h : Frame} (data : h.ftype = 1) : releaseFrame p s h = s.handFlit p h := if_neg (by simp [data])

/-- The flits of released DATA frames join those before them in order (R108). -/
theorem foldl_releaseFrame {l : List Frame} (data : ∀ h ∈ l, h.ftype = 1) :
    let u := l.foldl (releaseFrame p) s
    s.DruOnly u ∧ u.dru p = { s.dru p with flits := (s.dru p).flits ++ l } := by
  induction l generalizing s with
  | nil => exact ⟨.refl s, by simp⟩
  | cons h l ih =>
    obtain ⟨only, dru⟩ := ih (s := s.handFlit p h) (fun g mem => data g (List.mem_cons_of_mem h mem))
    rw [List.foldl_cons, releaseFrame_data (data h List.mem_cons_self)]
    refine ⟨(handFlit_druOnly p h).trans only, dru.trans ?_⟩
    simp [dru_handFlit]

/-- The state with a MAC frame accepted whose tag checks, before what it covers is released. -/
def macChecked (s : State) (p : Nat) (f : Frame) : State :=
  ((s.acceptFrame p f).countRx p f.keySlot).modDru p (fun d => { d with held := [], skid := [] })

theorem macChecked_leaves (s : State) (p : Nat) (f : Frame) :
    let t := s.macChecked p f
    t.pending = s.pending ∧ t.mode = s.mode ∧ t.sec.fuse = s.sec.fuse ∧ t.regs = s.regs ∧ t.fab = s.fab ∧
      (∀ q, t.port q = s.port q) ∧ (t.dru p).held = [] ∧ (t.dru p).skid = [] ∧ (t.dru p).flits = (s.dru p).flits ∧
      (t.dru p).rxExp = ((s.dru p).rxExp + 1) % 4096 := by
  have only := acceptFrame_druOnly s p f
  have dru : (s.macChecked p f).dru p = { (s.acceptFrame p f).dru p with held := [], skid := [] } := by
    rw [macChecked, modDru, dru_setDru_self, dru_countRx]
  intro t
  refine ⟨?_, ?_, ?_, ?_, ?_, fun q => ?_, ?_, ?_, ?_, ?_⟩
  · simp [t, macChecked, modDru, countRx, only.pending]
  · simp [t, macChecked, modDru, countRx, only.mode]
  · simp [t, macChecked, modDru, countRx, only.sec]
  · simp [t, macChecked, modDru, countRx, only.regs]
  · simp [t, macChecked, modDru, countRx, only.fab]
  · simp [t, macChecked, modDru, countRx, only.port]
  · rw [dru]
  · rw [dru]
  · rw [dru, dru_acceptFrame]
  · rw [dru, dru_acceptFrame]

/-- A tag that checks releases the DATA frames that it covers (R108). -/
theorem exec_macFrameRx (hp : p < 256) (live : s.druLive p = true) (good : frameGood f = true) (seq : f.seq = (s.dru p).rxExp)
    (ft : f.ftype = 5) (ide : s.druIde p = true) (data : ∀ h ∈ (s.dru p).held, h.ftype = 1) :
    ∃ u, exec (.macFrameRx p f true) s = .next u ∧ (s.macChecked p f).DruOnly u ∧
      u.dru p = { (s.macChecked p f).dru p with flits := ((s.macChecked p f).dru p).flits ++ (s.dru p).held } := by
  obtain ⟨only, dru⟩ := foldl_releaseFrame (s := s.macChecked p f) (p := p) data
  obtain ⟨pending, mode, fuse, -⟩ := macChecked_leaves s p f
  have held : (((s.acceptFrame p f).countRx p f.keySlot).dru p).held = (s.dru p).held := by rw [dru_countRx, dru_acceptFrame]
  have keyed : ((s.acceptFrame p f).countRx p f.keySlot).druIde p = true := by rw [druIde_countRx, druIde_acceptFrame, ide]
  refine ⟨_, ?_, only, dru⟩
  change execMacFrameRx p f true s = _
  refine onUnit_eq_next hp ((if_neg (by simp [live])).trans ?_) (only.pending.trans pending) (only.mode.trans mode)
    ((congrArg SecSt.fuse only.sec).trans fuse)
  rw [receiveSeq_expected s p good seq, ide]
  simp only [if_true]
  rw [if_neg (by simp [ft, keyed]), if_neg (by simp), held]
  rfl

/-- The next MAC frame of a port: the tag over the frames since the last one, under the key slot in use (R107). -/
def macFrame (s : State) (p : Nat) : Frame :=
  { plainFrame 5 (s.macTag p) with stomp := false, keySlot := (s.dru p).ideSlot, seq := (s.dru p).txSeq, fclass := 0, len := 0 }

/-- The link state with the MAC frame under way: it takes a SEQ, and no credit (R99, R102, R107). -/
def macDru (s : State) (p : Nat) : Dru :=
  { s.dru p with
    txSeq := ((s.dru p).txSeq + 1) % 4096
    replay := (s.dru p).replay ++ [{ frame := s.macFrame p, count := (s.txKey p (s.dru p).ideSlot).count }]
    ackAt := if (s.dru p).replay.isEmpty then s.clk else (s.dru p).ackAt
    macCov := [], macAt := s.clk }

/-- The state with the MAC frame under way and counted under its key. -/
def macReady (s : State) (p : Nat) : State := (s.setDru p (s.macDru p)).countTx p (s.dru p).ideSlot

theorem macReady_leaves (s : State) (p : Nat) :
    let t := s.macReady p
    t.pending = s.pending ∧ t.mode = s.mode ∧ t.sec.fuse = s.sec.fuse ∧ t.out = s.out ∧ t.regs = s.regs ∧ t.fab = s.fab ∧
      t.dru p = s.macDru p := by
  simp [macReady, countTx]

/-- The state that has sent a MAC frame: a change of key slot takes effect with it. -/
def macSent (s : State) (p : Nat) : State :=
  ((s.macReady p).putFrame p (s.macFrame p)).modDru p (fun d => { d with ideSlot := d.ideNext })

theorem sendSeq_mac (ide : s.druIde p = true) :
    s.sendSeq p 5 (s.macTag p) 0 0 false = (s.macReady p).putFrame p (s.macFrame p) := by
  unfold sendSeq macReady macDru macFrame
  simp [ide, creditClass]

theorem exec_macFrameTx (hp : p < 256) (up : s.druUp p = true) (ide : s.druIde p = true) (cov : (s.dru p).macCov ≠ [])
    (may : s.maySend p 5 0 = true) : exec (.macFrameTx p) s = .next (s.macSent p) := by
  obtain ⟨pending, mode, fuse, -⟩ := macReady_leaves s p
  obtain ⟨pending', mode', sec⟩ := putFrame_keepsCourse (s.macReady p) p (s.macFrame p)
  change execMacFrameTx p s = _
  refine onUnit_eq_next hp ((if_pos ⟨up, ide, by simp [cov], may⟩).trans ?_) ?_ ?_ ?_
  · rw [sendSeq_mac ide, macSent]
  · rw [macSent, modDru, pending_setDru, pending', pending]
  · rw [macSent, modDru, mode_setDru, mode', mode]
  · rw [macSent, modDru, sec_setDru, sec, fuse]

/-- What a MAC frame that is sent leaves. -/
theorem macSent_leaves (s : State) (p : Nat) :
    let u := s.macSent p
    ∃ f, u.out = .frame p f :: s.out ∧ f.ftype = 5 ∧ f.keySlot = (s.dru p).ideSlot ∧ f.seq = (s.dru p).txSeq ∧ frameGood f = true ∧
      f.body = frameBody (s.macTag p) ∧ u.regs = s.regs ∧ s.FabKept u p ∧
      LineOnly { s.macDru p with ideSlot := (s.dru p).ideNext } (u.dru p) := by
  obtain ⟨-, -, -, out, regs, fab, dru⟩ := macReady_leaves s p
  have line := lineOnly_putFrame (s.macReady p) p (s.macFrame p)
  rw [dru] at line
  have good : frameGood ((s.macReady p).fillFrame p (s.macFrame p)) = true := frameGood_fillFrame _ p (show 5 < 6 by decide)
  refine ⟨_, ?_, ?_, ?_, ?_, good, ?_, ?_, ?_, ?_⟩
  · rw [macSent, modDru, out_setDru, out_putFrame, out]
  · rfl
  · rfl
  · rfl
  · rfl
  · rw [macSent, modDru, regs_setDru, regs_putFrame, regs]
  · exact ((FabKept.of_fab fab).trans (putFrame_fabKept _ p _)).trans (.of_fab (fab_setDru _ p _))
  · rw [macSent, modDru, dru_setDru_self, line]
    rfl

/-! ### Replays (R100) -/

/-- The link state as a replay from `eseq` starts. -/
def replayDru (s : State) (p eseq : Nat) : Dru :=
  { s.dru p with
    resend := replayFrom (s.dru p) eseq
    sameSeq := if (s.dru p).lastFrom = eseq % 4096 + 1 then (s.dru p).sameSeq + 1 else 1
    lastFrom := eseq % 4096 + 1, ackAt := s.clk }

/-- The occurrence of a replay at port `p`, as the counters see it (R328). -/
def replayEvt (p : Nat) : CntEvt :=
  { code := 0x2002, port := p, aux := 255, part := 255, cls := 255, hpa := 2 ^ 64 - 1, pool := 2 ^ 64 - 1 }

theorem startReplay_eq (eseq : Nat) : s.startReplay p eseq =
    ((s.setDru p (s.replayDru p eseq)).bump Obj.DRU_REPLAY_CNT p).count (replayEvt p) := rfl

theorem dru_count (q : Nat) (x : CntEvt) : (s.count x).dru q = s.dru q := rfl

theorem startReplay_keepsCourse (eseq : Nat) : s.KeepsCourse (s.startReplay p eseq) := by
  rw [startReplay_eq]
  simp [KeepsCourse, bump]

theorem startReplay_leaves (eseq : Nat) :
    let u := s.startReplay p eseq
    u.dru p = s.replayDru p eseq ∧ u.reg Obj.DRU_REPLAY_CNT p = min (s.reg Obj.DRU_REPLAY_CNT p + 1) 0xFFFF_FFFF ∧
      s.SameRegs u [Obj.DRU_REPLAY_CNT] ∧ u.fab = s.fab := by
  rw [startReplay_eq]
  refine ⟨?_, ?_, fun o i other _ _ => ?_, ?_⟩
  · rw [dru_count, bump, dru_setReg, dru_setDru_self]
  · simp [bump]
  · simp only [List.mem_singleton] at other
    simp [bump, reg_setReg, other]
  · simp [bump]

theorem exec_nakRx (hp : p < 256) (live : s.druLive p = true) (good : frameGood f = true) (ft : f.ftype = 4) (ct : ctype f = 2) :
    exec (.nakRx p f) s = .next ((s.takeReports p f).startReplay p (ctrlU16 f 0)) := by
  change execNakRx p f s = _
  exact ((takeReports_druOnly s p f).keepsCourse.trans (startReplay_keepsCourse _)).onUnit_next hp (onCtrl_good s p live good ft ct)

theorem exec_druReplayTimeout {x : TxFrame} {rest : List TxFrame} (hp : p < 256) (up : s.druUp p = true)
    (held : (s.dru p).replay = x :: rest) (late : s.after (s.dru p).ackAt (s.reg Obj.DRU_REPLAY_TIMEOUT p) = true) :
    exec (.druReplayTimeout p) s = .next (s.startReplay p x.frame.seq) := by
  have oldest : oldestSeq (s.dru p) = x.frame.seq := by rw [oldestSeq, held]
  change execDruReplayTimeout p s = _
  refine (startReplay_keepsCourse _).onUnit_next hp ((if_pos ⟨up, by simp [held], late⟩).trans ?_)
  rw [oldest]

/-- A replay from the oldest held frame sends all of them again. -/
theorem replayFrom_oldest {d : Dru} {x : TxFrame} {rest : List TxFrame} (held : d.replay = x :: rest) (short : x.frame.seq < 4096) :
    replayFrom d x.frame.seq = d.replay.length := by
  simp [replayFrom, held, Nat.mod_eq_of_lt short, List.findIdx?_cons]

/-! ### What is left -/

/-- What an accepted frame leaves where no more than the flits and the credits to report follow. -/
theorem acceptFrame_leaves {u : State} (known : f.crClass < 9) (nine : (s.dru p).txCr.length = 9)
    (only : ∀ q, q ≠ p → u.dru q = (s.acceptFrame p f).dru q)
    (dru : ∃ total dirty flits, u.dru p =
      { (s.acceptFrame p f).dru p with crTotal := total, crDirty := dirty, flits := flits }) :
    (u.dru p).rxExp = ((s.dru p).rxExp + 1) % 4096 ∧ (u.dru p).rxAny = true ∧ (u.dru p).nakSent = false ∧
      (u.dru p).txCr.getD f.crClass 0 =
        (s.dru p).txCr.getD f.crClass 0 + (f.crTotal + 4096 - (s.dru p).crSeen.getD f.crClass 0) % 4096 ∧
      ∀ q, q ≠ p → u.dru q = s.dru q := by
  obtain ⟨total, dirty, flits, dru⟩ := dru
  refine ⟨?_, ?_, ?_, ?_, fun q ne => (only q ne).trans (dru_acceptFrame_of_ne s p f ne)⟩
  · rw [dru, dru_acceptFrame]
  · rw [dru, dru_acceptFrame]
  · rw [dru, dru_acceptFrame]
  · rw [dru]
    exact txCr_acceptFrame s p known nine

end

end State

open State

/-- Settles O28: each command on a frame from the state that it answers with. -/
theorem drudarFrames : Obligations.DrudarFrames := by
  unfold Obligations.DrudarFrames
  refine ⟨?_, ?_, ?_, ?_, ?_, ?_, ?_, ?_⟩
  · intro s p f c kind hp live good seq known nine plain gone
    have only := acceptFrame_druOnly s p f
    simp only [List.mem_cons, List.not_mem_nil, or_false, Prod.mk.injEq] at kind
    rcases kind with ⟨rfl, ft⟩ | ⟨rfl, ft⟩
    · have handed := only.trans (handFlit_druOnly (s := s.acceptFrame p f) p f)
      have dru := dru_handFlit (s := s.acceptFrame p f) (p := p) f
      obtain ⟨exp, any, nak, credits, others⟩ := acceptFrame_leaves known nine
        (fun q ne => dru_setDru_of_ne (s.acceptFrame p f) p _ ne) ⟨_, _, _, dru⟩
      refine ⟨_, exec_dataFrameRx hp live good seq ft plain, exp, any, nak, credits, fun _ => ?_, handed.regs, handed.fab, handed.dict,
        handed.port, others⟩
      rw [dru, dru_acceptFrame]
    · obtain ⟨regs, fab, dict, port, other, total, dirty, dru⟩ := sendCredit_mgmt_leaves (s.acceptFrame p f) p
      obtain ⟨exp, any, nak, credits, others⟩ := acceptFrame_leaves known nine other ⟨total, dirty, _, dru⟩
      exact ⟨_, exec_mgmtFrameRx hp live good seq ft plain gone, exp, any, nak, credits, nofun, regs.trans only.regs,
        fab.trans only.fab, dict.trans only.dict, fun q => (port q).trans (only.port q), others⟩
  · intro s p f tagOk c kind hp live good seq quiet
    have dru := dru_discardFrame s p
    refine ⟨_, exec_outOfOrder kind hp live good seq, discardFrame_sentCtrl s p quiet, ?_, ?_, ?_, regs_discardFrame s p,
      discardFrame_fabKept s p⟩
    · rw [dru]
    · rw [dru]
    · rw [dru]
  · intro s p f hp live good known nine
    have only := takeReports_druOnly s p f
    refine ⟨_, exec_idleFrameRx hp live good, txCr_takeReports s p known nine, ?_, only.regs, only.fab, only.port⟩
    rw [takeReports_reportsOnly]
  · intro s p f hp live bad
    have dru := dru_discardFrame (s.bump Obj.DRU_CRC_ERR p) p
    have regs := regs_discardFrame (s.bump Obj.DRU_CRC_ERR p) p
    have counted : s.KeptBut (s.bump Obj.DRU_CRC_ERR p) [Obj.DRU_CRC_ERR] := setReg_keptBut s _ p _ (by simp)
    refine ⟨_, exec_idleFrameRx_bad hp live bad, ?_, ?_, ?_, ?_, ?_, fun sent => ?_, fun quiet => ?_, ?_⟩
    · rw [reg, regs, ← reg, bump, reg_setReg_self]
    · exact (counted.trans ((discardFrame_keptBut (s.bump Obj.DRU_CRC_ERR p) p).mono (by simp))).regs
    · rw [dru]
    · rw [dru]
      rfl
    · rw [dru]
      rfl
    · rw [discardFrame_later (s.bump Obj.DRU_CRC_ERR p) p sent]
      rfl
    · exact (discardFrame_sentCtrl (s.bump Obj.DRU_CRC_ERR p) p quiet).of_out rfl
    · exact (FabKept.of_fab rfl).trans (discardFrame_fabKept (s.bump Obj.DRU_CRC_ERR p) p)
  · intro s p f hp live good seq ft ide data
    obtain ⟨u, answer, only, dru⟩ := exec_macFrameRx hp live good seq ft ide data
    obtain ⟨-, -, -, regs, fab, port, held, skid, flits, exp⟩ := macChecked_leaves s p f
    refine ⟨u, answer, ?_, ?_, ?_, ?_, only.regs.trans regs, only.fab.trans fab, fun q => (only.port q).trans (port q)⟩
    · rw [dru, exp]
    · rw [dru, held]
    · rw [dru, skid]
    · rw [dru, flits]
  · intro s p hp up ide cov may
    obtain ⟨f, out, ftype, slot, seq, good, body, regs, fab, line⟩ := macSent_leaves s p
    refine ⟨_, f, exec_macFrameTx hp up ide cov may, out, ftype, slot, seq, good, ?_, body, ?_, ?_, ?_, regs, fab⟩
    · rw [line, macDru]
    · rw [line, macDru]
    · rw [line]
    · rw [line, macDru, List.length_append, List.length_singleton]
  · intro s p f hp live good ft ct
    obtain ⟨dru, count, regs, fab⟩ := startReplay_leaves (s := s.takeReports p f) (p := p) (ctrlU16 f 0)
    have only := takeReports_druOnly s p f
    refine ⟨_, exec_nakRx hp live good ft ct, ?_, ?_, ?_, ?_, ?_⟩
    · rw [dru]
      rfl
    · rw [dru]
      rfl
    · rw [count, reg, only.regs, ← reg]
    · exact regs
    · rw [fab, only.fab]
  · intro s p x rest hp up held short late
    obtain ⟨dru, count, regs, fab⟩ := startReplay_leaves (s := s) (p := p) x.frame.seq
    refine ⟨_, exec_druReplayTimeout hp up held late, ?_, ?_, count, regs, fab⟩
    · rw [dru, replayDru, replayFrom_oldest held short]
    · rw [dru, replayDru]

end Sys2Proof.Machine
end

section
/-!
The obligation `KeysAndDebug`: the keys of a port (R107, R341, R342).
-/

namespace Sys2Proof.Machine

namespace State

section

variable {s : State} {p : Nat}

/-! ### Keys that are set and changed (R107, R341) -/

/-- The keys of a port with the first one set, in slot `k`, and in use from now on. -/
def firstKey (s : State) (p k : Nat) (y : IdeKeys) : Ide :=
  { s.ide p with
    key0 := k == 0, key1 := k == 1, slot := k, since := s.clk
    tx := setAt (s.ide p).tx k { key := y.txKey % 2 ^ 256, salt := y.txSalt % 2 ^ 32, count := 0 }
    rx := setAt (s.ide p).rx k { key := y.rxKey % 2 ^ 256, salt := y.rxSalt % 2 ^ 32, count := 0 } }

/-- The state of a CXL-mode port with its first key, before IDE_KEY_CHANGED is raised. -/
def firstKeyed (s : State) (p k : Nat) (y : IdeKeys) : State :=
  ((s.setIde p (s.firstKey p k y)).setReg Obj.PORT_IDE_STATE p (1 + k)).modDru p (fun d => { d with ideSlot := k, ideNext := k })

theorem ideMode_cxl (cxl : s.drudar p = false) : s.ideMode p = s.reg Obj.PORT_IDE_MODE p := by
  unfold ideMode
  simp [cxl]

theorem showIde_cxl (cxl : s.drudar p = false) (v : Nat) : s.showIde p v = s.setReg Obj.PORT_IDE_STATE p v := by
  unfold showIde
  simp [cxl]

theorem drudar_setIde (q : Nat) (x : Ide) : (s.setIde q x).drudar p = s.drudar p := rfl

theorem setKey_first {k : Nat} (y : IdeKeys) (cxl : s.drudar p = false) (no0 : (s.ide p).key0 = false) (no1 : (s.ide p).key1 = false) :
    s.setKey p k y = (s.firstKeyed p k y).raise 0xB005 0xB0 1 p k := by
  unfold setKey firstKeyed firstKey
  simp [no0, no1, cxl, showIde_cxl, drudar_setIde]

/-- `u` is `s` with the first key of a CXL-mode port set, in slot `k`, and shown, and the change recorded (R341). -/
structure KeyedFirst (s u : State) (p k : Nat) (y : IdeKeys) : Prop where
  ide : u.ide p = s.firstKey p k y
  shown : u.reg Obj.PORT_IDE_STATE p = 1 + k
  seq : u.dict.seq = (s.dict.seq + 1) % 65536
  regs : s.SameRegs u [Obj.PORT_IDE_STATE]
  pending : u.pending = s.pending
  mode : u.mode = s.mode
  fuse : u.sec.fuse = s.sec.fuse

theorem firstKeyed_raise_keyedFirst (s : State) (p k : Nat) (y : IdeKeys) :
    s.KeyedFirst ((s.firstKeyed p k y).raise 0xB005 0xB0 1 p k) p k y := by
  have ide : (s.firstKeyed p k y).ide p = s.firstKey p k y := ide_setIde_self s p _
  have regs (o i : Nat) : (s.firstKeyed p k y).reg o i = if o = Obj.PORT_IDE_STATE ∧ i = p then 1 + k else s.reg o i := by
    simp [firstKeyed, modDru, reg_setReg]
  refine ⟨?_, ?_, ?_, fun o i other cause dropped => ?_, ?_, ?_, ?_⟩
  · rw [ide_raise, ide]
  · rw [reg_raise _ _ _ _ _ _ _ (by decide) (by decide), regs, if_pos ⟨rfl, rfl⟩]
  · rw [seq_raise]
    simp [firstKeyed, modDru]
  · rw [reg_raise _ _ _ _ _ _ _ cause dropped, regs, if_neg (fun e => other (by simp [e.1]))]
  · simp [firstKeyed, modDru]
  · simp [firstKeyed, modDru]
  · simp [firstKeyed, modDru]

theorem KeyedFirst.emit {u : State} {k : Nat} {y : IdeKeys} (h : s.KeyedFirst u p k y) (x : Output) : s.KeyedFirst (u.emit x) p k y :=
  ⟨h.ide, h.shown, h.seq, h.regs, h.pending, h.mode, h.fuse⟩

/-- The GT9 answers a key in the session that it came in, and sends nothing where the session is its own (R341). -/
theorem KeyedFirst.keyAnswer {u : State} {k : Nat} {y : IdeKeys} (h : s.KeyedFirst u p k y) (session : Nat) :
    s.KeyedFirst (u.keyAnswer session) p k y := by
  unfold State.keyAnswer spdmAnswer
  split
  · split
    · exact h.emit _
    · exact h
  · exact h

/-- The first key of a port comes into use (R107, R341). -/
theorem exec_keys {session k : Nat} {y : IdeKeys} (hp : p < 256) (hk : k < 2) (cxl : s.drudar p = false)
    (on : s.reg Obj.PORT_IDE_MODE p ≠ 0) (up : s.dlUp p = true) (may : s.mayKey session p = true) (no0 : (s.ide p).key0 = false)
    (no1 : (s.ide p).key1 = false) :
    ∃ u, exec (.spdmVendorDefinedRequest session p ⟨k, y⟩) s = .next u ∧ s.KeyedFirst u p k y := by
  have keyed := (firstKeyed_raise_keyedFirst s p k y).keyAnswer session
  refine ⟨_, ?_, keyed⟩
  change execSpdmVendorDefinedRequest session p ⟨k, y⟩ s = _
  refine onUnit_eq_next hp ((if_pos ⟨hk, by rwa [ideMode_cxl cxl], up, may⟩).trans ?_) keyed.pending keyed.mode keyed.fuse
  rw [setKey_first y cxl no0 no1]

/-- A session that may not key a port changes nothing. -/
theorem exec_keys_refused {session k : Nat} {y : IdeKeys} (hp : p < 256) (no : s.mayKey session p = false) :
    exec (.spdmVendorDefinedRequest session p ⟨k, y⟩) s = .next s := by
  change execSpdmVendorDefinedRequest session p ⟨k, y⟩ s = _
  exact onUnit_eq_next hp (if_neg (by simp [no])) rfl rfl rfl

theorem exec_ideRekey (hp : p < 256) (cxl : s.drudar p = false) (on : s.reg Obj.PORT_IDE_MODE p ≠ 0) (key0 : (s.ide p).key0 = true)
    (key1 : (s.ide p).key1 = true) (due : s.after (s.ide p).since (s.reg Obj.IDE_REKEY_S 0 * 1000000000) = true) :
    exec (.ideRekey p) s = .next ((s.setIde p { s.ide p with slot := 1 - (s.ide p).slot, since := s.clk }).setReg Obj.PORT_IDE_STATE p
      (1 + (1 - (s.ide p).slot))) := by
  change execIdeRekey p s = _
  refine onUnit_eq_next hp ((if_neg (by simp [ideMode_cxl cxl, on, key0, key1, due])).trans ?_) rfl rfl ?_
  · simp only [cxl, Bool.false_eq_true, if_false]
    exact showIde_cxl (by rw [drudar_setIde, cxl]) _
  · rw [sec_setReg, fuse_setIde]

theorem exec_ideRekey_early (hp : p < 256) (early : s.after (s.ide p).since (s.reg Obj.IDE_REKEY_S 0 * 1000000000) = false) :
    exec (.ideRekey p) s = .next s := by
  change execIdeRekey p s = _
  exact onUnit_eq_next hp (if_pos (.inr (.inr (.inr (.inr early))))) rfl rfl rfl

/-! ### A failed integrity check (R341, R342) -/

/-- A port in L0 that was DL_Up goes DL_Down (R89, R159). -/
theorem portDown_of_l0 (cause : Nat) (form : s.formed p = true) (st : (s.port p).st = .l0) (up : (s.port p).dlUp = true) :
    s.portDown p cause =
      ((s.portCleared p).raise 0x2002 (if (s.accrue p).drudar p then 0x21 else 0x20) 3 p cause).hangersEnd p := by
  have down : s.portDown p cause = if !(s.port p).dlUp then s.portCleared p
      else ((s.portCleared p).raise 0x2002 (if (s.accrue p).drudar p then 0x21 else 0x20) 3 p cause).hangersEnd p := by
    unfold portDown hangersEnd portCleared keysCleared linkCleared downPort
    dsimp only
    rw [if_neg (by simp [form, st])]
  rw [down, up]
  rfl

theorem ide_setReg (o i v : Nat) : (s.setReg o i v).ide p = s.ide p := rfl
theorem ide_setEgr (q : Nat) (x : Egress) : (s.setEgr q x).ide p = s.ide p := rfl

/-- The keys of a port that goes DL_Down are zeroized (R342). -/
theorem ide_portCleared (s : State) (p : Nat) : (s.portCleared p).ide p = ideDflt := by
  rw [portCleared, keysCleared, ide_setEgr, ide_setReg, ide_setReg, ide_setIde_self]

/-- `u` is a state after `s` in which port `p` has gone DL_Down and has no key any more (R89, R342). -/
structure KeysLost (s u : State) (p : Nat) : Prop where
  st : (u.port p).st = .flushing
  down : (u.port p).dlUp = false
  ide : u.ide p = ideDflt
  pending : u.pending = s.pending
  mode : u.mode = s.mode
  fuse : u.sec.fuse = s.sec.fuse

/-- A port in L0 on which nothing hangs goes DL_Down. -/
theorem portDown_keysLost (cause : Nat) (form : s.formed p = true) (st : (s.port p).st = .l0) (up : (s.port p).dlUp = true)
    (agents : s.agentsOfPort p = []) (rsv : s.coh.rsv = []) (msgs : s.fab.inMsgs.row p = []) :
    s.KeysLost (s.portDown p cause) p := by
  have cleared := portCleared_clearsOnly s p
  have raised := raise_endsMoves (s.portCleared p) 0x2002 (if (s.accrue p).drudar p then 0x21 else 0x20) 3 p cause
  have ends : (s.portCleared p).PortEnds (s.portDown p cause) p := by
    rw [portDown_of_l0 cause form st up]
    refine .of_endsMoves raised (hangersEnd_portEnds _ p ?_ ?_ ?_)
    · rw [agentsOfPort_endsMoves _ p raised, agentsOfPort_portCleared, agents]
    · rw [raised.frame.coh, cleared.coh, rsv]
    · rw [raised.frame.fab, cleared.inMsgs, msgs]
  obtain ⟨cells, port⟩ := ends.port
  rw [port_portCleared, port_setPort_self] at port
  refine ⟨?_, ?_, ?_, ends.pending.trans cleared.pending, ends.mode.trans cleared.mode,
    (congrArg SecSt.fuse ends.sec).trans cleared.fuse⟩
  · rw [port, downPort]
  · rw [port, downPort]
  · rw [ide, ends.sec, ← ide, ide_portCleared]

/-- The event of a failed check, with the key slot and the stream (R341). -/
def integrityRaised (s : State) (p : Nat) (io : Bool) : State := s.raise 0xB006 0xB0 4 p ((s.ide p).slot + (if io then 256 else 0))

theorem integrityFail_keysLost (io : Bool) (form : s.formed p = true) (st : (s.port p).st = .l0) (up : (s.port p).dlUp = true)
    (calm : s.Calm p) : s.KeysLost ((s.integrityRaised p io).portDown p 6) p := by
  obtain ⟨agents, rsv, msgs, -⟩ := calm
  have raised : s.EndsMoves (s.integrityRaised p io) := raise_endsMoves s _ _ _ _ _
  have port := port_of_link s raised.frame.link p
  have form' : (s.integrityRaised p io).formed p = true := by
    rw [formed, formedWidth, raised.regs _ _ (by decide) (by decide) (by decide)]
    exact form
  have lost := portDown_keysLost (s := s.integrityRaised p io) 6 form' (by rw [port, st]) (by rw [port, up])
    (by rw [agentsOfPort_endsMoves s p raised, agents]) (by rw [raised.frame.coh, rsv]) (by rw [raised.frame.fab, msgs])
  exact { lost with
    pending := lost.pending.trans raised.frame.pending
    mode := lost.mode.trans raised.frame.mode
    fuse := lost.fuse.trans (congrArg SecSt.fuse raised.frame.sec) }

/-- A failed integrity check takes the link down, and PORT_IDE_STATE shows it (R341). -/
theorem exec_ideIntegrityFail (io : Bool) (hp : p < 256) (cxl : s.drudar p = false) (on : s.reg Obj.PORT_IDE_MODE p ≠ 0)
    (keyed : ((s.ide p).key0 || (s.ide p).key1) = true) (here : s.dlUp p = true)
    (lost : s.KeysLost ((s.integrityRaised p io).portDown p 6) p) :
    exec (.ideIntegrityFail p io) s = .next (((s.integrityRaised p io).portDown p 6).setReg Obj.PORT_IDE_STATE p 3) := by
  change execIdeIntegrityFail p io s = _
  refine onUnit_eq_next hp (if_pos ⟨cxl, on, keyed, here⟩) ?_ ?_ ?_
  · rw [pending_setReg, lost.pending]
  · rw [mode_setReg, lost.mode]
  · rw [sec_setReg, lost.fuse]

end

end State

end Sys2Proof.Machine
end

section
/-!
The obligation `KeysAndDebug`: the idle time of a debug session and the TAP (R346, R349), and the obligation.
-/

namespace Sys2Proof.Machine

namespace State

section

variable {s : State}

/-! ### An idle debug session (R346) -/

/-- The debug level falls to 0 with no core halted, before DBG_LEVEL_CHANGED is raised. -/
def dbgEnded (s : State) : State :=
  (s.setReg Obj.DBG_LEVEL 0 0).setSec { s.sec with dbgTop := max s.sec.dbgTop 0 }

theorem reg_dbgEnded (o i : Nat) : s.dbgEnded.reg o i = if o = Obj.DBG_LEVEL ∧ i = 0 then 0 else s.reg o i :=
  reg_setReg s Obj.DBG_LEVEL 0 0 o i

theorem setDbg_ended {cause : Nat} (open_ : s.reg Obj.DBG_LEVEL 0 ≠ 0) (runs : s.reg Obj.RIDGE_HALT 0 = 0) :
    s.setDbg 0 cause = s.dbgEnded.raise 0xB003 0xB0 3 0xFFFF (0 + 256 * s.reg Obj.DBG_LEVEL 0 + 65536 * cause) := by
  have halt : s.dbgEnded.reg Obj.RIDGE_HALT 0 = 0 := by rw [reg_dbgEnded, if_neg (by decide), runs]
  unfold setDbg
  rw [if_neg open_.symm]
  exact congrArg (fun t : State => t.raise 0xB003 0xB0 3 0xFFFF (0 + 256 * s.reg Obj.DBG_LEVEL 0 + 65536 * cause))
    (if_neg fun h : 0 < 2 ∧ s.dbgEnded.reg Obj.RIDGE_HALT 0 ≠ 0 => h.2 halt)

/-- Where no commit waits for a core, none is taken up. -/
theorem takeUpCommits_of_none (none : ∀ i, (s.stage i).st = .sealed → (s.stage i).slot ≠ 512) : s.takeUpCommits = s := by
  refine foldS_keeps (fun t => t = s) _ (fun i t same => ?_) _ s rfl
  subst same
  exact if_neg fun ⟨sealed, slot, _⟩ => none _ sealed slot

/-- What the end of an idle session leaves. -/
def dbgIdled (s : State) : State := s.dbgEnded.raise 0xB003 0xB0 3 0xFFFF (0 + 256 * s.reg Obj.DBG_LEVEL 0 + 65536 * 2)

theorem exec_dbgIdleTimeout (open_ : s.reg Obj.DBG_LEVEL 0 ≠ 0) (clock : s.ridgeClock = true) (runs : s.reg Obj.RIDGE_HALT 0 = 0)
    (idle : s.after s.sec.dbgAt (s.reg Obj.DBG_IDLE_S 0 * 1000000000) = true)
    (none : ∀ i, (s.stage i).st = .sealed → (s.stage i).slot ≠ 512) : exec .dbgIdleTimeout s = .next s.dbgIdled := by
  change execDbgIdleTimeout s = _
  refine steady_eq_next ((if_pos ⟨open_, clock, idle⟩).trans ?_) ?_ ?_ ?_
  · rw [setDbg_ended open_ runs, takeUpCommits_of_none, dbgIdled]
    intro i
    rw [stage_raise]
    exact none i
  · rw [dbgIdled, pending_raise]
    rfl
  · rw [dbgIdled, mode_raise]
    rfl
  · rw [dbgIdled, sec_raise]
    rfl

theorem exec_dbgIdleTimeout_closed (closed : s.reg Obj.DBG_LEVEL 0 = 0) : exec .dbgIdleTimeout s = .next s := by
  change execDbgIdleTimeout s = _
  exact steady_eq_next (if_neg (by simp [closed])) rfl rfl rfl

/-! ### TAP (R349) -/

/-- The TAP with instruction `i`. -/
def tapAt (s : State) (i : Nat) : State := s.setSec { s.sec with tapIr := i }

theorem exec_tapInstructionLoad {ir : Nat} {u : State} (e : s.tapLoad ir = u) (k : u.pending = s.pending) (m : u.mode = s.mode)
    (q : u.sec.fuse = s.sec.fuse) : exec (.tapInstructionLoad ir) s = .next u := by
  change execTapInstructionLoad ir s = _
  exact steady_eq_next e k m q

/-- An instruction that neither drives the pins nor shifts out IDCODE only loads. -/
theorem tapLoad_plain {ir i : Nat} (loads : s.tapLoads ir = i) (pins : i ∉ [0, 4, 5]) (id : i ≠ 1) : s.tapLoad ir = s.tapAt i := by
  simp only [List.mem_cons, List.not_mem_nil, or_false] at pins
  unfold tapLoad
  simp only [loads]
  rw [if_neg pins, if_neg id]
  rfl

/-- A port number in state 0 is not formed, so that no link goes down with it (R65). -/
theorem not_formed_of_portState {p : Nat} (none : s.portState p = 0) : s.formed p = false := by
  unfold portState at none
  cases form : s.formed p with
  | false => rfl
  | true =>
    rw [form] at none
    split at none
    · cases none
    · cases st : (s.port p).st <;> rw [st] at none <;> cases none

/-- With every port down an EXTEST-type instruction takes none down, and only halts the links (R349). -/
theorem tapLoad_extest {ir : Nat} (allowed : s.extestAllowed = true) (pins : ir ∈ [0, 4, 5])
    (down : ∀ p < 256, s.portState p = 0 ∨ s.portState p = 1 ∨ s.portState p = 9) :
    s.tapLoad ir = { s.tapAt ir with link := { (s.tapAt ir).link with halted := true } } := by
  have loads : s.tapLoads ir = ir := by
    simp only [List.mem_cons, List.not_mem_nil, or_false] at pins
    rcases pins with rfl | rfl | rfl <;> simp [tapLoads, allowed]
  simp only [List.mem_cons, List.not_mem_nil, or_false] at pins
  have still (p : Nat) (mem : p ∈ (List.range 256).filter (fun p => s.portState p != 1 && s.portState p != 9)) :
      s.formed p = false := by
    obtain ⟨small, other⟩ := List.mem_filter.mp mem
    rcases down p (List.mem_range.mp small) with none | off | off
    · exact not_formed_of_portState none
    · simp [off] at other
    · simp [off] at other
  unfold tapLoad
  simp only [loads]
  rw [if_pos pins]
  generalize (List.range 256).filter (fun p => s.portState p != 1 && s.portState p != 9) = l at still
  induction l with
  | nil => rfl
  | cons p l ih =>
    have same : State.portDown { s.tapAt ir with link := { (s.tapAt ir).link with halted := true } } p 8 = _ :=
      portDown_of_not_formed 8 (still p List.mem_cons_self)
    exact (congrArg (foldS _ l) same).trans (ih fun q mem => still q (List.mem_cons_of_mem p mem))

end

end State

open State

/-- Settles O47: each command on keys, on the debug session and on the TAP from the state that it answers with. -/
theorem keysAndDebug : Obligations.KeysAndDebug := by
  unfold Obligations.KeysAndDebug
  refine ⟨?_, ?_, ?_, ?_, ?_, ?_, ?_, ?_, ?_, ?_, ?_⟩
  · intro s session p k y hp hk cxl on up may no0 no1
    obtain ⟨u, answer, keyed⟩ := exec_keys hp hk cxl on up may no0 no1
    exact ⟨u, answer, keyed.ide, keyed.shown, keyed.seq, keyed.regs⟩
  · intro s session p k y hp no
    exact exec_keys_refused hp no
  · intro s p hp cxl on key0 key1 _ due
    exact exec_ideRekey hp cxl on key0 key1 due
  · intro s p hp early
    exact exec_ideRekey_early hp early
  · intro s p io hp cxl on keyed st here up form calm
    have lost := integrityFail_keysLost io form st up calm
    refine ⟨_, exec_ideIntegrityFail io hp cxl on keyed here lost, reg_setReg_self _ _ _ _, ?_, ?_, ?_⟩
    · rw [port_setReg, lost.down]
    · rw [port_setReg, lost.st]
    · rw [ide_setReg, lost.ide]
  · intro s open_ clock runs idle none
    refine ⟨_, exec_dbgIdleTimeout open_ clock runs idle none, ?_, ?_, fun o i other cause dropped => ?_⟩
    · rw [dbgIdled, reg_raise _ _ _ _ _ _ _ (by decide) (by decide), reg_dbgEnded, if_pos ⟨rfl, rfl⟩]
    · rw [dbgIdled, seq_raise]
      rfl
    · rw [dbgIdled, reg_raise _ _ _ _ _ _ _ cause dropped, reg_dbgEnded, if_neg fun e => other (by simp [e.1])]
  · intro s closed
    exact exec_dbgIdleTimeout_closed closed
  · intro s ir plain
    have loads : s.tapLoads ir = ir := if_pos (by omega)
    refine exec_tapInstructionLoad (tapLoad_plain loads ?_ (by omega)) rfl rfl rfl
    rcases plain with rfl | rfl <;> decide
  · intro s
    exact exec_tapInstructionLoad rfl rfl rfl rfl
  · intro s ir no other
    have loads : s.tapLoads ir = 255 := by
      unfold tapLoads
      rw [if_neg (by omega), no]
      simp
    exact exec_tapInstructionLoad (tapLoad_plain loads (by decide) (by decide)) rfl rfl rfl
  · intro s ir allowed pins down
    exact exec_tapInstructionLoad (tapLoad_extest allowed pins down) rfl rfl rfl

end Sys2Proof.Machine
end

section
/-!
SUPPORT. What a CXL FM API command answers while the dictionary serves its endpoint, and what its reads of runs of objects are (R139).
-/

namespace Sys2Proof.Machine

open State

namespace State

section

variable {s : State} {ep : Nat}

/-- The objects whose read has an effect of its own (R315, R335, R345, R62, R84). -/
def readEffects : List Nat := [Obj.INT_CLAIM, Obj.LC_NONCE, Obj.DBG_CHALLENGE, Obj.LANE_ERR_PAIR, Obj.EVT_DROPPED]

theorem readObj_still {o : Nat} (i : Nat) (plain : o ∉ readEffects) : (s.readObj ep o i).2 = s := by
  simp only [readEffects, List.mem_cons, List.not_mem_nil, or_false, not_or] at plain
  obtain ⟨claim, nonce, challenge, pair, dropped⟩ := plain
  unfold readObj
  have others : ¬ (o = Obj.EVT_DROPPED ∧ i = ep) := fun h => dropped h.1
  simp only [if_neg claim, if_neg nonce, if_neg challenge, if_neg pair, if_neg others]
  split_ifs <;> rfl

/-- A run of `n` subindexes from object `o` on stays in its index, and no read of it has an effect. -/
abbrev PlainRun (o n : Nat) : Prop := n ≠ 0 ∧ n < 256 ∧ o % 256 + n ≤ 256 ∧ ∀ k < n, o + k ∉ readEffects

theorem targets_fmRead {o n : Nat} (i : Nat) (any : n ≠ 0) (small : n < 256) (range : o % 256 + n ≤ 256) :
    targets (fmRead o i n) = (List.range n).map (fun k => (o + k, i)) := by
  have count : (BitVec.ofNat 8 n).toNat = n := Nat.mod_eq_of_lt small
  have object : reqObj (fmRead o i n) = o := Nat.div_add_mod' o 256
  have run : targets (withOp (fmRead o i n) Op.BLOCK_READ) =
      (List.range (BitVec.ofNat 8 n).toNat).map (fun k => (reqObj (fmRead o i n) + k, i)) :=
    targets_blockRead (by rwa [count]) rfl (by rwa [count])
  rw [count, object] at run
  exact run

/-- A run whose reads have no effect answers the values of its objects (R48). -/
theorem readRun_fmRead {o n : Nat} (i : Nat) (run : PlainRun o n) :
    (readRun ep (fmRead o i n) s (targets (fmRead o i n))).1 = s.runBytes ep o i n := by
  obtain ⟨any, small, range, plain⟩ := run
  have still : ∀ k ∈ (List.range n).map (fun k => (o + k, i)), (s.readObj ep k.1 k.2).2 = s := by
    intro key mem
    obtain ⟨k, below, rfl⟩ := List.mem_map.mp mem
    exact readObj_still i (plain k (List.mem_range.mp below))
  rw [targets_fmRead i any small range, readRun_active (by simp [fmRead, bit]) still, List.flatMap_map]
  rfl

theorem fmReads_checked {l : List Req} (passes : ∀ r ∈ l, s.precheck ep r = 0) :
    s.fmReads ep l = .ok (l.flatMap (fun r => (readRun ep r s (targets r)).1)) := by
  induction l with
  | nil => rfl
  | cons r l ih =>
    have rest := ih fun q mem => passes q (List.mem_cons_of_mem r mem)
    unfold fmReads
    dsimp only
    rw [if_neg (not_not_intro (passes r List.mem_cons_self)), rest]
    rfl

/-- A reading command whose runs pass their checks answers their values (R139). -/
theorem fmReadCmd_checked {l : List Req} (extra : List Byte) (passes : ∀ r ∈ l, s.precheck ep r = 0) :
    s.fmReadCmd ep l extra = s.emit (.fmApi ep 0 (l.flatMap (fun r => (readRun ep r s (targets r)).1) ++ extra)) := by
  unfold fmReadCmd
  rw [fmReads_checked passes]
  rfl

theorem fmPass_there {port code : Nat} {payload response : List Byte} (f : State → State) (there : s.mldOn port = true) :
    s.fmPass ep port code payload response f = (f (s.emit (.fmDevice port code payload))).emit (.fmApi ep 0 response) :=
  if_pos there

end

end State

/-- A CXL FM API command of a served endpoint answers what its function makes, where that leaves the queue, the mode and the security
state alone. -/
theorem onFm_eq_next {s u : State} {ep : Nat} {f : State → State} (serves : s.ServesFm ep) (e : f s = u)
    (p : u.pending = s.pending) (m : u.mode = s.mode) (q : u.sec = s.sec) : onFm ep s f = .next u := by
  obtain ⟨low, high, present, firmware, up, awake, runs, inbox⟩ := serves
  refine onEp_eq_next present ((if_pos ?_).trans e) p m (congrArg SecSt.fuse q)
  exact ⟨low, high, up, firmware, awake, runs, by rw [inbox]; rfl⟩

end Sys2Proof.Machine
end

section
/-!
The obligation `FmApiQueries`: the CXL FM API commands that read, those for a device, and any other command.
-/

namespace Sys2Proof.Machine

open State

section

variable {s : State} {ep : Nat}

theorem exec_identifySwitchDevice (serves : s.ServesFm ep) (passes : s.precheck ep (fmRead Obj.VENDOR 0 7) = 0) :
    exec (.identifySwitchDevice ep) s = .next (s.emit (.fmApi ep 0 (s.runBytes ep Obj.VENDOR 0 7 ++
      (toBytes 2 ((List.range 256).filter s.formed).length ++
        (List.range 64).flatMap (fun n => toBytes 1 (s.reg Obj.PART_ENABLE n)))))) := by
  change execIdentifySwitchDevice ep s = _
  refine onFm_eq_next serves ((fmReadCmd_checked _ fun r mem => ?_).trans ?_) rfl rfl rfl
  · rwa [List.mem_singleton.mp mem]
  · rw [List.flatMap_singleton, readRun_fmRead 0 (by decide)]

theorem exec_getPhysicalPortState {ports : List Nat} (serves : s.ServesFm ep)
    (passes : ∀ p ∈ ports, s.precheck ep (fmRead Obj.PORT_STATE p 6) = 0) :
    exec (.getPhysicalPortState ep ports) s =
      .next (s.emit (.fmApi ep 0 (ports.flatMap (fun p => s.runBytes ep Obj.PORT_STATE p 6)))) := by
  have run (p : Nat) := readRun_fmRead (s := s) (ep := ep) p (show PlainRun Obj.PORT_STATE 6 by decide)
  change execGetPhysicalPortState ep ports s = _
  refine onFm_eq_next serves ((fmReadCmd_checked _ fun r mem => ?_).trans ?_) rfl rfl rfl
  · obtain ⟨p, here, rfl⟩ := List.mem_map.mp mem
    exact passes p here
  · simp only [List.append_nil, List.flatMap_map, run]

/-- The runs of Get Virtual CXL Switch Info for partition `n` (R139). -/
def partReads (n : Nat) : List Req := fmRead Obj.PART_ENABLE n 4 :: (List.range 64).map (fun k => fmRead Obj.VPPB_LD (64 * n + k) 2)

theorem exec_getVirtualCxlSwitchInfo {parts : List Nat} (serves : s.ServesFm ep)
    (passes : ∀ n ∈ parts, s.precheck ep (fmRead Obj.PART_ENABLE n 4) = 0 ∧
      ∀ k < 64, s.precheck ep (fmRead Obj.VPPB_LD (64 * n + k) 2) = 0) :
    exec (.getVirtualCxlSwitchInfo ep parts) s = .next (s.emit (.fmApi ep 0 (parts.flatMap (fun n =>
      s.runBytes ep Obj.PART_ENABLE n 4 ++ (List.range 64).flatMap (fun k => s.runBytes ep Obj.VPPB_LD (64 * n + k) 2))))) := by
  have part (n : Nat) := readRun_fmRead (s := s) (ep := ep) n (show PlainRun Obj.PART_ENABLE 4 by decide)
  have vppb (v : Nat) := readRun_fmRead (s := s) (ep := ep) v (show PlainRun Obj.VPPB_LD 2 by decide)
  change execGetVirtualCxlSwitchInfo ep parts s = _
  refine onFm_eq_next serves ((fmReadCmd_checked (l := parts.flatMap partReads) _ fun r mem => ?_).trans ?_) rfl rfl rfl
  · obtain ⟨n, here, among⟩ := List.mem_flatMap.mp mem
    obtain ⟨head, tail⟩ := passes n here
    rcases List.mem_cons.mp among with rfl | among
    · exact head
    · obtain ⟨k, below, rfl⟩ := List.mem_map.mp among
      exact tail k (List.mem_range.mp below)
  · simp only [List.append_nil, List.flatMap_assoc, partReads, List.flatMap_cons, List.flatMap_map, part, vppb]

end

/-- Settles O19: the three reading commands, the three for a device, and the answer to any other. -/
theorem fmApiQueries : Obligations.FmApiQueries := by
  unfold Obligations.FmApiQueries
  refine ⟨?_, ?_, ?_, ?_, ?_⟩
  · intro s ep serves passes
    exact exec_identifySwitchDevice serves passes
  · intro s ep ports serves passes
    exact exec_getPhysicalPortState serves passes
  · intro s ep parts serves passes
    exact exec_getVirtualCxlSwitchInfo serves passes
  · intro s ep port code payload response c listed serves there
    simp only [List.mem_cons, List.not_mem_nil, or_false, Prod.mk.injEq] at listed
    rcases listed with ⟨rfl, rfl⟩ | ⟨rfl, rfl⟩ | ⟨rfl, rfl⟩
    · change execGetLdInfo ep port payload response s = _
      exact onFm_eq_next serves (fmPass_there id there) rfl rfl rfl
    · change execGetLdAllocations ep port payload response s = _
      exact onFm_eq_next serves (fmPass_there id there) rfl rfl rfl
    · change execTunnelManagementCommand ep port payload response s = _
      exact onFm_eq_next serves (fmPass_there id there) rfl rfl rfl
  · intro s ep opcode serves
    change execFmApiUnsupported ep opcode s = _
    exact onFm_eq_next serves rfl rfl rfl rfl

end Sys2Proof.Machine
end

section
/-!
SUPPORT. The stage of a CXL FM API command: it is opened with one value, which is committed at once (R51 to R54, R139).
-/

namespace Sys2Proof.Machine

open State

namespace State

/-! ### Staging one value -/

section

variable {s : State} {ep n h o i v : Nat}

/-- Stage `n` of endpoint `ep`, opened with one value, is sealed for handle `h` (R413). -/
def sealOne (s : State) (ep n h : Nat) (k : Key) (v : Nat) : State := (s.staging ep n [(k, v)]).sealStage n h

theorem entries_sealOne (k : Key) : ((s.sealOne ep n h k v).stage n).entries = [(k, v)] := by
  rw [sealOne, stage_sealStage, sealedStage, staging, stage_setStage_self]

theorem lop_sealOne (k : Key) : (s.sealOne ep n h k v).lop h = (s.staging ep n [(k, v)]).newLop 1 ep n := by
  rw [sealOne, lop_sealStage]
  congr 1
  rw [staging, stage_setStage_self]

section

variable (s : State) (ep n h : Nat) (k : Key)

theorem reg_sealOne (o i : Nat) : (s.sealOne ep n h k v).reg o i = s.reg o i := rfl
theorem windows_sealOne : (s.sealOne ep n h k v).windows = s.windows := rfl
theorem ldPresent_setStage (x : Stage) (ld : Nat) : (s.setStage n x).ldPresent ld = s.ldPresent ld := rfl
theorem ldPresent_setLop (x : Lop) (ld : Nat) : (s.setLop h x).ldPresent ld = s.ldPresent ld := rfl

theorem ldPresent_sealOne (ld : Nat) : (s.sealOne ep n h k v).ldPresent ld = s.ldPresent ld := by
  rw [sealOne, sealStage, ldPresent_setStage, ldPresent_setLop, staging, ldPresent_setStage]

end

/-- A stage that has just been opened holds no object (R52). -/
theorem heldBy_staging {k : Key} (unheld : s.heldBy k = none) : (s.staging ep n []).heldBy k = none := by
  unfold heldBy at unheld ⊢
  refine List.find?_eq_none.mpr fun m mem => ?_
  by_cases same : m = n
  · subst same
    rw [staging, stage_setStage_self]
    simp [staged]
  · rw [staging, stage_setStage_of_ne s n _ same]
    exact List.find?_eq_none.mp unheld m mem

/-- A value that fits its object is the one that its bytes spell (R46). -/
theorem writeVals_fits {row : ObjRow} (object : dictRow o i = some row) (typed : objBytes o v = toBytes row.ty.size v)
    (number : plain row.ty = true) (fits : v < 256 ^ row.ty.size) : writeVals (writeReq o i (objBytes o v)) = some [valOf v] := by
  have op : (writeReq o i (objBytes o v)).op = Op.WRITE := rfl
  have payload : (writeReq o i (objBytes o v)).payload = toBytes row.ty.size v := typed
  unfold writeVals
  rw [if_pos op, targets_writeReq, payload]
  simp [takeVals, object, takeVal_plain number, List.take_of_length_le, List.drop_of_length_le, ofBytes_toBytes,
    Nat.mod_eq_of_lt fits]

/-- Object `o` is staged, and `v` is a value of its type. -/
def StagedNumber (o v : Nat) : Prop :=
  o % 256 ≠ 0 ∧ ∃ row, objRow o = some row ∧ row.acc = .rws ∧ plain row.ty = true ∧ v < 256 ^ row.ty.size

/-- The write of value `v` to an object into stage `n`. -/
abbrev stagedWrite (n o i v : Nat) : Req := { writeReq o i (objBytes o v) with stage := n }

theorem targets_stagedWrite : targets (stagedWrite n o i v) = [(o, i)] := targets_writeReq o i _

/-- The object of a checked write has the row that its address names. -/
theorem dictRow_of_precheck {row : ObjRow} (passes : s.precheck ep (stagedWrite n o i v) = 0) (sub : o % 256 ≠ 0)
    (object : objRow o = some row) : dictRow o i = some row := by
  obtain ⟨-, -, seen, -⟩ := precheck_zero passes
  rw [targets_stagedWrite] at seen
  simp only [List.all_cons, List.all_nil, Bool.and_true, visible, Bool.and_eq_true] at seen
  obtain ⟨x, found⟩ := Option.isSome_iff_exists.mp seen.1
  rw [found, ← object, dictRow_objRow sub found]

/-- The write that stages one value puts it into the stage that has been opened for it. -/
theorem doWrite_staging (number : StagedNumber o v) (passes : (s.staging ep n []).precheck ep (stagedWrite n o i v) = 0)
    (unheld : s.heldBy (o, i) = none) :
    (s.staging ep n []).doWrite none ep (stagedWrite n o i v) = done (s.staging ep n [((o, i), v)]) := by
  obtain ⟨sub, row, object, rws, typed, fits⟩ := number
  have here := dictRow_of_precheck passes sub object
  have opened : ((s.staging ep n []).stage n).st = .opened := by rw [staging, stage_setStage_self]
  have empty : ((s.staging ep n []).stage n).entries = [] := by rw [staging, stage_setStage_self]
  have one : (s.staging ep n []).withStaged n [((o, i), v)] = s.staging ep n [((o, i), v)] := by
    unfold withStaged staging
    rw [stage_setStage_self]
    unfold setStage
    dsimp only
    rw [Tbl.set_set]
  have run : (s.staging ep n []).writeRun none ep n (s.staging ep n []) ((targets (stagedWrite n o i v)).zip [valOf v]) =
      done (s.staging ep n [((o, i), v)]) := by
    rw [targets_stagedWrite]
    refine (writeRun_staged _ (List.cons_ne_nil _ _) ?_ ?_ ?_ ?_).trans ?_
    · rw [opened]
      decide
    · simpa using ⟨row, here, rws⟩
    · simp [heldBy_staging unheld]
    · simp [empty]
    · rw [empty]
      exact congrArg done one
  have written := doWrite_opened (r := stagedWrite n o i v) opened
    (writeVals_fits here (by rw [objBytes, object]) typed fits) run
  have same : (s.staging ep n []).profWatch (s.staging ep n [((o, i), v)]) = s.staging ep n [((o, i), v)] :=
    if_neg fun changed => changed.2 rfl
  rw [written]
  dsimp only [done]
  rw [same, ite_self]

/-- Request `r` stages a value in stage `n`, which is committed at once (R139): the abort, or the state and the handle. -/
def commitWrite (t : State) (ep n : Nat) (r : Req) : Except Nat (State × Nat) :=
  if t.precheck ep r ≠ 0 then .error (t.precheck ep r)
  else if (t.doWrite none ep r).abort ≠ 0 then .error (t.doWrite none ep r).abort
  else if ((t.doWrite none ep r).state.stageCommit n 0).2.1 ≠ 0 then .error ((t.doWrite none ep r).state.stageCommit n 0).2.1
  else .ok (((t.doWrite none ep r).state.stageCommit n 0).1, ((t.doWrite none ep r).state.stageCommit n 0).2.2)

theorem fmStage_of_freeStage (free : s.freeStage = some n) :
    s.fmStage ep o i v = (s.staging ep n []).commitWrite ep n (stagedWrite n o i v) := by
  unfold fmStage
  rw [free]
  rfl

theorem commitWrite_ok {t x y : State} {r : Req} (passes : t.precheck ep r = 0) (written : t.doWrite none ep r = done x)
    (commit : x.stageCommit n 0 = (y, (0, h))) : t.commitWrite ep n r = .ok (y, h) := by
  simp [commitWrite, passes, written, done, commit]

/-- One staged value that passes its checks is committed at once (R51 to R54, R139). -/
theorem fmStage_commits (commits : s.CommitsNow ep n h o i v) (number : StagedNumber o v) :
    s.fmStage ep o i v = .ok ((s.sealOne ep n h (o, i) v).commitStage n h, h) := by
  obtain ⟨lowestStage, lowestLop, passes, unheld, core, valid, room⟩ := commits
  have entries : ((s.staging ep n [((o, i), v)]).stage n).entries = [((o, i), v)] := by rw [staging, stage_setStage_self]
  have runs : ((s.sealOne ep n h (o, i) v).lop h).st = .running := by
    have duty : (s.staging ep n [((o, i), v)]).lopCore 1 n = if 0x310000 ≤ o ∧ o < 0x380000 then 2 else 0 := by
      simp [lopCore, entries]
    rw [lop_sealOne, newLop, duty]
    exact if_pos core
  have now := stageCommit_now (s := s.staging ep n [((o, i), v)]) (n := n) (h := h) lowestLop (by rw [entries]; exact room)
    (by rw [entries]; exact valid)
  rw [← sealOne, runs, if_neg (by decide)] at now
  rw [fmStage_of_freeStage lowestStage]
  exact commitWrite_ok passes (doWrite_staging number passes unheld) now

end

end State

end Sys2Proof.Machine
end

section
/-!
SUPPORT. What the rest of a commit point leaves of the links, of the bindings and of the handles, and the commit points of PORT_ENABLE and
of VPPB_LD (R54, R124, R130, R135, R136).
-/

namespace Sys2Proof.Machine

namespace State

/-! ### What leaves the bindings alone -/

/-- `t` has the links and the handles of `s`, and its queue, mode and security state. -/
structure SameLinks (s t : State) : Prop where
  pending : t.pending = s.pending
  mode : t.mode = s.mode
  sec : t.sec = s.sec
  link : t.link = s.link
  lops : t.dict.lops = s.dict.lops

/-- `t` has the links and the handles of `s`, and its objects of the indices 0x2000 to 0x3FFF but for PART_STATE. -/
structure KeepsBindings (s t : State) : Prop extends SameLinks s t where
  regs : ∀ o i, 0x200000 ≤ o → o < 0x400000 → o ≠ Obj.PART_STATE → t.reg o i = s.reg o i

section

variable {s t u : State}

theorem SameLinks.trans (h : s.SameLinks t) (k : t.SameLinks u) : s.SameLinks u :=
  ⟨k.pending.trans h.pending, k.mode.trans h.mode, k.sec.trans h.sec, k.link.trans h.link, k.lops.trans h.lops⟩

theorem setReg_sameLinks (s : State) (o i v : Nat) : s.SameLinks (s.setReg o i v) := ⟨rfl, rfl, rfl, rfl, rfl⟩

theorem emit_sameLinks (s : State) (x : Output) : s.SameLinks (s.emit x) := ⟨rfl, rfl, rfl, rfl, rfl⟩

theorem setFab_sameLinks (s : State) (x : FabSt) : s.SameLinks { s with fab := x } := ⟨rfl, rfl, rfl, rfl, rfl⟩

theorem KeepsBindings.refl (s : State) : s.KeepsBindings s := ⟨⟨rfl, rfl, rfl, rfl, rfl⟩, fun _ _ _ _ _ => rfl⟩

theorem KeepsBindings.trans (h : s.KeepsBindings t) (k : t.KeepsBindings u) : s.KeepsBindings u :=
  ⟨h.toSameLinks.trans k.toSameLinks, fun o i low high other => (k.regs o i low high other).trans (h.regs o i low high other)⟩

theorem SameLinks.lop (k : s.SameLinks t) (h : Nat) : t.lop h = s.lop h := congrArg (Tbl.get · lopDflt (h, 0)) k.lops

theorem raise_keepsBindings (s : State) (code source sev inst data : Nat) : s.KeepsBindings (s.raise code source sev inst data) where
  pending := pending_raise ..
  mode := mode_raise ..
  sec := sec_raise ..
  link := link_raise ..
  lops := lops_raise ..
  regs o i low high _ := reg_raise s code source sev inst data i (fun e => absurd (e ▸ high) (by decide))
    (fun e => absurd (e ▸ low) (by decide))

theorem profWatch_keepsBindings (s t : State) : t.KeepsBindings (s.profWatch t) := by
  rw [profWatch_eq]
  exact ⟨⟨rfl, rfl, rfl, rfl, rfl⟩, fun _ _ _ _ _ => rfl⟩

theorem clearEndpoint_keepsBindings (s : State) (ep : Nat) : s.KeepsBindings (s.clearEndpoint ep) where
  pending := rfl
  mode := rfl
  sec := rfl
  link := rfl
  lops := rfl
  regs o i low _ _ := Tbl.get_set_of_ne s.regs (regDefault (Obj.EVT_DROPPED, ep)) (regDefault (o, i)) 0 fun same =>
    absurd ((Prod.mk.inj same).1 ▸ low) (by decide)

theorem endpointGone_keepsBindings (s : State) (ep : Nat) : s.KeepsBindings (s.endpointGone ep) := by
  refine KeepsBindings.trans ?_ (clearEndpoint_keepsBindings _ ep)
  refine foldS_keeps s.KeepsBindings _ (fun i t kept => ?_) _ _ (.refl s)
  split
  · exact (kept.trans (raise_keepsBindings t _ _ _ _ _)).trans ⟨⟨rfl, rfl, rfl, rfl, rfl⟩, fun _ _ _ _ _ => rfl⟩
  · exact kept

/-- A change of PART_STATE, with the partition's counter set as at reset (R326). -/
theorem resetPart_keepsBindings (s : State) (n v : Nat) : s.KeepsBindings ((s.setReg Obj.PART_STATE n v).resetSet n) where
  pending := rfl
  mode := rfl
  sec := rfl
  link := rfl
  lops := rfl
  regs o i _ high other := by
    have below : ¬ 0x900000 ≤ o := by omega
    have below' : ¬ 0x910000 ≤ o := by omega
    refine (Tbl.get_filter_of_kept (s.setReg Obj.PART_STATE n v).regs _ (o, i) _ fun w => ?_).trans
      (reg_setReg_of_ne s _ n v fun same => other (Prod.mk.inj same).1)
    simp [below, below']

theorem refreshPart_keepsBindings (n : Nat) (s : State) : s.KeepsBindings (refreshPart n s) := by
  have reset := resetPart_keepsBindings s n (s.partBound n)
  unfold refreshPart
  split
  · exact .refl s
  · split
    · exact reset.trans (endpointGone_keepsBindings _ _)
    · exact reset

theorem refreshParts_keepsBindings (s : State) : s.KeepsBindings s.refreshParts :=
  foldS_keeps s.KeepsBindings refreshPart (fun n t kept => kept.trans (refreshPart_keepsBindings n t)) _ _ (.refl s)

theorem noteMoved_keepsBindings (s : State) : s.KeepsBindings s.noteMoved := by
  refine foldS_keeps s.KeepsBindings _ (fun e t kept => ?_) _ _ (.refl s)
  split
  · split
    · exact kept.trans ⟨⟨rfl, rfl, rfl, rfl, rfl⟩, fun _ _ _ _ _ => rfl⟩
    · exact kept
  · exact kept

theorem dropLease_keepsBindings (s : State) (v : Nat) : s.KeepsBindings (s.dropLease v) := by
  refine foldS_keeps s.KeepsBindings _ (fun e t kept => ?_) _ _ (.refl s)
  split
  · unfold dropSlot
    split
    · exact kept.trans ⟨⟨rfl, rfl, rfl, rfl, rfl⟩, fun _ _ _ _ _ => rfl⟩
    · exact kept
  · exact kept

/-- What follows the objects of a commit: the partitions, the moved destinations and the watch of a capture (R124, R132, R376). -/
theorem settled_keepsBindings (s t : State) : t.KeepsBindings (s.profWatch t.refreshParts.noteMoved) :=
  ((refreshParts_keepsBindings t).trans (noteMoved_keepsBindings _)).trans (profWatch_keepsBindings s _)

end

/-! ### The configuration that one value makes -/

section

variable (s : State) (o i v : Nat)

/-- A value that is no window's changes no window's configuration. -/
theorem changedWins_setReg (other : o / 256 ≠ 0x3600) : s.changedWins (s.setReg o i v) = [] := by
  have reg {a : Nat} (w : Nat) (win : a / 256 = 0x3600) : (s.setReg o i v).reg a w = s.reg a w :=
    reg_setReg_of_ne s o i v fun same => other ((Prod.mk.inj same).1 ▸ win)
  unfold changedWins
  refine List.filter_eq_nil_iff.mpr fun w _ => ?_
  have on : (s.setReg o i v).winOn w = s.winOn w := by rw [winOn, winOn, reg w (by decide)]
  have cfg : (s.setReg o i v).winCfg w = s.winCfg w := by
    unfold winCfg
    simp only [reg w (show Obj.WIN_WAYS / 256 = 0x3600 by decide), reg w (show Obj.WIN_TARGETS / 256 = 0x3600 by decide),
      reg w (show Obj.WIN_PART / 256 = 0x3600 by decide), reg w (show Obj.WIN_HPA_BASE / 256 = 0x3600 by decide),
      reg w (show Obj.WIN_SIZE / 256 = 0x3600 by decide), reg w (show Obj.WIN_GRAN / 256 = 0x3600 by decide),
      reg w (show Obj.WIN_DPA_BASE / 256 = 0x3600 by decide), reg w (show Obj.WIN_ATTR / 256 = 0x3600 by decide)]
  simp [on, cfg]

/-- Where no window is enabled, a value that is no window's enables none. -/
theorem windows_setReg (other : o / 256 ≠ 0x3600) (disabled : s.windows = []) : (s.setReg o i v).windows = [] := by
  unfold windows at disabled ⊢
  rw [List.filterMap_eq_nil_iff] at disabled ⊢
  intro e mem
  have among : e = ((o, i), v) ∨ e ∈ s.regs := by
    change e ∈ Tbl.set s.regs _ _ _ at mem
    unfold Tbl.set at mem
    split at mem
    · exact .inr (Tbl.mem_erase _ _ _ mem).1
    · exact ((Tbl.mem_insert _ _ _).mp mem).imp_right fun old => (Tbl.mem_erase _ _ _ old).1
  rcases among with rfl | old
  · exact if_neg fun win => other (congrArg (· / 256) win.1)
  · exact disabled e old

/-- A stage with one value makes the configuration with that value, where it unbinds no LD of an enabled window. -/
theorem candidate_one (port : o ≠ Obj.LD_PORT) (ldid : o ≠ Obj.LD_LDID)
    (still : s.unbound (s.setReg o i v) [((o, i), v)] = [] ∨ (s.setReg o i v).windows = []) :
    s.candidate [((o, i), v)] = s.setReg o i v := by
  have put : s.putAll [((o, i), v)] = s.setReg o i v := rfl
  have sizes : [((o, i), v)].filterMap (fun e => if e.1.1 = Obj.LD_PORT ∨ e.1.1 = Obj.LD_LDID then some e.1.2 else none) = [] := by
    simp [port, ldid]
  unfold candidate
  dsimp only
  rw [put, sizes]
  rcases still with kept | disabled
  · rw [kept, foldS_unchanged fun w t => if_neg (by simp)]
    rfl
  · rw [disabled]
    rfl

/-- A value that is no gate list's arms none. -/
theorem gclTouched_one (c : State)
    (other : o ∉ [Obj.GCL_ENTRY, Obj.GCL_ENABLE, Obj.GCL_BASE_TIME, Obj.GCL_CYCLE, Obj.GCL_LEN]) :
    gclTouched s c [((o, i), v)] = [] := by
  simp only [List.mem_cons, List.not_mem_nil, or_false, not_or] at other
  obtain ⟨entry, enable, base, cycle, len⟩ := other
  simp [gclTouched, entry, enable, base, cycle, len]

theorem subjects_one : subjects [((o, i), v)] = (subjectOf o).toList := by
  unfold subjects
  cases touched : subjectOf o with
  | none => simp [touched]
  | some u => simp [touched, List.eraseDups_cons]

end

/-! ### The commit of PORT_ENABLE -/

section

variable {s : State} {p h v ld : Nat}

/-- PORT_ENABLE touches no subject: its commit point enables the port (R66, R75). -/
theorem applyStage_portEnable (h : Nat) (off : s.reg Obj.PORT_ENABLE p = 0) :
    s.applyStage h [((Obj.PORT_ENABLE, p), 1)] =
      s.profWatch ((s.setReg Obj.PORT_ENABLE p 1).portEnabled p true).refreshParts.noteMoved := by
  have gone : s.unbound (s.setReg Obj.PORT_ENABLE p 1) [((Obj.PORT_ENABLE, p), 1)] = [] := by simp [unbound]
  have untouched : subjects [((Obj.PORT_ENABLE, p), 1)] = [] := subjects_one _ _ _
  unfold applyStage
  dsimp only
  rw [candidate_one s _ _ _ (by decide) (by decide) (.inl gone), changedWins_setReg _ _ _ _ (by decide),
    gclTouched_one _ _ _ _ _ (by decide), untouched, gone]
  simp [foldS, objectCommit, off]

/-- An enabled port differs in its own record alone: it may start the ladder (R75, R82). -/
theorem portEnabled_true (s : State) (p : Nat) : ∃ x, s.portEnabled p true = s.setPort p x := by
  have again (x y : Port) : (s.setPort p x).setPort p y = s.setPort p y := by
    unfold setPort
    dsimp only
    rw [Tbl.set_set]
  unfold portEnabled startLadder modPort
  dsimp only
  rw [if_pos rfl]
  split
  · exact ⟨_, rfl⟩
  · split
    · exact ⟨_, again _ _⟩
    · exact ⟨_, rfl⟩

end

/-! ### The commit of VPPB_LD -/

section

variable {s : State} {h v ld : Nat}

theorem subjectOf_VPPB_LD : subjectOf Obj.VPPB_LD = some 1 := rfl

/-- VPPB_LD of vPPB `v` has a new value under a new epoch of BIND (R130). -/
def rebound (s : State) (v ld : Nat) : State :=
  (s.setReg Obj.VPPB_LD v ld).setReg Obj.BIND_EPOCH 0 ((s.reg Obj.BIND_EPOCH 0 + 1) % 2 ^ 32)

theorem applyStage_bind (h : Nat) (free : s.reg Obj.VPPB_LD v = 0xFFFF) (new : ld ≠ 0xFFFF) :
    s.applyStage h [((Obj.VPPB_LD, v), ld)] = s.profWatch
      ((((s.rebound v ld).bindVppb v h).dropLease v).takeLease v (s.lop h).owner).refreshParts.noteMoved := by
  have gone : s.unbound (s.setReg Obj.VPPB_LD v ld) [((Obj.VPPB_LD, v), ld)] = [] := by simp [unbound, free]
  have bind : subjects [((Obj.VPPB_LD, v), ld)] = [1] := (subjects_one _ _ _).trans (by rw [subjectOf_VPPB_LD]; rfl)
  unfold applyStage
  dsimp only
  rw [candidate_one s _ _ _ (by decide) (by decide) (.inl gone), changedWins_setReg _ _ _ _ (by decide),
    gclTouched_one _ _ _ _ _ (by decide), bind, gone]
  simp [foldS, objectCommit, free, new.symm, new, rebound, List.eraseDups_cons]

theorem applyStage_unbind (h : Nat) (bound : s.reg Obj.VPPB_LD v ≠ 0xFFFF) (disabled : s.windows = []) :
    s.applyStage h [((Obj.VPPB_LD, v), 0xFFFF)] = s.profWatch
      (((s.rebound v 0xFFFF).unbindVppb v (s.reg Obj.VPPB_LD v) h).dropLease v).refreshParts.noteMoved := by
  have gone : s.unbound (s.setReg Obj.VPPB_LD v 0xFFFF) [((Obj.VPPB_LD, v), 0xFFFF)] = [(v, s.reg Obj.VPPB_LD v)] := by
    simp [unbound, bound, bound.symm]
  have bind : subjects [((Obj.VPPB_LD, v), 0xFFFF)] = [1] := (subjects_one _ _ _).trans (by rw [subjectOf_VPPB_LD]; rfl)
  unfold applyStage
  dsimp only
  rw [candidate_one s _ _ _ (by decide) (by decide) (.inr (windows_setReg _ _ _ _ (by decide) disabled)),
    changedWins_setReg _ _ _ _ (by decide), gclTouched_one _ _ _ _ _ (by decide), bind, gone]
  simp [foldS, objectCommit, bound, rebound, List.eraseDups_cons]

/-- Whether an LD is present rests on ports, routes and what is known of LDs (R125). -/
theorem ldPresent_setReg {o : Nat} (s : State) (i x ld : Nat)
    (other : o ∉ [Obj.LD_PORT, Obj.LD_LDID, Obj.LD_FID, Obj.LD_REMOTE_SIZE, Obj.ROUTE_ENTRY, Obj.HG_COUNT, Obj.HG_MEMBERS]) :
    (s.setReg o i x).ldPresent ld = s.ldPresent ld := by
  have reg {a : Nat} (j : Nat)
      (here : a ∈ [Obj.LD_PORT, Obj.LD_LDID, Obj.LD_FID, Obj.LD_REMOTE_SIZE, Obj.ROUTE_ENTRY, Obj.HG_COUNT, Obj.HG_MEMBERS]) :
      (s.setReg o i x).reg a j = s.reg a j := reg_setReg_of_ne s o i x fun same => other ((Prod.mk.inj same).1 ▸ here)
  have up (p : Nat) : (s.setReg o i x).dlUp p = s.dlUp p := rfl
  unfold ldPresent ldLocal ldReported routeLive groupLive
  simp only [reg _ (show Obj.LD_PORT ∈ _ by decide), reg _ (show Obj.LD_LDID ∈ _ by decide), reg _ (show Obj.LD_FID ∈ _ by decide),
    reg _ (show Obj.LD_REMOTE_SIZE ∈ _ by decide), reg _ (show Obj.ROUTE_ENTRY ∈ _ by decide),
    reg _ (show Obj.HG_COUNT ∈ _ by decide), reg _ (show Obj.HG_MEMBERS ∈ _ by decide), up, fab_setReg]

end

end State

end Sys2Proof.Machine
end

section
/-!
The obligation `FmApiControls`: the CXL FM API commands that stage a value, and Set LD Allocations.
-/

namespace Sys2Proof.Machine

open State

namespace State

/-! ### Bindings -/

section

variable {s t u : State} {ep n h v ld st : Nat}

/-- vPPB `v` names LD `ld` and is in state `st` under a new epoch of BIND, and the links and handles are as they were (R130). -/
structure Rebinds (s t : State) (v ld st : Nat) : Prop extends SameLinks s t where
  ld : t.reg Obj.VPPB_LD v = ld
  state : t.reg Obj.VPPB_STATE v = st
  epoch : t.reg Obj.BIND_EPOCH 0 = (s.reg Obj.BIND_EPOCH 0 + 1) % 2 ^ 32

theorem Rebinds.trans (a : s.Rebinds t v ld st) (k : t.KeepsBindings u) : s.Rebinds u v ld st where
  toSameLinks := a.toSameLinks.trans k.toSameLinks
  ld := (k.regs Obj.VPPB_LD v (by decide) (by decide) (by decide)).trans a.ld
  state := (k.regs Obj.VPPB_STATE v (by decide) (by decide) (by decide)).trans a.state
  epoch := (k.regs Obj.BIND_EPOCH 0 (by decide) (by decide) (by decide)).trans a.epoch

theorem rebound_sameLinks (s : State) (v ld : Nat) : s.SameLinks (s.rebound v ld) :=
  (setReg_sameLinks s _ _ _).trans (setReg_sameLinks _ _ _ _)

theorem bindVppb_sameLinks (s : State) (v h : Nat) : s.SameLinks (s.bindVppb v h) := by
  unfold bindVppb
  dsimp only
  split
  · exact ((setReg_sameLinks s _ _ _).trans (setFab_sameLinks _ _)).trans (emit_sameLinks _ _)
  · exact (setReg_sameLinks s _ _ _).trans (setFab_sameLinks _ _)

theorem unbindVppb_sameLinks (s : State) (v ld h : Nat) : s.SameLinks (s.unbindVppb v ld h) :=
  ((setReg_sameLinks s _ _ _).trans (emit_sameLinks _ _)).trans (setFab_sameLinks _ _)

theorem reg_rebound (s : State) (v ld o i : Nat) : (s.rebound v ld).reg o i =
    if o = Obj.BIND_EPOCH ∧ i = 0 then (s.reg Obj.BIND_EPOCH 0 + 1) % 2 ^ 32
    else if o = Obj.VPPB_LD ∧ i = v then ld else s.reg o i := by
  rw [rebound, reg_setReg, reg_setReg]

theorem reg_bindVppb (here : s.ldPresent (s.reg Obj.VPPB_LD v) = true) (o i : Nat) :
    (s.bindVppb v h).reg o i = if o = Obj.VPPB_STATE ∧ i = v then 2 else s.reg o i := by
  unfold bindVppb
  dsimp only
  rw [here]
  exact reg_setReg s Obj.VPPB_STATE v 2 o i

theorem reg_unbindVppb (s : State) (v ld h o i : Nat) :
    (s.unbindVppb v ld h).reg o i = if o = Obj.VPPB_STATE ∧ i = v then 3 else s.reg o i := reg_setReg s Obj.VPPB_STATE v 3 o i

theorem bindVppb_rebinds (h : Nat) (here : (s.rebound v ld).ldPresent ld = true) :
    s.Rebinds ((s.rebound v ld).bindVppb v h) v ld 2 := by
  have names : (s.rebound v ld).reg Obj.VPPB_LD v = ld := by simp [reg_rebound]
  have reg := reg_bindVppb (s := s.rebound v ld) (v := v) (h := h) (by rwa [names])
  refine ⟨(rebound_sameLinks s v ld).trans (bindVppb_sameLinks _ v h), ?_, ?_, ?_⟩
  · simp [reg, reg_rebound]
  · simp [reg]
  · simp [reg, reg_rebound]

theorem unbindVppb_rebinds (s : State) (v x ld h : Nat) : s.Rebinds ((s.rebound v x).unbindVppb v ld h) v x 3 where
  toSameLinks := (rebound_sameLinks s v x).trans (unbindVppb_sameLinks _ v ld h)
  ld := by simp [reg_unbindVppb, reg_rebound]
  state := by simp [reg_unbindVppb]
  epoch := by simp [reg_unbindVppb, reg_rebound]

/-- The commit point of a bind of a present LD, for which no lease runs (R135, R138). -/
theorem applyStage_bind_rebinds (h : Nat) (free : s.reg Obj.VPPB_LD v = 0xFFFF) (new : ld ≠ 0xFFFF)
    (lease : s.reg Obj.VPPB_LEASE_END v = 0) (here : s.ldPresent ld = true) :
    s.Rebinds (s.applyStage h [((Obj.VPPB_LD, v), ld)]) v ld 2 := by
  have present : (s.rebound v ld).ldPresent ld = true := by
    rw [rebound, ldPresent_setReg _ _ _ _ (by decide), ldPresent_setReg _ _ _ _ (by decide), here]
  have names : (s.rebound v ld).reg Obj.VPPB_LD v = ld := by simp [reg_rebound]
  have dropped := dropLease_keepsBindings ((s.rebound v ld).bindVppb v h) v
  have unleased : (((s.rebound v ld).bindVppb v h).dropLease v).reg Obj.VPPB_LEASE_END v = 0 := by
    rw [dropped.regs _ _ (by decide) (by decide) (by decide), reg_bindVppb (by rwa [names]), reg_rebound]
    simp [lease]
  have untaken : (((s.rebound v ld).bindVppb v h).dropLease v).takeLease v (s.lop h).owner =
      ((s.rebound v ld).bindVppb v h).dropLease v := if_pos unleased
  rw [applyStage_bind h free new, untaken]
  exact ((bindVppb_rebinds h present).trans dropped).trans (settled_keepsBindings s _)

/-- The commit point of an unbind where no window is enabled (R136). -/
theorem applyStage_unbind_rebinds (h : Nat) (bound : s.reg Obj.VPPB_LD v ≠ 0xFFFF) (disabled : s.windows = []) :
    s.Rebinds (s.applyStage h [((Obj.VPPB_LD, v), 0xFFFF)]) v 0xFFFF 3 := by
  rw [applyStage_unbind h bound disabled]
  exact ((unbindVppb_rebinds s v _ _ h).trans (dropLease_keepsBindings _ v)).trans (settled_keepsBindings s _)

/-! ### The answer of a command that stages one value -/

/-- The commit of stage `n` is answered that it has started, and its handle reports to the endpoint (R139). -/
def fmStarted (t : State) (ep n h : Nat) (subs : List Nat) : State :=
  ((t.committed n h subs).fmAnswer ep 1 []).modLop h (fun l => { l with fm := true })

section

variable (t : State) (ep n h : Nat) (subs : List Nat)

theorem pending_fmStarted : (t.fmStarted ep n h subs).pending = t.pending := rfl
theorem mode_fmStarted : (t.fmStarted ep n h subs).mode = t.mode := rfl
theorem sec_fmStarted : (t.fmStarted ep n h subs).sec = t.sec := rfl
theorem link_fmStarted : (t.fmStarted ep n h subs).link = t.link := rfl
theorem out_fmStarted : (t.fmStarted ep n h subs).out = .fmApi ep 1 [] :: t.out := rfl
theorem reg_fmStarted (o i : Nat) : (t.fmStarted ep n h subs).reg o i = t.reg o i := rfl

theorem lop_fmStarted : (t.fmStarted ep n h subs).lop h =
    { t.lop h with st := .committed, commit := t.now, since := t.clk, subjects := subs, fm := true } := by
  have answered : ((t.committed n h subs).fmAnswer ep 1 []).lop h = (t.committed n h subs).lop h := rfl
  rw [fmStarted, modLop, lop_setLop_self, answered, committed, lop_setLop_self]

end

/-- A handle that has not ended reports when it does (R139). -/
theorem fmTrack_unended (unended : (s.lop h).st ≠ .done) : s.fmTrack ep h = s.modLop h (fun l => { l with fm := true }) :=
  if_neg unended

/-- A command whose value touches a subject answers that it has started (R55, R139). -/
theorem fmStageCmd_starts {o i x sub : Nat} (commits : s.CommitsNow ep n h o i x) (number : StagedNumber o x)
    (touches : subjectOf o = some sub) : s.fmStageCmd ep o i x =
      ((s.sealOne ep n h (o, i) x).applyStage h [((o, i), x)]).fmStarted ep n h [sub] := by
  have subs : subjects [((o, i), x)] = [sub] := (subjects_one _ _ _).trans (by rw [touches]; rfl)
  have commit := commitStage_subjects (s := s.sealOne ep n h (o, i) x) (n := n) (h := h) (by rw [entries_sealOne, subs]; rfl)
  rw [entries_sealOne, subs] at commit
  unfold fmStageCmd
  rw [fmStage_commits commits number, commit]
  generalize (s.sealOne ep n h (o, i) x).applyStage h [((o, i), x)] = t
  refine fmTrack_unended ?_
  have answered : ((t.committed n h [sub]).fmAnswer ep 1 []).lop h = (t.committed n h [sub]).lop h := rfl
  rw [answered, committed, lop_setLop_self]
  exact LopSt.noConfusion

/-- A commit that touches no subject has ended at once (R55). -/
theorem commitStage_ended (untouched : subjects (s.stage n).entries = []) :
    s.commitStage n h = ((s.applyStage h (s.stage n).entries).committed n h []).endLop h .done 0 := by
  unfold commitStage commitLop modLop
  dsimp only
  generalize s.applyStage h (s.stage n).entries = t
  rw [untouched, List.isEmpty_nil, if_pos rfl, lop_setStage, lop_setLop_self, setLop_setLop]
  rfl

/-- A handle that has ended is reported at once (R139). -/
theorem fmTrack_ended (ended : (s.lop h).st = .done) : s.fmTrack ep h = s.fmAnswer ep 0 [] := if_pos ended

/-- A command whose value touches no subject answers that it has started and that it is done (R55, R139). -/
theorem fmStageCmd_ends {o i x : Nat} (commits : s.CommitsNow ep n h o i x) (number : StagedNumber o x)
    (untouched : subjectOf o = none) : s.fmStageCmd ep o i x =
      (((((s.sealOne ep n h (o, i) x).applyStage h [((o, i), x)]).committed n h []).endLop h .done 0).fmAnswer ep 1 []).fmAnswer
        ep 0 [] := by
  have subs : subjects [((o, i), x)] = [] := (subjects_one _ _ _).trans (by rw [untouched]; rfl)
  have ended := commitStage_ended (s := s.sealOne ep n h (o, i) x) (n := n) (h := h) (by rw [entries_sealOne, subs])
  rw [entries_sealOne] at ended
  unfold fmStageCmd
  rw [fmStage_commits commits number, ended]
  generalize ((s.sealOne ep n h (o, i) x).applyStage h [((o, i), x)]).committed n h [] = t
  exact fmTrack_ended (congrArg Lop.st (lop_endLop_self t h .done 0))

/-! ### A port enabled -/

/-- Port `p` is enabled, and the handles are as they were. -/
structure Enables (s t : State) (p : Nat) : Prop where
  pending : t.pending = s.pending
  mode : t.mode = s.mode
  sec : t.sec = s.sec
  lops : t.dict.lops = s.dict.lops
  enabled : t.reg Obj.PORT_ENABLE p = 1

theorem applyStage_portEnable_enables {p : Nat} (h : Nat) (off : s.reg Obj.PORT_ENABLE p = 0) :
    s.Enables (s.applyStage h [((Obj.PORT_ENABLE, p), 1)]) p := by
  obtain ⟨x, port⟩ := portEnabled_true (s.setReg Obj.PORT_ENABLE p 1) p
  have kept := settled_keepsBindings s ((s.setReg Obj.PORT_ENABLE p 1).setPort p x)
  rw [applyStage_portEnable h off, port]
  exact ⟨kept.pending, kept.mode, kept.sec, kept.lops,
    (kept.regs Obj.PORT_ENABLE p (by decide) (by decide) (by decide)).trans (reg_setReg_self s Obj.PORT_ENABLE p 1)⟩

/-! ### Sizes of LDs -/

/-- `t` is `s` but for the sizes of LDs on port `p`. -/
structure ResizesOn (s t : State) (p : Nat) : Prop where
  frame : t = { s with regs := t.regs }
  regs : ∀ o i, o ≠ Obj.LD_SIZE → t.reg o i = s.reg o i
  elsewhere : ∀ ld, s.reg Obj.LD_PORT ld ≠ p → t.reg Obj.LD_SIZE ld = s.reg Obj.LD_SIZE ld

theorem takeLdSizes_resizesOn (s : State) (p : Nat) (bound : Bool) : s.ResizesOn (s.takeLdSizes p bound) p := by
  refine foldS_keeps (s.ResizesOn · p) _ (fun ld t kept => ?_) _ s ⟨rfl, fun _ _ _ => rfl, fun _ _ => rfl⟩
  split
  case isTrue sized =>
    have here : s.reg Obj.LD_PORT ld = p := (kept.regs Obj.LD_PORT ld (by decide)).symm.trans sized.1
    generalize (t.ldReported ld).getD 0 = size
    refine ⟨?_, fun o i other => ?_, fun l elsewhere => ?_⟩
    · exact congrArg (fun x : State => { x with regs := (t.setReg Obj.LD_SIZE ld size).regs }) kept.frame
    · rw [reg_setReg_of_ne _ _ _ _ fun same => other (Prod.mk.inj same).1, kept.regs o i other]
    · have other : l ≠ ld := fun same => elsewhere (same ▸ here)
      rw [reg_setReg_of_ne _ _ _ _ fun same => other (Prod.mk.inj same).2, kept.elsewhere l elsewhere]
  case isFalse => exact kept

theorem takeAllocations_eq {port : Nat} {e : EnumResult} (found : s.fab.enumd.get none (port, 0) = some e) (l : List (Nat × Nat)) :
    s.takeAllocations port l = (s.setEnumd port { e with lds := l }).takeLdSizes port false := by
  unfold takeAllocations setEnumd
  rw [found]
  rfl

end

end State

section

variable {s : State} {ep n h v ld st : Nat}

theorem stagedNumber_VPPB_LD (fits : ld < 65536) : StagedNumber Obj.VPPB_LD ld := ⟨by decide, _, rfl, rfl, rfl, fits⟩

theorem stagedNumber_PORT_ENABLE : StagedNumber Obj.PORT_ENABLE 1 := ⟨by decide, _, rfl, rfl, rfl, by decide⟩

/-- A command that stages VPPB_LD answers that its handle, committed, reports to the endpoint (R135, R136, R139). -/
theorem onFm_rebinds {f : State → State} (serves : s.ServesFm ep) (fits : ld < 65536)
    (stages : f s = s.fmStageCmd ep Obj.VPPB_LD v ld) (commits : s.CommitsNow ep n h Obj.VPPB_LD v ld)
    (rebinds : (s.sealOne ep n h (Obj.VPPB_LD, v) ld).Rebinds
      ((s.sealOne ep n h (Obj.VPPB_LD, v) ld).applyStage h [((Obj.VPPB_LD, v), ld)]) v ld st) :
    ∃ u : State, onFm ep s f = .next u ∧ u.reg Obj.VPPB_LD v = ld ∧ u.reg Obj.VPPB_STATE v = st ∧
      u.reg Obj.BIND_EPOCH 0 = (s.reg Obj.BIND_EPOCH 0 + 1) % 2 ^ 32 ∧ (u.lop h).st = .committed ∧ (u.lop h).owner = ep ∧
      (u.lop h).fm = true ∧ u.out.take 1 = [.fmApi ep 1 []] ∧ u.link = s.link := by
  have answer := stages.trans (fmStageCmd_starts commits (stagedNumber_VPPB_LD fits) subjectOf_VPPB_LD)
  have sealedLop := lop_sealOne (s := s) (ep := ep) (n := n) (h := h) (v := ld) (Obj.VPPB_LD, v)
  generalize (s.sealOne ep n h (Obj.VPPB_LD, v) ld).applyStage h [((Obj.VPPB_LD, v), ld)] = t at rebinds answer
  have handle : t.lop h = _ := (rebinds.lop h).trans sealedLop
  refine ⟨_, onFm_eq_next serves answer ?_ ?_ ?_, ?_, ?_, ?_, ?_, ?_, ?_, ?_, ?_⟩
  · exact (pending_fmStarted ..).trans rebinds.pending
  · exact (mode_fmStarted ..).trans rebinds.mode
  · exact (sec_fmStarted ..).trans rebinds.sec
  · exact (reg_fmStarted ..).trans rebinds.ld
  · exact (reg_fmStarted ..).trans rebinds.state
  · exact (reg_fmStarted ..).trans rebinds.epoch
  · rw [lop_fmStarted]
  · rw [lop_fmStarted, handle]
    rfl
  · rw [lop_fmStarted]
  · rw [out_fmStarted]
    rfl
  · exact (link_fmStarted ..).trans rebinds.link

theorem exec_physicalPortControl (p : Nat) (o : PortOp) :
    exec (.physicalPortControl ep p o) s = execPhysicalPortControl ep p o s := rfl

/-- Deassert PERST enables a disabled port, and its handle has ended (R66, R75, R139). -/
theorem exec_deassertPerst {p : Nat} (serves : s.ServesFm ep) (commits : s.CommitsNow ep n h Obj.PORT_ENABLE p 1)
    (off : s.reg Obj.PORT_ENABLE p = 0) :
    ∃ u : State, exec (.physicalPortControl ep p .deassertPerst) s = .next u ∧ u.reg Obj.PORT_ENABLE p = 1 ∧ (u.lop h).st = .done ∧
      (u.lop h).kind = 1 ∧ (u.lop h).owner = ep ∧ u.out.take 2 = [.fmApi ep 0 [], .fmApi ep 1 []] := by
  have answer := fmStageCmd_ends commits stagedNumber_PORT_ENABLE rfl
  have sealedLop := lop_sealOne (s := s) (ep := ep) (n := n) (h := h) (v := 1) (Obj.PORT_ENABLE, p)
  have enables := applyStage_portEnable_enables (s := s.sealOne ep n h (Obj.PORT_ENABLE, p) 1) h off
  generalize (s.sealOne ep n h (Obj.PORT_ENABLE, p) 1).applyStage h [((Obj.PORT_ENABLE, p), 1)] = t at answer enables
  have handle : t.lop h = _ := (congrArg (Tbl.get · lopDflt (h, 0)) enables.lops).trans sealedLop
  have ended := lop_endLop_self (t.committed n h []) h .done 0
  have kept := endLop_endsMoves (t.committed n h []) h .done 0
  generalize (t.committed n h []).endLop h .done 0 = w at answer ended kept
  have owner : (w.lop h).kind = (t.lop h).kind ∧ (w.lop h).owner = (t.lop h).owner := by
    rw [ended, endedLop, committed, lop_setLop_self]
    exact ⟨rfl, rfl⟩
  refine ⟨(w.fmAnswer ep 1 []).fmAnswer ep 0 [], ?_, ?_, ?_, ?_, ?_, rfl⟩
  · rw [exec_physicalPortControl]
    exact onFm_eq_next serves answer (kept.frame.pending.trans enables.pending) (kept.frame.mode.trans enables.mode)
      (kept.frame.sec.trans enables.sec)
  · exact (kept.regs Obj.PORT_ENABLE p (by decide) (by decide) (by decide)).trans enables.enabled
  · exact congrArg Lop.st ended
  · exact owner.1.trans (congrArg Lop.kind handle)
  · exact owner.2.trans (congrArg Lop.owner handle)

/-- Bind vPPB of a present LD (R135, R139). -/
theorem exec_bindVppb {part k port ldid : Nat} (serves : s.ServesFm ep) (known : s.ldOf port ldid = some ld) (small : ld < 320)
    (hpart : part < 64) (hk : k < 64) (free : s.reg Obj.VPPB_LD (64 * part + k) = 0xFFFF)
    (lease : s.reg Obj.VPPB_LEASE_END (64 * part + k) = 0) (here : s.ldPresent ld = true)
    (commits : s.CommitsNow ep n h Obj.VPPB_LD (64 * part + k) ld) :
    ∃ u : State, exec (.bindVppb ep part k port ldid) s = .next u ∧ u.reg Obj.VPPB_LD (64 * part + k) = ld ∧
      u.reg Obj.VPPB_STATE (64 * part + k) = 2 ∧ u.reg Obj.BIND_EPOCH 0 = (s.reg Obj.BIND_EPOCH 0 + 1) % 2 ^ 32 ∧
      (u.lop h).st = .committed ∧ (u.lop h).owner = ep ∧ (u.lop h).fm = true ∧ u.out.take 1 = [.fmApi ep 1 []] ∧
      u.link = s.link := by
  have command : exec (.bindVppb ep part k port ldid) s = execBindVppb ep part k port ldid s := rfl
  have rebinds := applyStage_bind_rebinds (s := s.sealOne ep n h (Obj.VPPB_LD, 64 * part + k) ld) h ((reg_sealOne ..).trans free)
    (by omega) ((reg_sealOne ..).trans lease) ((ldPresent_sealOne ..).trans here)
  rw [command]
  refine onFm_rebinds serves (by omega) ?_ commits rebinds
  rw [known]
  exact if_pos ⟨hpart, hk⟩

theorem exec_unbindVppb (part k : Nat) : exec (.unbindVppb ep part k) s = onFm ep s (fun t =>
    if part < 64 ∧ k < 64 then t.fmStageCmd ep Obj.VPPB_LD (64 * part + k) 0xFFFF else t.fmRefuse ep Ab.OBJ_ABSENT) := rfl

/-- Set LD Allocations takes what the device reports (R125, R139). -/
theorem exec_setLdAllocations {port : Nat} {payload response : List Byte} {allocs : List (Nat × Nat)} {e : EnumResult}
    (serves : s.ServesFm ep) (there : s.mldOn port = true) (found : s.fab.enumd.get none (port, 0) = some e) :
    ∃ u : State, exec (.setLdAllocations ep port payload response allocs) s = .next (u.emit (.fmApi ep 0 response)) ∧
      u.fab.enumd.get none (port, 0) = some { e with lds := allocs } ∧
      (∀ o i, o ≠ Obj.LD_SIZE → u.reg o i = s.reg o i) ∧
      (∀ ld, s.reg Obj.LD_PORT ld ≠ port → u.reg Obj.LD_SIZE ld = s.reg Obj.LD_SIZE ld) ∧
      u.link = s.link ∧ u.coh = s.coh ∧ u.dict = s.dict := by
  have sizes := takeLdSizes_resizesOn ((s.emit (.fmDevice port 0x5402 payload)).setEnumd port { e with lds := allocs }) port false
  have taken := takeAllocations_eq (s := s.emit (.fmDevice port 0x5402 payload)) found allocs
  rw [← taken] at sizes
  have answer := fmPass_there (ep := ep) (code := 0x5402) (payload := payload) (response := response)
    (fun u => u.takeAllocations port allocs) there
  generalize State.takeAllocations _ port allocs = u at sizes answer
  refine ⟨u, ?_, ?_, sizes.regs, sizes.elsewhere, ?_, ?_, ?_⟩
  · change execSetLdAllocations ep port payload response allocs s = _
    refine onFm_eq_next serves answer ?_ ?_ ?_ <;> (rw [sizes.frame]; rfl)
  · rw [sizes.frame]
    exact enumd_setEnumd_self _ _ _
  all_goals
    rw [sizes.frame]
    rfl

/-- Where no stage is free a command that stages a value is refused (R51, R139). -/
theorem fmStageCmd_refused {o i x : Nat} (full : s.freeStage = none) :
    s.fmStageCmd ep o i x = s.emit (.fmApi ep (Config.fmApiCode Ab.BUSY) []) := by
  unfold fmStageCmd fmStage
  rw [full]
  rfl

end

/-- Settles O20: a port enabled, an LD bound and unbound, the allocations of a device, and the refusal where no stage is free. -/
theorem fmApiControls : Obligations.FmApiControls := by
  unfold Obligations.FmApiControls
  refine ⟨?_, ?_, ?_, ?_, ?_⟩
  · intro s ep p n h serves commits off _
    exact exec_deassertPerst serves commits off
  · intro s ep part k port ldid ld n h serves known small hpart hk free lease here commits
    exact exec_bindVppb serves known small hpart hk free lease here commits
  · intro s ep part k n h serves hpart hk bound commits disabled
    have rebinds := applyStage_unbind_rebinds (s := s.sealOne ep n h (Obj.VPPB_LD, 64 * part + k) 0xFFFF) h
      (fun same => bound ((reg_sealOne ..).symm.trans same)) ((windows_sealOne ..).trans disabled)
    rw [exec_unbindVppb]
    exact onFm_rebinds serves (by decide) (if_pos ⟨hpart, hk⟩) commits rebinds
  · intro s ep port payload response allocs e serves there found
    exact exec_setLdAllocations serves there found
  · intro s ep part k serves hpart hk full
    rw [exec_unbindVppb]
    exact onFm_eq_next serves ((if_pos ⟨hpart, hk⟩).trans (fmStageCmd_refused full)) rfl rfl rfl

end Sys2Proof.Machine
end

section
/-!
The obligation `DirectAccess`: the end of an access of the debug master, and the completion that claims its tracking entry.
-/

namespace Sys2Proof.Machine

open State

namespace State

/-! ### What leaves the objects and the security state alone -/

/-- A step keeps the queue, the mode, the security state and every object. -/
def KeepsObjects (s t : State) : Prop := s.KeepsCourse t ∧ t.regs = s.regs

section

variable {s t u : State}

theorem KeepsObjects.refl (s : State) : s.KeepsObjects s := ⟨⟨rfl, rfl, rfl⟩, rfl⟩

theorem KeepsObjects.trans (h : s.KeepsObjects t) (k : t.KeepsObjects u) : s.KeepsObjects u :=
  ⟨h.1.trans k.1, k.2.trans h.2⟩

theorem returnCredit_keepsObjects (s : State) (p n : Nat) : s.KeepsObjects (s.returnCredit p n) := by
  refine ⟨?_, regs_returnCredit s p n⟩
  unfold returnCredit
  split
  · exact ⟨rfl, rfl, rfl⟩
  · split
    · exact ⟨rfl, rfl, rfl⟩
    · unfold sendCredit
      split <;> exact ⟨rfl, rfl, rfl⟩

theorem dropCpl_keepsObjects (s : State) (p cls : Nat) (x : CplIn) : s.KeepsObjects (s.dropCpl p cls x) := by
  unfold dropCpl
  dsimp only
  refine .trans ?_ (returnCredit_keepsObjects _ _ _)
  split <;> exact ⟨⟨rfl, rfl, rfl⟩, rfl⟩

theorem noteMoved_keepsObjects (s : State) : s.KeepsObjects s.noteMoved := by
  refine foldS_keeps s.KeepsObjects _ (fun e t kept => ?_) _ _ (.refl s)
  split
  · split
    · exact kept.trans ⟨⟨rfl, rfl, rfl⟩, rfl⟩
    · exact kept
  · exact kept

theorem freeRtt_keepsObjects (s : State) (n : Nat) : s.KeepsObjects (s.freeRtt n) :=
  .trans ⟨⟨rfl, rfl, rfl⟩, rfl⟩ (noteMoved_keepsObjects _)

theorem markDirty_keepsObjects (s : State) (home : Nat) : s.KeepsObjects (s.markDirty home) := by
  unfold markDirty
  split <;> exact ⟨⟨rfl, rfl, rfl⟩, rfl⟩

end

/-! ### A completion for an internal requester -/

section

variable {s : State} {p : Nat} {x : CplIn} {e : Rtt} {a : DmAccess}

/-- The access of the debug master `a` with what came back for it (R348). -/
def answered (s : State) (a : DmAccess) (poison : Bool) (data : List Byte) : State :=
  s.setSec { s.sec with dm := some { a with got := some (poison, data) } }

/-- A completion for the message of the open access is the access's (R348). -/
theorem innerBack_debugMaster {m : Msg} (error poison : Bool) (data : List Byte) (other : m.rq < 320 ∨ 336 ≤ m.rq)
    (dm : s.sec.dm = some a) (uid : a.uid = m.uid) : s.innerBack 0 error poison m data = s.answered a poison data := by
  unfold innerBack
  rw [if_neg (by omega), dm]
  dsimp only
  rw [if_pos uid]
  rfl

/-- The class in which a completion arrives (R145). -/
def cplClass (s : State) (p : Nat) (x : CplIn) : Nat := s.classOf p x.chan (((s.nextFlit p).map (·.fclass)).getD 0)

/-- A completion has claimed the entry of an internal requester: its cells are dropped, a write marks its granule, and the entry is free
(R157, R238). -/
def claimedInner (s : State) (p : Nat) (x : CplIn) (e : Rtt) : State :=
  ((if x.write || isWrite e.msg.op then s.markDirty e.msg.home else s).dropCpl p (s.cplClass p x) x).freeRtt x.entry

theorem claimedInner_keepsObjects (s : State) (p : Nat) (x : CplIn) (e : Rtt) : s.KeepsObjects (s.claimedInner p x e) := by
  refine .trans (.trans ?_ (dropCpl_keepsObjects _ _ _ _)) (freeRtt_keepsObjects _ _)
  split
  · exact markDirty_keepsObjects s _
  · exact .refl s

/-- On a CXL-mode port a completion that claims the entry of an internal requester goes to that requester (R157, R262, R348). -/
theorem completionIn_inner (trk : x.isTrk = false) (up : s.dlUp p = true) (cxl : s.drudar p = false)
    (idle : s.inMsg p (s.cplClass p x) = none) (entry : s.rtt x.entry = some e) (unclaimed : e.claimed = false)
    (unanswered : e.synth = false) (here : e.egress = p) (owned : e.orphan = false) (inner : e.msg.internal = true) :
    s.completionIn p x = (s.claimedInner p x e).innerBack 0 x.error x.poison e.msg x.data := by
  have taken : (s.takeFlit p).cutShort p (s.cplClass p x) = s := by
    rw [cutShort_none idle, takeFlit, cxl]
    rfl
  rw [cplClass] at taken
  unfold completionIn
  dsimp only
  rw [if_neg (by simp [up, cxl, trk]), taken, trk, if_neg (by decide), entry]
  dsimp only
  rw [if_neg (by simp [unclaimed, unanswered, here]), owned, cxl, inner]
  rfl

end

/-! ### The data of a read -/

/-- A read that Flint refuses in no part holds what came back (R261). -/
theorem dmFill_whole (data : List Byte) : dmFill [(data.length, 0)] data = data := by
  simp [dmFill]

end State

section

variable {s : State}

theorem exec_dmAccessEnd (s : State) : exec (.dmAccessEnd () () ()) s = steady s dmEnd := rfl

/-- With no access open the command changes nothing (R348). -/
theorem exec_dmAccessEnd_none (dm : s.sec.dm = none) : exec (.dmAccessEnd () () ()) s = .next s := by
  rw [exec_dmAccessEnd]
  refine steady_eq_next ?_ rfl rfl rfl
  rw [dmEnd, dm]

/-- An access ends with what came back for it (R348). -/
theorem exec_dmAccessEnd_got {a : DmAccess} {poison : Bool} {data : List Byte} (dm : s.sec.dm = some a)
    (got : a.got = some (poison, data)) : exec (.dmAccessEnd () () ()) s = .next
      ((s.setSec { s.sec with dm := none, dmData := if a.write then s.sec.dmData else dmFill a.parts data }).setReg Obj.DM_STATUS 0
        (dmStatus 2 a.parts poison)) := by
  rw [exec_dmAccessEnd]
  refine steady_eq_next ?_ rfl rfl rfl
  rw [dmEnd, dm]
  dsimp only
  rw [got]

/-- An access that has been issued, and for which nothing has come back in DIR_TIMEOUT, fails (R348). -/
theorem exec_dmAccessEnd_timeout {a : DmAccess} (dm : s.sec.dm = some a) (got : a.got = none) (issued : a.held = none)
    (late : s.after a.at_ (s.reg Obj.DIR_TIMEOUT 0 * 1000) = true) : exec (.dmAccessEnd () () ()) s = .next
      ((s.setSec { s.sec with dm := none }).setReg Obj.DM_STATUS 0 (dmStatus 3 a.parts false)) := by
  rw [exec_dmAccessEnd]
  refine steady_eq_next ?_ rfl rfl rfl
  rw [dmEnd, dm]
  dsimp only
  rw [got]
  exact if_pos ⟨by rw [issued]; rfl, late⟩

/-- An access waits for its completion while it has not been issued or DIR_TIMEOUT has not passed (R295, R348). -/
theorem exec_dmAccessEnd_waits {a : DmAccess} (dm : s.sec.dm = some a) (got : a.got = none)
    (waits : a.held ≠ none ∨ s.after a.at_ (s.reg Obj.DIR_TIMEOUT 0 * 1000) = false) : exec (.dmAccessEnd () () ()) s = .next s := by
  rw [exec_dmAccessEnd]
  refine steady_eq_next ?_ rfl rfl rfl
  rw [dmEnd, dm]
  dsimp only
  rw [got]
  refine if_neg ?_
  rintro ⟨issued, late⟩
  rcases waits with held | early
  · exact held (Option.isNone_iff_eq_none.mp issued)
  · rw [early] at late
    cases late

/-- The completion that claims the access's entry brings its answer, and leaves DM_STATUS to the end of the access (R262, R348). -/
theorem exec_completionRx_debugMaster {p : Nat} {x : CplIn} {e : Rtt} {a : DmAccess} (hp : p < 256) (trk : x.isTrk = false)
    (up : s.dlUp p = true) (cxl : s.drudar p = false) (idle : s.inMsg p (s.cplClass p x) = none) (entry : s.rtt x.entry = some e)
    (unclaimed : e.claimed = false) (unanswered : e.synth = false) (here : e.egress = p) (owned : e.orphan = false)
    (inner : e.msg.internal = true) (other : e.msg.rq < 320 ∨ 336 ≤ e.msg.rq) (dm : s.sec.dm = some a) (uid : a.uid = e.msg.uid) :
    exec (.completionRx p x) s = .next ((s.claimedInner p x e).answered a x.poison x.data) := by
  obtain ⟨⟨pending, mode, sec⟩, -⟩ := claimedInner_keepsObjects s p x e
  have answer := innerBack_debugMaster x.error x.poison x.data other ((congrArg SecSt.dm sec).trans dm) uid
  have fuse : (s.claimedInner p x e).sec.fuse = s.sec.fuse := congrArg SecSt.fuse sec
  exact onUnit_eq_next (f := fun t => t.completionIn p x) hp
    ((completionIn_inner trk up cxl idle entry unclaimed unanswered here owned inner).trans answer) pending mode fuse

end

/-- Settles O38: each end of an access of the debug master, and the completion that it waits for. -/
theorem directAccess : Obligations.DirectAccess := by
  unfold Obligations.DirectAccess
  refine ⟨?_, ?_, ?_, ?_, ?_, ?_, ?_, ?_⟩
  · intro s dm
    exact exec_dmAccessEnd_none dm
  · intro s poison data a dm read got
    rw [exec_dmAccessEnd_got dm got, read]
    rfl
  · rintro _ data rfl
    exact dmFill_whole data
  · intro s poison data a dm write got
    rw [exec_dmAccessEnd_got dm got, write]
    rfl
  · intro s a dm got issued late
    exact exec_dmAccessEnd_timeout dm got issued late
  · intro s a dm got held
    exact exec_dmAccessEnd_waits dm got (.inl held)
  · intro s a dm got early
    exact exec_dmAccessEnd_waits dm got (.inr early)
  · intro s p x e a hp trk up cxl idle entry unclaimed unanswered here owned inner other dm uid
    obtain ⟨-, regs⟩ := claimedInner_keepsObjects s p x e
    exact ⟨_, exec_completionRx_debugMaster hp trk up cxl idle entry unclaimed unanswered here owned inner other dm uid, rfl,
      congrArg (Tbl.get · _ _) regs⟩

end Sys2Proof.Machine
end

section
/-!
The obligation `EgressAndGates` fails: no premise of its first clause keeps the head message of class 7 from being an internal
requester's. The cell that it frees is then one of the system reserve, and a request that waited for the reserve takes the descriptor
in the same decision (R148).
-/

namespace Sys2Proof.Machine

open State

/-- What an egress decision makes of a descriptor is what its step makes of it. -/
theorem desc_of_egressDecision {s u : State} {p : Nat} {ecc : Bool} (hp : p < 256) (runs : exec (.egressDecision p ecc) s = .next u)
    (d : Nat) : u.desc d = (s.egressStep p ecc).desc d := by
  change onUnit p 256 s (fun t => t.egressStep p ecc) = _ at runs
  rw [onUnit_eq _ _ hp, steady_next] at runs
  cases runs
  rfl

/-- A request of an internal requester for port `q`, in class `c`. -/
def innerRequest (q c : Nat) : Msg := { msgDflt with egress := q, cls := c }

/-- Its descriptor; its one cell is `n`. -/
def innerDesc (n q c : Nat) : Desc :=
  { first := n, lastCell := n, len := 1, complete := true, mcast := false, ct := true, started := false, got := 1, sent := 0
    ended := false, enq := 0, closed := 0, msg := innerRequest q c }

/-- Its cell, of the system reserve (R148). -/
def innerCell (q c : Nat) : Cell :=
  { next := noCell, refcnt := 1, stomp := false, last := true, eccBad := false, shared := false, sys := true, port := 0xFF
    cls := c, unit := chanIndex .memReq, queue := 8 * q + c, data := [] }

/-- Port 16 is in L0 at 64 GT/s and 16 lanes. Requests of internal requesters fill the system reserve of 2 048 cells, one in class 7 and
the others in class 2, and one more in class 2 waits for the reserve. -/
def reserveFull : State :=
  let up : Port := { portDflt with st := .l0, dlUp := true }
  let s := (((State.reset.setPort 16 up).setReg Obj.PORT_SPEED 16 6).setReg Obj.PORT_ACTIVE_WIDTH 16 16).setReg Obj.BUF_RSV_SYS 0 2048
  let others := List.range' 1 2047
  { s with mode := .active, fab := { s.fab with
      cells := ((0, 0), some (innerCell 16 7)) :: others.map fun n => ((n, 0), some (innerCell 16 2))
      descs := ((0, 0), some (innerDesc 0 16 7)) :: others.map fun n => ((n, 0), some (innerDesc n 16 2))
      queues := [((16, 2), others), ((16, 7), [0])]
      sysWait := [innerRequest 16 2] } }

/-- The reserve has no room for the request that waits. -/
theorem sysUsed_reserveFull : reserveFull.sysUsed = reserveFull.reg Obj.BUF_RSV_SYS 0 := by decide +kernel

/-- Port 16 may send, and nothing but its queues decides what. -/
theorem reserveFull_sends : reserveFull.drudar 16 = false ∧ reserveFull.sending 16 = true ∧
    (reserveFull.egr 16).nextAt ≤ reserveFull.clk ∧ (reserveFull.egr 16).cur = 8 ∧ (reserveFull.egr 16).gclOn = false ∧
    (reserveFull.egr 16).pendOn = false ∧ reserveFull.reg Obj.CBS_IDLE_SLOPE 16 = 0 ∧ reserveFull.synth 16 = [] := by decide +kernel

/-- Class 7 of port 16 holds the whole message of descriptor 0 alone. -/
theorem reserveFull_head : reserveFull.queue 16 7 = [0] ∧ reserveFull.desc 0 = some (innerDesc 0 16 7) ∧
    reserveFull.cell (innerDesc 0 16 7).first = some (innerCell 16 7) := by decide +kernel

/-- The decision sends that message, and descriptor 0 is then that of the request which waited. -/
theorem desc_egressStep_reserveFull : ((reserveFull.egressStep 16 false).desc 0).map (·.msg) = some (innerRequest 16 2) := by
  decide +kernel

/-- Refutes O32: in `reserveFull` descriptor 0 is in use again after the last cell of its message. -/
theorem not_egressAndGates : ¬ Obligations.EgressAndGates := by
  unfold Obligations.EgressAndGates
  rintro ⟨clause, -⟩
  obtain ⟨cxl, sends, due, between, noGates, noSwap, unshaped, noAnswer⟩ := reserveFull_sends
  obtain ⟨queue, desc, cell⟩ := reserveFull_head
  obtain ⟨u, runs, -, free, -⟩ := clause reserveFull 16 0 [] (innerDesc 0 16 7) (innerCell 16 7) (by decide) cxl sends due between
    noGates noSwap unshaped queue desc rfl rfl rfl rfl rfl rfl cell noAnswer
  have taken := desc_egressStep_reserveFull
  rw [← desc_of_egressDecision (by decide) runs, free] at taken
  cases taken

end Sys2Proof.Machine
end

section
/-!
The obligation `PlacementTellsLinesApart`: the line number can be read back from its set and its tag (R189).
-/

namespace Sys2Proof.Machine

/-- h of R189 for line number `l`. -/
def lineHash (l : Nat) : Nat := (l % 8) ^^^ (l / 64 % 8) ^^^ (l / 32768 % 8)

theorem place_eq (k a : Nat) :
    place k a = (lineHash (a / 64 % 2 ^ 43) % k, a / 64 % 2 ^ 43 / 8 % 6291456,
      lineHash (a / 64 % 2 ^ 43) * 2 ^ 18 + a / 64 % 2 ^ 43 / 8 / 6291456) := rfl

theorem lineHash_lt (l : Nat) : lineHash l < 8 := by
  have low (n : Nat) : n % 8 < 2 ^ 3 := Nat.mod_lt n (by decide)
  exact Nat.xor_lt_two_pow (Nat.xor_lt_two_pow (low _) (low _)) (low _)

/-- The bits of a line number from 3 on fix what its lowest three add to h. -/
theorem eq_of_lineHash_eq {l m : Nat} (high : l / 8 = m / 8) (hash : lineHash l = lineHash m) : l = m := by
  have near : l / 64 = m / 64 := by omega
  have far : l / 32768 = m / 32768 := by omega
  have low : l % 8 = m % 8 := by
    unfold lineHash at hash
    rwa [near, far, Nat.xor_left_inj, Nat.xor_left_inj] at hash
  omega

/-- The quotient of R189 fits below h in a tag. -/
theorem lineQuotient_lt {l : Nat} (small : l < 2 ^ 43) : l / 8 / 6291456 < 2 ^ 18 := by omega

/-- Settles O60: the tag gives h and the quotient, the quotient and the set give the line number but for its lowest three bits, and
h gives those. -/
theorem placementTellsLinesApart : Obligations.PlacementTellsLinesApart := by
  unfold Obligations.PlacementTellsLinesApart
  have small (a : Nat) : a / 64 % 2 ^ 43 < 2 ^ 43 := Nat.mod_lt _ (by decide)
  refine ⟨fun k a b same => ?_, fun k a some => ?_⟩
  · rw [place_eq, place_eq] at same
    have qa := lineQuotient_lt (small a)
    have qb := lineQuotient_lt (small b)
    generalize a / 64 % 2 ^ 43 = l at *
    generalize b / 64 % 2 ^ 43 = m at *
    obtain ⟨-, set, tag⟩ := Prod.mk.inj same |>.imp_right Prod.mk.inj
    have hash : lineHash l = lineHash m := by omega
    exact eq_of_lineHash_eq (by omega) hash
  · rw [place_eq]
    have hash := lineHash_lt (a / 64 % 2 ^ 43)
    have quotient := lineQuotient_lt (small a)
    exact ⟨Nat.mod_lt _ some, Nat.mod_lt _ (by decide), by dsimp only; omega⟩

end Sys2Proof.Machine
end

section
/-!
SUPPORT. What the switching core leaves alone as it moves the messages that Cairn sends, answers or drops (R12, R147, R148, R154, R160,
R199), and what a live move that such an answer fails leaves alone (R244).
-/

namespace Sys2Proof.Machine

namespace State

/-! ### Cells and queues -/

/-- `t` is `s` but for cells, descriptors, queues, credits, messages that wait for the system reserve, and notes on moved
destinations and moved lines. -/
structure MovesCells (s t : State) : Prop where
  pending : t.pending = s.pending
  mode : t.mode = s.mode
  sec : t.sec = s.sec
  regs : t.regs = s.regs
  time : t.time = s.time
  coh : t.coh = s.coh
  ports : t.link.ports = s.link.ports
  rtt : t.fab.rtt = s.fab.rtt
  synth : t.fab.synth = s.fab.synth
  hold : t.fab.hold = s.fab.hold
  walks : t.fab.walks = s.fab.walks

namespace MovesCells

variable {s t u : State}

theorem refl (s : State) : s.MovesCells s := ⟨rfl, rfl, rfl, rfl, rfl, rfl, rfl, rfl, rfl, rfl, rfl⟩

theorem trans (h : s.MovesCells t) (k : t.MovesCells u) : s.MovesCells u where
  pending := k.pending.trans h.pending
  mode := k.mode.trans h.mode
  sec := k.sec.trans h.sec
  regs := k.regs.trans h.regs
  time := k.time.trans h.time
  coh := k.coh.trans h.coh
  ports := k.ports.trans h.ports
  rtt := k.rtt.trans h.rtt
  synth := k.synth.trans h.synth
  hold := k.hold.trans h.hold
  walks := k.walks.trans h.walks

theorem foldS {α : Type} {f : α → State → State} (h : ∀ a (t : State), t.MovesCells (f a t)) (l : List α) (s : State) :
    s.MovesCells (foldS f l s) :=
  foldS_keeps s.MovesCells f (fun a t kept => kept.trans (h a t)) l s (refl s)

theorem withFab {x : FabSt} (h : s.MovesCells t) (rtt : x.rtt = t.fab.rtt) (synth : x.synth = t.fab.synth) (hold : x.hold = t.fab.hold)
    (walks : x.walks = t.fab.walks) : s.MovesCells { t with fab := x } :=
  { h with rtt := rtt.trans h.rtt, synth := synth.trans h.synth, hold := hold.trans h.hold, walks := walks.trans h.walks }

theorem keepsCourse (h : s.MovesCells t) : s.KeepsCourse t := ⟨h.pending, h.mode, h.sec⟩

theorem reg (h : s.MovesCells t) (o i : Nat) : t.reg o i = s.reg o i := by rw [State.reg, h.regs, State.reg]

theorem dlUp (h : s.MovesCells t) (p : Nat) : t.dlUp p = s.dlUp p := by
  unfold State.dlUp port
  rw [h.ports]

end MovesCells

section

variable (s : State)

theorem setCell_movesCells (i : Nat) (c : Option Cell) : s.MovesCells (s.setCell i c) := by constructor <;> rfl

theorem setDesc_movesCells (d : Nat) (x : Option Desc) : s.MovesCells (s.setDesc d x) := by constructor <;> rfl

theorem setQueue_movesCells (p c : Nat) (l : List Nat) : s.MovesCells (s.setQueue p c l) := by constructor <;> rfl

theorem setInMsg_movesCells (p c : Nat) (x : Option InMsg) : s.MovesCells (s.setInMsg p c x) := by constructor <;> rfl

theorem setDru_movesCells (p : Nat) (x : Dru) : s.MovesCells (s.setDru p x) := by constructor <;> rfl

theorem accrue_movesCells (p : Nat) : s.MovesCells (s.accrue p) := by
  unfold accrue
  dsimp only
  split
  · exact .refl s
  · constructor <;> rfl

theorem sendCredit_movesCells (p u : Nat) : s.MovesCells (s.sendCredit p u) := by
  unfold sendCredit
  split <;> constructor <;> rfl

theorem returnCredit_movesCells (p u : Nat) : s.MovesCells (s.returnCredit p u) := by
  unfold returnCredit
  split
  · exact .refl s
  · split
    · constructor <;> rfl
    · exact sendCredit_movesCells s p u

theorem settleCredits_movesCells (p : Nat) : s.MovesCells (s.settleCredits p) := by
  refine .foldS (fun e t => ?_) _ s
  split
  · exact .refl t
  · refine .trans ?_ (.foldS (fun _ v => sendCredit_movesCells v p e.1) _ _)
    constructor <;> rfl

theorem takeFlit_movesCells (p : Nat) : s.MovesCells (s.takeFlit p) := by
  unfold takeFlit
  split
  · exact setDru_movesCells s p _
  · exact .refl s

/-- A flit that the GT9 consumes gives its credit back (R147). -/
theorem consumeFlit_movesCells {s v : State} {p : Nat} {ch : Chan} {stomp : Bool} (h : s.consumeFlit p ch = some (stomp, v)) :
    s.MovesCells v := by
  unfold consumeFlit at h
  split at h
  · cases h
  · split at h
    · split at h
      · cases h
        exact (takeFlit_movesCells s p).trans (returnCredit_movesCells _ _ _)
      · cases h
    · cases h
      exact returnCredit_movesCells s _ _

theorem tryShare_movesCells (i : Nat) : s.MovesCells (s.tryShare i) := by
  unfold tryShare
  split
  · exact .refl s
  · split
    · exact .refl s
    · split
      · exact (setCell_movesCells s _ _).trans (returnCredit_movesCells _ _ _)
      · exact .refl s

theorem newCell_movesCells (c : Cell) (prev : Nat) : s.MovesCells (s.newCell c prev).2 := by
  unfold newCell
  dsimp only
  split
  · split
    · exact setCell_movesCells s _ _
    · exact (setCell_movesCells s _ _).trans (setCell_movesCells _ _ _)
  · exact setCell_movesCells s _ _

theorem appendDesc_movesCells (m : Msg) (ch : Chain) : s.MovesCells (s.appendDesc m ch) := by
  unfold appendDesc
  dsimp only
  refine .withFab (.trans (t := State.setQueue (State.setDesc _ _ _) _ _ _) ?_ (.foldS (fun i t => ?_) _ _)) rfl rfl rfl rfl
  · refine .trans (.trans ?_ (setDesc_movesCells _ _ _)) (setQueue_movesCells _ _ _ _)
    split
    · exact accrue_movesCells s _
    · exact .refl s
  · split
    · exact (setCell_movesCells t _ _).trans (tryShare_movesCells _ i)
    · exact .refl t

theorem injectMsg_movesCells (m : Msg) : s.MovesCells (s.injectMsg m) := by
  unfold injectMsg
  refine .trans ?_ (appendDesc_movesCells _ _ _)
  refine List.foldlRecOn (motive := fun (a : Nat × Nat × State) => s.MovesCells a.2.2) _ _ ?_ (fun a kept n _ => ?_)
  · exact .withFab (.refl s) rfl rfl rfl rfl
  · exact kept.trans (newCell_movesCells _ _ _)

theorem sendInternal_movesCells (m : Msg) : s.MovesCells (s.sendInternal m) := by
  unfold sendInternal
  split
  · exact injectMsg_movesCells s m
  · exact .withFab (.refl s) rfl rfl rfl rfl

theorem drainSysWait_movesCells : s.MovesCells s.drainSysWait := by
  refine .foldS (fun _ t => ?_) _ s
  split
  · exact .refl t
  · split
    · refine .trans (MovesCells.withFab (.refl t) ?_ ?_ ?_ ?_) (injectMsg_movesCells _ _) <;> rfl
    · exact .refl t

theorem freeCell_movesCells (i : Nat) : s.MovesCells (s.freeCell i) := by
  unfold freeCell
  split
  · exact .refl s
  · split
    · exact setCell_movesCells s _ _
    · refine .trans (setCell_movesCells s i none) ?_
      dsimp only
      split
      · exact drainSysWait_movesCells _
      · split
        · split
          · split
            · exact tryShare_movesCells _ _
            · exact .refl _
          · exact .refl _
        · exact returnCredit_movesCells _ _ _

theorem dropChain_movesCells (uid : Nat) : s.MovesCells (s.dropChain uid) := by
  unfold dropChain
  split
  · exact .refl s
  · exact .withFab (.foldS (fun i t => freeCell_movesCells t i) _ s) rfl rfl rfl rfl

theorem discardRest_movesCells (uid : Nat) : s.MovesCells (s.discardRest uid) := by
  refine .foldS (fun e t => ?_) _ s
  split
  · split
    · exact setInMsg_movesCells t _ _ _
    · exact .refl t
  · exact .refl t

theorem releaseMsg_movesCells (m : Msg) : s.MovesCells (s.releaseMsg m) := by
  unfold releaseMsg
  split
  · exact appendDesc_movesCells s m _
  · split
    · exact sendInternal_movesCells s m
    · exact .refl s

theorem noteMoved_movesCells : s.MovesCells s.noteMoved := by
  refine .foldS (fun e t => ?_) _ s
  split
  · split
    · exact .withFab (.refl t) rfl rfl rfl rfl
    · exact .refl t
  · exact .refl t

/-- A line that is written poisoned (R225, R227). -/
theorem poisonWrite_movesCells (line : Nat) : s.MovesCells (s.poisonWrite line) := by
  unfold poisonWrite
  dsimp only
  split
  · exact .refl s
  · split
    · exact .refl s
    · split
      · exact .refl s
      · exact sendInternal_movesCells s _

end

/-! ### Answers -/

/-- The objects that an answer of Cairn's or a hold buffer that fills can write, beside those that events write. -/
def answerObjects : List Nat := [Obj.SYNTH_CNT, Obj.HG_BUCKETS, Obj.MOVE_PHASE, Obj.HOLD_FULL_CNT]

/-- `t` has the fabric time and the ports of `s`, and its objects but for those that an answer can write. -/
structure Undisturbed (s t : State) : Prop where
  ctr : t.time.ctr = s.time.ctr
  ports : t.link.ports = s.link.ports
  regs : s.SameRegs t answerObjects

namespace Undisturbed

variable {s t u : State}

theorem refl (s : State) : s.Undisturbed s := ⟨rfl, rfl, fun _ _ _ _ _ => rfl⟩

theorem trans (h : s.Undisturbed t) (k : t.Undisturbed u) : s.Undisturbed u where
  ctr := k.ctr.trans h.ctr
  ports := k.ports.trans h.ports
  regs o i a b c := (k.regs o i a b c).trans (h.regs o i a b c)

theorem foldS {α : Type} {f : α → State → State} (h : ∀ a (t : State), t.Undisturbed (f a t)) (l : List α) (s : State) :
    s.Undisturbed (foldS f l s) :=
  foldS_keeps s.Undisturbed f (fun a t kept => kept.trans (h a t)) l s (refl s)

theorem dlUp (h : s.Undisturbed t) (p : Nat) : t.dlUp p = s.dlUp p := by
  unfold State.dlUp port
  rw [h.ports]

/-- The state of an agent is as before. -/
theorem agentOut (h : s.Undisturbed t) (a : Nat) : t.agentOut a = s.agentOut a := by
  unfold State.agentOut
  rw [h.regs _ _ (by decide) (by decide) (by decide)]

theorem liveVec (h : s.Undisturbed t) (v : Nat) : t.liveVec v = s.liveVec v := by
  unfold State.liveVec
  simp only [h.agentOut]

end Undisturbed

theorem MovesCells.undisturbed {s t : State} (h : s.MovesCells t) : s.Undisturbed t :=
  ⟨congrArg TimeSt.ctr h.time, h.ports, fun o i _ _ _ => h.reg o i⟩

/-- `t` is, for Cairn, as `s`: an answer has gone to a requester, and nothing else has happened. -/
structure KeepsCairn (s t : State) : Prop extends Undisturbed s t where
  pending : t.pending = s.pending
  mode : t.mode = s.mode
  fuse : t.sec.fuse = s.sec.fuse
  coh : t.coh = s.coh

namespace KeepsCairn

variable {s t u : State}

theorem refl (s : State) : s.KeepsCairn s := ⟨.refl s, rfl, rfl, rfl, rfl⟩

theorem trans (h : s.KeepsCairn t) (k : t.KeepsCairn u) : s.KeepsCairn u where
  toUndisturbed := h.toUndisturbed.trans k.toUndisturbed
  pending := k.pending.trans h.pending
  mode := k.mode.trans h.mode
  fuse := k.fuse.trans h.fuse
  coh := k.coh.trans h.coh

theorem foldS {α : Type} {f : α → State → State} (h : ∀ a (t : State), t.KeepsCairn (f a t)) (l : List α) (s : State) :
    s.KeepsCairn (foldS f l s) :=
  foldS_keeps s.KeepsCairn f (fun a t kept => kept.trans (h a t)) l s (refl s)

theorem withFab (h : s.KeepsCairn t) (x : FabSt) : s.KeepsCairn { t with fab := x } := { h with }

theorem withDict (h : s.KeepsCairn t) (x : DictSt) : s.KeepsCairn { t with dict := x } := { h with }

end KeepsCairn

theorem MovesCells.keepsCairn {s t : State} (h : s.MovesCells t) : s.KeepsCairn t :=
  ⟨h.undisturbed, h.pending, h.mode, congrArg SecSt.fuse h.sec, h.coh⟩

section

variable (s : State)

theorem setReg_keepsCairn {o : Nat} (i v : Nat) (h : o ∈ answerObjects) : s.KeepsCairn (s.setReg o i v) :=
  ⟨⟨rfl, rfl, fun _ _ n _ _ => reg_setReg_of_ne s o i v (fun e => n ((Prod.mk.inj e).1 ▸ h))⟩, rfl, rfl, rfl, rfl⟩

theorem raise_keepsCairn (code source sev inst data : Nat) : s.KeepsCairn (s.raise code source sev inst data) where
  ctr := by simp
  ports := by simp
  regs _ i _ a b := reg_raise s code source sev inst data i a b
  pending := by simp
  mode := by simp
  fuse := by simp
  coh := by simp

theorem raiseLimited_keepsCairn (ns key code source sev inst data : Nat) :
    s.KeepsCairn (s.raiseLimited ns key code source sev inst data) := by
  obtain ⟨frame, regs⟩ := raiseLimited_eventOnly s ns key code source sev inst data
  rw [frame] at regs ⊢
  exact ⟨⟨rfl, rfl, fun o i _ a b => regs o i a b⟩, rfl, rfl, rfl, rfl⟩

theorem count_keepsCairn (e : CntEvt) : s.KeepsCairn (s.count e) := ⟨⟨rfl, rfl, fun _ _ _ _ _ => rfl⟩, rfl, rfl, rfl, rfl⟩

theorem emit_keepsCairn (x : Output) : s.KeepsCairn (s.emit x) := ⟨⟨rfl, rfl, fun _ _ _ _ _ => rfl⟩, rfl, rfl, rfl, rfl⟩

theorem setRtt_keepsCairn (n : Nat) (x : Option Rtt) : s.KeepsCairn (s.setRtt n x) :=
  ⟨⟨rfl, rfl, fun _ _ _ _ _ => rfl⟩, rfl, rfl, rfl, rfl⟩

theorem setMover_keepsCairn (c : Nat) (x : MoveCh) : s.KeepsCairn (s.setMover c x) :=
  ⟨⟨rfl, rfl, fun _ _ _ _ _ => rfl⟩, rfl, rfl, rfl, rfl⟩

theorem takeRtt_keepsCairn (m : Msg) : s.KeepsCairn (s.takeRtt m).2 := by
  have taken (x : Rtt) (e : CntEvt) : s.KeepsCairn ((s.setRtt (firstFree s.fab.rtt 0) (some x)).count e) :=
    (setRtt_keepsCairn s _ _).trans (count_keepsCairn _ _)
  unfold takeRtt
  dsimp only
  split
  · exact (taken _ _).trans (raiseLimited_keepsCairn _ _ _ _ _ _ _ _)
  · exact taken _ _

theorem innerSend_keepsCairn (m : Msg) : s.KeepsCairn (s.innerSend m) := by
  unfold innerSend
  split
  · exact (takeRtt_keepsCairn s m).trans (releaseMsg_movesCells _ _).keepsCairn
  · exact ⟨⟨rfl, rfl, fun _ _ _ _ _ => rfl⟩, rfl, rfl, rfl, rfl⟩

/-- The end of a handle moves no fabric time: it can free an event slot. -/
theorem ctr_endLop (h : Nat) (st : LopSt) (result : Nat) : (s.endLop h st result).time.ctr = s.time.ctr := by
  have slots (k : Nat) : (s.dropSlot k).time.ctr = s.time.ctr := by
    unfold dropSlot
    split <;> rfl
  have released : (s.releaseLop h).time.ctr = s.time.ctr := by
    unfold releaseLop
    dsimp only
    split <;> exact slots _
  rw [endLop_eq_raise, time_raise]
  change (s.reportLop h result).time.ctr = _
  unfold reportLop
  split <;> exact released

theorem moveFail_keepsCairn (c cause addr : Nat) : s.KeepsCairn (s.moveFail c cause addr) := by
  obtain ⟨frame, regs⟩ := moveFail_endsMoves s c cause addr
  refine ⟨⟨?_, congrArg LinkSt.ports frame.link, fun o i n => regs o i (fun h => n ?_)⟩, frame.pending, frame.mode,
    congrArg SecSt.fuse frame.sec, frame.coh⟩
  · unfold moveFail
    dsimp only
    rw [time_raise, ctr_endLop]
    rfl
  · simp only [answerObjects, List.mem_cons] at h ⊢
    tauto

theorem moverBack_keepsCairn (m : Msg) (error poison : Bool) (data : List Byte) :
    s.KeepsCairn (s.moverBack m error poison data) := by
  have line (x : MoveCh) : s.KeepsCairn (s.setMover (m.rq - 320) x) := setMover_keepsCairn s _ _
  unfold moverBack
  dsimp only
  split_ifs
  · exact .refl s
  · exact (line _).trans (moveFail_keepsCairn _ _ _ _)
  · exact line _
  · split
    · exact (KeepsCairn.withFab (.refl s) _).trans (innerSend_keepsCairn _ _)
    · exact (line _).trans (moveFail_keepsCairn _ _ _ _)
  · exact line _

theorem innerBack_keepsCairn (cause : Nat) (error poison : Bool) (m : Msg) (data : List Byte) :
    s.KeepsCairn (s.innerBack cause error poison m data) := by
  unfold innerBack
  split
  · exact moverBack_keepsCairn s m error poison data
  · split
    · split
      · exact ⟨⟨rfl, rfl, fun _ _ _ _ _ => rfl⟩, rfl, rfl, rfl, rfl⟩
      · exact .refl s
    · exact .refl s

theorem bump_keepsCairn {o : Nat} (i n : Nat) (h : o ∈ answerObjects) : s.KeepsCairn (s.bump o i n) :=
  setReg_keepsCairn s i _ h

theorem addSynth_keepsCairn (cause : Nat) (m : Msg) : s.KeepsCairn (s.addSynth cause m) := by
  have listed (l : List Synth) : s.KeepsCairn ((s.accrue m.inPort).setSynth m.inPort l) :=
    (accrue_movesCells s _).keepsCairn.trans ⟨⟨rfl, rfl, fun _ _ _ _ _ => rfl⟩, rfl, rfl, rfl, rfl⟩
  have counted (l : List Synth) : s.KeepsCairn (((s.accrue m.inPort).setSynth m.inPort l).bump Obj.SYNTH_CNT m.inPort) :=
    (listed l).trans (bump_keepsCairn _ _ _ (by decide))
  unfold addSynth
  dsimp only
  split_ifs
  · exact .refl s
  · exact innerBack_keepsCairn s _ _ _ _ _
  · exact ((counted _).withDict _).trans (emit_keepsCairn _ _)
  · exact counted _
  · exact counted _
  · exact listed _

theorem respond_keepsCairn (m : Msg) (data poison orphan : Bool) (bytes : List Byte) :
    s.KeepsCairn (s.respond m data poison orphan bytes) := by
  unfold respond
  split
  · exact .refl s
  · split
    · exact innerBack_keepsCairn s _ _ _ _ _
    · split
      · exact .refl s
      · exact (sendInternal_movesCells s _).keepsCairn

end

end State

end Sys2Proof.Machine
end

section
/-!
SUPPORT. What the operations of Cairn on a set of the directory write: the entry of one way, the frame of the set, and the reservation
to which a way that becomes free is promised (R190, R191, R217, R219).
-/

namespace Sys2Proof.Machine

/-- A walk that comes to `a` brings about what its step there does, where no other step is in the way. -/
theorem foldl_reaches {α σ : Type} {P Q : σ → Prop} {f : σ → α → σ} {l : List α} {a : α} (mem : a ∈ l)
    (before : ∀ b, b ≠ a → ∀ t, P t → P (f t b)) (here : ∀ t, P t → Q (f t a)) (after : ∀ b t, Q t → Q (f t b)) {s : σ} (start : P s) :
    Q (l.foldl f s) := by
  induction l generalizing s with
  | nil => cases mem
  | cons b r ih =>
    have kept (t : σ) (q : Q t) : Q (r.foldl f t) := List.foldlRecOn r f q (fun t q c _ => after c t q)
    by_cases e : b = a
    · subst e
      exact kept _ (here s start)
    · exact ih ((List.mem_cons.mp mem).resolve_left (Ne.symm e)) (before b e s start)

namespace State

/-! ### One way -/

section

variable (s : State) (c set w : Nat)

@[simp] theorem dirEntry_setDir_self (e : DirEntry) : (s.setDir c set w e).dirEntry c set w = e := Tbl.get_set_self _ _ _ _

theorem dirEntry_setDir_of_ne (e : DirEntry) {v : Nat} (h : v ≠ w) : (s.setDir c set w e).dirEntry c set v = s.dirEntry c set v :=
  Tbl.get_set_of_ne _ _ _ _ (fun q => h (Prod.mk.inj q).2)

theorem dir_writeDir (e : DirEntry) : (s.writeDir c set w e).coh.dir = (s.setDir c set w e).coh.dir := by
  unfold writeDir
  dsimp only
  split <;> rfl

@[simp] theorem dirEntry_writeDir_self (e : DirEntry) : (s.writeDir c set w e).dirEntry c set w = e := by
  rw [dirEntry, dir_writeDir]
  exact dirEntry_setDir_self s c set w e

theorem dirEntry_writeDir_of_ne (e : DirEntry) {v : Nat} (h : v ≠ w) :
    (s.writeDir c set w e).dirEntry c set v = s.dirEntry c set v := by
  rw [dirEntry, dir_writeDir]
  exact dirEntry_setDir_of_ne s c set w e h

/-- A way that is freed stays free where it is promised to a reservation's holder (R217). -/
theorem free_freeWay : ((s.freeWay c set w).dirEntry c set w).state = 0 ∧ ((s.freeWay c set w).dirEntry c set w).busy = false := by
  unfold freeWay
  dsimp only
  split
  · rw [dirEntry_setDir_self, dirEntry_writeDir_self]
    exact ⟨rfl, rfl⟩
  · rw [dirEntry_writeDir_self]
    exact ⟨rfl, rfl⟩

theorem dirEntry_freeWay_of_ne {v : Nat} (h : v ≠ w) : (s.freeWay c set w).dirEntry c set v = s.dirEntry c set v := by
  unfold freeWay
  dsimp only
  split
  · rw [dirEntry_setDir_of_ne _ _ _ _ _ h]
    exact dirEntry_writeDir_of_ne s c set w _ h
  · exact dirEntry_writeDir_of_ne s c set w _ h

/-- The way of an admission becomes the most recent, and is otherwise as it was (R219). -/
theorem dirEntry_touchRank_self : (s.touchRank c set w).dirEntry c set w = { s.dirEntry c set w with rank := 0 } := by
  have others : (foldS (fun v (u : State) =>
      if v ≠ w ∧ (u.dirEntry c set v).state ≠ 0 ∧ (u.dirEntry c set v).rank < (s.dirEntry c set w).rank then
        u.setDir c set v { u.dirEntry c set v with rank := (u.dirEntry c set v).rank + 1 }
      else u) (List.range 16) s).dirEntry c set w = s.dirEntry c set w := by
    refine foldS_unseen (view := fun (u : State) => u.dirEntry c set w) (fun v _ u => ?_) s
    dsimp only
    split
    · next other => exact dirEntry_setDir_of_ne u c set v _ (Ne.symm other.1)
    · rfl
  unfold touchRank
  dsimp only
  rw [dirEntry_setDir_self, others]

end

/-! ### The rest of the state -/

/-- `t` is `s` but for directory entries, frames of the directory cache, and reservations. -/
def DirOnly (s t : State) : Prop :=
  t = { s with coh := { s.coh with dir := t.coh.dir, frames := t.coh.frames, uses := t.coh.uses, rsv := t.coh.rsv } }

namespace DirOnly

variable {s t u : State}

theorem refl (s : State) : s.DirOnly s := rfl

theorem trans (h : s.DirOnly t) (k : t.DirOnly u) : s.DirOnly u := by
  unfold DirOnly at *
  rw [k, h]

theorem foldS {α : Type} {f : α → State → State} (h : ∀ a (t : State), t.DirOnly (f a t)) (l : List α) (s : State) :
    s.DirOnly (foldS f l s) :=
  foldS_keeps s.DirOnly f (fun a t kept => kept.trans (h a t)) l s (refl s)

theorem reg (h : s.DirOnly t) (o i : Nat) : t.reg o i = s.reg o i := by rw [h]; rfl
theorem link (h : s.DirOnly t) : t.link = s.link := by rw [h]
theorem fab (h : s.DirOnly t) : t.fab = s.fab := by rw [h]
theorem trk (h : s.DirOnly t) : t.coh.trk = s.coh.trk := by rw [h]
theorem purges (h : s.DirOnly t) : t.coh.purges = s.coh.purges := by rw [h]
theorem tracker (h : s.DirOnly t) (c n : Nat) : t.tracker c n = s.tracker c n := by rw [h]; rfl

theorem undisturbed (h : s.DirOnly t) : s.Undisturbed t := by
  rw [h]
  exact ⟨rfl, rfl, fun _ _ _ _ _ => rfl⟩

end DirOnly

section

variable (s : State) (c set w : Nat)

theorem setDir_dirOnly (e : DirEntry) : s.DirOnly (s.setDir c set w e) := rfl

theorem setRsv_dirOnly (n : Nat) (x : Option Rsv) : s.DirOnly (s.setRsv c n x) := rfl

theorem writeDir_dirOnly (e : DirEntry) : s.DirOnly (s.writeDir c set w e) := by
  unfold writeDir
  dsimp only
  split <;> rfl

theorem freeWay_dirOnly : s.DirOnly (s.freeWay c set w) := by
  unfold freeWay
  dsimp only
  split
  · exact ((writeDir_dirOnly s c set w _).trans (setRsv_dirOnly _ _ _ _)).trans (setDir_dirOnly _ _ _ _ _)
  · exact writeDir_dirOnly s c set w _

theorem touchRank_dirOnly : s.DirOnly (s.touchRank c set w) := by
  unfold touchRank
  dsimp only
  refine DirOnly.trans (.foldS (fun v u => ?_) _ s) (setDir_dirOnly _ _ _ _ _)
  split <;> rfl

end

/-! ### What a command leaves -/

/-- `u` is `t` but for the queue, the mode and the fuses. -/
structure Answers (t u : State) : Prop where
  regs : u.regs = t.regs
  coh : u.coh = t.coh
  fab : u.fab = t.fab
  link : u.link = t.link
  out : u.out = t.out
  dict : u.dict = t.dict

namespace Answers

variable {t u : State}

theorem reg (h : t.Answers u) (o i : Nat) : u.reg o i = t.reg o i := by rw [State.reg, h.regs, State.reg]
theorem dirEntry (h : t.Answers u) (c set w : Nat) : u.dirEntry c set w = t.dirEntry c set w := by
  rw [State.dirEntry, h.coh, State.dirEntry]
theorem tracker (h : t.Answers u) (c n : Nat) : u.tracker c n = t.tracker c n := by rw [State.tracker, h.coh, State.tracker]

end Answers

end State

/-- A command on a unit that is there answers what its function makes, but for the queue, the mode and the fuses. -/
theorem onUnit_answers {n count : Nat} {s t : State} {f : State → State} (h : n < count) (e : f s = t) :
    ∃ u, onUnit n count s f = .next u ∧ t.Answers u := by
  rw [onUnit_eq s f h, steady_next, e]
  exact ⟨_, rfl, rfl, rfl, rfl, rfl, rfl, rfl⟩

end Sys2Proof.Machine
end

section
/-!
The obligation `WalkerAndDevices`: a visit of the walker, and the back-invalidates of devices (R191, R195, R206, R229, R230).
-/

namespace Sys2Proof.Machine

open State

namespace State

/-! ### A purge's turn (R229) -/

/-- An entry whose owner is purged. -/
def poisonedEntry (e : DirEntry) : DirEntry := { e with state := 3, pcause := 1, sharers := 0, owner := 0 }

section

variable {s : State} {c set w a : Nat}

theorem purgeEntry_dirOnly (s : State) (c set w a : Nat) : s.DirOnly (s.purgeEntry c set w a).1 := by
  unfold purgeEntry
  dsimp only
  split_ifs
  · rfl
  · exact freeWay_dirOnly s c set w
  · exact writeDir_dirOnly s c set w _
  · exact writeDir_dirOnly s c set w _
  · rfl

theorem dirEntry_purgeEntry_of_ne {v : Nat} (h : v ≠ w) : (s.purgeEntry c set w a).1.dirEntry c set v = s.dirEntry c set v := by
  unfold purgeEntry
  dsimp only
  split_ifs
  · rfl
  · exact dirEntry_freeWay_of_ne s c set w h
  · exact dirEntry_writeDir_of_ne s c set w _ h
  · exact dirEntry_writeDir_of_ne s c set w _ h
  · rfl

theorem dirEntry_purgeEntry_owned (idle : (s.dirEntry c set w).busy = false) (st : (s.dirEntry c set w).state = 2)
    (owner : (s.dirEntry c set w).owner = a) : (s.purgeEntry c set w a).1.dirEntry c set w = poisonedEntry (s.dirEntry c set w) := by
  unfold purgeEntry
  simp only [idle, st, owner, Bool.false_eq_true, if_false, and_self, if_true, OfNat.ofNat_ne_one, false_and,
    dirEntry_writeDir_self, poisonedEntry]

/-- A POISONED entry is no agent's. -/
theorem purgeEntry_poisoned (st : (s.dirEntry c set w).state = 3) : (s.purgeEntry c set w a).1 = s := by
  unfold purgeEntry
  simp [st]

variable {q : Purge}

theorem purgeTurn_dirOnly (s : State) (c set : Nat) (q : Purge) : s.DirOnly (purgeTurn s c set q).1 := by
  unfold purgeTurn
  split
  · exact .refl s
  · dsimp only
    exact List.foldlRecOn (motive := fun (x : State × Nat) => s.DirOnly x.1) _ _ (.refl s)
      (fun x kept v _ => kept.trans (purgeEntry_dirOnly x.1 c set v q.agent))

theorem dirEntry_purgeTurn_owned (left : q.left.getD c 0 ≠ 0) (hw : w < 16) (idle : (s.dirEntry c set w).busy = false)
    (st : (s.dirEntry c set w).state = 2) (owner : (s.dirEntry c set w).owner = q.agent) :
    (purgeTurn s c set q).1.dirEntry c set w = poisonedEntry (s.dirEntry c set w) := by
  unfold purgeTurn
  rw [if_neg left]
  dsimp only
  refine foldl_reaches (P := fun (x : State × Nat) => x.1.dirEntry c set w = s.dirEntry c set w)
    (Q := fun (x : State × Nat) => x.1.dirEntry c set w = poisonedEntry (s.dirEntry c set w)) (List.mem_range.mpr hw) ?_ ?_ ?_ rfl
  · intro v other x same
    exact (dirEntry_purgeEntry_of_ne other.symm).trans same
  · intro x same
    rw [← same] at idle st owner ⊢
    exact dirEntry_purgeEntry_owned idle st owner
  · intro v x done
    by_cases here : v = w
    · subst here
      rw [purgeEntry_poisoned (by rw [done]; rfl)]
      exact done
    · exact (dirEntry_purgeEntry_of_ne (Ne.symm here)).trans done

/-! ### A visit (R229, R230) -/

/-- The end of a purge writes the state of its agent and raises an event. -/
theorem endPurge_frame (s : State) (p : Purge) : (s.endPurge p).coh = s.coh ∧ (s.endPurge p).fab = s.fab ∧
    (s.endPurge p).link = s.link ∧ ∀ i, (s.endPurge p).reg Obj.WALK_POS i = s.reg Obj.WALK_POS i := by
  have agent (v i : Nat) : (s.setReg Obj.AGT_STATE p.agent v).reg Obj.WALK_POS i = s.reg Obj.WALK_POS i :=
    reg_setReg_of_ne s _ _ _ (by simp)
  unfold endPurge
  dsimp only
  refine ⟨?_, ?_, ?_, fun i => ?_⟩
  · rw [coh_raise]
    split_ifs <;> rfl
  · rw [fab_raise]
    split_ifs <;> rfl
  · rw [link_raise]
    split_ifs <;> rfl
  · rw [reg_raise _ _ _ _ _ _ i (by decide) (by decide)]
    split_ifs
    · exact agent 0 i
    · exact agent 3 i
    · rfl

/-- The state with other purge jobs. -/
def setPurges (s : State) (l : List Purge) : State := { s with coh := { s.coh with purges := l } }

/-- The turn of a purge at the walker's set. -/
abbrev purgeNow (s : State) (c : Nat) (q : Purge) : State × Purge := purgeTurn s c (s.reg Obj.WALK_POS c) q

/-- What a visit makes of the state for one purge: its turn, and its end where it has visited every set. -/
theorem visitSet_purge (walks : s.fab.walks = []) (purges : s.coh.purges = [q]) :
    s.visitSet c = foldS (fun p (u : State) => u.endPurge p) ([(s.purgeNow c q).2].filter s.purgeOver)
      (((s.purgeNow c q).1.setPurges ([(s.purgeNow c q).2].filter (fun p => !(s.purgeOver p)))).setReg Obj.WALK_POS c
        ((s.reg Obj.WALK_POS c + 1) % 6291456)) := by
  have same : ({ s with fab := { s.fab with walks := [] } } : State) = s := by rw [← walks]
  unfold visitSet
  simp only [walks, List.foldl_nil, same, purges, List.foldl_cons, List.nil_append]
  rfl

theorem visitSet_owned (walks : s.fab.walks = []) (purges : s.coh.purges = [q]) (left : q.left.getD c 0 ≠ 0) :
    (s.visitSet c).reg Obj.WALK_POS c = (s.reg Obj.WALK_POS c + 1) % 6291456 ∧
    (∀ w < 16, (s.dirEntry c (s.reg Obj.WALK_POS c) w).busy = false → (s.dirEntry c (s.reg Obj.WALK_POS c) w).state = 2 →
      (s.dirEntry c (s.reg Obj.WALK_POS c) w).owner = q.agent →
      (s.visitSet c).dirEntry c (s.reg Obj.WALK_POS c) w = poisonedEntry (s.dirEntry c (s.reg Obj.WALK_POS c) w)) ∧
    (s.visitSet c).link = s.link ∧ (s.visitSet c).fab = s.fab := by
  have turn := purgeTurn_dirOnly s c (s.reg Obj.WALK_POS c) q
  rw [visitSet_purge walks purges]
  refine ⟨?_, fun w hw idle st owner => ?_, ?_, ?_⟩
  · rw [foldS_unseen (view := fun (u : State) => u.reg Obj.WALK_POS c) (fun p _ u => (endPurge_frame u p).2.2.2 c)]
    exact reg_setReg_self _ _ _ _
  · rw [← dirEntry_purgeTurn_owned left hw idle st owner]
    rw [dirEntry, foldS_unseen (view := State.coh) (fun p _ u => (endPurge_frame u p).1)]
    rfl
  · rw [foldS_unseen (view := State.link) (fun p _ u => (endPurge_frame u p).2.2.1)]
    exact turn.link
  · rw [foldS_unseen (view := State.fab) (fun p _ u => (endPurge_frame u p).2.1)]
    exact turn.fab

/-! ### WALKER's turn (R194, R195) -/

/-- WALKER is admitted now in slot `a` of slice `c`. -/
def walkAdmitted (s : State) (c a : Nat) : State :=
  { s.useSlot c a with coh := { (s.useSlot c a).coh with walkAt := s.coh.walkAt.set 0 (c, 0) (s.clk + 1) } }

/-- WALKER waits for its set to be read from HBM. -/
def walkAwaits (s : State) (c set : Nat) : State :=
  { s with coh := { s.coh with walkWait := s.coh.walkWait.set 0 (c, 0) (set + 1) } }

/-- In its turn WALKER visits a set of the directory cache, and reads any other (R191, R195). -/
theorem walkerVisit_eq (turn : s.WalkerTurn c) : ∃ slot, s.walkerVisit c =
    match s.findFrame c (s.reg Obj.WALK_POS c) with
    | some f => (((s.walkAdmitted c slot).bump64 Obj.DIR_HIT c).touchFrame c (s.reg Obj.WALK_POS c) f false).visitSet c
    | none => match s.victimFrame c (s.reg Obj.WALK_POS c) with
      | some f => ((s.walkAdmitted c slot).readSet c (s.reg Obj.WALK_POS c) f).walkAwaits c (s.reg Obj.WALK_POS c)
      | none => s.walkAdmitted c slot := by
  obtain ⟨-, active, isOpen, gets, unread⟩ := turn
  obtain ⟨slot, isOpen⟩ := Option.isSome_iff_exists.mp isOpen
  refine ⟨slot, ?_⟩
  unfold walkerVisit
  rw [if_neg (Nat.not_le.mpr active)]
  simp only [List.findSome?_cons, isOpen, Option.bind_some, gets, if_true]
  change (if s.coh.reads.contains (c, s.reg Obj.WALK_POS c) then _ else _) = _
  rw [unread]
  rfl

theorem offer_walker {code : Nat} (h : s.offer c code = some .walker) : s.walkerReady c = true := by
  unfold offer at h
  split at h
  · split at h
    · assumption
    · cases h
  · dsimp only at h
    split at h
    · cases h
    · split at h
      · cases h
      · obtain ⟨x, -, e⟩ := Option.map_eq_some_iff.mp h
        cases e

/-- Without a job WALKER is never admitted (R195). -/
theorem walkerVisit_idle (walks : s.fab.walks = []) (purges : s.coh.purges = []) : s.walkerVisit c = s := by
  have idle : s.walkerReady c = false := by simp [walkerReady, walkJobs, walks, purges]
  have never (slot : Nat) : s.wheelPick c slot ≠ some .walker := by
    intro gets
    obtain ⟨k, -, offered⟩ := List.exists_of_findSome?_eq_some gets
    rw [offer_walker offered] at idle
    cases idle
  have none (slot : Nat) : ((s.slotOpen c slot).bind fun a => if s.wheelPick c slot = some .walker then some a else none) = none := by
    simp [never slot]
  unfold walkerVisit
  split
  · rfl
  · simp only [List.findSome?_cons, List.findSome?_nil, none]

end

/-! ### Back-invalidates of devices (R206) -/

section

variable {s v : State} {p ld addr snp k : Nat}

theorem deviceSnoop_map (map : s.ldInMap ld = true) (flit : s.consumeFlit p .memBisnp = some (false, v)) :
    s.deviceSnoop p ld addr snp = ((v.bump Obj.DEV_BI_DROP p).emit (.birspi p ld addr)).raiseLimited 1000000 p 0x5003 0x50 2 p
      (addr % 2 ^ 64 + ld % 65536 * 2 ^ 64) := by
  unfold deviceSnoop
  rw [if_pos map, flit]

theorem deviceSnoop_unbound (map : s.ldInMap ld = false) (binders : s.ldBinders ld = [])
    (flit : s.consumeFlit p .memBisnp = some (false, v)) : s.deviceSnoop p ld addr snp = v.emit (.birspi p ld addr) := by
  unfold deviceSnoop
  rw [if_neg (by simp [map]), binders, flit]
  rfl

/-- A BISnp of LD `ld` for the host of vPPB `k`, as it goes on to that host's port (R206). -/
def bisnpTo (s : State) (p ld addr snp k : Nat) : Msg :=
  { msgDflt with
    kind := .snoop, chan := .memBisnp, src := s.reg Obj.LD_FID ld, dst := s.reg Obj.PART_FID (k / 64), ld := ld, dpa := addr
    track := 0x1_FFFF, status := 8 * (k % 64), snp := snp, egress := s.reg Obj.PART_HOST_PORT (k / 64) % 256
    cls := s.rspClass (s.reg Obj.PART_HOST_PORT (k / 64)) 8, inPort := p, internal := false }

theorem deviceSnoop_bound (map : s.ldInMap ld = false) (binders : s.ldBinders ld = [k]) (up : s.dlUp p = true)
    (host : s.dlUp (s.reg Obj.PART_HOST_PORT (k / 64)) = true) (here : s.flitHere p 7 = true) :
    s.deviceSnoop p ld addr snp = (s.takeFlit p).injectMsg (s.bisnpTo p ld addr snp k) := by
  unfold deviceSnoop
  rw [if_neg (by simp [map]), binders]
  simp only [List.map_cons, List.map_nil, List.find?_cons, host]
  rw [if_neg (by simp [up, here])]
  rfl

end

end State

/-! ### The commands -/

section

variable {s v : State} {c p ld addr snp k : Nat}

theorem exec_walkerSetVisit_idle (hc : c < 8) (walks : s.fab.walks = []) (purges : s.coh.purges = []) :
    exec (.walkerSetVisit c) s = .next s :=
  onUnit_eq_next (f := fun t : State => t.walkerVisit c) hc (walkerVisit_idle walks purges) rfl rfl rfl

theorem exec_walkerSetVisit_purge {q : Purge} (turn : s.WalkerTurn c) (cached : (s.findFrame c (s.reg Obj.WALK_POS c)).isSome = true)
    (walks : s.fab.walks = []) (purges : s.coh.purges = [q]) (left : q.left.getD c 0 ≠ 0) :
    ∃ u : State, exec (.walkerSetVisit c) s = .next u ∧ u.reg Obj.WALK_POS c = (s.reg Obj.WALK_POS c + 1) % 6291456 ∧
      (∀ w < 16, (s.dirEntry c (s.reg Obj.WALK_POS c) w).busy = false → (s.dirEntry c (s.reg Obj.WALK_POS c) w).state = 2 →
        (s.dirEntry c (s.reg Obj.WALK_POS c) w).owner = q.agent →
        u.dirEntry c (s.reg Obj.WALK_POS c) w = poisonedEntry (s.dirEntry c (s.reg Obj.WALK_POS c) w)) ∧
      u.link = s.link ∧ u.fab = s.fab := by
  obtain ⟨f, cached⟩ := Option.isSome_iff_exists.mp cached
  obtain ⟨slot, e⟩ := walkerVisit_eq turn
  rw [cached] at e
  dsimp only at e
  have pos : (((s.walkAdmitted c slot).bump64 Obj.DIR_HIT c).touchFrame c (s.reg Obj.WALK_POS c) f false).reg Obj.WALK_POS c =
      s.reg Obj.WALK_POS c := reg_setReg_of_ne _ _ _ _ (by simp)
  have visit := visitSet_owned (s := ((s.walkAdmitted c slot).bump64 Obj.DIR_HIT c).touchFrame c (s.reg Obj.WALK_POS c) f false)
    (c := c) walks purges left
  rw [pos] at visit
  obtain ⟨next, owned, link, fab⟩ := visit
  obtain ⟨u, runs, answers⟩ := onUnit_answers (f := fun t : State => t.walkerVisit c) turn.1 e
  exact ⟨u, runs, (answers.reg _ _).trans next, fun w hw idle st owner => (answers.dirEntry _ _ _).trans (owned w hw idle st owner),
    answers.link.trans link, answers.fab.trans fab⟩

theorem exec_walkerSetVisit_reads {f : Nat} (turn : s.WalkerTurn c) (uncached : s.findFrame c (s.reg Obj.WALK_POS c) = none)
    (victim : s.victimFrame c (s.reg Obj.WALK_POS c) = some f) :
    ∃ u : State, exec (.walkerSetVisit c) s = .next u ∧ u.coh.reads = s.coh.reads ++ [(c, s.reg Obj.WALK_POS c)] ∧
      u.coh.walkWait.get 0 (c, 0) = s.reg Obj.WALK_POS c + 1 ∧ u.reg Obj.WALK_POS c = s.reg Obj.WALK_POS c ∧ u.coh.dir = s.coh.dir := by
  obtain ⟨slot, e⟩ := walkerVisit_eq turn
  rw [uncached, victim] at e
  dsimp only at e
  obtain ⟨u, runs, answers⟩ := onUnit_answers (f := fun t : State => t.walkerVisit c) turn.1 e
  have pos : ((s.walkAdmitted c slot).bump64 Obj.DIR_MISS c).reg Obj.WALK_POS c = s.reg Obj.WALK_POS c :=
    reg_setReg_of_ne _ _ _ _ (by simp)
  refine ⟨u, runs, ?_, ?_, (answers.reg _ _).trans pos, ?_⟩
  · rw [answers.coh]
    rfl
  · rw [answers.coh]
    exact Tbl.get_set_self _ 0 (c, 0) (s.reg Obj.WALK_POS c + 1)
  · rw [answers.coh]
    rfl

theorem exec_deviceBisnp_map (hp : p < 256) (map : s.ldInMap ld = true) (flit : s.consumeFlit p .memBisnp = some (false, v)) :
    ∃ u : State, exec (.deviceBisnp p ld addr snp) s = .next u ∧ .birspi p ld addr ∈ u.out ∧
      u.reg Obj.DEV_BI_DROP p = min (s.reg Obj.DEV_BI_DROP p + 1) 0xFFFF_FFFF ∧ u.coh = s.coh ∧ u.fab = v.fab := by
  have took := consumeFlit_movesCells flit
  obtain ⟨u, runs, answers⟩ := onUnit_answers (f := fun t : State => t.deviceSnoop p ld addr snp) hp
    (deviceSnoop_map (addr := addr) (snp := snp) map flit)
  obtain ⟨frame, regs⟩ := raiseLimited_eventOnly ((v.bump Obj.DEV_BI_DROP p).emit (.birspi p ld addr)) 1000000 p 0x5003 0x50 2 p
    (addr % 2 ^ 64 + ld % 65536 * 2 ^ 64)
  refine ⟨u, runs, ?_, ?_, ?_, ?_⟩
  · rw [answers.out, frame]
    exact List.mem_cons_self
  · rw [answers.reg, regs _ _ (by decide) (by decide), ← took.reg]
    exact reg_setReg_self _ _ _ _
  · rw [answers.coh, frame]
    exact took.coh
  · rw [answers.fab, frame]
    rfl

theorem exec_deviceBisnp_next {u : State} (hp : p < 256) (e : s.deviceSnoop p ld addr snp = u) (k : s.KeepsCourse u) :
    exec (.deviceBisnp p ld addr snp) s = .next u :=
  k.onUnit_next (g := fun t : State => t.deviceSnoop p ld addr snp) hp e

end

/-- Settles O36: the three answers of a walker's command, and the three ways of a device's back-invalidate. -/
theorem walkerAndDevices : Obligations.WalkerAndDevices := by
  unfold Obligations.WalkerAndDevices
  refine ⟨fun s c q turn cached walks purges left => exec_walkerSetVisit_purge turn cached walks purges left,
    fun s c f turn uncached victim => exec_walkerSetVisit_reads turn uncached victim,
    fun s c hc walks purges => exec_walkerSetVisit_idle hc walks purges,
    fun s v p ld addr snp hp map flit => exec_deviceBisnp_map hp map flit,
    fun s v p ld addr snp hp map binders flit => ?_, fun s p ld addr snp k hp map binders up host here => ?_⟩
  · exact exec_deviceBisnp_next hp (deviceSnoop_unbound map binders flit) (consumeFlit_movesCells flit).keepsCourse
  · exact ⟨_, exec_deviceBisnp_next hp (deviceSnoop_bound map binders up host here)
      ((takeFlit_movesCells s p).trans (injectMsg_movesCells _ _)).keepsCourse, rfl, rfl, rfl, rfl, rfl, rfl⟩

end Sys2Proof.Machine
end

section
/-!
SUPPORT. How the transactions of Cairn go on and end: the waiters that an end makes ready, the state that it gives the line, and what it
leaves alone (R199 to R201, R211, R229).
-/

namespace Sys2Proof.Machine

namespace State

/-! ### Waiters and reservations (R211, R218) -/

/-- `t` is, for Cairn's lines and transactions, as `s`; no line is reserved where none was. -/
structure KeepsLines (s t : State) : Prop extends Undisturbed s t where
  dir : t.coh.dir = s.coh.dir
  trk : t.coh.trk = s.coh.trk
  unreserved : s.coh.rsv = [] → t.coh.rsv = []

namespace KeepsLines

variable {s t u : State}

theorem refl (s : State) : s.KeepsLines s := ⟨.refl s, rfl, rfl, id⟩

theorem trans (h : s.KeepsLines t) (k : t.KeepsLines u) : s.KeepsLines u where
  toUndisturbed := h.toUndisturbed.trans k.toUndisturbed
  dir := k.dir.trans h.dir
  trk := k.trk.trans h.trk
  unreserved e := k.unreserved (h.unreserved e)

theorem foldS {α : Type} {f : α → State → State} (h : ∀ a (t : State), t.KeepsLines (f a t)) (l : List α) (s : State) :
    s.KeepsLines (foldS f l s) :=
  foldS_keeps s.KeepsLines f (fun a t kept => kept.trans (h a t)) l s (refl s)

theorem dirEntry (h : s.KeepsLines t) (c set w : Nat) : t.dirEntry c set w = s.dirEntry c set w := by
  rw [State.dirEntry, h.dir, State.dirEntry]

theorem tracker (h : s.KeepsLines t) (c n : Nat) : t.tracker c n = s.tracker c n := by rw [State.tracker, h.trk, State.tracker]

end KeepsLines

theorem KeepsCairn.keepsLines {s t : State} (h : s.KeepsCairn t) : s.KeepsLines t :=
  ⟨h.toUndisturbed, by rw [h.coh], by rw [h.coh], fun e => by rw [h.coh, e]⟩

theorem MovesCells.keepsLines {s t : State} (h : s.MovesCells t) : s.KeepsLines t := h.keepsCairn.keepsLines

section

variable (s : State) (c : Nat)

theorem noteRsv_dirOnly : s.DirOnly (s.noteRsv c) := by
  unfold noteRsv
  refine .foldS (fun e t => ?_) _ s
  dsimp only
  split
  · split_ifs <;> rfl
  · rfl

theorem dir_noteRsv : (s.noteRsv c).coh.dir = s.coh.dir := by
  unfold noteRsv
  refine foldS_unseen (view := fun (t : State) => t.coh.dir) (fun e _ t => ?_) s
  dsimp only
  split
  · split_ifs <;> rfl
  · rfl

theorem noteRsv_unreserved (h : s.coh.rsv = []) : s.noteRsv c = s := by
  unfold noteRsv
  rw [h]
  rfl

theorem noteRsv_keepsLines : s.KeepsLines (s.noteRsv c) where
  toUndisturbed := (noteRsv_dirOnly s c).undisturbed
  dir := dir_noteRsv s c
  trk := (noteRsv_dirOnly s c).trk
  unreserved h := by rw [noteRsv_unreserved s c h, h]

/-- The state with other requests listed. -/
def withReqs (l : List CohReq) : State := { s with coh := { s.coh with reqs := l } }

theorem withReqs_keepsLines (l : List CohReq) : s.KeepsLines (s.withReqs l) := ⟨⟨rfl, rfl, fun _ _ _ _ _ => rfl⟩, rfl, rfl, id⟩

theorem wake_keepsLines (w : Nat) : s.KeepsLines (s.wake c w) := (withReqs_keepsLines s _).trans (noteRsv_keepsLines _ c)

end

/-! ### The line at the end of a transaction (R200, R229) -/

/-- An entry names no LOST or DEAD agent (R229). -/
def Clean (s : State) (e : DirEntry) : Prop :=
  (e.state = 1 → s.liveVec e.sharers = e.sharers) ∧ (e.state = 2 → s.agentOut e.owner = false)

section

variable {s : State} {c set w : Nat}

theorem cleanLine_clean (clean : s.Clean (s.dirEntry c set w)) : s.cleanLine c set w = s := by
  obtain ⟨sharers, owner⟩ := clean
  unfold cleanLine
  dsimp only
  split_ifs with _ unclean _ lost
  · rfl
  · exact absurd (sharers unclean.1) unclean.2
  · exact absurd (sharers unclean.1) unclean.2
  · rw [owner lost.1] at lost
    cases lost.2
  · rfl

theorem cleanLine_dirOnly (s : State) (c set w : Nat) : s.DirOnly (s.cleanLine c set w) := by
  unfold cleanLine
  dsimp only
  split_ifs
  · rfl
  · exact freeWay_dirOnly s c set w
  · exact writeDir_dirOnly s c set w _
  · exact writeDir_dirOnly s c set w _
  · rfl

theorem settleLine_dirOnly (s : State) (c set w state v owner pcause : Nat) : s.DirOnly (s.settleLine c set w state v owner pcause) := by
  unfold settleLine
  dsimp only
  split
  · rfl
  split
  · exact freeWay_dirOnly s c set w
  split
  · exact writeDir_dirOnly s c set w _
  · exact writeDir_dirOnly s c set w _

/-- A line that an agent owns from now on. -/
def ownedEntry (e : DirEntry) (a : Nat) : DirEntry := { e with state := 2, pcause := 0, sharers := 2 ^ a, owner := a }

/-- The low 64 bits of a vector of one agent. -/
theorem bitsOf_two_pow {n a : Nat} (ha : a < n) : bitsOf n (2 ^ a) = [a] := by
  have only (b : Nat) : bit (2 ^ a) b = (b == a) := by
    have same : bit (2 ^ a) b = (2 ^ a).testBit b := by
      rw [bit, Nat.testBit_eq_decide_div_mod_eq]
      rfl
    rw [same, Nat.testBit_two_pow, Bool.beq_comm]
    rfl
  rw [bitsOf, List.filter_congr (fun b _ => only b), List.filter_beq, List.count_eq_one_of_mem List.nodup_range (List.mem_range.mpr ha)]
  rfl

theorem bitSet_singleton (a : Nat) : bitSet [a] = 2 ^ a := by simp [bitSet, setBit, bit]

/-- A vector of one LIVE agent stays (R229). -/
theorem liveVec_two_pow {a : Nat} (ha : a < 64) (live : s.agentOut a = false) : s.liveVec (2 ^ a) = 2 ^ a := by
  simp [liveVec, bitsOf_two_pow ha, live, bitSet_singleton]

theorem agentOut_eq_false {a : Nat} : s.agentOut a = false ↔ s.reg Obj.AGT_STATE a = 0 := by simp [agentOut]

theorem dirEntry_settleLine_owned {a : Nat} (hw : w < 16) (ha : a < 64) (live : s.agentOut a = false) :
    (s.settleLine c set w 2 (bitSet [a]) a 0).dirEntry c set w = ownedEntry (s.dirEntry c set w) a := by
  unfold settleLine
  rw [if_neg (Nat.not_le.mpr hw)]
  simp only [OfNat.ofNat_ne_zero, OfNat.ofNat_ne_one, false_and, or_self, if_false, live, Bool.false_eq_true, and_false,
    dirEntry_writeDir_self, bitSet_singleton, liveVec_two_pow ha live, if_true, ownedEntry]

theorem settleLine_free (hw : w < 16) (v owner pcause : Nat) : s.settleLine c set w 0 v owner pcause = s.freeWay c set w := by
  unfold settleLine
  rw [if_neg (Nat.not_le.mpr hw)]
  simp

end

/-! ### The end of a transaction (R199) -/

section

variable {s : State} {c n : Nat} {t : Trk}

/-- A tracker that ends: it is free, and a back-invalidate of an unbind walk is over. -/
def walksOn (s : State) (t : Trk) : State :=
  if t.ty = 0 then { s with fab := { s.fab with walks := s.fab.walks.map (fun (k : Walk) =>
    if k.win = t.msg.status then { k with snoops := k.snoops - 1 } else k) } } else s

/-- The state in which an end gives its line back: the tracker is free and the line is not BUSY. -/
def unbusied (s : State) (c n : Nat) (t : Trk) : State :=
  let u := (s.setTracker c n none).noteMoved
  u.setDir c t.set t.way { u.dirEntry c t.set t.way with busy := false, trk := 0 }

theorem endTrk_eq (open_ : s.tracker c n = some t) : s.endTrk c n =
    ((((if t.way < 16 then (s.unbusied c n t).cleanLine c t.set t.way else (s.setTracker c n none).noteMoved).walksOn t).wake c n).wake
      c 4094) := by
  unfold endTrk
  rw [open_]
  rfl

theorem walksOn_keepsCairn (s : State) (t : Trk) : s.KeepsCairn (s.walksOn t) := by
  unfold walksOn
  split
  · exact .withFab (.refl s) _
  · exact .refl s

/-- What follows the end of a transaction leaves its line alone. -/
theorem afterEnd_keepsLines (s : State) (t : Trk) : s.KeepsLines (((s.walksOn t).wake c n).wake c 4094) :=
  ((walksOn_keepsCairn s t).keepsLines.trans (wake_keepsLines _ c n)).trans (wake_keepsLines _ c 4094)

theorem setTracker_undisturbed (s : State) (c n : Nat) (x : Option Trk) : s.Undisturbed (s.setTracker c n x) :=
  ⟨rfl, rfl, fun _ _ _ _ _ => rfl⟩

theorem freed_undisturbed (s : State) (c n : Nat) : s.Undisturbed (s.setTracker c n none).noteMoved :=
  (setTracker_undisturbed s c n none).trans (noteMoved_movesCells _).undisturbed

theorem tracker_freed (s : State) (c n : Nat) : (s.setTracker c n none).noteMoved.tracker c n = none :=
  ((noteMoved_movesCells _).keepsLines.tracker c n).trans (tracker_setTracker_self s c n none)

theorem dirEntry_freed (s : State) (c n set w : Nat) : (s.setTracker c n none).noteMoved.dirEntry c set w = s.dirEntry c set w :=
  (noteMoved_movesCells _).keepsLines.dirEntry c set w

theorem unbusied_undisturbed (s : State) (c n : Nat) (t : Trk) : s.Undisturbed (s.unbusied c n t) :=
  (freed_undisturbed s c n).trans (setDir_dirOnly _ _ _ _ _).undisturbed

theorem endTrk_undisturbed (s : State) (c n : Nat) : s.Undisturbed (s.endTrk c n) := by
  cases open_ : s.tracker c n with
  | none =>
    unfold endTrk
    rw [open_]
    exact .refl s
  | some t =>
    rw [endTrk_eq open_]
    refine Undisturbed.trans ?_ (afterEnd_keepsLines _ t).toUndisturbed
    split
    · exact (unbusied_undisturbed s c n t).trans (cleanLine_dirOnly _ _ _ _).undisturbed
    · exact freed_undisturbed s c n

theorem tracker_endTrk (s : State) (c n : Nat) : (s.endTrk c n).tracker c n = none := by
  cases open_ : s.tracker c n with
  | none =>
    unfold endTrk
    rw [open_]
    exact open_
  | some t =>
    rw [endTrk_eq open_, (afterEnd_keepsLines _ t).tracker]
    split
    · rw [(cleanLine_dirOnly _ _ _ _).tracker]
      exact tracker_freed s c n
    · exact tracker_freed s c n

/-- An entry whose transaction has ended. -/
def idleEntry (e : DirEntry) : DirEntry := { e with busy := false, trk := 0 }

theorem dirEntry_unbusied (s : State) (c n : Nat) (t : Trk) :
    (s.unbusied c n t).dirEntry c t.set t.way = idleEntry (s.dirEntry c t.set t.way) := by
  rw [unbusied, dirEntry_setDir_self, dirEntry_freed, idleEntry]

theorem dirEntry_endTrk (open_ : s.tracker c n = some t) (hw : t.way < 16) (clean : s.Clean (s.dirEntry c t.set t.way)) :
    (s.endTrk c n).dirEntry c t.set t.way = idleEntry (s.dirEntry c t.set t.way) := by
  have same : (s.unbusied c n t).Clean ((s.unbusied c n t).dirEntry c t.set t.way) := by
    have kept := unbusied_undisturbed s c n t
    rw [dirEntry_unbusied, Clean, kept.liveVec, kept.agentOut]
    exact clean
  rw [endTrk_eq open_, if_pos hw, (afterEnd_keepsLines _ t).dirEntry, cleanLine_clean same, dirEntry_unbusied]

/-! ### The end by type (R200, R227) -/

theorem finishTrk_undisturbed (s : State) (c n : Nat) (t : Trk) : s.Undisturbed (s.finishTrk c n t) := by
  have ended (u : State) (kept : s.DirOnly u) (data poison orphan : Bool) (bytes : List Byte) :
      s.Undisturbed ((u.endTrk c n).respond t.msg data poison orphan bytes) :=
    (kept.undisturbed.trans (endTrk_undisturbed u c n)).trans (respond_keepsCairn _ _ _ _ _ _).toUndisturbed
  have settled (state v owner pcause : Nat) := settleLine_dirOnly s c t.set t.way state v owner pcause
  unfold finishTrk
  dsimp only
  split
  · exact ((endTrk_undisturbed s c n).trans (dropChain_movesCells _ _).undisturbed).trans (respond_keepsCairn _ _ _ _ _ _).toUndisturbed
  split
  · exact ended _ (settled ..) ..
  split
  · exact (settled ..).undisturbed.trans (endTrk_undisturbed _ c n)
  · refine ended _ ?_ ..
    split
    · exact settled ..
    · rfl
  · exact ended _ (settled ..) ..
  · exact ended _ (settled ..) ..
  · refine ended _ ?_ ..
    split_ifs
    · rfl
    · exact settled ..
    · exact settled ..
    · rfl
  · split <;> exact ended _ (settled ..) ..
  all_goals exact ended _ (settled ..) ..

theorem Clean.of_undisturbed {s u : State} {e : DirEntry} (kept : s.Undisturbed u) (clean : s.Clean e) : u.Clean e := by
  rw [Clean, kept.liveVec, kept.agentOut]
  exact clean

/-- A transaction that ends with an answer frees its tracker, and its line is idle in the state that it was given. -/
theorem respond_endTrk {u : State} {m : Msg} {data poison orphan : Bool} {bytes : List Byte} (kept : s.DirOnly u)
    (open_ : s.tracker c n = some t) (hw : t.way < 16) (clean : s.Clean (u.dirEntry c t.set t.way)) :
    ((u.endTrk c n).respond m data poison orphan bytes).tracker c n = none ∧
    ((u.endTrk c n).respond m data poison orphan bytes).dirEntry c t.set t.way = idleEntry (u.dirEntry c t.set t.way) := by
  have answered := (respond_keepsCairn (u.endTrk c n) m data poison orphan bytes).keepsLines
  refine ⟨(answered.tracker c n).trans (tracker_endTrk u c n), (answered.dirEntry _ _ _).trans ?_⟩
  exact dirEntry_endTrk ((kept.tracker c n).trans open_) hw (clean.of_undisturbed kept.undisturbed)

/-- A read or an upgrade for ownership ends with its requester the owner (R200). -/
theorem finishTrk_owned (open_ : s.tracker c n = some t) (fair : t.asPoison = false) (found : t.lost = false) (ty : t.ty = 2 ∨ t.ty = 3)
    (hw : t.way < 16) (agent : t.agent < 64) (live : s.agentOut t.agent = false) :
    (s.finishTrk c n t).tracker c n = none ∧
    (s.finishTrk c n t).dirEntry c t.set t.way = idleEntry (ownedEntry (s.dirEntry c t.set t.way) t.agent) := by
  have owned : (s.settleLine c t.set t.way 2 (bitSet [t.agent]) t.agent 0).dirEntry c t.set t.way =
    ownedEntry (s.dirEntry c t.set t.way) t.agent := dirEntry_settleLine_owned hw agent live
  have clean : s.Clean (ownedEntry (s.dirEntry c t.set t.way) t.agent) :=
    ⟨fun h => absurd h (by decide : (2 : Nat) ≠ 1), fun _ => live⟩
  unfold finishTrk
  rw [if_neg (by simp [fair]), if_neg (by simp [found]), ← owned]
  rw [← owned] at clean
  obtain ty | ty := ty <;> rw [ty] <;> exact respond_endTrk (settleLine_dirOnly ..) open_ hw clean

/-- A shared read for which no agent had to be asked ends with its line as it stands. -/
theorem finishTrk_shared (open_ : s.tracker c n = some t) (fair : t.asPoison = false) (found : t.lost = false) (ty : t.ty = 1)
    (asked : t.snp ≠ 2) (hw : t.way < 16) (clean : s.Clean (s.dirEntry c t.set t.way)) :
    (s.finishTrk c n t).tracker c n = none ∧ (s.finishTrk c n t).dirEntry c t.set t.way = idleEntry (s.dirEntry c t.set t.way) := by
  unfold finishTrk
  rw [if_neg (by simp [fair]), if_neg (by simp [found]), ty]
  dsimp only
  rw [if_neg asked]
  exact respond_endTrk (.refl s) open_ hw clean

/-- A writeback that leaves nothing cached ends with its way free. -/
theorem finishTrk_free (open_ : s.tracker c n = some t) (fair : t.asPoison = false) (found : t.lost = false) (ty : t.ty = 6)
    (hw : t.way < 16) : (s.finishTrk c n t).tracker c n = none ∧ ((s.finishTrk c n t).dirEntry c t.set t.way).state = 0 ∧
      ((s.finishTrk c n t).dirEntry c t.set t.way).busy = false := by
  have free := (free_freeWay s c t.set t.way).1
  have ends : s.finishTrk c n t = ((s.freeWay c t.set t.way).endTrk c n).respond t.msg false t.poison t.orphan t.data := by
    unfold finishTrk
    rw [if_neg (by simp [fair]), if_neg (by simp [found]), ty, ← settleLine_free hw 0 0 0]
    rfl
  rw [ends]
  obtain ⟨ended, entry⟩ := respond_endTrk (m := t.msg) (data := false) (poison := t.poison) (orphan := t.orphan) (bytes := t.data)
    (freeWay_dirOnly s c t.set t.way) open_ hw ⟨fun e => by simp [free] at e, fun e => by simp [free] at e⟩
  exact ⟨ended, by rw [entry]; exact free, by rw [entry]; rfl⟩

/-! ### A transaction goes on (R200, R201) -/

theorem advanceTrk_waits (open_ : s.tracker c n = some t) (await : t.await ≠ 0) : s.advanceTrk c n = s := by
  unfold advanceTrk
  rw [open_]
  exact if_pos (.inl await)

/-- The transaction as its memory access starts. -/
def memStarted (t : Trk) : Trk := { t with needMem := false, memOut := true }

theorem advanceTrk_starts (open_ : s.tracker c n = some t) (await : t.await = 0) (wbs : t.wbs = []) (found : t.lost = false)
    (need : t.needMem = true) (up : s.dlUp t.msg.egress = true) :
    s.advanceTrk c n = (s.setTracker c n (some (memStarted t))).releaseMsg t.msg := by
  unfold advanceTrk
  rw [open_]
  dsimp only
  rw [if_neg (by simp [await, wbs]), if_neg (by simp [found]), if_pos need]
  exact if_pos up

theorem advanceTrk_open (open_ : s.tracker c n = some t) (await : t.await = 0) (wbs : t.wbs = []) (found : t.lost = false)
    (need : t.needMem = false) (out : t.memOut = true) : s.advanceTrk c n = s := by
  unfold advanceTrk
  rw [open_]
  dsimp only
  rw [if_neg (by simp [await, wbs]), if_neg (by simp [found]), if_neg (by simp [need]), if_pos out]

theorem advanceTrk_finishes (open_ : s.tracker c n = some t) (await : t.await = 0) (wbs : t.wbs = []) (found : t.lost = false)
    (need : t.needMem = false) (out : t.memOut = false) : s.advanceTrk c n = s.finishTrk c n t := by
  unfold advanceTrk
  rw [open_]
  dsimp only
  rw [if_neg (by simp [await, wbs]), if_neg (by simp [found]), if_neg (by simp [need]), if_neg (by simp [out])]

/-! ### What an agent that is lost leaves alone (R160, R227) -/

theorem trkPortLost_undisturbed (s : State) (c n : Nat) (t : Trk) : s.Undisturbed (s.trkPortLost c n t) := by
  have dropped := (endTrk_undisturbed s c n).trans (dropChain_movesCells _ t.msg.uid).undisturbed
  unfold trkPortLost
  dsimp only
  split
  · exact dropped
  · exact dropped.trans (addSynth_keepsCairn _ _ _).toUndisturbed

theorem issueMem_undisturbed (s : State) (c n : Nat) (t : Trk) : s.Undisturbed (s.issueMem c n t) := by
  unfold issueMem
  split
  · exact (releaseMsg_movesCells _ _).undisturbed
  · exact trkPortLost_undisturbed _ _ _ _

theorem advanceTrk_undisturbed (s : State) (c n : Nat) : s.Undisturbed (s.advanceTrk c n) := by
  unfold advanceTrk
  split
  · exact .refl s
  · dsimp only
    split
    · exact .refl s
    split
    · exact finishTrk_undisturbed s c n _
    split
    · exact (setTracker_undisturbed s c n _).trans (issueMem_undisturbed _ c n _)
    split
    · exact .refl s
    · exact finishTrk_undisturbed s c n _

theorem setEvict_undisturbed (s : State) (c n : Nat) (x : Option Evict) : s.Undisturbed (s.setEvict c n x) :=
  ⟨rfl, rfl, fun _ _ _ _ _ => rfl⟩

theorem advanceEvict_undisturbed (s : State) (c n : Nat) : s.Undisturbed (s.advanceEvict c n) := by
  have freed (u : State) : u.Undisturbed (((u.setEvict c n none).wake c (2048 + n)).wake c 4094) :=
    ((setEvict_undisturbed u c n none).trans (wake_keepsLines _ c (2048 + n)).toUndisturbed).trans (wake_keepsLines _ c 4094).toUndisturbed
  unfold advanceEvict
  split
  · exact .refl s
  · dsimp only
    split
    · exact .refl s
    split
    · exact (poisonWrite_movesCells s _).undisturbed.trans (freed _)
    · exact freed s

theorem lostWait_undisturbed (s : State) (a : Nat) : s.Undisturbed (s.lostWait a) := by
  unfold lostWait
  dsimp only
  refine .trans (.foldS (fun e u => ?_) _ s) (.foldS (fun e u => ?_) _ _)
  · split
    · split
      · exact (setTracker_undisturbed u _ _ _).trans (advanceTrk_undisturbed _ _ _)
      · exact .refl u
    · exact .refl u
  · split
    · split
      · exact (setEvict_undisturbed u _ _ _).trans (advanceEvict_undisturbed _ _ _)
      · exact .refl u
    · exact .refl u

end

end State

end Sys2Proof.Machine
end

section
/-!
SUPPORT. What the hold buffers of a port leave alone when one of their entries is taken or released (R213, R223), and the completion that
is synthesized for a request of a port (R157, R158).
-/

namespace Sys2Proof.Machine

namespace State

section

variable (s : State)

/-! ### The hold buffer -/

theorem fillHold_eq (p : Nat) : s.fillHold p = s.withReqs (s.fillHold p).coh.reqs := by
  unfold fillHold
  split
  · rfl
  · refine foldS_keeps (fun (t : State) => t = s.withReqs t.coh.reqs) _ (fun _ t same => ?_) _ s rfl
    split
    · exact same
    split
    · exact same
    · dsimp only
      split <;> (rw [same]; rfl)

/-- The hold buffer of `p` is noted as full, or as not full. -/
def withFull (p : Nat) (full : Bool) : State := { s with coh := { s.coh with fullAt := s.coh.fullAt.set false (p, 0) full } }

theorem withFull_keepsLines (p : Nat) (full : Bool) : s.KeepsLines (s.withFull p full) :=
  ⟨⟨rfl, rfl, fun _ _ _ _ _ => rfl⟩, rfl, rfl, id⟩

/-- What a hold buffer's note does: requests take entries, and then the port is found full for the first time, still full, or not full. -/
theorem noteHoldFull_cases (p : Nat) : ∃ full freq, s.noteHoldFull p =
      (((s.fillHold p).withFull p full).bump Obj.HOLD_FULL_CNT p).raiseLimited 1000000 p 0x5008 0x50 2 p freq ∨
    s.noteHoldFull p = (s.fillHold p).withFull p full ∨ s.noteHoldFull p = ((s.fillHold p).withFull p full).settleCredits p := by
  refine ⟨p < 256 && decide (256 ≤ (s.fillHold p).holdUsed p), ?_⟩
  unfold noteHoldFull
  dsimp only
  split
  · exact ⟨_, .inl rfl⟩
  · split
    · exact ⟨0, .inr (.inl rfl)⟩
    · exact ⟨0, .inr (.inr rfl)⟩

/-- The requests that are listed after the note are those of `fillHold`. -/
theorem noteHoldFull_frame (p : Nat) : s.KeepsLines (s.noteHoldFull p) ∧ (s.noteHoldFull p).coh.reqs = (s.fillHold p).coh.reqs ∧
    (s.noteHoldFull p).fab.hold = s.fab.hold ∧ (s.noteHoldFull p).fab.synth = s.fab.synth := by
  obtain ⟨full, freq, e⟩ := s.noteHoldFull_cases p
  have filled : s.KeepsLines ((s.fillHold p).withFull p full) := by
    rw [fillHold_eq]
    exact (withReqs_keepsLines s _).trans (withFull_keepsLines _ p full)
  have fab : ((s.fillHold p).withFull p full).fab = s.fab := by
    rw [fillHold_eq]
    rfl
  obtain e | e | e := e
  · have raised := (raiseLimited_eventOnly (((s.fillHold p).withFull p full).bump Obj.HOLD_FULL_CNT p) 1000000 p 0x5008 0x50 2 p freq).1
    have kept := (bump_keepsCairn ((s.fillHold p).withFull p full) (o := Obj.HOLD_FULL_CNT) p 1 (by decide)).trans
      (raiseLimited_keepsCairn _ 1000000 p 0x5008 0x50 2 p freq)
    refine ⟨by rw [e]; exact filled.trans kept.keepsLines, by rw [e, kept.coh]; rfl, ?_, ?_⟩
    · rw [e, raised]
      exact congrArg FabSt.hold fab
    · rw [e, raised]
      exact congrArg FabSt.synth fab
  · rw [e]
    exact ⟨filled, rfl, congrArg FabSt.hold fab, congrArg FabSt.synth fab⟩
  · have settled := settleCredits_movesCells ((s.fillHold p).withFull p full) p
    rw [e]
    exact ⟨filled.trans settled.keepsLines, by rw [settled.coh]; rfl, settled.hold.trans (congrArg FabSt.hold fab),
      settled.synth.trans (congrArg FabSt.synth fab)⟩

theorem noteHoldFull_keepsLines (p : Nat) : s.KeepsLines (s.noteHoldFull p) := (s.noteHoldFull_frame p).1

/-! ### Synthesized completions -/

/-- A request of a port is answered by a completion of its own on the port's list, and holds stay as they are. -/
theorem addSynth_listed {cause : Nat} {m : Msg} (request : m.kind = .request) (outer : m.internal = false) (port : m.inPort < 256) :
    (∃ x, (s.addSynth cause m).synth m.inPort = s.synth m.inPort ++ [x] ∧ x.cause = cause ∧ x.msg.uid = m.uid) ∧
    (s.addSynth cause m).fab.hold = s.fab.hold := by
  have accrued := accrue_movesCells s m.inPort
  have listed (l : List Synth) : ((s.accrue m.inPort).setSynth m.inPort l).fab.hold = s.fab.hold := accrued.hold
  unfold addSynth
  rw [if_neg (by simp [request, Nat.ne_of_lt port]), if_neg (by simp [outer])]
  dsimp only
  split_ifs
  · exact ⟨⟨_, synth_setSynth_self _ _ _, rfl, rfl⟩, listed _⟩
  · exact ⟨⟨_, synth_setSynth_self _ _ _, rfl, rfl⟩, listed _⟩
  · exact ⟨⟨_, synth_setSynth_self _ _ _, rfl, rfl⟩, listed _⟩
  · exact ⟨⟨_, synth_setSynth_self _ _ _, rfl, rfl⟩, listed _⟩

end

end State

end Sys2Proof.Machine
end

section
/-!
The obligation `CoherentEnds`: back-invalidate responses, sets read from HBM, memory's answers, and the timeouts (R193, R199, R201, R218,
R224, R225, R228).
-/

namespace Sys2Proof.Machine

open State

namespace State

/-! ### Back-invalidate responses (R201) -/

section

variable {s v : State} {p c n a kind : Nat} {t : Trk}

theorem MovesCells.agentsOfPort (h : s.MovesCells v) (p : Nat) : v.agentsOfPort p = s.agentsOfPort p := by
  simp only [State.agentsOfPort, agentPort, h.reg]

theorem MovesCells.deviceHomed (h : s.MovesCells v) (p biid : Nat) : v.deviceHomed p biid = s.deviceHomed p biid := by
  simp only [State.deviceHomed, hostPart, bound, ldInMap, windows, winCfg, ldLocal, h.reg, h.regs, h.walks]
  rfl

/-- A transaction once the only agent that it awaited has answered with kind 1 I, 2 S or 3 E. -/
def afterRsp (t : Trk) (a kind : Nat) : Trk :=
  { t with await := 0, vec := if kind = 1 then clrBit t.vec a else t.vec, own := t.own || kind == 3 }

/-- A response that the snoop allows is taken, and the transaction goes on (R201). -/
theorem biRsp_eq (h : s.AwaitsOnly p c n a t) (allowed : kind = 1 ∨ kind = 2 ∧ t.snp = 2 ∨ kind = 3 ∧ t.snp = 3) :
    ∃ v, s.MovesCells v ∧ s.biRsp p c n kind = (v.setTracker c n (some (afterRsp t a kind))).advanceTrk c n := by
  obtain ⟨-, hc, hn, ⟨v, flit⟩, fabric, agent, open_, awaited, last, -, -, -⟩ := h
  have took := consumeFlit_movesCells flit
  refine ⟨v, took, ?_⟩
  unfold biRsp agentRsp
  simp only [flit, took.deviceHomed, fabric, took.agentsOfPort, took.reg, agent, if_neg (Nat.not_le.mpr hn), Nat.mod_eq_of_lt hc,
    took.keepsLines.tracker, open_, if_pos awaited, last]
  obtain rfl | ⟨rfl, snp⟩ | ⟨rfl, snp⟩ := allowed
  · rfl
  · have snoops : (t.snp == 2 || t.snp == 3) = true := by simp [snp]
    rw [snoops]
    rfl
  · have snoops : (t.snp == 3) = true := by simp [snp]
    rw [snoops]
    rfl

end

end State

section

variable {s : State} {p c n a : Nat} {t : Trk}

/-- The last response of agents that are asked to give up the line ends the transaction: its requester owns the line. -/
theorem exec_birspi (h : s.AwaitsOnly p c n a t) (ty : t.ty = 2) (need : t.needMem = false) (out : t.memOut = false) (hw : t.way < 16)
    (agent : t.agent < 64) (live : s.reg Obj.AGT_STATE t.agent = 0) :
    ∃ u : State, exec (.birspi p c n) s = .next u ∧ u.tracker c n = none ∧
      u.dirEntry c t.set t.way = idleEntry (ownedEntry (s.dirEntry c t.set t.way) t.agent) := by
  obtain ⟨v, took, e⟩ := biRsp_eq h (kind := 1) (.inl rfl)
  obtain ⟨hp, -, -, -, -, -, -, -, -, wbs, found, fair⟩ := h
  have open_ := tracker_setTracker_self v c n (some (afterRsp t a 1))
  rw [advanceTrk_finishes open_ rfl wbs found need out] at e
  obtain ⟨u, runs, same⟩ := onUnit_answers (f := fun x : State => x.biRsp p c n 1) hp e
  have here : (v.setTracker c n (some (afterRsp t a 1))).agentOut t.agent = false := by
    rw [agentOut_eq_false, reg_setTracker, took.reg, live]
  obtain ⟨ended, entry⟩ := finishTrk_owned open_ fair found (.inl ty) hw agent here
  refine ⟨u, runs, (same.tracker _ _).trans ended, (same.dirEntry _ _ _).trans (entry.trans ?_)⟩
  exact congrArg (fun x => idleEntry (ownedEntry x t.agent)) (took.keepsLines.dirEntry c t.set t.way)

/-- The last response that memory waited for starts its access. -/
theorem biRsp_starts {kind : Nat} (h : s.AwaitsOnly p c n a t) (allowed : kind = 1 ∨ kind = 2 ∧ t.snp = 2 ∨ kind = 3 ∧ t.snp = 3)
    (need : t.needMem = true) (up : s.dlUp t.msg.egress = true) :
    (s.biRsp p c n kind).tracker c n = some (memStarted (afterRsp t a kind)) ∧ (s.biRsp p c n kind).coh.dir = s.coh.dir := by
  obtain ⟨v, took, e⟩ := biRsp_eq h allowed
  obtain ⟨-, -, -, -, -, -, -, -, -, wbs, found, -⟩ := h
  have open_ := tracker_setTracker_self v c n (some (afterRsp t a kind))
  rw [advanceTrk_starts open_ rfl wbs found need ((took.dlUp t.msg.egress).trans up)] at e
  have sent := (releaseMsg_movesCells ((v.setTracker c n (some (afterRsp t a kind))).setTracker c n (some (memStarted (afterRsp t a kind))))
    t.msg).keepsLines
  rw [e]
  exact ⟨(sent.tracker c n).trans (tracker_setTracker_self _ _ _ _), sent.dir.trans took.keepsLines.dir⟩

end

/-! ### Sets read from HBM (R193) -/

section

variable {s : State} {c set w : Nat}

namespace State

/-- A set that has arrived is read no longer; its corrected ways are counted. -/
def setArrived (s : State) (c set : Nat) (corrected : List Nat) : State :=
  ({ s with coh := { s.coh with reads := s.coh.reads.erase (c, set) } } : State).bump64 Obj.DIR_ECC_CORR c corrected.length

/-- A way with an uncorrectable error is out of use (R193). -/
def loseWay (s : State) (c set w : Nat) : State :=
  ((s.writeDir c set w { dirDflt with state := 3, pcause := 2, tag := 0x1F_FFFF, rank := (s.dirEntry c set w).rank }).bump
    Obj.DIR_ECC_UNCORR c).raise 0x5002 0x50 4 c (set + 2 ^ 24 * w)

/-- A set for which nothing waits only loses its bad ways. -/
theorem setRead_eq {corrected lost : List Nat} {u : State} (reading : s.coh.reads.contains (c, set) = true)
    (lose : foldS (fun w (x : State) => x.loseWay c set w) (lost.filter (· < 16)) (s.setArrived c set corrected) = u)
    (reqs : ∀ r ∈ u.coh.reqs, r.admitted = false) (lookup : u.coh.lookup = none) (walk : u.coh.walkWait.get 0 (c, 0) ≠ set + 1) :
    s.setRead c set corrected lost = u := by
  have idle : u.coh.reqs.filter (·.admitted) = [] := List.filter_eq_nil_iff.mpr (fun r mem => by simp [reqs r mem])
  unfold setRead
  rw [if_neg (by rw [reading]; decide)]
  simp only [loseWay, setArrived] at lose
  simp only [lose, idle, List.length_nil, List.range_zero, foldS, lookup]
  exact if_neg walk

/-- A way that is lost is POISONED, counted and told; nothing else of Cairn changes. -/
theorem loseWay_frame (s : State) (c set w : Nat) : (s.loseWay c set w).coh.reqs = s.coh.reqs ∧
    (s.loseWay c set w).coh.lookup = s.coh.lookup ∧ (s.loseWay c set w).coh.walkWait = s.coh.walkWait ∧
    ((s.loseWay c set w).dirEntry c set w).state = 3 ∧ ((s.loseWay c set w).dirEntry c set w).pcause = 2 ∧
    (s.loseWay c set w).reg Obj.DIR_ECC_UNCORR c = min (s.reg Obj.DIR_ECC_UNCORR c + 1) 0xFFFF_FFFF ∧
    (s.loseWay c set w).dict.seq = (s.dict.seq + 1) % 65536 := by
  have written := writeDir_dirOnly s c set w { dirDflt with state := 3, pcause := 2, tag := 0x1F_FFFF, rank := (s.dirEntry c set w).rank }
  have entry : (s.loseWay c set w).dirEntry c set w =
      { dirDflt with state := 3, pcause := 2, tag := 0x1F_FFFF, rank := (s.dirEntry c set w).rank } := by
    rw [loseWay, dirEntry, coh_raise]
    exact dirEntry_writeDir_self s c set w _
  refine ⟨?_, ?_, ?_, by rw [entry], by rw [entry], ?_, ?_⟩
  · rw [loseWay, coh_raise, bump, coh_setReg, written]
  · rw [loseWay, coh_raise, bump, coh_setReg, written]
  · rw [loseWay, coh_raise, bump, coh_setReg, written]
  · rw [loseWay, reg_raise _ _ _ _ _ _ c (by decide) (by decide), bump, reg_setReg_self, written.reg]
  · rw [loseWay, seq_raise, bump, dict_setReg, written]

end State

variable (hc : c < 8) (reading : s.coh.reads.contains (c, set) = true) (reqs : ∀ r ∈ s.coh.reqs, r.admitted = false)
  (lookup : s.coh.lookup = none) (walk : s.coh.walkWait.get 0 (c, 0) ≠ set + 1)

include hc reading reqs lookup walk

theorem exec_dirSetReadDone_corrected (corrected : List Nat) :
    ∃ u : State, exec (.dirSetReadDone c set corrected []) s = .next u ∧ u.coh.reads = s.coh.reads.erase (c, set) ∧
      u.reg Obj.DIR_ECC_CORR c = (s.reg Obj.DIR_ECC_CORR c + corrected.length) % 2 ^ 64 ∧ u.coh.dir = s.coh.dir := by
  obtain ⟨u, runs, same⟩ := onUnit_answers (f := fun x : State => x.setRead c set corrected []) hc
    (setRead_eq (u := s.setArrived c set corrected) reading rfl reqs lookup walk)
  refine ⟨u, runs, by rw [same.coh]; rfl, (same.reg _ _).trans (reg_setReg_self _ _ _ _), by rw [same.coh]; rfl⟩

theorem exec_dirSetReadDone_lost (hw : w < 16) :
    ∃ u : State, exec (.dirSetReadDone c set [] [w]) s = .next u ∧ (u.dirEntry c set w).state = 3 ∧
      (u.dirEntry c set w).pcause = 2 ∧
      u.reg Obj.DIR_ECC_UNCORR c = min (s.reg Obj.DIR_ECC_UNCORR c + 1) 0xFFFF_FFFF ∧ u.dict.seq = (s.dict.seq + 1) % 65536 := by
  obtain ⟨listed, looked, waits, state, cause, counted, seq⟩ := loseWay_frame (s.setArrived c set []) c set w
  have lost : [w].filter (· < 16) = [w] := by simp [hw]
  obtain ⟨u, runs, same⟩ := onUnit_answers (f := fun x : State => x.setRead c set [] [w]) hc
    (setRead_eq (u := (s.setArrived c set []).loseWay c set w) reading (by rw [lost]; rfl) (by rw [listed]; exact reqs)
      (looked.trans lookup) (by rw [waits]; exact walk))
  refine ⟨u, runs, by rw [same.dirEntry, state], by rw [same.dirEntry, cause], (same.reg _ _).trans (counted.trans ?_), ?_⟩
  · rw [setArrived, bump64, reg_setReg_of_ne _ _ _ _ (by simp)]
    rfl
  · rw [same.dict, seq]
    rfl

end

/-! ### Memory's answers (R199) -/

section

variable {s : State} {c n : Nat} {t : Trk}

/-- A read whose data memory has returned. -/
def dataReturned (t : Trk) (data : List Byte) : Trk := { t with memOut := false, have_ := true, poison := false, data := data }

theorem exec_memReadDataReturn (hc : c < 8) (open_ : s.tracker c n = some t) (flit : s.Consumes t.msg.egress .memDrs)
    (data : List Byte) (ty : t.ty = 1) (snp : t.snp = 0) (await : t.await = 0) (wbs : t.wbs = []) (found : t.lost = false)
    (fair : t.asPoison = false) (need : t.needMem = false) (out : t.memOut = true) (write : t.write = false) (hw : t.way < 16)
    (state : (s.dirEntry c t.set t.way).state = 1)
    (live : s.liveVec (s.dirEntry c t.set t.way).sharers = (s.dirEntry c t.set t.way).sharers) :
    ∃ u : State, exec (.memReadDataReturn c n false data) s = .next u ∧ u.tracker c n = none ∧
      u.dirEntry c t.set t.way = idleEntry (s.dirEntry c t.set t.way) := by
  obtain ⟨v, flit⟩ := flit
  have took := consumeFlit_movesCells flit
  have entry : (v.setTracker c n (some (dataReturned t data))).dirEntry c (dataReturned t data).set (dataReturned t data).way =
      s.dirEntry c t.set t.way := took.keepsLines.dirEntry _ _ _
  have read := tracker_setTracker_self v c n (some (dataReturned t data))
  have e : s.memReturn c n false false data = (v.setTracker c n (some (dataReturned t data))).finishTrk c n
      (dataReturned t data) := by
    rw [← advanceTrk_finishes read await wbs found need rfl]
    unfold memReturn
    rw [open_]
    simp only [Bool.false_eq_true, if_false, out, write, Bool.not_false, Bool.and_self, if_true, fromMemory, flit,
      dataReturned]
  have clean : (v.setTracker c n (some (dataReturned t data))).Clean (s.dirEntry c t.set t.way) :=
    .of_undisturbed (took.undisturbed.trans (setTracker_undisturbed _ _ _ _)) ⟨fun _ => live, fun owned => by simp [state] at owned⟩
  obtain ⟨ended, line⟩ := finishTrk_shared read fair found ty (by simp [dataReturned, snp]) hw (by rw [entry]; exact clean)
  obtain ⟨u, runs, same⟩ := onUnit_answers (f := fun x : State => x.memReturn c n false false data) hc e
  exact ⟨u, runs, (same.tracker _ _).trans ended, (same.dirEntry _ _ _).trans (line.trans (congrArg idleEntry entry))⟩

theorem exec_memWriteCompletion (hc : c < 8) (hn : n < 2048) (open_ : s.tracker c n = some t) (flit : s.Consumes t.msg.egress .memNdr)
    (ty : t.ty = 6) (await : t.await = 0) (wbs : t.wbs = []) (found : t.lost = false) (fair : t.asPoison = false)
    (need : t.needMem = false) (out : t.memOut = true) (write : t.write = true) (hw : t.way < 16) :
    ∃ u : State, exec (.memWriteCompletion c n) s = .next u ∧ u.tracker c n = none ∧ (u.dirEntry c t.set t.way).state = 0 ∧
      (u.dirEntry c t.set t.way).busy = false := by
  obtain ⟨v, flit⟩ := flit
  have written := tracker_setTracker_self (v.markDirty t.msg.home) c n (some { t with memOut := false })
  have e : s.memReturn c n true false [] = ((v.markDirty t.msg.home).setTracker c n (some { t with memOut := false })).finishTrk
      c n { t with memOut := false } := by
    rw [← advanceTrk_finishes written await wbs found need rfl]
    unfold memReturn
    rw [open_]
    simp only [if_true, wbs, out, write, Bool.and_self, fromMemory, flit]
  obtain ⟨ended, free, idle⟩ := finishTrk_free written fair found ty hw
  obtain ⟨u, runs, same⟩ := onUnit_answers
    (f := fun x : State => if 2048 ≤ n then x.evictReturn c (n - 2048) else x.memReturn c n true false []) hc
    ((if_neg (Nat.not_le.mpr hn)).trans e)
  exact ⟨u, runs, (same.tracker _ _).trans ended, by rw [same.dirEntry]; exact free, by rw [same.dirEntry]; exact idle⟩

end

/-! ### Home timeouts (R225, R228) -/

section

variable {s : State} {c n a : Nat} {t : Trk}

/-- A home timeout is counted. -/
def timeoutCounted (s : State) (c : Nat) : State := s.bump Obj.HOME_TIMEOUT_CNT c

/-- A timed-out transaction ends with its line POISONED; then the agents that it awaits die. -/
theorem timeoutTrk_ends (open_ : s.tracker c n = some t) (hw : t.way < 16) : ∃ v : State,
    timeoutTrk s c n t = foldS (fun a (u : State) => u.agentDies a t.line) (if t.await ≠ 0 then bitsOf 64 t.await else []) v ∧
    v.tracker c n = none ∧ v.dirEntry c t.set t.way = idleEntry (poisonedEntry (s.dirEntry c t.set t.way)) ∧
    (timeoutCounted s c).Undisturbed v := by
  unfold timeoutTrk
  dsimp only
  refine ⟨_, rfl, ?_⟩
  generalize raised : (s.bump Obj.HOME_TIMEOUT_CNT c).raise 0x5004 0x50 3 c _ = r
  have told : (timeoutCounted s c).KeepsCairn r := raised ▸ raise_keepsCairn _ _ _ _ _ _
  have openTold : r.tracker c n = some t := (told.keepsLines.tracker c n).trans open_
  have poisons : poisonLine r c t = r.writeDir c t.set t.way (poisonedEntry (r.dirEntry c t.set t.way)) := by
    unfold poisonLine
    exact if_pos hw
  have written := writeDir_dirOnly r c t.set t.way (poisonedEntry (r.dirEntry c t.set t.way))
  have entry : (poisonLine r c t).dirEntry c t.set t.way = poisonedEntry (s.dirEntry c t.set t.way) := by
    rw [poisons, dirEntry_writeDir_self, told.keepsLines.dirEntry]
    rfl
  have answered (w : State) : w.KeepsCairn (foldS (fun (m : Msg) (u : State) => u.respond m false false false []) t.wbs
      ((w.dropChain t.msg.uid).respond t.msg (t.ty < 5) (t.ty < 5) t.orphan [])) :=
    ((dropChain_movesCells w t.msg.uid).keepsCairn.trans (respond_keepsCairn _ _ _ _ _ _)).trans
      (.foldS (fun m u => respond_keepsCairn u m _ _ _ _) _ _)
  have done := answered ((poisonLine r c t).endTrk c n)
  refine ⟨(done.keepsLines.tracker c n).trans (tracker_endTrk _ c n), (done.keepsLines.dirEntry _ _ _).trans ?_, ?_⟩
  · rw [← entry]
    refine dirEntry_endTrk ((poisons ▸ written.tracker c n).trans openTold) hw ?_
    rw [entry]
    exact ⟨fun h => absurd h (by decide : (3 : Nat) ≠ 1), fun h => absurd h (by decide : (3 : Nat) ≠ 2)⟩
  · exact (told.toUndisturbed.trans (poisons ▸ written.undisturbed)).trans ((endTrk_undisturbed _ c n).trans done.toUndisturbed)

/-- What HOME_TIMEOUT makes of a state (R225). -/
def homeTimedOut (c n : Nat) (s : State) : State :=
  if n < 2048 then
    match s.tracker c n with
    | some t => if s.after t.at_ (s.reg Obj.DIR_TIMEOUT 0 * 1000) then timeoutTrk s c n t else s
    | none => s
  else match s.evictEntry c (n - 2048) with
    | some e => if s.after e.at_ (s.reg Obj.DIR_TIMEOUT 0 * 1000) then timeoutEvict s c (n - 2048) e else s
    | none => s

theorem exec_homeTimeout : exec (.homeTimeout c n) s = onUnit c 8 s (homeTimedOut c n) := rfl

theorem homeTimedOut_tracker (hn : n < 2048) (open_ : s.tracker c n = some t) : homeTimedOut c n s =
    if s.after t.at_ (s.reg Obj.DIR_TIMEOUT 0 * 1000) then timeoutTrk s c n t else s := by
  rw [homeTimedOut, if_pos hn, open_]

theorem homeTimedOut_late (hn : n < 2048) (open_ : s.tracker c n = some t)
    (late : s.after t.at_ (s.reg Obj.DIR_TIMEOUT 0 * 1000) = true) : homeTimedOut c n s = timeoutTrk s c n t :=
  (homeTimedOut_tracker hn open_).trans (if_pos late)

theorem exec_homeTimeout_early (hc : c < 8) (hn : n < 2048) (open_ : s.tracker c n = some t)
    (early : s.after t.at_ (s.reg Obj.DIR_TIMEOUT 0 * 1000) = false) : exec (.homeTimeout c n) s = .next s := by
  have e := homeTimedOut_tracker hn open_
  rw [if_neg (by simp [early])] at e
  exact exec_homeTimeout.trans (onUnit_eq_next hc e rfl rfl rfl)

theorem exec_homeTimeout_memory (hc : c < 8) (hn : n < 2048) (open_ : s.tracker c n = some t)
    (late : s.after t.at_ (s.reg Obj.DIR_TIMEOUT 0 * 1000) = true) (await : t.await = 0) (hw : t.way < 16) :
    ∃ u : State, exec (.homeTimeout c n) s = .next u ∧ u.tracker c n = none ∧
      u.dirEntry c t.set t.way = idleEntry (poisonedEntry (s.dirEntry c t.set t.way)) ∧
      u.reg Obj.HOME_TIMEOUT_CNT c = min (s.reg Obj.HOME_TIMEOUT_CNT c + 1) 0xFFFF_FFFF := by
  obtain ⟨v, e, ended, entry, kept⟩ := timeoutTrk_ends open_ hw
  rw [if_neg (by simp [await]), foldS] at e
  obtain ⟨u, runs, same⟩ := onUnit_answers hc ((homeTimedOut_late hn open_ late).trans e)
  refine ⟨u, exec_homeTimeout.trans runs, (same.tracker _ _).trans ended, (same.dirEntry _ _ _).trans entry, ?_⟩
  rw [same.reg, kept.regs _ _ (by decide) (by decide) (by decide)]
  exact reg_setReg_self _ _ _ _

/-- A LIVE agent that is silent is DEAD_PURGING from now on, and a job purges what it held (R228, R230). -/
theorem agentDies_dead (live : s.reg Obj.AGT_STATE a = 0) (line : Nat) : (s.agentDies a line).reg Obj.AGT_STATE a = 2 ∧
    (s.agentDies a line).reg Obj.AGT_DOWN_TIME a = s.now ∧ ∃ q ∈ (s.agentDies a line).coh.purges, q.agent = a ∧ q.dead = true := by
  unfold agentDies
  rw [if_neg (by simp [live])]
  generalize raised : ((s.setReg Obj.AGT_STATE a 2).setReg Obj.AGT_DOWN_TIME a s.now).raise 0x5005 0x50 4 a (a + 256 * (line % 2 ^ 49)) = r
  have told : (((s.setReg Obj.AGT_STATE a 2).setReg Obj.AGT_DOWN_TIME a s.now)).Undisturbed r :=
    raised ▸ (raise_keepsCairn _ _ _ _ _ _).toUndisturbed
  have kept := (told.trans (lostWait_undisturbed r a)).regs
  refine ⟨?_, ?_, ⟨_, List.mem_append_right _ (List.mem_singleton.mpr rfl), rfl, rfl⟩⟩
  · refine (kept Obj.AGT_STATE a (by decide) (by decide) (by decide)).trans ?_
    rw [reg_setReg_of_ne _ _ _ _ (by simp), reg_setReg_self]
  · exact (kept Obj.AGT_DOWN_TIME a (by decide) (by decide) (by decide)).trans (reg_setReg_self _ _ _ _)

theorem exec_homeTimeout_silent (hc : c < 8) (hn : n < 2048) (open_ : s.tracker c n = some t)
    (late : s.after t.at_ (s.reg Obj.DIR_TIMEOUT 0 * 1000) = true) (await : t.await = 2 ^ a) (ha : a < 64) (hw : t.way < 16)
    (live : s.reg Obj.AGT_STATE a = 0) :
    ∃ u : State, exec (.homeTimeout c n) s = .next u ∧ u.reg Obj.AGT_STATE a = 2 ∧ u.reg Obj.AGT_DOWN_TIME a = s.now ∧
      (∃ q ∈ u.coh.purges, q.agent = a ∧ q.dead = true) := by
  obtain ⟨v, e, -, -, kept⟩ := timeoutTrk_ends open_ hw
  rw [if_pos (by simp [await]), await, bitsOf_two_pow ha, foldS, foldS] at e
  have alive : v.reg Obj.AGT_STATE a = 0 := by
    rw [kept.regs _ _ (by decide) (by decide) (by decide), timeoutCounted, bump, reg_setReg_of_ne _ _ _ _ (by simp), live]
  have now : v.now = s.now := by
    rw [State.now, kept.ctr]
    rfl
  obtain ⟨dead, since, purge⟩ := agentDies_dead alive t.line
  obtain ⟨u, runs, same⟩ := onUnit_answers hc ((homeTimedOut_late hn open_ late).trans e)
  refine ⟨u, exec_homeTimeout.trans runs, (same.reg _ _).trans dead, (same.reg _ _).trans (since.trans now), ?_⟩
  rw [same.coh]
  exact purge

end

/-! ### Reservations that expire (R218) -/

section

variable {s : State} {c n : Nat} {r : Rsv}

/-- A register without an entry stays without one when its slice's reservations are noted. -/
theorem rsvReg_noteRsv_absent (absent : ∀ e ∈ s.coh.rsv, e.1 ≠ (c, n)) : (s.noteRsv c).rsvReg c n = s.rsvReg c n := by
  unfold noteRsv
  refine foldS_unseen (view := fun (u : State) => u.rsvReg c n) (fun e mem u => ?_) s
  have other : (c, n) ≠ (c, e.1) := by
    obtain ⟨x, listed, same⟩ := List.mem_filterMap.mp mem
    split at same
    · next slice =>
      cases same
      exact fun key => absent x listed (Prod.ext slice (Prod.mk.inj key).2.symm)
    · cases same
  dsimp only
  split
  · split_ifs
    · exact rsvReg_setRsv_of_ne _ _ _ _ other
    · exact rsvReg_setRsv_of_ne _ _ _ _ other
    · rfl
  · rfl

/-- A reservation that is released leaves its register empty; objects and events stay as they are. -/
theorem dropRsv_frame (reserved : s.rsvReg c n = some r) : (s.dropRsv c n).rsvReg c n = none ∧
    (s.dropRsv c n).regs = s.regs ∧ (s.dropRsv c n).dict = s.dict := by
  unfold dropRsv
  rw [reserved]
  dsimp only
  generalize cleared : foldS (fun w (v : State) => v.setDir c _ w _) _ (s.setRsv c n none) = v
  have rsv : v.coh.rsv = (s.setRsv c n none).coh.rsv := by
    rw [← cleared]
    refine foldS_unseen (view := fun (u : State) => u.coh.rsv) (fun w _ u => ?_) _
    rfl
  have kept : s.DirOnly v := by
    rw [← cleared]
    exact (setRsv_dirOnly s c n none).trans (.foldS (fun w u => setDir_dirOnly u _ _ _ _) _ _)
  unfold wake
  refine ⟨(rsvReg_noteRsv_absent fun e mem => ?_).trans ?_, ?_, ?_⟩
  · have gone : (s.setRsv c n none).coh.rsv = s.coh.rsv.erase (c, n) := by
      change Tbl.set s.coh.rsv none (c, n) none = _
      unfold Tbl.set
      exact if_pos rfl
    exact (Tbl.mem_erase s.coh.rsv (c, n) e (gone ▸ rsv ▸ mem)).2
  · exact (congrArg (fun x => Tbl.get x none (c, n)) rsv).trans (rsvReg_setRsv_self s c n none)
  · rw [noteRsv_dirOnly _ c, kept]
  · rw [noteRsv_dirOnly _ c, kept]

/-- What RSV_EXPIRED makes of a state (R218). -/
def rsvLapsed (c n : Nat) (s : State) : State :=
  match s.rsvReg c n with
  | none => s
  | some r =>
    if r.readyAt ≠ 0 ∧ s.after (r.readyAt - 1) (s.reg Obj.RSV_TIMEOUT 0) = true then
      ((s.dropRsv c n).bump Obj.RSV_EXPIRED_CNT c).raise 0x5007 0x50 2 c (r.line % 2 ^ 49 + r.port % 256 * 2 ^ 56)
    else s

theorem rsvLapsed_late (reserved : s.rsvReg c n = some r) (ready : r.readyAt ≠ 0)
    (late : s.after (r.readyAt - 1) (s.reg Obj.RSV_TIMEOUT 0) = true) : rsvLapsed c n s =
    ((s.dropRsv c n).bump Obj.RSV_EXPIRED_CNT c).raise 0x5007 0x50 2 c (r.line % 2 ^ 49 + r.port % 256 * 2 ^ 56) := by
  rw [rsvLapsed, reserved]
  exact if_pos ⟨ready, late⟩

theorem exec_rsvExpired (hc : c < 8) (reserved : s.rsvReg c n = some r) (ready : r.readyAt ≠ 0)
    (late : s.after (r.readyAt - 1) (s.reg Obj.RSV_TIMEOUT 0) = true) :
    ∃ u : State, exec (.rsvExpired c n) s = .next u ∧ u.rsvReg c n = none ∧
      u.reg Obj.RSV_EXPIRED_CNT c = min (s.reg Obj.RSV_EXPIRED_CNT c + 1) 0xFFFF_FFFF ∧ u.dict.seq = (s.dict.seq + 1) % 65536 := by
  obtain ⟨empty, regs, dict⟩ := dropRsv_frame reserved
  obtain ⟨u, runs, same⟩ := onUnit_answers (f := rsvLapsed c n) hc (rsvLapsed_late reserved ready late)
  refine ⟨u, runs, ?_, (same.reg _ _).trans ?_, ?_⟩
  · rw [rsvReg, same.coh, coh_raise]
    exact empty
  · rw [reg_raise _ _ _ _ _ _ c (by decide) (by decide), bump, reg_setReg_self, reg, regs]
    rfl
  · rw [same.dict, seq_raise, bump, dict_setReg, dict]

end

/-! ### Held requests that time out (R224) -/

section

variable {s : State} {p k : Nat} {h : Held}

/-- A request that takes a tracking entry, and its entry (R156). -/
def trackedMsg (s : State) (m : Msg) : Msg := { m with trk := false, track := firstFree s.fab.rtt 0 }

def entryOf (s : State) (m : Msg) : Rtt :=
  { port := rttPort m, egress := m.egress, at_ := s.clk, orphan := false, synth := false, claimed := false, msg := trackedMsg s m }

/-- The entry once its completion is synthesized (R157). -/
def settledEntry (s : State) (m : Msg) : Rtt := { entryOf s m with synth := true }

theorem takeRtt_fst (m : Msg) : (s.takeRtt m).1 = trackedMsg s m := rfl

theorem fab_takeRtt (m : Msg) : (s.takeRtt m).2.fab = (s.setRtt (firstFree s.fab.rtt 0) (some (entryOf s m))).fab := by
  unfold takeRtt
  dsimp only
  split
  · rw [(raiseLimited_eventOnly _ _ _ _ _ _ _ _).1]
    rfl
  · rfl

/-- A request that had no tracking entry yet takes one and is answered by a completion for it (R224). -/
theorem answer_takesEntry {cause : Nat} {m : Msg} (request : m.kind = .request) (outer : m.internal = false) (port : m.inPort < 256)
    (untracked : 65536 ≤ m.track) (room : s.mayTrack m = true) : s.KeepsCairn (s.answer cause m) ∧
    (∃ x, (s.answer cause m).synth m.inPort = s.synth m.inPort ++ [x] ∧ x.cause = cause ∧ x.msg.uid = m.uid) ∧
    (s.answer cause m).fab.hold = s.fab.hold := by
  have freed : (s.takeRtt m).2.MovesCells (((s.takeRtt m).2.dropChain m.uid).discardRest m.uid) :=
    (dropChain_movesCells _ _).trans (discardRest_movesCells _ _)
  generalize left : ((s.takeRtt m).2.dropChain m.uid).discardRest m.uid = v at freed
  have entry : v.rtt (firstFree s.fab.rtt 0) = some (entryOf s m) := by
    rw [rtt, freed.rtt, fab_takeRtt]
    exact rtt_setRtt_self s _ _
  have answers : s.answer cause m =
      (v.setRtt (firstFree s.fab.rtt 0) (some (settledEntry s m))).addSynth cause (trackedMsg s m) := by
    unfold answer
    rw [if_neg (fun h => absurd h.2 (Nat.not_lt.mpr untracked)), if_neg (by simp [request, outer]), if_pos room]
    dsimp only
    rw [left, takeRtt_fst]
    unfold synthRtt
    rw [show (trackedMsg s m).track = firstFree s.fab.rtt 0 from rfl, entry]
    simp [entryOf, settledEntry, trackedMsg, outer]
  obtain ⟨listed, hold⟩ := addSynth_listed (v.setRtt (firstFree s.fab.rtt 0) (some (settledEntry s m))) (cause := cause)
    (m := trackedMsg s m) request outer port
  have taken := (takeRtt_keepsCairn s m).trans (freed.keepsCairn.trans
    (setRtt_keepsCairn v (firstFree s.fab.rtt 0) (some (settledEntry s m))))
  have synth : (v.setRtt (firstFree s.fab.rtt 0) (some (settledEntry s m))).synth m.inPort = s.synth m.inPort := by
    change v.fab.synth.get [] (m.inPort, 0) = _
    rw [freed.synth, fab_takeRtt]
    rfl
  rw [answers]
  refine ⟨taken.trans (addSynth_keepsCairn _ _ _), ?_, hold.trans ?_⟩
  · rw [← synth]
    exact listed
  · exact freed.hold.trans (by rw [fab_takeRtt]; rfl)

/-- Whether a request may take an entry does not hang on what is held, or on a counter. -/
theorem mayTrack_released (m : Msg) : ((s.setHeld p k none).bump Obj.HOLD_TIMEOUT_CNT p).mayTrack m = s.mayTrack m := by
  have reg (o i : Nat) (h : o ≠ Obj.HOLD_TIMEOUT_CNT) : ((s.setHeld p k none).bump Obj.HOLD_TIMEOUT_CNT p).reg o i = s.reg o i :=
    reg_setReg_of_ne _ _ _ _ (fun e => h (Prod.mk.inj e).1)
  have enabled : ((s.setHeld p k none).bump Obj.HOLD_TIMEOUT_CNT p).enabledPorts = s.enabledPorts := by
    simp only [enabledPorts, flag, reg _ _ (by decide : Obj.PORT_ENABLE ≠ Obj.HOLD_TIMEOUT_CNT)]
  have used (q : Nat) : ((s.setHeld p k none).bump Obj.HOLD_TIMEOUT_CNT p).rttUsed q = s.rttUsed q := rfl
  have waiters (q : Nat) : ((s.setHeld p k none).bump Obj.HOLD_TIMEOUT_CNT p).rttWaiters q = s.rttWaiters q := rfl
  simp only [mayTrack, waiters, rttRoom, rttSharedUsed, rttShared, used, enabled,
    reg _ _ (by decide : Obj.RTT_PORT_MIN ≠ Obj.HOLD_TIMEOUT_CNT), reg _ _ (by decide : Obj.RTT_PORT_MAX ≠ Obj.HOLD_TIMEOUT_CNT)]
  rfl

/-- What HOLD_TIMEOUT makes of a state (R224). -/
def holdLapsed (p k : Nat) (s : State) : State :=
  match s.held p k with
  | some h =>
    if s.after h.since (s.reg Obj.DIR_TIMEOUT 0 * 1000) then
      ((((s.setHeld p k none).bump Obj.HOLD_TIMEOUT_CNT p).answer 3 h.msg).raiseLimited 1000000 p
        0x5009 0x50 3 p (h.msg.home % 2 ^ 49 + 7 * 2 ^ 49)).noteHoldFull p
    else s
  | none =>
    match s.coh.reqs.zipIdx.find? (fun e => e.1.msg.inPort == p && !e.1.msg.internal && e.1.entry == k && !e.1.admitted) with
    | some e => if k < 272 ∧ s.after e.1.since (s.reg Obj.DIR_TIMEOUT 0 * 1000) = true then holdTimeoutReq s p e.2 e.1 else s
    | none => s

theorem exec_holdTimeout_eq : exec (.holdTimeout p k) s = onUnit p 256 s (holdLapsed p k) := rfl

theorem holdLapsed_late (held : s.held p k = some h) (late : s.after h.since (s.reg Obj.DIR_TIMEOUT 0 * 1000) = true) : holdLapsed p k s =
    ((((s.setHeld p k none).bump Obj.HOLD_TIMEOUT_CNT p).answer 3 h.msg).raiseLimited 1000000 p
      0x5009 0x50 3 p (h.msg.home % 2 ^ 49 + 7 * 2 ^ 49)).noteHoldFull p := by
  rw [holdLapsed, held]
  exact if_pos late

theorem exec_holdTimeout (hp : p < 256) (held : s.held p k = some h)
    (late : s.after h.since (s.reg Obj.DIR_TIMEOUT 0 * 1000) = true) (request : h.msg.kind = .request) (outer : h.msg.internal = false)
    (port : h.msg.inPort < 256) (untracked : 65536 ≤ h.msg.track) (room : s.mayTrack h.msg = true) :
    ∃ (u : State) (x : Synth), exec (.holdTimeout p k) s = .next u ∧ u.held p k = none ∧
      u.synth h.msg.inPort = s.synth h.msg.inPort ++ [x] ∧ x.cause = 3 ∧ x.msg.uid = h.msg.uid ∧
      u.reg Obj.HOLD_TIMEOUT_CNT p = min (s.reg Obj.HOLD_TIMEOUT_CNT p + 1) 0xFFFF_FFFF := by
  generalize released : (s.setHeld p k none).bump Obj.HOLD_TIMEOUT_CNT p = r
  have room : r.mayTrack h.msg = true := released ▸ (mayTrack_released h.msg).trans room
  obtain ⟨answered, ⟨x, listed, cause, uid⟩, hold⟩ := answer_takesEntry (cause := 3) request outer port untracked room
  have e := holdLapsed_late held late
  rw [released] at e
  have told := (raiseLimited_eventOnly (r.answer 3 h.msg) 1000000 p 0x5009 0x50 3 p (h.msg.home % 2 ^ 49 + 7 * 2 ^ 49)).1
  have kept := raiseLimited_keepsCairn (r.answer 3 h.msg) 1000000 p 0x5009 0x50 3 p (h.msg.home % 2 ^ 49 + 7 * 2 ^ 49)
  generalize (r.answer 3 h.msg).raiseLimited 1000000 p 0x5009 0x50 3 p (h.msg.home % 2 ^ 49 + 7 * 2 ^ 49) = v at e told kept
  obtain ⟨lines, -, holds, synths⟩ := noteHoldFull_frame v p
  obtain ⟨u, runs, same⟩ := onUnit_answers hp e
  refine ⟨u, x, exec_holdTimeout_eq.trans runs, ?_, ?_, cause, uid, ?_⟩
  · rw [State.held, same.fab, holds, told]
    change (r.answer 3 h.msg).fab.hold.get none (p, k) = none
    rw [hold, ← released]
    exact held_setHeld_self s p k none
  · rw [synth, same.fab, synths, told]
    refine listed.trans ?_
    rw [← released]
    rfl
  · have all := answered.toUndisturbed.trans (kept.toUndisturbed.trans lines.toUndisturbed)
    rw [same.reg, all.regs _ _ (by decide) (by decide) (by decide), ← released]
    exact reg_setReg_self _ _ _ _

end

/-- Settles O35: the responses, the sets, memory's answers and the timeouts, each by its command. -/
theorem coherentEnds : Obligations.CoherentEnds := by
  unfold Obligations.CoherentEnds
  refine ⟨fun s p c n a t h ty snp need out hw agent live => ?_, fun s p c n a t h snp need up => ?_, fun s p c n a t h snp need up => ?_,
    fun s c set corrected hc reading reqs lookup walk => exec_dirSetReadDone_corrected hc reading reqs lookup walk corrected,
    fun s c set w hc hw reading reqs lookup walk => exec_dirSetReadDone_lost hc reading reqs lookup walk hw,
    fun s c n t data hc hn open_ flit ty snp await wbs found fair need out write hw state live =>
      exec_memReadDataReturn hc open_ flit data ty snp await wbs found fair need out write hw state live,
    fun s c n t hc hn open_ flit ty await wbs found fair need out write hw =>
      exec_memWriteCompletion hc hn open_ flit ty await wbs found fair need out write hw,
    fun s c n t hc hn open_ late await hw => ?_,
    fun s c n a t hc hn open_ late await ha hw live => exec_homeTimeout_silent hc hn open_ late await ha hw live,
    fun s c n t hc hn open_ early => exec_homeTimeout_early hc hn open_ early,
    fun s c n r hc reserved ready late => exec_rsvExpired hc reserved ready late,
    fun s p k h hp held late request outer port untracked room => exec_holdTimeout hp held late request outer port untracked room⟩
  · obtain ⟨u, runs, ended, entry⟩ := exec_birspi h ty need out hw agent live
    exact ⟨u, runs, ended, by rw [entry]; exact ⟨rfl, rfl, rfl, rfl⟩⟩
  · obtain ⟨u, runs, same⟩ := onUnit_answers (f := fun x : State => x.biRsp p c n 2) h.1 rfl
    obtain ⟨open_, dir⟩ := biRsp_starts h (.inr (.inl ⟨rfl, snp⟩)) need up
    exact ⟨u, runs, (same.tracker c n).trans (open_.trans (by simp [memStarted, afterRsp])), by rw [same.coh, dir]⟩
  · obtain ⟨u, runs, same⟩ := onUnit_answers (f := fun x : State => x.biRsp p c n 3) h.1 rfl
    obtain ⟨open_, dir⟩ := biRsp_starts h (.inr (.inr ⟨rfl, snp⟩)) need up
    exact ⟨u, runs, (same.tracker c n).trans (open_.trans (by simp [memStarted, afterRsp])), by rw [same.coh, dir]⟩
  · obtain ⟨u, runs, ended, entry, counted⟩ := exec_homeTimeout_memory hc hn open_ late await hw
    exact ⟨u, runs, ended, by rw [entry]; rfl, by rw [entry]; rfl, by rw [entry]; rfl, by rw [entry]; rfl, counted⟩

end Sys2Proof.Machine
end

section
/-!
SUPPORT. How a coherent request is admitted: the slot that its wheel gives it, its set in the directory cache, the release of its hold
entry, and the transaction that it opens (R191, R194, R199, R203, R218).
-/

namespace Sys2Proof.Machine

/-! ### Lists -/

theorem setAt_eq_set {α : Type} (l : List α) (i : Nat) (x : α) : setAt l i x = l.set i x := by
  induction l generalizing i with
  | nil => rfl
  | cons h r ih =>
    cases i with
    | zero => rfl
    | succ i => exact congrArg (h :: ·) (ih i)

/-- All addresses of a line have its place (R189). -/
theorem place_line (slices home : Nat) : place slices (home / 64 * 64) = place slices home := by
  simp only [place, Nat.mul_div_cancel _ (by decide : 0 < 64)]

namespace State

section

variable {s t : State} {c set w i : Nat} {r : CohReq}

/-! ### Lines without reservations (R216) -/

theorem lineRsv_unreserved (h : s.coh.rsv = []) (c line : Nat) : s.lineRsv c line = none := by
  rw [lineRsv, h]
  rfl

theorem holds_unreserved (h : s.coh.rsv = []) (own : r.rsv = 64) : s.holds r = none := by
  rw [holds, if_neg (by simp [own]), lineRsv_unreserved h]

theorem rsv_writeDir (s : State) (c set w : Nat) (e : DirEntry) : (s.writeDir c set w e).coh.rsv = s.coh.rsv := by
  unfold writeDir
  dsimp only
  split <;> rfl

theorem rsv_touchRank (s : State) (c set w : Nat) : (s.touchRank c set w).coh.rsv = s.coh.rsv := by
  unfold touchRank
  refine Eq.trans rfl (foldS_unseen (view := fun (u : State) => u.coh.rsv) (fun v _ u => ?_) s)
  dsimp only
  split <;> rfl

/-- A way that becomes free where no line is reserved is promised to nobody. -/
theorem dirEntry_freeWay_unreserved (h : s.coh.rsv = []) :
    (s.freeWay c set w).dirEntry c set w = { dirDflt with rank := (s.dirEntry c set w).rank } := by
  unfold freeWay
  dsimp only
  rw [rsv_writeDir, h]
  exact dirEntry_writeDir_self s c set w _

theorem findWay_lt {tag : Nat} (h : s.findWay c set tag = some w) : w < 16 := List.mem_range.mp (List.mem_of_find?_eq_some h)

theorem room_lt (h : s.coh.rsv = []) {n : Nat} (way : s.room c set n = .way w) : w < 16 := by
  have noReg : s.rsvReg c n = none := by
    rw [rsvReg, h]
    rfl
  unfold room at way
  simp only [noReg] at way
  split at way
  · next found =>
    injection way with same
    exact same ▸ List.mem_range.mp (List.mem_of_find?_eq_some found)
  · split at way
    · split_ifs at way
    · injection way

/-! ### Admission (R218) -/

theorem dropReq_keepsLines (s : State) (i : Nat) : s.KeepsLines (s.dropReq i) := withReqs_keepsLines s _

theorem admitReq_keepsLines (h : s.coh.rsv = []) (own : r.rsv = 64) (i : Nat) : s.KeepsLines (s.admitReq i r) := by
  have none : (s.dropReq i).lineRsv r.slice (r.msg.home / 64 * 64) = none := lineRsv_unreserved h _ _
  unfold admitReq
  dsimp only
  rw [if_neg (show ¬ r.rsv < 64 by omega), none]
  dsimp only
  split
  · exact dropReq_keepsLines s i
  · exact (dropReq_keepsLines s i).trans (noteHoldFull_keepsLines _ _)

/-- A request that is answered without a transaction leaves lines as they are. -/
theorem answerReq_keepsLines (h : s.coh.rsv = []) (own : r.rsv = 64) (i : Nat) (data poison : Bool) :
    s.KeepsLines (s.answerReq i r data poison) :=
  ((admitReq_keepsLines h own i).trans (dropChain_movesCells _ _).keepsLines).trans (respond_keepsCairn _ _ _ _ _ _).keepsLines

/-! ### Snoops (R203) -/

theorem snoop_nobody {btag line ld v snp : Nat} (nobody : bitsOf 64 v = []) : s.snoop c btag line ld v snp = s := by
  unfold snoop
  rw [nobody]
  rfl

/-- A snoop queues one back-invalidate for each agent, and counts them. -/
theorem snoop_eq {btag line ld v snp : Nat} (somebody : bitsOf 64 v ≠ []) : ∃ (e : Nat → CntEvt) (fab : FabSt),
    s.snoop c btag line ld v snp =
      foldS (fun a (u : State) => u.count (e a)) (bitsOf 64 v) { s.bump64 Obj.DIR_BISNP c (bitsOf 64 v).length with fab := fab } := by
  unfold snoop
  dsimp only
  rw [if_neg (fun nobody => somebody (List.isEmpty_iff.mp nobody))]
  exact ⟨_, _, rfl⟩

theorem foldS_count_frame (e : Nat → CntEvt) (l : List Nat) (s : State) :
    (foldS (fun a (u : State) => u.count (e a)) l s).coh = s.coh ∧ (foldS (fun a (u : State) => u.count (e a)) l s).regs = s.regs :=
  ⟨foldS_unseen (view := State.coh) (f := fun a (u : State) => u.count (e a)) (fun _ _ _ => rfl) s,
    foldS_unseen (view := State.regs) (f := fun a (u : State) => u.count (e a)) (fun _ _ _ => rfl) s⟩

theorem snoop_frame (s : State) (c btag line ld v snp : Nat) : (s.snoop c btag line ld v snp).coh = s.coh ∧
    (∀ o i, o ≠ Obj.DIR_BISNP → (s.snoop c btag line ld v snp).reg o i = s.reg o i) ∧
    (bitsOf 64 v ≠ [] → (s.snoop c btag line ld v snp).reg Obj.DIR_BISNP c =
      (s.reg Obj.DIR_BISNP c + (bitsOf 64 v).length) % 2 ^ 64) := by
  by_cases nobody : bitsOf 64 v = []
  · rw [snoop_nobody nobody]
    exact ⟨rfl, fun _ _ _ => rfl, fun somebody => absurd nobody somebody⟩
  · obtain ⟨e, fab, sent⟩ := snoop_eq (s := s) (c := c) (btag := btag) (line := line) (ld := ld) (snp := snp) nobody
    obtain ⟨coh, regs⟩ := foldS_count_frame e (bitsOf 64 v) { s.bump64 Obj.DIR_BISNP c (bitsOf 64 v).length with fab := fab }
    have reg (o i : Nat) : (s.snoop c btag line ld v snp).reg o i = (s.bump64 Obj.DIR_BISNP c (bitsOf 64 v).length).reg o i := by
      rw [sent, State.reg, regs]
      rfl
    refine ⟨by rw [sent, coh]; rfl, fun o i other => ?_, fun _ => ?_⟩
    · rw [reg]
      exact reg_setReg_of_ne _ _ _ _ (fun e => other (Prod.mk.inj e).1)
    · rw [reg]
      exact reg_setReg_self _ _ _ _

/-- A vector of LIVE agents that is not empty has agents. -/
theorem bitsOf_liveVec_ne_nil {v : Nat} (h : s.liveVec v ≠ 0) : bitsOf 64 (s.liveVec v) ≠ [] := by
  unfold liveVec at h ⊢
  cases agents : (bitsOf 64 v).filter (fun a => !(s.agentOut a)) with
  | nil =>
    rw [agents] at h
    exact absurd rfl h
  | cons a l =>
    have mem : a ∈ (bitsOf 64 v).filter (fun a => !(s.agentOut a)) := agents ▸ List.mem_cons_self
    exact List.ne_nil_of_mem (List.mem_filter.mpr ⟨List.mem_of_mem_filter (List.mem_of_mem_filter mem), bit_setBit _ a⟩)

end

/-! ### Transactions that open (R199) -/

section

variable {s : State} {i a n set tag : Nat} {r : CohReq} {p : Plan} {prep : State → State}

/-- The request is a writeback. -/
def writesBack (r : CohReq) : Bool := r.ty == 6 || r.ty == 7 || r.ty == 8

/-- The transaction that request `r` of agent `a` opens at time `at_` in tracker `n` by plan `p`, with the agents `live` snooped. -/
def openedTrk (r : CohReq) (a : Nat) (p : Plan) (set n live at_ : Nat) (lost : Bool) : Trk :=
  { ty := r.ty, msg := { r.msg with trk := true, track := 2048 * r.slice + n }, line := r.msg.home / 64 * 64, set := set, way := p.way
    agent := a, await := live, snp := p.snp, vec := live, own := false, needMem := p.needMem, memOut := p.memNow, write := r.ty ≥ 5
    noData := p.noData, have_ := false, poison := false, data := [], wbs := [], lost := lost, asPoison := p.asPoison, at_ := at_
    orphan := false }

/-- The objects that the opening of a transaction can write. -/
def openingObjects : List Nat := Obj.TRK_MAX_USED :: Obj.DIR_BISNP :: answerObjects

/-- From state `q` the transaction `x` has opened in tracker `n` of slice `c`, with its way's line BUSY. -/
structure Opened (q u : State) (c n : Nat) (x : Trk) : Prop where
  open_ : u.tracker c n = some x
  entry : x.way < 16 → u.dirEntry c x.set x.way = { q.dirEntry c x.set x.way with busy := true, trk := n, rank := 0 }
  dir : 16 ≤ x.way → u.coh.dir = q.coh.dir
  regs : q.SameRegs u openingObjects
  snooped : bitsOf 64 x.await ≠ [] → u.reg Obj.DIR_BISNP c = (q.reg Obj.DIR_BISNP c + (bitsOf 64 x.await).length) % 2 ^ 64

/-- The snooped owner of the line is LOST or DEAD (R227). -/
def ownerLost (q : State) (c set : Nat) (p : Plan) : Bool :=
  decide (p.way < 16) && (q.dirEntry c set p.way).state == 2 && bit p.await (q.dirEntry c set p.way).owner &&
    q.agentOut (q.dirEntry c set p.way).owner

/-- The line of a transaction is BUSY, and its way is the most recent (R199, R219). -/
def busied (q : State) (c set n way : Nat) : State :=
  if way < 16 then (q.writeDir c set way { q.dirEntry c set way with busy := true, trk := n }).touchRank c set way else q

theorem busied_dirOnly (q : State) (c set n way : Nat) : q.DirOnly (q.busied c set n way) := by
  unfold busied
  split
  · exact (writeDir_dirOnly q c set way _).trans (touchRank_dirOnly _ c set way)
  · rfl

theorem dirEntry_busied {q : State} {c set n way : Nat} (hw : way < 16) :
    (q.busied c set n way).dirEntry c set way = { q.dirEntry c set way with busy := true, trk := n, rank := 0 } := by
  rw [busied, if_pos hw, dirEntry_touchRank_self, dirEntry_writeDir_self]

/-- A transaction is entered in its tracker, and its line is BUSY. -/
def tracked (q : State) (c n : Nat) (x : Trk) : State := (q.busied c x.set n x.way).setTracker c n (some x)

/-- The trackers in use are counted once a transaction is entered. -/
def entered (q : State) (c n : Nat) (x : Trk) : State :=
  (q.tracked c n x).setReg Obj.TRK_MAX_USED c (max ((q.tracked c n x).reg Obj.TRK_MAX_USED c) ((q.tracked c n x).trkUsed c))

theorem entered_sameRegs (q : State) (c n : Nat) (x : Trk) : q.SameRegs (q.entered c n x) [Obj.TRK_MAX_USED] :=
  fun o i other _ _ => (reg_setReg_of_ne _ _ _ _ (fun e => other (List.mem_singleton.mpr (Prod.mk.inj e).1))).trans
    ((busied_dirOnly q c x.set n x.way).reg o i)

/-- A transaction that is entered, whose cells have moved on, has opened once its snoops are sent. -/
theorem entered_opened {q m : State} {c n line ld snp : Nat} {x : Trk} (moved : (q.entered c n x).KeepsLines m) :
    Opened q (m.snoop c n line ld x.await snp) c n x := by
  obtain ⟨coh, regs, snooped⟩ := snoop_frame m c n line ld x.await snp
  have before (o j : Nat) (h : o ∉ Obj.TRK_MAX_USED :: answerObjects) (a : o ≠ Obj.INT_CAUSE) (b : o ≠ Obj.EVT_DROPPED) :
      m.reg o j = q.reg o j :=
    (moved.regs o j (fun e => h (List.mem_cons_of_mem _ e)) a b).trans
      (entered_sameRegs q c n x o j (fun e => h (List.mem_singleton.mp e ▸ List.mem_cons_self)) a b)
  refine ⟨?_, fun hw => ?_, fun hw => ?_, fun o j h a b => ?_, fun agents => ?_⟩
  · rw [State.tracker, coh]
    exact (moved.tracker c n).trans (tracker_setTracker_self _ _ _ _)
  · rw [State.dirEntry, coh]
    exact (moved.dirEntry _ _ _).trans (dirEntry_busied hw)
  · rw [coh, moved.dir]
    change (q.busied c x.set n x.way).coh.dir = q.coh.dir
    rw [busied, if_neg (Nat.not_lt.mpr hw)]
  · simp only [openingObjects, List.mem_cons, not_or] at h
    obtain ⟨used, snoops, other⟩ := h
    exact (regs o j snoops).trans (before o j (List.not_mem_cons_of_ne_of_not_mem used other) a b)
  · rw [snooped agents, before _ _ (by decide) (by decide) (by decide)]

/-- The request of a transaction goes on to memory at once, or its cells are freed where it needs no data. -/
def requested (m : State) (x : Trk) (p : Plan) : State :=
  let u := if p.memNow then m.releaseMsg x.msg else m
  if p.noData then u.dropChain x.msg.uid else u

theorem requested_keepsLines (m : State) (x : Trk) (p : Plan) : m.KeepsLines (m.requested x p) := by
  have sent : m.KeepsLines (if p.memNow then m.releaseMsg x.msg else m) := by
    split
    · exact (releaseMsg_movesCells _ _).keepsLines
    · exact .refl m
  unfold requested
  dsimp only
  generalize (if p.memNow then m.releaseMsg x.msg else m) = u at sent
  split
  · exact sent.trans (dropChain_movesCells u _).keepsLines
  · exact sent

/-- The transaction of `openTrk` from the state `q` that its preparation leaves. -/
abbrev opensAs (s q : State) (r : CohReq) (a : Nat) (p : Plan) (set n : Nat) : Trk :=
  openedTrk r a p set n (q.liveVec p.await) s.clk (q.ownerLost r.slice set p)

/-- The state in which a transaction has opened. -/
def opening (q : State) (r : CohReq) (n : Nat) (p : Plan) (x : Trk) : State :=
  (((q.entered r.slice n x).requested x p).noteRsv r.slice).snoop r.slice n x.line r.msg.ld x.await p.snp

theorem openTrk_eq (up : (p.memNow || p.needMem) = true → s.dlUp r.msg.egress = true)
    (free : s.freeTracker r.slice (writesBack r) = some n) (here : place (s.reg Obj.CAIRN_SLICES 0) r.msg.home = (r.slice, set, tag)) :
    s.openTrk i r a p prep =
      ((prep (s.admitReq i r)).opening r n p (s.opensAs (prep (s.admitReq i r)) r a p set n)).advanceTrk r.slice n := by
  have reachable : ((p.memNow || p.needMem) && !s.dlUp r.msg.egress) = false := by
    cases access : (p.memNow || p.needMem) with
    | false => rfl
    | true => simp [up access]
  unfold openTrk
  rw [if_neg (by simp [reachable])]
  rw [show (r.ty == 6 || r.ty == 7 || r.ty == 8) = writesBack r from rfl, free]
  dsimp only
  rw [place_line, here]
  rfl

theorem opening_opened (q : State) (r : CohReq) (n : Nat) (p : Plan) (x : Trk) : Opened q (q.opening r n p x) r.slice n x :=
  entered_opened ((requested_keepsLines _ x p).trans (noteRsv_keepsLines _ r.slice))

end

end State

end Sys2Proof.Machine
end

section
/-!
The obligation `CoherentRequests`: the request that a slot admits, a set that has to be read first, a line that is busy, and the directory
transitions (R189 to R192, R194, R199, R200, R210).
-/

namespace Sys2Proof.Machine

open State

namespace State

/-! ### The slot (R194, R195) -/

section

variable {s : State} {ty c slot code i set tag : Nat} {r : CohReq}

/-- A slot owner offers a request that is listed. -/
theorem offer_req {k : Nat} (h : s.offer c code = some (.req k i r)) : s.coh.reqs[i]? = some r := by
  have listed (x : Nat × CohReq) (mem : x ∈ (s.readyReqs c).filter (fun e => ownerHas code (reqUnit e.2))) :
      s.coh.reqs[x.1]? = some x.2 := by
    obtain ⟨e, mem, same⟩ := List.mem_map.mp (List.mem_of_mem_filter (List.mem_of_mem_filter mem))
    exact same ▸ List.mk_mem_zipIdx_iff_getElem?.mp mem
  unfold offer at h
  split at h
  · split at h <;> cases h
  · dsimp only at h
    split at h
    · cases h
    · split at h
      · cases h
      · obtain ⟨x, found, same⟩ := Option.map_eq_some_iff.mp h
        injection same with _ index request
        rw [← index, ← request]
        obtain found | ⟨-, found⟩ := Option.or_eq_some_iff.mp found
        · exact listed x (List.mem_of_mem_filter (List.mem_of_find?_eq_some found))
        · exact listed x (List.mem_of_mem_filter (List.mem_of_head? found))

theorem wheelPick_req {k : Nat} (h : s.wheelPick c slot = some (.req k i r)) : s.coh.reqs[i]? = some r := by
  obtain ⟨n, -, offered⟩ := List.exists_of_findSome?_eq_some h
  exact offer_req offered

theorem serveSlot_closed (closed : s.slotOpen c slot = none) : s.serveSlot ty c slot = s := by
  unfold serveSlot
  rw [closed]
  dsimp only
  split <;> rfl

/-- The state in which a slot's request is admitted: the slot is used, and the next unit of its owner has the turn. -/
def slotUsed (s : State) (c code a : Nat) (r : CohReq) : State := (s.useSlot c a).noteTurn c code (reqUnit r)

theorem serveSlot_offered (h : s.Offered ty c slot code i r) : ∃ a, s.serveSlot ty c slot = (s.slotUsed c code a r).takeReq i r := by
  obtain ⟨-, active, isOpen, gets, same, -⟩ := h
  obtain ⟨a, isOpen⟩ := Option.isSome_iff_exists.mp isOpen
  refine ⟨a, ?_⟩
  unfold serveSlot
  rw [if_neg (Nat.not_le.mpr active), isOpen, gets]
  exact if_pos same

/-! ### The set (R191) -/

/-- The catalogued event `code` of a request. -/
def reqEvt (code : Nat) (r : CohReq) : CntEvt :=
  { code := code, port := rttPort r.msg, aux := r.slice, part := r.msg.part, cls := r.msg.cls, hpa := r.msg.hpa, pool := r.msg.home }

/-- The set of request `r` is found in frame `f` (R191). -/
def cacheHit (s : State) (r : CohReq) (set f : Nat) : State :=
  (((s.count (reqEvt 0x5001 r)).bump64 Obj.DIR_HIT r.slice).count (reqEvt 0x5002 r)).touchFrame r.slice set f false

theorem takeReq_hit {f : Nat} (here : place (s.reg Obj.CAIRN_SLICES 0) r.msg.home = (r.slice, set, tag))
    (reading : s.coh.reads.contains (r.slice, set) = false) (cached : s.findFrame r.slice set = some f) :
    s.takeReq i r = (s.cacheHit r set f).applyReq i r := by
  unfold takeReq
  rw [here]
  dsimp only
  rw [if_neg (by rw [reading]; decide), show (s.count _).findFrame r.slice set = some f from cached]
  rfl

theorem takeReq_miss {f : Nat} (here : place (s.reg Obj.CAIRN_SLICES 0) r.msg.home = (r.slice, set, tag))
    (reading : s.coh.reads.contains (r.slice, set) = false) (uncached : s.findFrame r.slice set = none)
    (victim : s.victimFrame r.slice set = some f) :
    s.takeReq i r = (((s.count (reqEvt 0x5001 r)).count (reqEvt 0x5003 r)).readSet r.slice set f).awaitSet i r := by
  unfold takeReq
  rw [here]
  dsimp only
  rw [if_neg (by rw [reading]; decide), show (s.count _).findFrame r.slice set = none from uncached]
  dsimp only
  rw [show (s.count _).victimFrame r.slice set = some f from victim]
  rfl

/-- `t` is `s` with a request of slice `c` admitted and its set found in the directory cache. -/
structure AtHand (s t : State) (c : Nat) : Prop where
  dir : t.coh.dir = s.coh.dir
  trk : t.coh.trk = s.coh.trk
  evict : t.coh.evict = s.coh.evict
  rsv : t.coh.rsv = s.coh.rsv
  reqs : t.coh.reqs = s.coh.reqs
  ports : t.link.ports = s.link.ports
  regs : ∀ o i, o ≠ Obj.DIR_HIT → t.reg o i = s.reg o i
  hit : t.reg Obj.DIR_HIT c = (s.reg Obj.DIR_HIT c + 1) % 2 ^ 64

namespace AtHand

variable {t : State}

theorem dirEntry (h : s.AtHand t c) (d set w : Nat) : t.dirEntry d set w = s.dirEntry d set w := by
  rw [State.dirEntry, h.dir, State.dirEntry]

theorem tracker (h : s.AtHand t c) (d n : Nat) : t.tracker d n = s.tracker d n := by rw [State.tracker, h.trk, State.tracker]

theorem dlUp (h : s.AtHand t c) (p : Nat) : t.dlUp p = s.dlUp p := by rw [State.dlUp, port, h.ports]; rfl

theorem agentOut (h : s.AtHand t c) (a : Nat) : t.agentOut a = s.agentOut a := by
  rw [State.agentOut, h.regs _ _ (by decide), State.agentOut]

theorem liveVec (h : s.AtHand t c) (v : Nat) : t.liveVec v = s.liveVec v := by simp only [State.liveVec, h.agentOut]

theorem findWay (h : s.AtHand t c) (d set tag : Nat) : t.findWay d set tag = s.findWay d set tag := by
  simp only [State.findWay, h.dirEntry]

theorem lostWay (h : s.AtHand t c) (d set : Nat) : t.lostWay d set = s.lostWay d set := by simp only [State.lostWay, h.dirEntry]

theorem freeTracker (h : s.AtHand t c) (d : Nat) (wb : Bool) : t.freeTracker d wb = s.freeTracker d wb := by
  simp only [State.freeTracker, h.regs _ _ (by decide : Obj.TRK_WB_RSV ≠ Obj.DIR_HIT), h.trk]

theorem room (h : s.AtHand t c) (d set n : Nat) : t.room d set n = s.room d set n := by
  simp only [State.room, rsvReg, victimWay, h.rsv, h.dirEntry, h.evict]

theorem lineEvict (h : s.AtHand t c) (d line : Nat) : t.lineEvict d line = s.lineEvict d line := by
  simp only [State.lineEvict, h.evict]

theorem lineTracker (h : s.AtHand t c) (d line : Nat) : t.lineTracker d line = s.lineTracker d line := by
  simp only [State.lineTracker, h.trk]

theorem agentOfMsg (h : s.AtHand t c) (m : Msg) : t.agentOfMsg m = s.agentOfMsg m := by
  simp only [State.agentOfMsg, agentOf, drudar, h.regs _ _ (by decide : Obj.AGT_KIND ≠ Obj.DIR_HIT),
    h.regs _ _ (by decide : Obj.AGT_REF ≠ Obj.DIR_HIT), h.regs _ _ (by decide : Obj.PORT_MODE ≠ Obj.DIR_HIT)]

end AtHand

theorem reg_touchFrame (s : State) (c set f : Nat) (dirty : Bool) (o j : Nat) : (s.touchFrame c set f dirty).reg o j = s.reg o j := rfl

theorem reg_slotUsed (s : State) (c code a : Nat) (r : CohReq) (o j : Nat) : (s.slotUsed c code a r).reg o j = s.reg o j := rfl

theorem cacheHit_atHand (s : State) (code a f : Nat) (r : CohReq) (set : Nat) :
    s.AtHand ((s.slotUsed r.slice code a r).cacheHit r set f) r.slice where
  dir := rfl
  trk := rfl
  evict := rfl
  rsv := rfl
  reqs := rfl
  ports := rfl
  regs o j other := by
    rw [cacheHit, reg_touchFrame, reg_count, bump64, reg_setReg_of_ne _ _ _ _ (fun e => other (Prod.mk.inj e).1), reg_count, reg_slotUsed]
  hit := by
    rw [cacheHit, reg_touchFrame, reg_count, bump64, reg_setReg_self, reg_count, reg_slotUsed]

theorem atSet_serves {a : Nat} (h : s.AtSet ty c slot code i r a set tag) : ∃ t, s.AtHand t c ∧ s.serveSlot ty c slot = t.applyReq i r := by
  obtain ⟨offered, -, -, -, here, reading, cached⟩ := h
  obtain ⟨f, cached⟩ := Option.isSome_iff_exists.mp cached
  obtain ⟨b, serves⟩ := serveSlot_offered offered
  obtain ⟨-, -, -, -, -, slice⟩ := offered
  subst slice
  refine ⟨_, cacheHit_atHand s code b f r set, serves.trans ?_⟩
  exact takeReq_hit (s := s.slotUsed r.slice code b r) here reading cached

/-! ### A line that is free (R200) -/

theorem agentDead_eq_false {a : Nat} (live : s.reg Obj.AGT_STATE a = 0) : s.agentDead a = false := by simp [agentDead, live]

/-- A request of a LIVE agent whose line has nothing open and no reservation makes its transition. -/
theorem applyReq_free {a : Nat} (agent : s.agentOfMsg r.msg = a) (live : s.reg Obj.AGT_STATE a = 0)
    (here : place (s.reg Obj.CAIRN_SLICES 0) r.msg.home = (r.slice, set, tag)) (unreserved : s.coh.rsv = [])
    (evict : s.lineEvict r.slice (r.msg.home / 64 * 64) = none) (idle : s.lineTracker r.slice (r.msg.home / 64 * 64) = none) :
    s.applyReq i r = s.transition i r a ((s.findWay r.slice set tag).getD 16)
      ((s.findWay r.slice set tag).isNone && s.lostWay r.slice set) := by
  unfold applyReq
  simp only [agent, agentDead_eq_false live, Bool.false_and, Bool.false_eq_true, if_false, evict, idle, place_line, here,
    lineRsv_unreserved unreserved, settleReq]

theorem hits_serves {a : Nat} (h : s.Hits ty c slot code i r a set tag) : ∃ t, s.AtHand t c ∧ t.coh.rsv = [] ∧
    place (t.reg Obj.CAIRN_SLICES 0) r.msg.home = (r.slice, set, tag) ∧
    s.serveSlot ty c slot = t.transition i r a ((s.findWay c set tag).getD 16) ((s.findWay c set tag).isNone && s.lostWay c set) := by
  obtain ⟨atSet, -, unreserved, evict, idle⟩ := h
  obtain ⟨t, hand, serves⟩ := atSet_serves atSet
  obtain ⟨⟨-, -, -, -, -, slice⟩, agent, -, live, here, -, -⟩ := atSet
  subst slice
  rw [← hand.regs _ _ (by decide)] at here live
  refine ⟨t, hand, hand.rsv.trans unreserved, here, ?_⟩
  rw [serves, applyReq_free ((hand.agentOfMsg _).trans agent) live here (hand.rsv.trans unreserved) ((hand.lineEvict _ _).trans evict)
    ((hand.lineTracker _ _).trans idle), hand.findWay, hand.lostWay]

/-! ### Transactions that wait (R200, R201) -/

variable {a n w : Nat} {p : Plan} {prep : State → State}

theorem liveVec_zero (s : State) : s.liveVec 0 = 0 := rfl

theorem ownerLost_unasked {q : State} (asked : p.await = 0) : q.ownerLost c set p = false := by
  rw [ownerLost, asked, show ∀ o, bit 0 o = false from fun o => by simp [bit], Bool.and_false, Bool.false_and]

/-- A transaction whose plan asks no agent awaits none. -/
theorem await_openedTrk {q : State} {at_ : Nat} {lost : Bool} (asked : p.await = 0) :
    (openedTrk r a p set n (q.liveVec p.await) at_ lost).await = 0 := by
  rw [openedTrk, asked]
  exact liveVec_zero q

/-- A transaction that snoops, or that reads or writes memory at once, stays open in its tracker. -/
theorem openTrk_stays (here : place (s.reg Obj.CAIRN_SLICES 0) r.msg.home = (r.slice, set, tag))
    (up : s.dlUp r.msg.egress = true) (free : s.freeTracker r.slice (writesBack r) = some n)
    (stay : (prep (s.admitReq i r)).liveVec p.await ≠ 0 ∨ p.await = 0 ∧ p.needMem = false ∧ p.memNow = true) :
    Opened (prep (s.admitReq i r)) (s.openTrk i r a p prep) r.slice n (s.opensAs (prep (s.admitReq i r)) r a p set n) := by
  have opened := opening_opened (prep (s.admitReq i r)) r n p (s.opensAs (prep (s.admitReq i r)) r a p set n)
  rw [openTrk_eq (fun _ => up) free here]
  obtain await | ⟨await, need, out⟩ := stay
  · rw [advanceTrk_waits opened.open_ await]
    exact opened
  · rw [advanceTrk_open opened.open_ (await_openedTrk await) rfl (ownerLost_unasked await) need out]
    exact opened

/-! ### Directory transitions (R200) -/

section

variable (here : place (s.reg Obj.CAIRN_SLICES 0) r.msg.home = (r.slice, set, tag))

/-- A line of tag `tag` takes way `w` with the entry `e` (R219). -/
def allocated (c set w tag : Nat) (e : DirEntry) (u : State) : State :=
  u.writeDir c set w { e with tag := tag, rank := (u.dirEntry c set w).rank }

/-- A plan for a line in way `w`. -/
abbrev planAt (w : Nat) : Plan := { planDflt with way := w }

/-- The entry of a line that only agent `a` shares. -/
def sharedBy (a : Nat) : DirEntry := { dirDflt with state := 1, sharers := bitSet [a] }

theorem transition_readShared (ty : r.ty = 1) :
    s.transition i r a 16 false = s.openAlloc i r a (sharedBy a) := by
  unfold transition
  rw [ty]
  rfl

theorem transition_readNc (ty : r.ty = 4) : s.transition i r a 16 false = s.openTrk i r a { planDflt with memNow := true } id := by
  unfold transition
  rw [ty]
  rfl

include here

theorem openAlloc_way (e : DirEntry) (up : s.dlUp r.msg.egress = true) (free : s.freeTracker r.slice false = some n)
    (unreserved : s.coh.rsv = []) (own : r.rsv = 64) (room : s.room r.slice set 64 = .way w) :
    s.openAlloc i r a e = s.openTrk i r a { planAt w with memNow := true }
      (allocated r.slice set w tag e) := by
  unfold openAlloc
  simp only [here, up, Bool.not_true, Bool.false_eq_true, if_false, free, holds_unreserved unreserved own, Option.getD_none, room]
  rfl

variable (hw : w < 16)

include hw

theorem transition_ownShared (ty : r.ty = 2) (state : (s.dirEntry r.slice set w).state = 1)
    (others : maskOut (s.dirEntry r.slice set w).sharers (2 ^ a) ≠ 0) :
    s.transition i r a w false =
      s.openTrk i r a { planAt w with await := clrBit (s.dirEntry r.slice set w).sharers a, snp := 1, memNow := true } id := by
  unfold transition
  simp only [here, Bool.false_eq_true, if_false, if_pos hw, state, ty, if_neg others]
  rfl

theorem transition_upgrade (ty : r.ty = 3) (state : (s.dirEntry r.slice set w).state = 1)
    (shares : bit (s.dirEntry r.slice set w).sharers a = true) :
    s.transition i r a w false =
      s.openTrk i r a { planAt w with await := clrBit (s.dirEntry r.slice set w).sharers a, snp := 1, noData := true } id := by
  unfold transition
  simp only [here, Bool.false_eq_true, if_false, if_pos hw, state, ty, if_pos shares]
  rfl

theorem transition_writeNc (ty : r.ty = 5) (state : (s.dirEntry r.slice set w).state = 1) :
    s.transition i r a w false =
      s.openTrk i r a { planAt w with await := (s.dirEntry r.slice set w).sharers, snp := 1, needMem := true } id := by
  unfold transition
  simp only [here, Bool.false_eq_true, if_false, if_pos hw, state, ty]
  rfl

theorem transition_writeback (ty : r.ty ∈ [6, 7, 8]) (state : (s.dirEntry r.slice set w).state = 2)
    (owner : (s.dirEntry r.slice set w).owner = a) :
    s.transition i r a w false = s.openTrk i r a { planAt w with memNow := true } id := by
  unfold transition
  simp only [List.mem_cons, List.not_mem_nil, or_false] at ty
  obtain ty | ty | ty := ty <;>
    · simp only [here, Bool.false_eq_true, if_false, if_pos hw, state, ty, if_pos owner]
      rfl

theorem transition_evict (ty : r.ty = 9) (state : (s.dirEntry r.slice set w).state = 2)
    (owner : (s.dirEntry r.slice set w).owner = a) :
    s.transition i r a w false = ((s.touchRank r.slice set w).answerReq i r false false).freeWay r.slice set w := by
  unfold transition
  simp only [here, Bool.false_eq_true, if_false, if_pos hw, state, ty, if_pos owner]

end

end

end State

/-! ### The commands on a line that is free -/

section

variable {s : State} {c slot code i a set tag n w : Nat} {r : CohReq}

theorem bit_two_pow_self (a : Nat) : bit (2 ^ a) a = true := by simp [bit, Nat.div_self (Nat.two_pow_pos a)]

theorem clrBit_two_pow_self (a : Nat) : clrBit (2 ^ a) a = 0 := by rw [clrBit, if_pos (bit_two_pow_self a), Nat.sub_self]

theorem exec_cohRdS (h : s.Hits 1 c slot code i r a set tag) (absent : s.findWay c set tag = none) (up : s.dlUp r.msg.egress = true)
    (usable : s.lostWay c set = false) (free : s.freeTracker c false = some n) (room : s.room c set 64 = .way w) :
    ∃ (u : State) (t : Trk), exec (.cohRdS c slot) s = .next u ∧ u.tracker c n = some t ∧ t.ty = 1 ∧ t.agent = a ∧ t.way = w ∧
      t.await = 0 ∧ t.memOut = true ∧ (u.dirEntry c set w).state = 1 ∧ (u.dirEntry c set w).sharers = 2 ^ a ∧
      (u.dirEntry c set w).tag = tag ∧ (u.dirEntry c set w).busy = true ∧ (u.dirEntry c set w).rank = 0 ∧
      u.reg Obj.DIR_HIT c = (s.reg Obj.DIR_HIT c + 1) % 2 ^ 64 := by
  obtain ⟨t, hand, unreserved, here, serves⟩ := hits_serves h
  obtain ⟨⟨⟨hc, -, -, -, ty, slice⟩, -⟩, own, -⟩ := h
  subst slice
  have hw : w < 16 := room_lt (hand.rsv.symm.trans unreserved) room
  rw [absent, usable] at serves
  have e := serves.trans ((transition_readShared ty).trans (openAlloc_way here (sharedBy a) ((hand.dlUp _).trans up)
    ((hand.freeTracker _ _).trans free) unreserved own ((hand.room _ _ _).trans room)))
  have opened := openTrk_stays (i := i) (a := a) (p := { planAt w with memNow := true })
    (prep := allocated r.slice set w tag (sharedBy a)) here ((hand.dlUp _).trans up)
    (n := n) (by rw [writesBack, ty]; exact (hand.freeTracker _ _).trans free) (.inr ⟨rfl, rfl, rfl⟩)
  rw [← e] at opened
  obtain ⟨u, runs, same⟩ := onUnit_answers (f := fun x : State => x.serveSlot 1 r.slice slot) hc rfl
  have entry : (s.serveSlot 1 r.slice slot).dirEntry r.slice set w =
      { (allocated r.slice set w tag (sharedBy a) (t.admitReq i r)).dirEntry r.slice set w with busy := true, trk := n, rank := 0 } :=
    opened.entry hw
  rw [allocated, dirEntry_writeDir_self] at entry
  refine ⟨u, _, runs, (same.tracker _ _).trans opened.open_, ty, rfl, rfl, await_openedTrk rfl, rfl, ?_, ?_, ?_, ?_, ?_, ?_⟩
  · rw [same.dirEntry, entry]
    rfl
  · rw [same.dirEntry, entry]
    exact bitSet_singleton a
  · rw [same.dirEntry, entry]
  · rw [same.dirEntry, entry]
  · rw [same.dirEntry, entry]
  · rw [same.reg, opened.regs _ _ (by decide) (by decide) (by decide), allocated, (writeDir_dirOnly _ _ _ _ _).reg,
      (admitReq_keepsLines unreserved own i).regs _ _ (by decide) (by decide) (by decide), hand.hit]

/-- What a hit in way `w` finds: the slice's line is as it was, and its request makes its transition. -/
theorem hitsWay_serves {ty : Nat} (h : s.HitsWay ty c slot code i r a set w) : ∃ t tag, s.AtHand t c ∧ t.coh.rsv = [] ∧
    place (t.reg Obj.CAIRN_SLICES 0) r.msg.home = (r.slice, set, tag) ∧ s.serveSlot ty c slot = t.transition i r a w false ∧
    w < 16 ∧ c < 8 ∧ r.ty = ty ∧ r.slice = c ∧ r.rsv = 64 ∧ a < 64 ∧ s.reg Obj.AGT_STATE a = 0 := by
  obtain ⟨tag, h, way⟩ := h
  obtain ⟨t, hand, unreserved, here, serves⟩ := hits_serves h
  obtain ⟨⟨⟨hc, -, -, -, same, slice⟩, -, agent, live, -⟩, own, -⟩ := h
  rw [way] at serves
  exact ⟨t, tag, hand, unreserved, here, serves, findWay_lt way, hc, same, slice, own, agent, live⟩

/-- `u` is `s` with the transaction of request `r` waiting in tracker `n`, opened by plan `p` on the line as it stands. -/
structure State.Waits (s u : State) (r : CohReq) (a : Nat) (p : Plan) (set n : Nat) : Prop where
  open_ : ∃ at_ lost, u.tracker r.slice n = some (openedTrk r a p set n (s.liveVec p.await) at_ lost)
  entry : p.way < 16 → u.dirEntry r.slice set p.way = { s.dirEntry r.slice set p.way with busy := true, trk := n, rank := 0 }
  dir : 16 ≤ p.way → u.coh.dir = s.coh.dir
  snooped : s.liveVec p.await ≠ 0 → u.reg Obj.DIR_BISNP r.slice =
    (s.reg Obj.DIR_BISNP r.slice + (bitsOf 64 (s.liveVec p.await)).length) % 2 ^ 64

theorem openTrk_waits {t : State} {p : Plan} (hand : s.AtHand t r.slice) (unreserved : t.coh.rsv = []) (own : r.rsv = 64)
    (here : place (t.reg Obj.CAIRN_SLICES 0) r.msg.home = (r.slice, set, tag)) (up : s.dlUp r.msg.egress = true)
    (free : s.freeTracker r.slice (writesBack r) = some n)
    (stay : s.liveVec p.await ≠ 0 ∨ p.await = 0 ∧ p.needMem = false ∧ p.memNow = true) : s.Waits (t.openTrk i r a p id) r a p set n := by
  have admitted := admitReq_keepsLines unreserved own i
  have live : (t.admitReq i r).liveVec p.await = s.liveVec p.await := (admitted.liveVec _).trans (hand.liveVec _)
  have opened := openTrk_stays (i := i) (a := a) (prep := id) here ((hand.dlUp _).trans up) ((hand.freeTracker _ _).trans free)
    (by rw [id, live]; exact stay)
  rw [opensAs, id, live] at opened
  refine ⟨⟨_, _, opened.open_⟩, fun hw => (opened.entry hw).trans ?_, fun hw => (opened.dir hw).trans (admitted.dir.trans hand.dir),
    fun agents => (opened.snooped (bitsOf_liveVec_ne_nil agents)).trans ?_⟩
  · rw [admitted.dirEntry, hand.dirEntry]
    rfl
  · rw [admitted.regs _ _ (by decide) (by decide) (by decide), hand.regs _ _ (by decide)]
    rfl

theorem exec_cohRdO (h : s.HitsWay 2 c slot code i r a set w) (up : s.dlUp r.msg.egress = true) (state : (s.dirEntry c set w).state = 1)
    (others : maskOut (s.dirEntry c set w).sharers (2 ^ a) ≠ 0) (live : s.liveVec (clrBit (s.dirEntry c set w).sharers a) ≠ 0)
    (free : s.freeTracker c false = some n) :
    ∃ (u : State) (t : Trk), exec (.cohRdO c slot) s = .next u ∧ u.tracker c n = some t ∧ t.ty = 2 ∧ t.agent = a ∧ t.way = w ∧
      t.await = s.liveVec (clrBit (s.dirEntry c set w).sharers a) ∧ t.snp = 1 ∧ t.memOut = true ∧
      (u.dirEntry c set w).state = 1 ∧ (u.dirEntry c set w).busy = true ∧
      u.reg Obj.DIR_BISNP c = (s.reg Obj.DIR_BISNP c + (bitsOf 64 (s.liveVec (clrBit (s.dirEntry c set w).sharers a))).length) % 2 ^ 64 := by
  obtain ⟨t, tag, hand, unreserved, here, serves, hw, hc, ty, slice, own, -⟩ := hitsWay_serves h
  subst slice
  have entry := hand.dirEntry r.slice set w
  rw [transition_ownShared here hw ty (entry ▸ state) (entry ▸ others), entry] at serves
  obtain ⟨⟨at_, lost, open_⟩, line, -, snooped⟩ := openTrk_waits (i := i) (a := a) (n := n)
    (p := { planAt w with await := clrBit (s.dirEntry r.slice set w).sharers a, snp := 1, memNow := true }) hand unreserved own here up
    (by rw [writesBack, ty]; exact free) (.inl live)
  obtain ⟨u, runs, same⟩ := onUnit_answers (f := fun x : State => x.serveSlot 2 r.slice slot) hc serves
  exact ⟨u, _, runs, (same.tracker _ _).trans open_, ty, rfl, rfl, rfl, rfl, rfl, by rw [same.dirEntry, line hw]; exact state,
    by rw [same.dirEntry, line hw], (same.reg _ _).trans (snooped live)⟩

theorem exec_cohRdNc (h : s.Hits 4 c slot code i r a set tag) (absent : s.findWay c set tag = none) (up : s.dlUp r.msg.egress = true)
    (usable : s.lostWay c set = false) (free : s.freeTracker c false = some n) :
    ∃ (u : State) (t : Trk), exec (.cohRdNc c slot) s = .next u ∧ u.tracker c n = some t ∧ t.ty = 4 ∧ t.way = 16 ∧ t.await = 0 ∧
      t.memOut = true ∧ t.write = false ∧ u.coh.dir = s.coh.dir := by
  obtain ⟨t, hand, unreserved, here, serves⟩ := hits_serves h
  obtain ⟨⟨⟨hc, -, -, -, ty, slice⟩, -⟩, own, -⟩ := h
  subst slice
  rw [absent, usable] at serves
  obtain ⟨⟨at_, lost, open_⟩, -, dir, -⟩ := openTrk_waits (i := i) (a := a) (n := n) (p := { planDflt with memNow := true }) hand unreserved
    own here up (by rw [writesBack, ty]; exact free) (.inr ⟨rfl, rfl, rfl⟩)
  obtain ⟨u, runs, same⟩ := onUnit_answers (f := fun x : State => x.serveSlot 4 r.slice slot) hc (serves.trans (transition_readNc ty))
  exact ⟨u, _, runs, (same.tracker _ _).trans open_, ty, rfl, await_openedTrk rfl, rfl, by rw [openedTrk, ty]; rfl,
    by rw [same.coh]; exact dir (le_refl 16)⟩

theorem exec_cohWrNc (h : s.HitsWay 5 c slot code i r a set w) (up : s.dlUp r.msg.egress = true) (state : (s.dirEntry c set w).state = 1)
    (live : s.liveVec (s.dirEntry c set w).sharers ≠ 0) (free : s.freeTracker c false = some n) :
    ∃ (u : State) (t : Trk), exec (.cohWrNc c slot) s = .next u ∧ u.tracker c n = some t ∧ t.ty = 5 ∧
      t.await = s.liveVec (s.dirEntry c set w).sharers ∧ t.snp = 1 ∧ t.needMem = true ∧ t.memOut = false ∧ t.write = true ∧
      (u.dirEntry c set w).busy = true := by
  obtain ⟨t, tag, hand, unreserved, here, serves, hw, hc, ty, slice, own, -⟩ := hitsWay_serves h
  subst slice
  have entry := hand.dirEntry r.slice set w
  rw [transition_writeNc here hw ty (entry ▸ state), entry] at serves
  obtain ⟨⟨at_, lost, open_⟩, line, -, -⟩ := openTrk_waits (i := i) (a := a) (n := n)
    (p := { planAt w with await := (s.dirEntry r.slice set w).sharers, snp := 1, needMem := true }) hand unreserved own here up
    (by rw [writesBack, ty]; exact free) (.inl live)
  obtain ⟨u, runs, same⟩ := onUnit_answers (f := fun x : State => x.serveSlot 5 r.slice slot) hc serves
  exact ⟨u, _, runs, (same.tracker _ _).trans open_, ty, rfl, rfl, rfl, rfl, by rw [openedTrk, ty]; rfl, by rw [same.dirEntry, line hw]⟩

/-- A writeback of type `ty` by the line's owner. -/
theorem writeback_waits {ty : Nat} (wb : ty ∈ [6, 7, 8]) (h : s.HitsWay ty c slot code i r a set w) (up : s.dlUp r.msg.egress = true)
    (state : (s.dirEntry c set w).state = 2) (owner : (s.dirEntry c set w).owner = a) (free : s.freeTracker c true = some n) :
    ∃ (u : State) (t : Trk), onUnit c 8 s (fun x => x.serveSlot ty c slot) = .next u ∧ u.tracker c n = some t ∧ t.ty = ty ∧ t.await = 0 ∧
      t.memOut = true ∧ t.write = true ∧ (u.dirEntry c set w).state = 2 ∧ (u.dirEntry c set w).owner = a ∧
      (u.dirEntry c set w).busy = true := by
  obtain ⟨t, tag, hand, unreserved, here, serves, hw, hc, same, slice, own, -⟩ := hitsWay_serves h
  subst slice same
  have entry := hand.dirEntry r.slice set w
  have kept : writesBack r = true ∧ 5 ≤ r.ty := by
    simp only [List.mem_cons, List.not_mem_nil, or_false] at wb
    exact ⟨by simpa [writesBack, or_assoc] using wb, by omega⟩
  rw [transition_writeback here hw wb (entry ▸ state) (entry ▸ owner)] at serves
  obtain ⟨⟨at_, lost, open_⟩, line, -, -⟩ := openTrk_waits (i := i) (a := a) (n := n) (p := { planAt w with memNow := true }) hand unreserved
    own here up (by rw [kept.1]; exact free) (.inr ⟨rfl, rfl, rfl⟩)
  obtain ⟨u, runs, same⟩ := onUnit_answers (f := fun x : State => x.serveSlot r.ty r.slice slot) hc serves
  exact ⟨u, _, runs, (same.tracker _ _).trans open_, rfl, await_openedTrk rfl, rfl, decide_eq_true kept.2,
    by rw [same.dirEntry, line hw]; exact state, by rw [same.dirEntry, line hw]; exact owner, by rw [same.dirEntry, line hw]⟩

theorem exec_cohUpg (h : s.HitsWay 3 c slot code i r a set w) (state : (s.dirEntry c set w).state = 1)
    (only : (s.dirEntry c set w).sharers = 2 ^ a) (free : s.freeTracker c false = some n) :
    ∃ u : State, exec (.cohUpg c slot) s = .next u ∧ u.tracker c n = none ∧ ∃ e, u.dirEntry c set w = idleEntry (ownedEntry e a) := by
  obtain ⟨t, tag, hand, unreserved, here, serves, hw, hc, ty, slice, own, agent, live⟩ := hitsWay_serves h
  subst slice
  have entry := hand.dirEntry r.slice set w
  rw [transition_upgrade here hw ty (entry ▸ state) (by rw [entry, only]; exact bit_two_pow_self a), entry, only, clrBit_two_pow_self,
    openTrk_eq (n := n) (fun access => by simp [planDflt] at access) (by rw [writesBack, ty]; exact (hand.freeTracker _ _).trans free)
    here] at serves
  have opened := opening_opened (t.admitReq i r) r n { planAt w with await := 0, snp := 1, noData := true }
    (t.opensAs (t.admitReq i r) r a { planAt w with await := 0, snp := 1, noData := true } set n)
  have admitted := admitReq_keepsLines unreserved own i
  rw [id, advanceTrk_finishes opened.open_ (await_openedTrk rfl) rfl (ownerLost_unasked rfl) rfl rfl] at serves
  obtain ⟨ended, line⟩ := finishTrk_owned opened.open_ rfl (ownerLost_unasked rfl) (.inr ty) hw agent (by
    rw [agentOut_eq_false]
    exact (opened.regs _ _ (by decide) (by decide) (by decide)).trans ((admitted.regs _ _ (by decide) (by decide) (by decide)).trans
      ((hand.regs _ _ (by decide)).trans live)))
  obtain ⟨u, runs, same⟩ := onUnit_answers (f := fun x : State => x.serveSlot 3 r.slice slot) hc serves
  exact ⟨u, runs, (same.tracker _ _).trans ended, _, (same.dirEntry _ _ _).trans line⟩

theorem exec_cohEvc (h : s.HitsWay 9 c slot code i r a set w) (state : (s.dirEntry c set w).state = 2)
    (owner : (s.dirEntry c set w).owner = a) :
    ∃ u : State, exec (.cohEvc c slot) s = .next u ∧ u.dirEntry c set w = { dirDflt with rank := 0 } ∧ u.coh.trk = s.coh.trk := by
  obtain ⟨t, tag, hand, unreserved, here, serves, hw, hc, ty, slice, own, -⟩ := hitsWay_serves h
  subst slice
  have entry := hand.dirEntry r.slice set w
  rw [transition_evict here hw ty (entry ▸ state) (entry ▸ owner)] at serves
  have touched := touchRank_dirOnly t r.slice set w
  have answered := answerReq_keepsLines (s := t.touchRank r.slice set w) ((rsv_touchRank _ _ _ _).trans unreserved) own i false false
  have line := dirEntry_freeWay_unreserved (c := r.slice) (set := set) (w := w)
    (answered.unreserved ((rsv_touchRank _ _ _ _).trans unreserved))
  rw [answered.dirEntry, dirEntry_touchRank_self] at line
  obtain ⟨u, runs, same⟩ := onUnit_answers (f := fun x : State => x.serveSlot 9 r.slice slot) hc serves
  refine ⟨u, runs, (same.dirEntry _ _ _).trans line, ?_⟩
  rw [same.coh, (freeWay_dirOnly _ _ _ _).trk, answered.trk, touched.trk, hand.trk]

end

/-! ### A set that has to be read first (R191) -/

section

variable {s : State} {c slot code i k f a set tag : Nat} {r : CohReq}

/-- The nine request commands of a slot, each with the type that it admits. -/
def requestCommands (c slot : Nat) : List (Instr × Nat) :=
  [(Instr.cohRdS c slot, 1), (Instr.cohRdO c slot, 2), (Instr.cohUpg c slot, 3), (Instr.cohRdNc c slot, 4), (Instr.cohWrNc c slot, 5),
    (Instr.cohWbI c slot, 6), (Instr.cohWbS c slot, 7), (Instr.cohWbO c slot, 8), (Instr.cohEvc c slot, 9)]

theorem exec_requestCommand {x : Instr × Nat} (mem : x ∈ requestCommands c slot) :
    exec x.1 s = onUnit c 8 s (fun t => t.serveSlot x.2 c slot) := by
  simp only [requestCommands, List.mem_cons, List.not_mem_nil, or_false] at mem
  obtain rfl | rfl | rfl | rfl | rfl | rfl | rfl | rfl | rfl := mem <;> rfl

namespace State

theorem reqs_setReq (i : Nat) (x : CohReq) : (s.setReq i x).coh.reqs = s.coh.reqs.set i x := setAt_eq_set _ _ _

/-- Request `i` waits in its place for a set of its slice. -/
theorem awaitSet_frame (listed : i < s.coh.reqs.length) : (∃ y, (s.awaitSet i r).coh.reqs[i]? = some y ∧ y.admitted = true ∧ y.msg = r.msg) ∧
    (s.awaitSet i r).coh.reqs.length = s.coh.reqs.length := by
  unfold awaitSet
  rw [reqs_setReq]
  exact ⟨⟨_, List.getElem?_set_self listed, rfl, rfl⟩, List.length_set⟩

/-- The set is not in the directory cache, and is read into frame `f` (R191). -/
def cacheMiss (s : State) (r : CohReq) (set f : Nat) : State :=
  ((s.count (reqEvt 0x5001 r)).count (reqEvt 0x5003 r)).readSet r.slice set f

theorem reg_readSet (s : State) (c set f o j : Nat) : (s.readSet c set f).reg o j = (s.bump64 Obj.DIR_MISS c).reg o j := rfl

theorem cacheMiss_frame (s : State) (code b : Nat) (r : CohReq) (set f : Nat) :
    ((s.slotUsed r.slice code b r).cacheMiss r set f).coh.reads = s.coh.reads ++ [(r.slice, set)] ∧
    ((s.slotUsed r.slice code b r).cacheMiss r set f).coh.reqs = s.coh.reqs ∧
    ((s.slotUsed r.slice code b r).cacheMiss r set f).coh.dir = s.coh.dir ∧
    ((s.slotUsed r.slice code b r).cacheMiss r set f).coh.trk = s.coh.trk ∧
    ((s.slotUsed r.slice code b r).cacheMiss r set f).reg Obj.DIR_MISS r.slice = (s.reg Obj.DIR_MISS r.slice + 1) % 2 ^ 64 := by
  refine ⟨rfl, rfl, rfl, rfl, ?_⟩
  rw [cacheMiss, reg_readSet, bump64, reg_setReg_self, reg_count, reg_count, reg_slotUsed]

end State

theorem serveSlot_miss {ty : Nat} (h : s.Offered ty c slot code i r) (here : place (s.reg Obj.CAIRN_SLICES 0) r.msg.home = (c, set, tag))
    (reading : s.coh.reads.contains (c, set) = false) (uncached : s.findFrame c set = none) (victim : s.victimFrame c set = some f) :
    ∃ (u : State) (y : CohReq), onUnit c 8 s (fun t => t.serveSlot ty c slot) = .next u ∧ u.coh.reads = s.coh.reads ++ [(c, set)] ∧
      u.coh.reqs[i]? = some y ∧ y.admitted = true ∧ y.msg = r.msg ∧ u.coh.reqs.length = s.coh.reqs.length ∧ u.coh.dir = s.coh.dir ∧
      u.coh.trk = s.coh.trk ∧ u.reg Obj.DIR_MISS c = (s.reg Obj.DIR_MISS c + 1) % 2 ^ 64 := by
  obtain ⟨b, serves⟩ := serveSlot_offered h
  obtain ⟨hc, -, -, gets, -, slice⟩ := h
  subst slice
  obtain ⟨index, -⟩ := List.getElem?_eq_some_iff.mp (wheelPick_req gets)
  rw [takeReq_miss (s := s.slotUsed r.slice code b r) here reading uncached victim] at serves
  obtain ⟨reads, reqs, dir, trk, missed⟩ := cacheMiss_frame s code b r set f
  obtain ⟨⟨y, listed, admitted, msg⟩, length⟩ := awaitSet_frame (s := (s.slotUsed r.slice code b r).cacheMiss r set f) (r := r)
    (by rw [reqs]; exact index)
  obtain ⟨u, runs, same⟩ := onUnit_answers (f := fun x : State => x.serveSlot ty r.slice slot) hc serves
  refine ⟨u, y, runs, ?_, by rw [same.coh]; exact listed, admitted, msg, by rw [same.coh]; exact length.trans (by rw [reqs]), ?_, ?_,
    (same.reg _ _).trans missed⟩
  · rw [same.coh]
    exact reads
  · rw [same.coh]
    exact dir
  · rw [same.coh]
    exact trk

/-! ### A line that is busy (R210) -/

namespace State

/-- A request that wants a hold entry and has a NAK keeps the NAK's cause. -/
theorem wantsHold_cause {p j cause : Nat} (h : s.wantsHold p = some (j, cause)) :
    ∃ q, s.coh.reqs[j]? = some q ∧ (q.cause ≠ 0 → cause = q.cause) := by
  obtain ⟨⟨q, n⟩, mem, wants⟩ := List.exists_of_findSome?_eq_some h
  dsimp only at wants
  split_ifs at wants with waits naked
  · cases wants
    exact ⟨q, List.mk_mem_zipIdx_iff_getElem?.mp mem, fun _ => rfl⟩
  · obtain ⟨older, -, same⟩ := Option.map_eq_some_iff.mp wants
    cases same
    exact ⟨q, List.mk_mem_zipIdx_iff_getElem?.mp mem, fun some => absurd some naked⟩

/-- Request `i` of the list is `x`, but for its hold entry. -/
def StillListed (s : State) (i : Nat) (x : CohReq) : Prop := ∃ k, s.coh.reqs[i]? = some { x with entry := k }

/-- A request with a NAK stays as it is while requests take hold entries. -/
theorem fillHold_stillListed {p : Nat} {x : CohReq} (naked : x.cause ≠ 0) (h : s.StillListed i x) : (s.fillHold p).StillListed i x := by
  unfold fillHold
  split
  · exact h
  · refine foldS_keeps (fun (t : State) => t.StillListed i x) _ (fun _ t kept => ?_) _ s h
    split
    · exact kept
    · next j cause wants =>
      obtain ⟨q, atJ, keeps⟩ := wantsHold_cause wants
      rw [atJ]
      dsimp only
      split
      · next k _ =>
        obtain ⟨e, atI⟩ := kept
        unfold StillListed
        rw [reqs_setReq, List.getElem?_set]
        by_cases same : j = i
        · subst same
          rw [atI] at atJ
          injection atJ with atJ
          subst atJ
          rw [if_pos rfl, if_pos (List.getElem?_eq_some_iff.mp atI).1, keeps naked]
          exact ⟨k, rfl⟩
        · rw [if_neg same]
          exact ⟨e, atI⟩
      · exact kept

/-- A NAK of a port in CXL mode goes back into the list, with its cause and what it waits for (R210). -/
theorem nak_eq {cause wait : Nat} (cxl : s.drudar r.msg.inPort = false) : ∃ (v : State) (x : CohReq),
    s.nak i r cause wait = ((v.setReq i x).noteRsv r.slice).noteHoldFull (rttPort r.msg) ∧ v.coh.reqs = s.coh.reqs ∧
    v.coh.trk = s.coh.trk ∧ x.cause = cause ∧ x.wait = wait ∧ x.ncnt = (if (cause != 6) = true then min 15 (r.ncnt + 1) else r.ncnt) ∧
    x.msg = r.msg ∧ x.ty = r.ty := by
  unfold nak
  dsimp only
  rw [if_neg (by simp [cxl])]
  refine ⟨_, _, rfl, ?_, ?_, rfl, rfl, rfl, rfl, rfl⟩
  · split
    · rfl
    · split <;> rfl
  · split
    · rfl
    · split <;> rfl

theorem nak_listed {cause wait : Nat} (cxl : s.drudar r.msg.inPort = false) (index : i < s.coh.reqs.length) (naked : cause ≠ 0) :
    ∃ y, (s.nak i r cause wait).coh.reqs[i]? = some y ∧ y.cause = cause ∧ y.wait = wait ∧
      y.ncnt = (if (cause != 6) = true then min 15 (r.ncnt + 1) else r.ncnt) ∧ y.msg = r.msg ∧ y.ty = r.ty ∧
      (s.nak i r cause wait).coh.trk = s.coh.trk := by
  obtain ⟨v, x, e, reqs, trk, cause, wait, ncnt, msg, ty⟩ := nak_eq (i := i) (cause := cause) (wait := wait) cxl
  have noted := noteRsv_dirOnly (v.setReq i x) r.slice
  obtain ⟨lines, listed, -, -⟩ := noteHoldFull_frame ((v.setReq i x).noteRsv r.slice) (rttPort r.msg)
  have before : ((v.setReq i x).noteRsv r.slice).StillListed i x := by
    refine ⟨x.entry, ?_⟩
    rw [noted]
    change (v.setReq i x).coh.reqs[i]? = _
    rw [reqs_setReq, reqs, List.getElem?_set_self index]
  obtain ⟨k, after⟩ := fillHold_stillListed (p := rttPort r.msg) (by rw [cause]; exact naked) before
  rw [e, listed]
  exact ⟨_, after, cause, wait, ncnt, msg, ty, lines.trk.trans (noted.trk.trans trk)⟩

/-- A request, not a writeback, whose line has an open transaction is NAKed with cause 1 and waits for it. -/
theorem applyReq_busy {t : Trk} (agent : s.agentOfMsg r.msg = a) (live : s.reg Obj.AGT_STATE a = 0)
    (evict : s.lineEvict r.slice (r.msg.home / 64 * 64) = none) (busy : s.lineTracker r.slice (r.msg.home / 64 * 64) = some k)
    (open_ : s.tracker r.slice k = some t) (request : writesBack r = false) : s.applyReq i r = s.nak i r 1 k := by
  rw [writesBack] at request
  unfold applyReq
  simp only [agent, agentDead_eq_false live, Bool.false_and, Bool.false_eq_true, if_false, evict, busy, open_, request]

end State

theorem serveSlot_naks {ty : Nat} {t : Trk} (request : ty ∈ [1, 2, 3, 4, 5]) (h : s.AtSet ty c slot code i r a set tag)
    (evict : s.lineEvict c (r.msg.home / 64 * 64) = none) (busy : s.lineTracker c (r.msg.home / 64 * 64) = some k)
    (open_ : s.tracker c k = some t) (cxl : s.drudar r.msg.inPort = false) :
    ∃ (u : State) (y : CohReq), onUnit c 8 s (fun t => t.serveSlot ty c slot) = .next u ∧ u.coh.reqs[i]? = some y ∧ y.cause = 1 ∧
      y.wait = k ∧ y.ncnt = min 15 (r.ncnt + 1) ∧ y.msg = r.msg ∧ y.ty = r.ty ∧ u.coh.trk = s.coh.trk := by
  obtain ⟨v, hand, serves⟩ := atSet_serves h
  obtain ⟨⟨hc, -, -, gets, same, slice⟩, agent, -, live, -⟩ := h
  subst slice same
  obtain ⟨index, -⟩ := List.getElem?_eq_some_iff.mp (wheelPick_req gets)
  have other : writesBack r = false := by
    simp only [List.mem_cons, List.not_mem_nil, or_false] at request
    simp only [writesBack, Bool.or_eq_false_iff, beq_eq_false_iff_ne]
    omega
  rw [applyReq_busy ((hand.agentOfMsg _).trans agent) ((hand.regs _ _ (by decide)).trans live) ((hand.lineEvict _ _).trans evict)
    ((hand.lineTracker _ _).trans busy) ((hand.tracker _ _).trans open_) other] at serves
  obtain ⟨y, listed, cause, wait, ncnt, msg, ty, trk⟩ := nak_listed (s := v) (i := i) (r := r) (cause := 1) (wait := k)
    (by rw [drudar, hand.regs _ _ (by decide)]; exact cxl) (by rw [hand.reqs]; exact index) (by decide)
  obtain ⟨u, runs, same⟩ := onUnit_answers (f := fun x : State => x.serveSlot r.ty r.slice slot) hc serves
  exact ⟨u, y, runs, by rw [same.coh]; exact listed, cause, wait, ncnt, msg, ty, by rw [same.coh]; exact trk.trans hand.trk⟩

end

/-- Settles O34: the transitions of a request whose line is free, a set that is read first, a line that is busy, and a slot that is not
open. -/
theorem coherentRequests : Obligations.CoherentRequests := by
  unfold Obligations.CoherentRequests
  refine ⟨fun s c slot code i r a set tag n w h absent up usable free room => exec_cohRdS h absent up usable free room,
    fun s c slot code i r a set n w h up state others live free => exec_cohRdO h up state others live free,
    fun s c slot code i r a set n w h state only free => ?_,
    fun s c slot code i r a set tag n h absent up usable free => exec_cohRdNc h absent up usable free,
    fun s c slot code i r a set n w h up state live free => exec_cohWrNc h up state live free,
    fun s c slot code i r a set n w x mem h up state owner free => ?_,
    fun s c slot code i r a set w h state owner => exec_cohEvc h state owner,
    fun s c slot code i f set tag r x mem h here reading uncached victim => ?_,
    fun s c slot code i k a set tag r t x mem h evict busy open_ cxl => ?_, fun s c slot x mem hc closed => ?_⟩
  · obtain ⟨u, runs, ended, e, entry⟩ := exec_cohUpg h state only free
    exact ⟨u, runs, ended, by rw [entry]; exact ⟨rfl, rfl, rfl, rfl⟩⟩
  · rw [exec_requestCommand (List.mem_of_mem_drop (i := 5) (List.mem_of_mem_take (i := 3) mem))]
    have wb : x.2 ∈ [6, 7, 8] := List.mem_map_of_mem (f := Prod.snd) mem
    exact writeback_waits wb h up state owner free
  · rw [exec_requestCommand mem]
    exact serveSlot_miss h here reading uncached victim
  · rw [exec_requestCommand (List.mem_of_mem_take (i := 5) mem)]
    have request : x.2 ∈ [1, 2, 3, 4, 5] := List.mem_map_of_mem (f := Prod.snd) mem
    exact serveSlot_naks request h evict busy open_ cxl
  · have command : x ∈ (requestCommands c slot).map Prod.fst := mem
    obtain ⟨y, listed, rfl⟩ := List.mem_map.mp command
    rw [exec_requestCommand listed]
    exact onUnit_eq_next (f := fun t : State => t.serveSlot y.2 c slot) hc (serveSlot_closed closed) rfl rfl rfl

end Sys2Proof.Machine
end

section
/-!
SUPPORT. What the accesses of a mover channel leave alone (R148, R237): the read of a line changes no move, no port, no lane and no object,
so that all the lines of a granule are read by the same addresses and routes.
-/

namespace Sys2Proof.Machine

/-- A write to a key that a selection leaves out changes nothing of the selection. -/
theorem Tbl.filter_set_of_out {α : Type} [DecidableEq α] (t : Tbl α) (d v : α) {k : Key} {q : Key × α → Bool}
    (out : ∀ x, q (k, x) = false) : (t.set d k v).filter q = t.filter q := by
  have erased : (t.erase k).filter q = t.filter q := by
    unfold Tbl.erase
    rw [List.filter_filter]
    refine List.filter_congr fun e _ => ?_
    by_cases here : e.1 = k
    · subst here
      simp [show q e = false from out e.2]
    · simp [here]
  have inserted (r : Tbl α) : (Tbl.insert (k, v) r).filter q = r.filter q := by
    induction r with
    | nil => simp [Tbl.insert, out]
    | cons h r ih =>
      unfold Tbl.insert
      split
      · rw [List.filter_cons, List.filter_cons, ih]
      · rw [List.filter_cons, if_neg (by simp [out])]
  unfold Tbl.set
  split
  · exact erased
  · exact (inserted _).trans erased

/-- A walk keeps what its steps for the members of its list keep. -/
theorem foldS_keeps_of_mem {α σ : Type} {P : σ → Prop} {f : α → σ → σ} {l : List α} (h : ∀ a ∈ l, ∀ s, P s → P (f a s)) {s : σ}
    (p : P s) : P (foldS f l s) := by
  induction l generalizing s with
  | nil => exact p
  | cons a r ih => exact ih (fun b mem => h b (List.mem_cons_of_mem a mem)) (h a List.mem_cons_self s p)

namespace State

/-! ### Objects -/

/-- The objects that raising an event can write. -/
def eventObjects : List Nat := [Obj.INT_CAUSE, Obj.EVT_DROPPED]

/-- What is written of every object but those of `l`. -/
def objectsBut (s : State) (l : List Nat) : Tbl Nat := s.regs.filter (fun e => !(l.contains e.1.1))

section

variable {s t : State} {l l' : List Nat}

theorem objectsBut_setReg (s : State) {o : Nat} (i v : Nat) (h : o ∈ l) : (s.setReg o i v).objectsBut l = s.objectsBut l :=
  Tbl.filter_set_of_out s.regs _ v (fun _ => by simp [h])

theorem reg_of_objectsBut (e : t.objectsBut l = s.objectsBut l) {o : Nat} (i : Nat) (h : o ∉ l) : t.reg o i = s.reg o i := by
  have read (u : State) : (u.objectsBut l).get (regDefault (o, i)) (o, i) = u.reg o i :=
    Tbl.get_filter_of_kept u.regs _ _ _ (fun _ => by simp [h])
  rw [← read t, e, read s]

theorem objectsBut_mono (e : t.objectsBut l = s.objectsBut l) (m : l ⊆ l') : t.objectsBut l' = s.objectsBut l' := by
  have fewer (u : State) : (u.objectsBut l).filter (fun e => !(l'.contains e.1.1)) = u.objectsBut l' := by
    unfold objectsBut
    rw [List.filter_filter]
    refine List.filter_congr fun e _ => ?_
    by_cases h : e.1.1 ∈ l
    · simp [m h]
    · simp [h]
  rw [← fewer t, e, fewer s]

theorem ldsKnown_of_objectsBut (e : t.objectsBut l = s.objectsBut l) (port : Obj.LD_PORT ∉ l) (size : Obj.LD_REMOTE_SIZE ∉ l) :
    t.ldsKnown = s.ldsKnown := by
  have among (u : State) : (u.objectsBut l).filterMap
      (fun e => if e.1.1 = Obj.LD_PORT ∨ e.1.1 = Obj.LD_REMOTE_SIZE then some e.1.2 else none) = u.ldsKnown := by
    unfold objectsBut ldsKnown
    rw [List.filterMap_filter]
    refine List.filterMap_congr fun e _ => ?_
    by_cases h : e.1.1 = Obj.LD_PORT ∨ e.1.1 = Obj.LD_REMOTE_SIZE
    · have kept : e.1.1 ∉ l := by
        rcases h with h | h <;> rw [h] <;> assumption
      simp [kept]
    · simp [h]
  rw [← among t, e, among s]

end

/-! ### Addresses and routes (R114, R117, R125) -/

section

variable {s t : State}

/-- The objects whose writing changes no address and no route of a granule's lines. -/
def copyObjects : List Nat := Obj.MOVE_COPIED :: eventObjects

/-- What the addresses and the routes of a granule's lines are computed from. -/
structure SameRoutes (s t : State) : Prop where
  ports : t.link.ports = s.link.ports
  enumd : t.fab.enumd = s.fab.enumd
  objects : t.objectsBut copyObjects = s.objectsBut copyObjects

namespace SameRoutes

theorem reg (h : s.SameRoutes t) {o : Nat} (i : Nat) (other : o ∉ copyObjects) : t.reg o i = s.reg o i :=
  reg_of_objectsBut h.objects i other

theorem withDict (h : s.SameRoutes t) (d : DictSt) : s.SameRoutes { t with dict := d } := ⟨h.ports, h.enumd, h.objects⟩

theorem dlUp (h : s.SameRoutes t) (p : Nat) : t.dlUp p = s.dlUp p := by
  unfold State.dlUp port
  rw [h.ports]

theorem ldLocal (h : s.SameRoutes t) (ld : Nat) : t.ldLocal ld = s.ldLocal ld := by
  unfold State.ldLocal
  rw [h.reg _ (by decide)]

theorem groupLive (h : s.SameRoutes t) (g : Nat) : t.groupLive g = s.groupLive g := by
  unfold State.groupLive
  simp only [h.reg _ (show Obj.HG_COUNT ∉ copyObjects by decide), h.reg _ (show Obj.HG_MEMBERS ∉ copyObjects by decide), h.dlUp]

theorem ldPresent (h : s.SameRoutes t) (ld : Nat) : t.ldPresent ld = s.ldPresent ld := by
  unfold State.ldPresent ldReported routeLive
  simp only [h.ldLocal, h.dlUp, h.groupLive, h.enumd, h.reg _ (show Obj.LD_PORT ∉ copyObjects by decide),
    h.reg _ (show Obj.LD_LDID ∉ copyObjects by decide), h.reg _ (show Obj.LD_REMOTE_SIZE ∉ copyObjects by decide),
    h.reg _ (show Obj.LD_FID ∉ copyObjects by decide), h.reg _ (show Obj.ROUTE_ENTRY ∉ copyObjects by decide)]

theorem ldAt (h : s.SameRoutes t) (a : Nat) : t.ldAt a = s.ldAt a := by
  unfold State.ldAt ldSize
  simp only [ldsKnown_of_objectsBut h.objects (by decide) (by decide), h.ldPresent, h.ldLocal,
    h.reg _ (show Obj.LD_POOL_BASE ∉ copyObjects by decide), h.reg _ (show Obj.LD_SIZE ∉ copyObjects by decide),
    h.reg _ (show Obj.LD_REMOTE_SIZE ∉ copyObjects by decide)]

theorem ldEgress (h : s.SameRoutes t) (src ld : Nat) : t.ldEgress src ld = s.ldEgress src ld := by
  unfold State.ldEgress bucketPort
  simp only [h.ldLocal, h.groupLive, h.reg _ (show Obj.LD_PORT ∉ copyObjects by decide), h.reg _ (show Obj.LD_FID ∉ copyObjects by decide),
    h.reg _ (show Obj.ROUTE_ENTRY ∉ copyObjects by decide), h.reg _ (show Obj.HG_MEMBERS ∉ copyObjects by decide),
    h.reg _ (show Obj.HG_BUCKETS ∉ copyObjects by decide)]

theorem moverPort (h : s.SameRoutes t) (c a : Nat) : t.moverPort c a = s.moverPort c a := by
  unfold State.moverPort
  simp only [h.ldAt, h.ldEgress, h.reg _ (show Obj.FID_BASE ∉ copyObjects by decide)]

end SameRoutes

end

/-! ### What is left alone -/

/-- What sending a message and raising an event leave alone, of what the copy of a granule reads and writes. -/
structure Bystanders where
  pending : List Instr
  mode : Mode
  sec : SecSt
  move : MoveSt
  ports : Tbl Port
  lanes : Tbl Lane
  enumd : Tbl (Option EnumResult)
  objects : Tbl Nat

/-- The bystanders of a message or an event. -/
def bystanders (s : State) : Bystanders :=
  { pending := s.pending, mode := s.mode, sec := s.sec, move := s.move, ports := s.link.ports, lanes := s.link.lanes
    enumd := s.fab.enumd, objects := s.objectsBut eventObjects }

section

variable {s t : State} (e : t.bystanders = s.bystanders)

include e

theorem keepsCourse_of_bystanders : s.KeepsCourse t :=
  ⟨congrArg Bystanders.pending e, congrArg Bystanders.mode e, congrArg Bystanders.sec e⟩

theorem move_of_bystanders : t.move = s.move := congrArg Bystanders.move e
theorem ports_of_bystanders : t.link.ports = s.link.ports := congrArg Bystanders.ports e
theorem lanes_of_bystanders : t.link.lanes = s.link.lanes := congrArg Bystanders.lanes e

theorem reg_of_bystanders {o : Nat} (i : Nat) (h : o ∉ eventObjects) : t.reg o i = s.reg o i :=
  reg_of_objectsBut (congrArg Bystanders.objects e) i h

theorem sameRoutes_of_bystanders : s.SameRoutes t :=
  ⟨congrArg Bystanders.ports e, congrArg Bystanders.enumd e,
    objectsBut_mono (congrArg Bystanders.objects e) (List.subset_cons_self _ _)⟩

end

section

variable (s : State)

/-! ### Events -/

theorem bystanders_setReg {o : Nat} (i v : Nat) (h : o ∈ eventObjects) : (s.setReg o i v).bystanders = s.bystanders := by
  unfold bystanders
  rw [objectsBut_setReg s i v h]
  rfl

@[simp] theorem bystanders_sampleInt (n : Nat) : (s.sampleInt n).bystanders = s.bystanders := by
  unfold sampleInt
  split <;> rfl

theorem bystanders_setCause (code source inst : Nat) : (s.setCause code source inst).bystanders = s.bystanders := by
  unfold setCause
  split
  · rfl
  · exact (bystanders_sampleInt _ _).trans (bystanders_setReg s _ _ (by decide))

theorem bystanders_enqueueRec (ep : Nat) (r : EvtRec) : (s.enqueueRec ep r).bystanders = s.bystanders := by
  have dropped : (s.bump Obj.EVT_DROPPED ep).bystanders = s.bystanders := bystanders_setReg s _ _ (by decide)
  have noted (x : DictSt) : ({ s.bump Obj.EVT_DROPPED ep with dict := x } : State).bystanders = s.bystanders := dropped
  unfold enqueueRec
  dsimp only
  split
  · rw [bystanders_sampleInt]
    split
    · rfl
    · exact noted _
  · split
    · rfl
    · exact noted _

theorem bystanders_raise (code source sev inst data : Nat) : (s.raise code source sev inst data).bystanders = s.bystanders := by
  unfold raise
  refine (foldS_unseen (view := bystanders) (fun ep _ t => ?_) _).trans (bystanders_setCause _ code source inst)
  split
  · exact bystanders_enqueueRec t ep _
  · rfl

theorem bystanders_raiseLimited (ns key code source sev inst data : Nat) :
    (s.raiseLimited ns key code source sev inst data).bystanders = s.bystanders := by
  unfold raiseLimited
  dsimp only
  split
  · exact bystanders_raise _ _ _ _ _ _
  · exact bystanders_setCause s _ _ _

/-! ### Cells, credits and queues -/

theorem bystanders_accrue (p : Nat) : (s.accrue p).bystanders = s.bystanders := by
  unfold accrue
  dsimp only
  split <;> rfl

theorem bystanders_sendCredit (p u : Nat) : (s.sendCredit p u).bystanders = s.bystanders := by
  unfold sendCredit
  split <;> rfl

theorem bystanders_returnCredit (p u : Nat) : (s.returnCredit p u).bystanders = s.bystanders := by
  unfold returnCredit
  split
  · rfl
  split
  · rfl
  · exact bystanders_sendCredit s p u

theorem bystanders_settleCredits (p : Nat) : (s.settleCredits p).bystanders = s.bystanders := by
  refine foldS_unseen (view := bystanders) (fun e _ t => ?_) s
  split
  · rfl
  · exact foldS_unseen (view := bystanders) (fun _ _ v => bystanders_sendCredit v p e.1) _

theorem bystanders_tryShare (i : Nat) : (s.tryShare i).bystanders = s.bystanders := by
  unfold tryShare
  split
  · rfl
  split
  · rfl
  split
  · exact bystanders_returnCredit _ _ _
  · rfl

theorem bystanders_newCell (c : Cell) (prev : Nat) : (s.newCell c prev).2.bystanders = s.bystanders := by
  unfold newCell
  dsimp only
  split
  · split <;> rfl
  · rfl

theorem bystanders_appendDesc (m : Msg) (ch : Chain) : (s.appendDesc m ch).bystanders = s.bystanders := by
  have queued (v : State) (d : Nat) (x : Option Desc) (l : List Nat) :
      ((v.setDesc d x).setQueue m.egress m.cls l).bystanders = v.bystanders := rfl
  have unchained (v : State) (x : Tbl (Option Chain)) : ({ v with fab := { v.fab with chains := x } } : State).bystanders = v.bystanders := rfl
  unfold appendDesc
  dsimp only
  rw [unchained]
  refine (foldS_unseen (view := bystanders) (fun i _ t => ?_) _).trans ((queued _ _ _ _).trans ?_)
  · split
    · exact bystanders_tryShare _ i
    · rfl
  · split
    · exact bystanders_accrue s _
    · rfl

theorem bystanders_injectMsg (m : Msg) : (s.injectMsg m).bystanders = s.bystanders := by
  unfold injectMsg
  dsimp only
  rw [bystanders_appendDesc]
  exact List.foldlRecOn (motive := fun (a : Nat × Nat × State) => a.2.2.bystanders = s.bystanders) _ _ rfl
    (fun a kept n _ => (bystanders_newCell a.2.2 _ _).trans kept)

theorem bystanders_releaseMsg (m : Msg) : (s.releaseMsg m).bystanders = s.bystanders := by
  unfold releaseMsg sendInternal
  split
  · exact bystanders_appendDesc s m _
  split
  · split
    · exact bystanders_injectMsg s m
    · rfl
  · rfl

/-! ### Accesses of a mover channel (R148, R237) -/

theorem bystanders_takeRtt (m : Msg) : (s.takeRtt m).2.bystanders = s.bystanders := by
  unfold takeRtt
  dsimp only
  split
  · exact bystanders_raiseLimited _ _ _ _ _ _ _ _
  · rfl

theorem bystanders_innerSend (m : Msg) : (s.innerSend m).bystanders = s.bystanders := by
  unfold innerSend
  split
  · exact (bystanders_releaseMsg _ _).trans (bystanders_takeRtt s m)
  · rfl

/-- The internal requesters have no hold buffer that could be found full. -/
theorem bystanders_noteHoldFull {p : Nat} (h : 256 ≤ p) : (s.noteHoldFull p).bystanders = s.bystanders := by
  have none_held : s.fillHold p = s := if_pos (by simp [h])
  unfold noteHoldFull
  dsimp only
  rw [none_held, decide_eq_false (Nat.not_lt.mpr h)]
  exact bystanders_settleCredits _ p

theorem bystanders_forward {m : Msg} (inner : m.internal = true) : (s.forward m).bystanders = s.bystanders := by
  unfold forward
  split
  · exact bystanders_noteHoldFull _ (by simp [rttPort, inner])
  · exact bystanders_releaseMsg s m

/-- A line that a live port leads to is read without more than a message sent. -/
theorem bystanders_moverRead {c a : Nat} (here : (s.ldAt a).isSome = true) (up : s.dlUp (s.moverPort c a) = true) :
    (s.moverRead c a).bystanders = s.bystanders := by
  have live : ((s.ldAt a).isNone || !(s.dlUp (s.moverPort c a))) = false := by
    rw [up, Option.isNone_eq_false_iff.mpr here]
    rfl
  unfold moverRead
  dsimp only
  split
  · next dead => exact absurd (live.symm.trans dead) Bool.false_ne_true
  split
  · exact bystanders_forward _ rfl
  · exact bystanders_innerSend _ _

end

end State

end Sys2Proof.Machine
end

section
/-!
SUPPORT. What the operations of a live move make of the state: the release of its holds, its failure, the copy of a granule, the end of a
pass and of a freeze, the commit point, the record in flash and the undo (R237, R239 to R244).
-/

namespace Sys2Proof.Machine

/-- A walk in which one step alone does anything, and once, does what that step does. -/
theorem foldS_acts_once {α σ : Type} {f : α → σ → σ} {l : List α} {a : α} {s : σ} (mem : a ∈ l)
    (before : ∀ b ∈ l, b ≠ a → f b s = s)
    (after : ∀ b ∈ l, f b (f a s) = f a s) : foldS f l s = f a s := by
  induction l with
  | nil => cases mem
  | cons b r ih =>
    rw [foldS]
    by_cases here : b = a
    · subst here
      exact foldS_keeps_of_mem (P := (· = f b s)) (fun d among t same => by rw [same, after d (List.mem_cons_of_mem b among)]) rfl
    · rw [before b List.mem_cons_self here]
      exact ih ((List.mem_cons.mp mem).resolve_left (Ne.symm here)) (fun d among => before d (List.mem_cons_of_mem b among))
        (fun d among => after d (List.mem_cons_of_mem b among))

namespace State

/-- A command on a unit that is there answers what its function makes, where that keeps the queue, the mode and the security state. -/
theorem KeepsCourse.runs {s u : State} {n count : Nat} {f : State → State} (k : s.KeepsCourse u) (h : n < count) (e : f s = u) :
    onUnit n count s f = .next u := by
  obtain ⟨pending, mode, sec⟩ := k
  exact onUnit_eq_next h e pending mode (congrArg SecSt.fuse sec)

theorem EndsHandle.keepsCourse {s t : State} (h : s.EndsHandle t) : s.KeepsCourse t := ⟨h.pending, h.mode, h.sec⟩

section

variable (s : State) (c : Nat)

/-! ### Handles, holds and dirty bits -/

theorem move_endLop (h : Nat) (st : LopSt) (result : Nat) : (s.endLop h st result).move = s.move := by
  have slots (k : Nat) : (s.dropSlot k).move = s.move := by
    unfold dropSlot
    split <;> rfl
  have released : (s.releaseLop h).move = s.move := by
    unfold releaseLop
    dsimp only
    split <;> exact slots _
  rw [endLop_eq_raise, move_raise]
  change (s.reportLop h result).move = _
  unfold reportLop
  split <;> exact released

theorem reg_endLop (h : Nat) (st : LopSt) (result : Nat) {o : Nat} (i : Nat) (other : o ∉ eventObjects) :
    (s.endLop h st result).reg o i = s.reg o i := by
  obtain ⟨cause, dropped⟩ : o ≠ Obj.INT_CAUSE ∧ o ≠ Obj.EVT_DROPPED := by simpa [eventObjects] using other
  rw [endLop_eq_raise, reg_raise _ _ _ _ _ _ i cause dropped]
  exact congrArg (fun r => Tbl.get r (regDefault (o, i)) (o, i)) (regs_reportLop s h result)

/-- A freeze that holds nothing releases nothing. -/
theorem releaseFreeze_nil {s : State} (h : s.fab.hold = []) (lo size : Nat) : s.releaseFreeze lo size = s := by
  unfold releaseFreeze
  rw [h]
  rfl

theorem lop_clearBitmap (h : Nat) : (s.clearBitmap c).lop h = s.lop h := rfl

theorem flashRdr_clearBitmap : (s.clearBitmap c).move.flashRdr = s.move.flashRdr := rfl

theorem moveDirty_clearBitmap : (s.clearBitmap c).moveDirty c = 0 := by
  unfold moveDirty clearBitmap Tbl.row
  rw [List.length_eq_zero_iff, List.filterMap_eq_nil_iff]
  intro e mem
  have other : e.1.1 ≠ c := by simpa using (List.mem_filter.mp mem).2
  exact if_neg other

/-! ### A move fails (R244) -/

/-- The move of channel `c` has stopped copying, in phase FAILED. -/
def stopped (s : State) (c : Nat) : State := (s.setReg Obj.MOVE_PHASE c 7).setMover c { s.mover c with running := false }

theorem moveFail_eq (cause addr : Nat) : s.moveFail c cause addr =
    ((s.stopped c).endLop (s.reg Obj.MOVE_HANDLE c) .failed Ab.OP_FAILED).raise 0xD002 0xD0 3 c
      (s.reg Obj.MOVE_HANDLE c + cause * 65536 + addr % 2 ^ 49 * 2 ^ 20) := rfl

theorem movePhase_moveFail (cause addr : Nat) : (s.moveFail c cause addr).movePhase c = 7 := by
  rw [moveFail_eq, movePhase, reg_raise _ _ _ _ _ _ c (by decide) (by decide), reg_endLop _ _ _ _ c (by decide), stopped, reg_setMover,
    reg_setReg_self]

theorem move_moveFail (cause addr : Nat) : (s.moveFail c cause addr).move = (s.stopped c).move := by
  rw [moveFail_eq, move_raise, move_endLop]

theorem lop_moveFail (cause addr : Nat) :
    (s.moveFail c cause addr).lop (s.reg Obj.MOVE_HANDLE c) = (s.stopped c).endedLop (s.reg Obj.MOVE_HANDLE c) .failed Ab.OP_FAILED := by
  rw [moveFail_eq, lop_raise, lop_endLop_self]

theorem bitmap_moveFail (cause addr : Nat) : (s.moveFail c cause addr).move.bitmap = s.move.bitmap := by
  rw [move_moveFail]
  rfl

theorem mover_moveFail (cause addr : Nat) : (s.moveFail c cause addr).mover c = { s.mover c with running := false } := by
  rw [mover, move_moveFail]
  exact mover_setMover_self _ c _

theorem moveFail_keepsCourse (cause addr : Nat) : s.KeepsCourse (s.moveFail c cause addr) :=
  (moveFail_endsMoves s c cause addr).frame.keepsCourse

/-! ### A granule is copied (R237, R239) -/

/-- The counter events of a granule's 64 writes to `dest` (R328). -/
def granuleEvents (c dest : Nat) : List CntEvt :=
  List.replicate 64 { code := 0xD001, port := 65535, aux := c % 8, part := 255, cls := 255, hpa := 2 ^ 64 - 1, pool := dest }

/-- Granule `g` is taken up: its bit is cleared, or set by a write that completes in that cycle (R237, R238). -/
def granuleTaken (s : State) (c g : Nat) (setNow : Bool) : State :=
  { s with
    move := { s.move with bitmap := s.move.bitmap.set false (c, g) setNow }
    cnt := { s.cnt with evts := s.cnt.evts ++ granuleEvents c (s.reg Obj.RDR_DST (s.moveRdr c) + 4096 * g) } }

/-- The channel once the reads of granule `g` are due: it takes its rate's time over them (R247). -/
def granuleMover (s : State) (c g : Nat) (setNow : Bool) : MoveCh :=
  { s.mover c with
    cursor := g + 1, inflight := (s.mover c).inflight + 64
    nextAt := s.clk + 4096 * nsUnit / max 1 ((s.granuleTaken c g setNow).moveRate c) }

/-- Granule `g` is counted as copied, and its reads are due. -/
def granuleDue (s : State) (c g : Nat) (setNow : Bool) : State :=
  ((s.granuleTaken c g setNow).setMover c (s.granuleMover c g setNow)).bump64 Obj.MOVE_COPIED c 4096

/-- The progress of pass 0 follows, and then the lines of granule `g` are read (R239). -/
def granuleProgress (s : State) (c g : Nat) (setNow : Bool) : State :=
  if (s.mover c).pass0 then s.granuleDue c g setNow
  else (s.granuleDue c g setNow).modLop ((s.granuleDue c g setNow).reg Obj.MOVE_HANDLE c)
    (fun l => { l with progress := min 999 ((g + 1) * 1000 / max 1 ((s.granuleDue c g setNow).granules c)) })

section

variable (g : Nat) (setNow : Bool)

theorem link_granuleDue : (s.granuleDue c g setNow).link = s.link := link_setReg _ _ _ _

theorem fab_granuleDue : (s.granuleDue c g setNow).fab = s.fab := fab_setReg _ _ _ _

theorem reg_withDict (t : State) (d : DictSt) (o i : Nat) : ({ t with dict := d } : State).reg o i = t.reg o i := rfl

theorem granuleProgress_eq : ∃ d, s.granuleProgress c g setNow = { s.granuleDue c g setNow with dict := d } := by
  unfold granuleProgress
  generalize s.granuleDue c g setNow = t
  split
  · exact ⟨t.dict, rfl⟩
  · exact ⟨_, rfl⟩

theorem reg_granuleProgress (o i : Nat) : (s.granuleProgress c g setNow).reg o i =
    if o = Obj.MOVE_COPIED ∧ i = c then (s.reg Obj.MOVE_COPIED c + 4096) % 2 ^ 64 else s.reg o i := by
  obtain ⟨d, e⟩ := s.granuleProgress_eq c g setNow
  rw [e, reg_withDict]
  exact reg_setReg _ Obj.MOVE_COPIED c _ o i

theorem bitmap_granuleProgress : (s.granuleProgress c g setNow).move.bitmap = s.move.bitmap.set false (c, g) setNow := by
  obtain ⟨d, e⟩ := s.granuleProgress_eq c g setNow
  rw [e]
  simp [granuleDue, bump64, setMover, granuleTaken]

theorem mover_granuleProgress : (s.granuleProgress c g setNow).mover c = s.granuleMover c g setNow := by
  obtain ⟨d, e⟩ := s.granuleProgress_eq c g setNow
  rw [e, mover]
  simp [granuleDue, bump64, setMover, Tbl.get_set_self]

theorem granuleProgress_keepsCourse : s.KeepsCourse (s.granuleProgress c g setNow) := by
  obtain ⟨d, e⟩ := s.granuleProgress_eq c g setNow
  rw [e]
  simp [KeepsCourse, granuleDue, bump64, granuleTaken]

theorem link_granuleProgress : (s.granuleProgress c g setNow).link = s.link := by
  obtain ⟨d, e⟩ := s.granuleProgress_eq c g setNow
  rw [e]
  exact link_granuleDue s c g setNow

theorem sameRoutes_granuleDue : s.SameRoutes (s.granuleDue c g setNow) where
  ports := congrArg LinkSt.ports (link_granuleDue s c g setNow)
  enumd := congrArg FabSt.enumd (fab_granuleDue s c g setNow)
  objects := objectsBut_setReg _ c _ (by decide)

theorem sameRoutes_granuleProgress : s.SameRoutes (s.granuleProgress c g setNow) := by
  obtain ⟨d, e⟩ := s.granuleProgress_eq c g setNow
  rw [e]
  exact (sameRoutes_granuleDue s c g setNow).withDict d

end

/-- The reads of a granule's 64 lines. -/
def granuleReads (s : State) (c home : Nat) : State := foldS (fun i (t : State) => t.moverRead c (home + 64 * i)) (List.range 64) s

/-- Where a live port leads to every line, the reads of a granule are no more than messages sent. -/
theorem bystanders_granuleReads {home : Nat}
    (live : ∀ i < 64, (s.ldAt (home + 64 * i)).isSome = true ∧ s.dlUp (s.moverPort c (home + 64 * i)) = true) :
    (s.granuleReads c home).bystanders = s.bystanders := by
  refine foldS_keeps_of_mem (P := fun (t : State) => t.bystanders = s.bystanders) (fun i mem t same => ?_) rfl
  obtain ⟨here, up⟩ := live i (List.mem_range.mp mem)
  have routes := sameRoutes_of_bystanders same
  exact (bystanders_moverRead t (by rwa [routes.ldAt]) (by rwa [routes.moverPort, routes.dlUp])).trans same

section

variable {s : State} {c g : Nat} (hc : c < 16) (phase : s.movePhase c = 1) (live : s.moveLive c = true)
  (running : (s.mover c).running = true)

include hc live running in
theorem mem_copying : c ∈ s.copying := List.mem_filter.mpr ⟨List.mem_range.mpr hc, by simp [live, running]⟩

section

variable (due : (s.mover c).nextAt ≤ s.clk) (awake : s.pm.stop = false) (next : s.nextGranule c = some g)

include hc live running due awake in
theorem not_idle : ¬ ((!(s.copying.contains c) || s.clk < (s.mover c).nextAt || s.pm.stop) = true) := by
  simp [mem_copying hc live running, due, awake]

include phase in
theorem not_waiting : ¬ (s.movePhase c = 3 ∧ (s.mover c).running = false ∧ s.reg Obj.MOVE_CUTOVER_DIRTY 0 < s.moveDirty c) :=
  fun waits => absurd (phase.symm.trans waits.1) (by decide)

include hc phase live running due awake next

/-- An error of the bitmap at a granule whose turn has come fails the move (R244). -/
theorem copyGranule_bad (setNow : Bool) : s.copyGranule c true setNow = s.nextFree.moveFail c 4 s.freeVal := by
  unfold copyGranule
  rw [if_neg (not_waiting phase)]
  dsimp only
  rw [if_neg (not_idle hc live running due awake), next]
  exact if_pos rfl

/-- A granule whose turn has come, and whose accesses Flint allows, is taken up and read. -/
theorem copyGranule_allowed (setNow : Bool)
    (allowed : s.moveRefused c (s.reg Obj.RDR_SRC (s.moveRdr c) + 4096 * g) (s.reg Obj.RDR_DST (s.moveRdr c) + 4096 * g) = none) :
    s.copyGranule c false setNow = (s.granuleProgress c g setNow).granuleReads c (s.reg Obj.RDR_SRC (s.moveRdr c) + 4096 * g) := by
  unfold copyGranule
  rw [if_neg (not_waiting phase)]
  dsimp only
  rw [if_neg (not_idle hc live running due awake), next]
  dsimp only
  rw [if_neg Bool.false_ne_true, allowed]
  rfl

end

/-! ### A pass ends (R239) -/

/-- A pass of channel `c` is over: pass 0 has run, and its progress stands at 999. -/
def passNoted (s : State) (c : Nat) : State :=
  let t := s.setMover c { s.mover c with pass0 := true, running := false }
  if (s.mover c).pass0 then t else t.modLop (t.reg Obj.MOVE_HANDLE c) (fun l => { l with progress := 999 })

theorem mover_setReg (s : State) (o i v c : Nat) : (s.setReg o i v).mover c = s.mover c := rfl

theorem startPass_keepsCourse (s : State) (c : Nat) : s.KeepsCourse (s.startPass c) := ⟨rfl, rfl, rfl⟩

theorem dict_startPass (s : State) (c : Nat) : (s.startPass c).dict = s.dict := rfl

theorem reg_startPass (s : State) (c o i : Nat) : (s.startPass c).reg o i = s.reg o i := rfl

theorem mover_startPass (s : State) (c : Nat) : (s.startPass c).mover c = { s.mover c with cursor := 0, running := true } :=
  mover_setMover_self s c _

/-- Another pass begins, from the first granule. -/
def nextPass (s : State) (c : Nat) : State :=
  ((s.setReg Obj.MOVE_PHASE c 2).setReg Obj.MOVE_PASS c (s.reg Obj.MOVE_PASS c + 1)).startPass c

theorem passNoted_eq (s : State) (c : Nat) :
    ∃ d, s.passNoted c = { s.setMover c { s.mover c with pass0 := true, running := false } with dict := d } := by
  unfold passNoted
  dsimp only
  split
  · exact ⟨s.dict, rfl⟩
  · exact ⟨_, rfl⟩

theorem mover_passNoted (s : State) (c : Nat) : (s.passNoted c).mover c = { s.mover c with pass0 := true, running := false } := by
  obtain ⟨d, e⟩ := s.passNoted_eq c
  rw [e]
  exact mover_setMover_self s c _

theorem reg_passNoted (s : State) (c o i : Nat) : (s.passNoted c).reg o i = s.reg o i := by
  obtain ⟨d, e⟩ := s.passNoted_eq c
  rw [e]
  rfl

theorem moveDirty_passNoted (s : State) (c d : Nat) : (s.passNoted c).moveDirty d = s.moveDirty d := by
  obtain ⟨x, e⟩ := s.passNoted_eq c
  rw [e]
  rfl

theorem passNoted_keepsCourse (s : State) (c : Nat) : s.KeepsCourse (s.passNoted c) := by
  obtain ⟨d, e⟩ := s.passNoted_eq c
  rw [e]
  exact ⟨rfl, rfl, rfl⟩

theorem frame_passNoted (s : State) (c : Nat) : (s.passNoted c).clk = s.clk ∧ (s.passNoted c).fab = s.fab ∧
    (s.passNoted c).coh = s.coh ∧ (s.passNoted c).pm = s.pm := by
  obtain ⟨d, e⟩ := s.passNoted_eq c
  rw [e]
  exact ⟨rfl, rfl, rfl, rfl⟩

theorem nextPass_keepsCourse (s : State) (c : Nat) : s.KeepsCourse (s.nextPass c) := by simp [KeepsCourse, nextPass, startPass]

theorem fab_nextPass (s : State) (c : Nat) : (s.nextPass c).fab = s.fab := by simp [nextPass, startPass]

theorem coh_nextPass (s : State) (c : Nat) : (s.nextPass c).coh = s.coh := by simp [nextPass, startPass]

theorem reg_nextPass (s : State) (c o i : Nat) : (s.nextPass c).reg o i =
    if o = Obj.MOVE_PASS ∧ i = c then s.reg Obj.MOVE_PASS c + 1 else if o = Obj.MOVE_PHASE ∧ i = c then 2 else s.reg o i := by
  simp only [nextPass, startPass, reg_setMover, reg_setReg]

theorem mover_nextPass (s : State) (c : Nat) : (s.nextPass c).mover c = { s.mover c with cursor := 0, running := true } := by
  rw [nextPass, mover_startPass, mover_setReg, mover_setReg]

theorem enterFreeze_keepsCourse (s : State) (c : Nat) (late : Bool) : s.KeepsCourse (s.enterFreeze c late) := by
  simp [KeepsCourse, enterFreeze]

theorem fab_enterFreeze (s : State) (c : Nat) (late : Bool) : (s.enterFreeze c late).fab = s.fab := by simp [enterFreeze]

theorem coh_enterFreeze (s : State) (c : Nat) (late : Bool) : (s.enterFreeze c late).coh = s.coh := by simp [enterFreeze]

theorem reg_enterFreeze (s : State) (c : Nat) (late : Bool) (o i : Nat) :
    (s.enterFreeze c late).reg o i = if o = Obj.MOVE_PHASE ∧ i = c then 4 else s.reg o i := by
  simp only [enterFreeze, reg_setMover, reg_setReg]

theorem mover_enterFreeze (s : State) (c : Nat) (late : Bool) : (s.enterFreeze c late).mover c =
    { s.mover c with frozeAt := s.clk, running := false, late := late, cursor := 0 } := mover_setMover_self _ c _

theorem converged_passNoted (s : State) (c : Nat) : (s.passNoted c).converged c = s.converged c := by
  unfold converged
  simp only [reg_passNoted, moveDirty_passNoted]

theorem mayFreeze_passNoted (s : State) (c : Nat) : (s.passNoted c).mayFreeze c = s.mayFreeze c := by
  obtain ⟨-, -, -, pm⟩ := s.frame_passNoted c
  unfold mayFreeze sleepPending
  rw [mover_passNoted, pm]

include phase live running in
/-- A pass of the copy that has written every line is followed by another one, by the freeze, or by WAIT. -/
theorem passEnd_copied (last : s.nextGranule c = none) (written : (s.mover c).inflight = 0) : s.passEnd c =
    if s.converged c = false then (s.passNoted c).nextPass c
    else if s.mayFreeze c then (s.passNoted c).enterFreeze c ((s.mover c).slot != 512)
    else ((s.passNoted c).setReg Obj.MOVE_PHASE c 3).setMover c { (s.passNoted c).mover c with late := (s.mover c).fired } := by
  have ends : ¬ ((!((s.mover c).running && s.moveLive c) || s.nextGranule c != none || (s.mover c).inflight != 0) = true) := by
    simp [running, live, last, written]
  rw [← converged_passNoted, ← mayFreeze_passNoted]
  unfold passEnd
  rw [if_neg ends]
  dsimp only
  rw [if_neg (fun waits => absurd (phase.symm.trans waits) (by decide))]
  rfl

end

section

variable {s : State} {c : Nat}

/-! ### A freeze ends without a commit (R240) -/

/-- The time that a freeze may take, in ns (R240). -/
def freezeTime (s : State) : Nat := min (s.reg Obj.MOVE_FREEZE_MAX 0 * 1000) (s.reg Obj.DIR_TIMEOUT 0 * 1000 / 2)

/-- The freeze of channel `c` is over and counted, and the channel is back in RECOPY. -/
def freezeOver (s : State) (c : Nat) : State :=
  let t := (s.setReg Obj.MOVE_PHASE c 2).setReg Obj.MOVE_FREEZES c (s.reg Obj.MOVE_FREEZES c + 1)
  t.setMover c { t.mover c with lastFreeze := (s.clk - (s.mover c).frozeAt) / nsUnit }

/-- MOVE_FREEZE_END of that freeze (R249). -/
def freezeTold (s : State) (c : Nat) : State :=
  (s.freezeOver c).raise 0xD003 0xD0 2 c
    (s.reg Obj.MOVE_HANDLE c + (s.freezeOver c).moveDirty c * 65536 + (s.reg Obj.MOVE_FREEZES c + 1) * 2 ^ 48)

theorem fab_freezeOver (s : State) (c : Nat) : (s.freezeOver c).fab = s.fab := by simp [freezeOver]

theorem freezeLimit_late (phase : s.movePhase c = 4) (hold : s.fab.hold = []) (late : s.after (s.mover c).frozeAt s.freezeTime = true) :
    s.freezeLimit c =
      if 3 ≤ s.reg Obj.MOVE_FREEZES c + 1 then (s.freezeTold c).moveFail c 5 0 else (s.freezeTold c).startPass c := by
  have released : (s.freezeOver c).releaseFreeze (s.moveRange c).1 (s.moveRange c).2 = s.freezeOver c :=
    releaseFreeze_nil ((congrArg FabSt.hold (fab_freezeOver s c)).trans hold) _ _
  unfold freezeTold
  rw [← released]
  exact if_pos ⟨phase, late⟩

theorem reg_freezeOver (s : State) (c o i : Nat) : (s.freezeOver c).reg o i =
    if o = Obj.MOVE_FREEZES ∧ i = c then s.reg Obj.MOVE_FREEZES c + 1 else if o = Obj.MOVE_PHASE ∧ i = c then 2 else s.reg o i := by
  simp only [freezeOver, reg_setMover, reg_setReg]

theorem reg_freezeTold (s : State) (c : Nat) {o : Nat} (i : Nat) (other : o ∉ eventObjects) : (s.freezeTold c).reg o i =
    if o = Obj.MOVE_FREEZES ∧ i = c then s.reg Obj.MOVE_FREEZES c + 1 else if o = Obj.MOVE_PHASE ∧ i = c then 2 else s.reg o i := by
  obtain ⟨cause, dropped⟩ : o ≠ Obj.INT_CAUSE ∧ o ≠ Obj.EVT_DROPPED := by simpa [eventObjects] using other
  rw [freezeTold, reg_raise _ _ _ _ _ _ i cause dropped, reg_freezeOver]

theorem seq_freezeTold (s : State) (c : Nat) : (s.freezeTold c).dict.seq = (s.dict.seq + 1) % 65536 := by simp [freezeTold, freezeOver]

theorem freezeTold_keepsCourse (s : State) (c : Nat) : s.KeepsCourse (s.freezeTold c) := by simp [KeepsCourse, freezeTold, freezeOver]

/-! ### The commit point (R241, R242) -/

/-- The redirect of channel `c` is active. -/
def redirectActive (s : State) (c : Nat) : State :=
  ((s.setReg Obj.RDR_STATE (s.moveRdr c) 2).setReg Obj.RDR_COMMIT_TIME (s.moveRdr c) s.now).setReg Obj.MOVE_PHASE c 5

/-- It is in Tor's always-on copy as well. -/
def redirectInTor (s : State) (c : Nat) : State :=
  { s.redirectActive c with move := { (s.redirectActive c).move with
      torRdr := (s.redirectActive c).move.torRdr.set none (s.moveRdr c, 0)
        (some (s.reg Obj.RDR_SRC (s.moveRdr c), s.reg Obj.RDR_DST (s.moveRdr c), s.reg Obj.RDR_SIZE (s.moveRdr c)))
      torOk := true } }

/-- The move of channel `c` has committed. -/
def moveCommitted (s : State) (c : Nat) : State :=
  ((s.redirectInTor c).setMover c { (s.redirectInTor c).mover c with lastFreeze := (s.clk - (s.mover c).frozeAt) / nsUnit }).commitLop
    (s.reg Obj.MOVE_HANDLE c)

theorem fab_moveCommitted (s : State) (c : Nat) : (s.moveCommitted c).fab = s.fab := by
  simp [moveCommitted, redirectInTor, redirectActive, commitLop, modLop]

theorem moveCommitted_keepsCourse (s : State) (c : Nat) : s.KeepsCourse (s.moveCommitted c) := by
  simp [KeepsCourse, moveCommitted, redirectInTor, redirectActive, commitLop, modLop]

theorem reg_moveCommitted (s : State) (c o i : Nat) : (s.moveCommitted c).reg o i =
    if o = Obj.MOVE_PHASE ∧ i = c then 5 else if o = Obj.RDR_COMMIT_TIME ∧ i = s.moveRdr c then s.now
    else if o = Obj.RDR_STATE ∧ i = s.moveRdr c then 2 else s.reg o i := by
  have tor (t : State) (m : MoveSt) : ({ t with move := m } : State).reg o i = t.reg o i := rfl
  rw [moveCommitted, commitLop, modLop, reg_setLop, reg_setMover, redirectInTor, tor]
  simp only [redirectActive, reg_setReg]

theorem lop_moveCommitted (s : State) (c : Nat) : (s.moveCommitted c).lop (s.reg Obj.MOVE_HANDLE c) =
    { s.lop (s.reg Obj.MOVE_HANDLE c) with st := .committed, commit := s.now, since := s.clk } := by
  simp [moveCommitted, commitLop, modLop, redirectInTor, redirectActive, lop, now, setLop, Tbl.get_set_self]

theorem torRdr_moveCommitted (s : State) (c : Nat) : (s.moveCommitted c).move.torRdr.get none (s.moveRdr c, 0) =
    some (s.reg Obj.RDR_SRC (s.moveRdr c), s.reg Obj.RDR_DST (s.moveRdr c), s.reg Obj.RDR_SIZE (s.moveRdr c)) := by
  simp [moveCommitted, commitLop, modLop, redirectInTor, setMover, Tbl.get_set_self]

theorem moveCommit_met (phase : s.movePhase c = 4) (hold : s.fab.hold = []) (clean : s.moveDirty c = 0)
    (quiet : s.writeInFlight (s.moveRange c).1 (s.moveRange c).2 = false) (written : (s.mover c).inflight = 0) :
    s.moveCommit c = s.moveCommitted c := by
  have released : (s.moveCommitted c).releaseFreeze (s.moveRange c).1 (s.moveRange c).2 = s.moveCommitted c :=
    releaseFreeze_nil ((congrArg FabSt.hold (fab_moveCommitted s c)).trans hold) _ _
  exact (if_pos ⟨phase, clean, quiet, written⟩).trans released

/-! ### The redirect in flash (R242) -/

/-- One redirect as it is written to flash: only an active one stands there. -/
def flashRow (t : Tbl (Option (Nat × Nat × Nat))) (r : Nat × Nat × Nat × Nat × Nat) : Tbl (Option (Nat × Nat × Nat)) :=
  if r.2.2.2.2 = 2 then t.set none (r.1, 0) (some (r.2.1, r.2.2.1, r.2.2.2.1)) else t

/-- The redirect table is in flash. -/
def inFlash (s : State) : State := { s with move := { s.move with flashRdr := s.redirects.foldl flashRow [] } }

/-- Every active redirect stands in flash as the objects have it. -/
theorem flashRdr_active {r : Nat} (hr : r < 64) (active : s.reg Obj.RDR_STATE r = 2) :
    Tbl.get (s.redirects.foldl flashRow []) none (r, 0) = some (s.reg Obj.RDR_SRC r, s.reg Obj.RDR_DST r, s.reg Obj.RDR_SIZE r) := by
  unfold redirects
  rw [List.foldl_filterMap]
  refine foldl_reaches (P := fun _ => True)
    (Q := fun t => Tbl.get t none (r, 0) = some (s.reg Obj.RDR_SRC r, s.reg Obj.RDR_DST r, s.reg Obj.RDR_SIZE r))
    (List.mem_range.mpr hr) (fun _ _ _ _ => trivial) (fun t _ => ?_) (fun b t stands => ?_) trivial
  · simp [active, flashRow, Tbl.get_set_self]
  · by_cases here : b = r
    · subst here
      simp [active, flashRow, Tbl.get_set_self]
    · have kept (v : Option (Nat × Nat × Nat)) : Tbl.get (Tbl.set t none (b, 0) v) none (r, 0) = Tbl.get t none (r, 0) :=
        Tbl.get_set_of_ne _ _ _ _ (fun same => here (Prod.mk.inj same).1.symm)
      by_cases free : s.reg Obj.RDR_STATE b = 0
      · simpa [free] using stands
      · by_cases other : s.reg Obj.RDR_STATE b = 2
        · simpa [other, flashRow, kept] using stands
        · simpa [free, other, flashRow] using stands

/-- The data of MOVE_DONE (R249). -/
def doneData (s : State) (c : Nat) : Nat :=
  s.reg Obj.MOVE_HANDLE c + s.moveRdr c * 65536 + s.reg Obj.MOVE_PASS c * 2 ^ 24 + s.reg Obj.MOVE_FREEZES c * 2 ^ 32 +
    min (s.mover c).lastFreeze 0xFFF_FFFF * 2 ^ 40 + (if (s.mover c).late then 2 ^ 68 else 0)

/-- Channel `c` is free for a new move. -/
def channelFreed (s : State) (c : Nat) : State :=
  (((s.setReg Obj.MOVE_PHASE c 0).setReg Obj.MOVE_HANDLE c 0xFFFF).setReg Obj.MOVE_RDR c 0xFF).setMover c moveDflt

/-- The handle of the committed move of channel `c` is DONE, MOVE_DONE is raised, and its bitmap is free. -/
def doneTold (s : State) (c : Nat) : State :=
  ((s.endLop (s.reg Obj.MOVE_HANDLE c) .done 0).raise 0xD001 0xD0 1 c (s.doneData c)).clearBitmap c

/-- The committed move of channel `c` is over. -/
def moveDone (s : State) (c : Nat) : State := (s.doneTold c).channelFreed c

theorem reg_channelFreed (s : State) (c o i : Nat) : (s.channelFreed c).reg o i =
    if o = Obj.MOVE_RDR ∧ i = c then 0xFF else if o = Obj.MOVE_HANDLE ∧ i = c then 0xFFFF
    else if o = Obj.MOVE_PHASE ∧ i = c then 0 else s.reg o i := by
  simp only [channelFreed, reg_setMover, reg_setReg]

theorem channelFreed_keepsCourse (s : State) (c : Nat) : s.KeepsCourse (s.channelFreed c) := by simp [KeepsCourse, channelFreed]

theorem lop_channelFreed (s : State) (c h : Nat) : (s.channelFreed c).lop h = s.lop h := by simp [lop, channelFreed]

theorem bitmap_channelFreed (s : State) (c : Nat) : (s.channelFreed c).move.bitmap = s.move.bitmap := by simp [channelFreed, setMover]

theorem flashRdr_channelFreed (s : State) (c : Nat) : (s.channelFreed c).move.flashRdr = s.move.flashRdr := by
  simp [channelFreed, setMover]

theorem doneTold_keepsCourse (s : State) (c : Nat) : s.KeepsCourse (s.doneTold c) :=
  (endLop_endsHandle s (s.reg Obj.MOVE_HANDLE c) .done 0).keepsCourse.trans (by simp [KeepsCourse, doneTold, clearBitmap])

theorem movePhase_moveDone (s : State) (c d : Nat) : (s.moveDone c).movePhase d = if d = c then 0 else s.movePhase d := by
  have told : (s.doneTold c).reg Obj.MOVE_PHASE d = s.reg Obj.MOVE_PHASE d := by
    rw [doneTold, reg_clearBitmap, reg_raise _ _ _ _ _ _ d (by decide) (by decide), reg_endLop _ _ _ _ d (by decide)]
  rw [movePhase, moveDone, reg_channelFreed, told]
  simp [movePhase, Obj.MOVE_PHASE, Obj.MOVE_RDR, Obj.MOVE_HANDLE]

theorem moveDone_keepsCourse (s : State) (c : Nat) : s.KeepsCourse (s.moveDone c) :=
  (doneTold_keepsCourse s c).trans (channelFreed_keepsCourse _ c)

theorem lop_moveDone (s : State) (c : Nat) :
    (s.moveDone c).lop (s.reg Obj.MOVE_HANDLE c) = s.endedLop (s.reg Obj.MOVE_HANDLE c) .done 0 := by
  rw [moveDone, lop_channelFreed, doneTold, lop_clearBitmap, lop_raise, lop_endLop_self]

theorem flashRdr_moveDone (s : State) (c : Nat) : (s.moveDone c).move.flashRdr = s.move.flashRdr := by
  rw [moveDone, flashRdr_channelFreed, doneTold, flashRdr_clearBitmap, move_raise, move_endLop]

/-- What the write of the table does for channel `c`. -/
def flashStep (c : Nat) (t : State) : State := if t.movePhase c = 5 then t.moveDone c else t

theorem flashWritten_eq (runs : s.coreRuns 3 = true) : s.flashWritten = foldS flashStep (List.range 16) s.inFlash := by
  unfold flashWritten
  rw [if_neg (by simp [runs])]
  rfl

/-- Where one move alone has committed, it alone ends with the write of the table. -/
theorem flashWritten_one (runs : s.coreRuns 3 = true) (hc : c < 16) (phase : s.movePhase c = 5)
    (others : ∀ d < 16, d ≠ c → s.movePhase d ≠ 5) : s.flashWritten = s.inFlash.moveDone c := by
  have acts : flashStep c s.inFlash = s.inFlash.moveDone c := if_pos phase
  have done (d : Nat) (mem : d ∈ List.range 16) : (s.inFlash.moveDone c).movePhase d ≠ 5 := by
    rw [movePhase_moveDone]
    split
    · decide
    · next other => exact others d (List.mem_range.mp mem) other
  rw [flashWritten_eq runs, ← acts]
  exact foldS_acts_once (List.mem_range.mpr hc) (fun d mem other => if_neg (others d (List.mem_range.mp mem) other))
    (fun d mem => if_neg (acts ▸ done d mem))

/-! ### The undo ends (R243) -/

/-- Redirect entry `r` is free. -/
def redirectFreed (s : State) (r : Nat) : State :=
  (((s.setReg Obj.RDR_STATE r 0).setReg Obj.RDR_SRC r 0).setReg Obj.RDR_DST r 0).setReg Obj.RDR_SIZE r 0

/-- The redirect entry and the bitmap of channel `c` are free, and its handle is ABORTED. -/
def undone (s : State) (c : Nat) : State :=
  ((s.redirectFreed (s.moveRdr c)).clearBitmap c).endLop (s.reg Obj.MOVE_HANDLE c) .aborted Ab.ABORTED

theorem undone_keepsCourse (s : State) (c : Nat) : s.KeepsCourse (s.undone c) := by
  have freed : s.KeepsCourse ((s.redirectFreed (s.moveRdr c)).clearBitmap c) := by simp [KeepsCourse, redirectFreed, clearBitmap]
  exact freed.trans (endLop_endsHandle _ _ _ _).keepsCourse

theorem moveUndo_aborting (phase : s.movePhase c = 6) (hold : s.fab.hold = []) : s.moveUndo c = (s.undone c).channelFreed c := by
  have released : ((s.redirectFreed (s.moveRdr c)).clearBitmap c).releaseFreeze (s.moveRange c).1 (s.moveRange c).2 =
      (s.redirectFreed (s.moveRdr c)).clearBitmap c := releaseFreeze_nil (by simpa [redirectFreed, clearBitmap] using hold) _ _
  unfold moveUndo undone
  rw [if_pos (.inl phase), ← released]
  dsimp only
  rw [if_pos phase]
  rfl

theorem reg_undone (s : State) (c : Nat) {o : Nat} (i : Nat) (other : o ∉ eventObjects) :
    (s.undone c).reg o i = (s.redirectFreed (s.moveRdr c)).reg o i := by
  rw [undone, reg_endLop _ _ _ _ i other, reg_clearBitmap]

/-- The redirect entry of an undone move is free, and holds no range. -/
theorem redirect_undone (s : State) (c : Nat) : ((s.undone c).channelFreed c).reg Obj.RDR_STATE (s.moveRdr c) = 0 ∧
    ((s.undone c).channelFreed c).reg Obj.RDR_SIZE (s.moveRdr c) = 0 := by
  rw [reg_channelFreed, reg_channelFreed, reg_undone s c _ (by decide), reg_undone s c _ (by decide)]
  simp [redirectFreed, reg_setReg, Obj.RDR_STATE, Obj.RDR_SIZE, Obj.RDR_SRC, Obj.RDR_DST, Obj.MOVE_RDR, Obj.MOVE_HANDLE, Obj.MOVE_PHASE]

theorem lop_undone (s : State) (c : Nat) : (s.undone c).lop (s.reg Obj.MOVE_HANDLE c) =
    ((s.redirectFreed (s.moveRdr c)).clearBitmap c).endedLop (s.reg Obj.MOVE_HANDLE c) .aborted Ab.ABORTED := lop_endLop_self _ _ _ _

theorem moveDirty_undone (s : State) (c : Nat) : ((s.undone c).channelFreed c).moveDirty c = 0 := by
  rw [moveDirty, bitmap_channelFreed, undone, move_endLop]
  exact moveDirty_clearBitmap _ c

end

end

end State

end Sys2Proof.Machine
end

section
/-!
The obligation `RegionMoves`: the copy of a granule, the ends of a pass and of a freeze, the commit point, the redirects in flash, and the
undo of a move (R237, R239 to R244).
-/

namespace Sys2Proof.Machine

open State

section

variable {s : State} {c g : Nat} (hc : c < 16)

include hc

/-! ### Copying (R237, R239, R244) -/

section

variable (phase : s.movePhase c = 1) (live : s.moveLive c = true) (running : (s.mover c).running = true)

include phase live running

section

variable (due : (s.mover c).nextAt ≤ s.clk) (awake : s.pm.stop = false) (next : s.nextGranule c = some g)

include due awake next

/-- A granule that Flint allows is taken up, and its lines are read. -/
theorem exec_granuleCopy (setNow : Bool)
    (allowed : s.moveRefused c (s.reg Obj.RDR_SRC (s.moveRdr c) + 4096 * g) (s.reg Obj.RDR_DST (s.moveRdr c) + 4096 * g) = none)
    (here : ∀ i < 64, (s.ldAt (s.reg Obj.RDR_SRC (s.moveRdr c) + 4096 * g + 64 * i)).isSome = true ∧
      s.dlUp (s.moverPort c (s.reg Obj.RDR_SRC (s.moveRdr c) + 4096 * g + 64 * i)) = true) :
    ∃ u : State, exec (.granuleCopy c false false setNow) s = .next u ∧
      u.bystanders = (s.granuleProgress c g setNow).bystanders := by
  have routes := sameRoutes_granuleProgress s c g setNow
  have reads := bystanders_granuleReads (s.granuleProgress c g setNow) c (home := s.reg Obj.RDR_SRC (s.moveRdr c) + 4096 * g)
    (fun i hi => by rw [routes.ldAt, routes.moverPort, routes.dlUp]; exact here i hi)
  have copies : s.copyGranule c (false || false) setNow =
      (s.granuleProgress c g setNow).granuleReads c (s.reg Obj.RDR_SRC (s.moveRdr c) + 4096 * g) :=
    copyGranule_allowed hc phase live running due awake next setNow allowed
  have course := (granuleProgress_keepsCourse s c g setNow).trans (keepsCourse_of_bystanders reads)
  exact ⟨_, course.runs (f := fun t : State => t.copyGranule c (false || false) setNow) hc copies, reads⟩

theorem granuleCopy_copies (setNow : Bool)
    (allowed : s.moveRefused c (s.reg Obj.RDR_SRC (s.moveRdr c) + 4096 * g) (s.reg Obj.RDR_DST (s.moveRdr c) + 4096 * g) = none)
    (here : ∀ i < 64, (s.ldAt (s.reg Obj.RDR_SRC (s.moveRdr c) + 4096 * g + 64 * i)).isSome = true ∧
      s.dlUp (s.moverPort c (s.reg Obj.RDR_SRC (s.moveRdr c) + 4096 * g + 64 * i)) = true) :
    ∃ u : State, exec (.granuleCopy c false false setNow) s = .next u ∧
      (∀ d n, u.move.bitmap.get false (d, n) = if (d, n) = (c, g) then setNow else s.move.bitmap.get false (d, n)) ∧
      (u.mover c).cursor = g + 1 ∧ (u.mover c).inflight = (s.mover c).inflight + 64 ∧ s.clk ≤ (u.mover c).nextAt ∧
      u.reg Obj.MOVE_COPIED c = (s.reg Obj.MOVE_COPIED c + 4096) % 2 ^ 64 ∧
      s.SameRegs u [Obj.MOVE_COPIED] ∧ u.link.ports = s.link.ports ∧ u.link.lanes = s.link.lanes := by
  obtain ⟨u, runs, same⟩ := exec_granuleCopy hc phase live running due awake next setNow allowed here
  have moved := move_of_bystanders same
  have link := link_granuleProgress s c g setNow
  have mover : u.mover c = s.granuleMover c g setNow := by
    rw [State.mover, moved]
    exact mover_granuleProgress s c g setNow
  have reg {o : Nat} (i : Nat) (other : o ∉ eventObjects) := (reg_of_bystanders same i other).trans (reg_granuleProgress s c g setNow o i)
  refine ⟨u, runs, fun d n => ?_, congrArg MoveCh.cursor mover, congrArg MoveCh.inflight mover, ?_, ?_, fun o i other cause dropped => ?_,
    (ports_of_bystanders same).trans (congrArg LinkSt.ports link), (lanes_of_bystanders same).trans (congrArg LinkSt.lanes link)⟩
  · rw [moved, bitmap_granuleProgress]
    split
    · next at_ =>
      rw [at_]
      exact Tbl.get_set_self _ _ _ _
    · next other => exact Tbl.get_set_of_ne _ _ _ _ other
  · rw [mover]
    exact Nat.le_add_right _ _
  · rw [reg c (by decide), if_pos ⟨rfl, rfl⟩]
  · rw [reg i (by simp [eventObjects, cause, dropped]), if_neg (fun at_ => other (List.mem_singleton.mpr at_.1))]

/-- An error of the bitmap fails the move before anything of the granule is read. -/
theorem exec_granuleCopy_bad {searchBad clearBad : Bool} (setNow : Bool) (bad : (searchBad || clearBad) = true) :
    exec (.granuleCopy c searchBad clearBad setNow) s = .next (s.nextFree.moveFail c 4 s.freeVal) := by
  have fails : s.copyGranule c (searchBad || clearBad) setNow = s.nextFree.moveFail c 4 s.freeVal := by
    rw [bad]
    exact copyGranule_bad hc phase live running due awake next setNow
  have course : s.KeepsCourse (s.nextFree.moveFail c 4 s.freeVal) := moveFail_keepsCourse s.nextFree c 4 s.freeVal
  exact course.runs (f := fun t : State => t.copyGranule c (searchBad || clearBad) setNow) hc fails

theorem granuleCopy_fails {searchBad clearBad : Bool} (setNow : Bool) (bad : (searchBad || clearBad) = true) :
    ∃ u : State, exec (.granuleCopy c searchBad clearBad setNow) s = .next u ∧ u.movePhase c = 7 ∧ (u.mover c).running = false ∧
      (u.lop (s.reg Obj.MOVE_HANDLE c)).st = .failed ∧ (u.lop (s.reg Obj.MOVE_HANDLE c)).result = Ab.OP_FAILED ∧
      u.move.bitmap = s.move.bitmap := by
  have lop := lop_moveFail s.nextFree c 4 s.freeVal
  exact ⟨_, exec_granuleCopy_bad hc phase live running due awake next setNow bad, movePhase_moveFail _ c 4 _,
    congrArg MoveCh.running (mover_moveFail s.nextFree c 4 s.freeVal), congrArg Lop.st lop, congrArg Lop.result lop,
    bitmap_moveFail s.nextFree c 4 s.freeVal⟩

end

/-! ### The end of a pass (R239) -/

section

variable (last : s.nextGranule c = none) (written : (s.mover c).inflight = 0)

include last written

theorem exec_movePassEnd_again (dirty : s.reg Obj.MOVE_CUTOVER_DIRTY 0 < s.moveDirty c)
    (passes : s.reg Obj.MOVE_PASS c < s.reg Obj.MOVE_PASS_MAX 0) :
    exec (.movePassEnd c) s = .next ((s.passNoted c).nextPass c) := by
  have ends : s.passEnd c = (s.passNoted c).nextPass c := by
    rw [passEnd_copied phase live running last written, if_pos (by simp [converged, dirty, passes])]
  exact ((passNoted_keepsCourse s c).trans (nextPass_keepsCourse _ c)).runs (f := fun t : State => t.passEnd c) hc ends

theorem movePassEnd_recopies (dirty : s.reg Obj.MOVE_CUTOVER_DIRTY 0 < s.moveDirty c)
    (passes : s.reg Obj.MOVE_PASS c < s.reg Obj.MOVE_PASS_MAX 0) :
    ∃ u : State, exec (.movePassEnd c) s = .next u ∧ u.movePhase c = 2 ∧ u.reg Obj.MOVE_PASS c = s.reg Obj.MOVE_PASS c + 1 ∧
      (u.mover c).cursor = 0 ∧ (u.mover c).running = true ∧ (u.mover c).pass0 = true ∧
      s.SameRegs u [Obj.MOVE_PHASE, Obj.MOVE_PASS] ∧ u.fab = s.fab ∧ u.coh = s.coh := by
  obtain ⟨-, fab, coh, -⟩ := frame_passNoted s c
  have mover := mover_nextPass (s.passNoted c) c
  have reg (o i : Nat) := reg_nextPass (s.passNoted c) c o i
  rw [mover_passNoted] at mover
  simp only [reg_passNoted] at reg
  refine ⟨_, exec_movePassEnd_again hc phase live running last written dirty passes,
    (reg Obj.MOVE_PHASE c).trans (by simp [Obj.MOVE_PASS, Obj.MOVE_PHASE]), (reg Obj.MOVE_PASS c).trans (if_pos ⟨rfl, rfl⟩),
    congrArg MoveCh.cursor mover, congrArg MoveCh.running mover, congrArg MoveCh.pass0 mover, fun o i other _ _ => ?_,
    (fab_nextPass _ c).trans fab, (coh_nextPass _ c).trans coh⟩
  obtain ⟨phase, pass⟩ : o ≠ Obj.MOVE_PHASE ∧ o ≠ Obj.MOVE_PASS := by simpa using other
  rw [reg, if_neg (fun at_ => pass at_.1), if_neg (fun at_ => phase at_.1)]

theorem exec_movePassEnd_freeze
    (few : s.moveDirty c ≤ s.reg Obj.MOVE_CUTOVER_DIRTY 0 ∨ s.reg Obj.MOVE_PASS_MAX 0 ≤ s.reg Obj.MOVE_PASS c) (may : s.mayFreeze c = true) :
    exec (.movePassEnd c) s = .next ((s.passNoted c).enterFreeze c ((s.mover c).slot != 512)) := by
  have converged : s.converged c = true := by simpa [State.converged] using few
  have ends : s.passEnd c = (s.passNoted c).enterFreeze c ((s.mover c).slot != 512) := by
    rw [passEnd_copied phase live running last written, if_neg (by simp [converged]), if_pos may]
  exact ((passNoted_keepsCourse s c).trans (enterFreeze_keepsCourse _ c _)).runs (f := fun t : State => t.passEnd c) hc ends

theorem movePassEnd_freezes
    (few : s.moveDirty c ≤ s.reg Obj.MOVE_CUTOVER_DIRTY 0 ∨ s.reg Obj.MOVE_PASS_MAX 0 ≤ s.reg Obj.MOVE_PASS c) (may : s.mayFreeze c = true) :
    ∃ u : State, exec (.movePassEnd c) s = .next u ∧ u.movePhase c = 4 ∧ (u.mover c).frozeAt = s.clk ∧ (u.mover c).running = false ∧
      s.SameRegs u [Obj.MOVE_PHASE] ∧ u.fab = s.fab ∧ u.coh = s.coh := by
  obtain ⟨clk, fab, coh, -⟩ := frame_passNoted s c
  have mover := mover_enterFreeze (s.passNoted c) c ((s.mover c).slot != 512)
  have reg (o i : Nat) := reg_enterFreeze (s.passNoted c) c ((s.mover c).slot != 512) o i
  simp only [reg_passNoted] at reg
  refine ⟨_, exec_movePassEnd_freeze hc phase live running last written few may, (reg Obj.MOVE_PHASE c).trans (if_pos ⟨rfl, rfl⟩),
    (congrArg MoveCh.frozeAt mover).trans clk, congrArg MoveCh.running mover, fun o i other _ _ => ?_,
    (fab_enterFreeze _ c _).trans fab, (coh_enterFreeze _ c _).trans coh⟩
  rw [reg, if_neg (fun at_ => other (List.mem_singleton.mpr at_.1))]

end

end

/-! ### The freeze (R240 to R242) -/

section

variable (phase : s.movePhase c = 4) (hold : s.fab.hold = [])

include phase hold

section

variable (late : s.after (s.mover c).frozeAt s.freezeTime = true)

include late

theorem exec_moveFreezeLimit_again (freezes : s.reg Obj.MOVE_FREEZES c < 2) :
    exec (.moveFreezeLimit c) s = .next ((s.freezeTold c).startPass c) := by
  have ends : s.freezeLimit c = (s.freezeTold c).startPass c := by
    rw [freezeLimit_late phase hold late, if_neg (by omega)]
  exact ((freezeTold_keepsCourse s c).trans (startPass_keepsCourse _ c)).runs (f := fun t : State => t.freezeLimit c) hc ends

theorem moveFreezeLimit_recopies (freezes : s.reg Obj.MOVE_FREEZES c < 2) :
    ∃ u : State, exec (.moveFreezeLimit c) s = .next u ∧ u.movePhase c = 2 ∧ u.reg Obj.MOVE_FREEZES c = s.reg Obj.MOVE_FREEZES c + 1 ∧
      (u.mover c).cursor = 0 ∧ (u.mover c).running = true ∧ u.dict.seq = (s.dict.seq + 1) % 65536 ∧
      s.SameRegs u [Obj.MOVE_PHASE, Obj.MOVE_FREEZES] := by
  have mover := mover_startPass (s.freezeTold c) c
  have reg (o i : Nat) (other : o ∉ eventObjects) := (reg_startPass (s.freezeTold c) c o i).trans (reg_freezeTold s c i other)
  refine ⟨_, exec_moveFreezeLimit_again hc phase hold late freezes,
    (reg Obj.MOVE_PHASE c (by decide)).trans (by simp [Obj.MOVE_FREEZES, Obj.MOVE_PHASE]),
    (reg Obj.MOVE_FREEZES c (by decide)).trans (if_pos ⟨rfl, rfl⟩), congrArg MoveCh.cursor mover, congrArg MoveCh.running mover,
    (congrArg DictSt.seq (dict_startPass (s.freezeTold c) c)).trans (seq_freezeTold s c), fun o i other cause dropped => ?_⟩
  obtain ⟨phase, freezes⟩ : o ≠ Obj.MOVE_PHASE ∧ o ≠ Obj.MOVE_FREEZES := by simpa using other
  rw [reg o i (by simp [eventObjects, cause, dropped]), if_neg (fun at_ => freezes at_.1), if_neg (fun at_ => phase at_.1)]

theorem exec_moveFreezeLimit_fails (freezes : s.reg Obj.MOVE_FREEZES c = 2) :
    exec (.moveFreezeLimit c) s = .next ((s.freezeTold c).moveFail c 5 0) := by
  have ends : s.freezeLimit c = (s.freezeTold c).moveFail c 5 0 := by
    rw [freezeLimit_late phase hold late, if_pos (by omega)]
  exact ((freezeTold_keepsCourse s c).trans (moveFail_keepsCourse _ c 5 0)).runs (f := fun t : State => t.freezeLimit c) hc ends

theorem moveFreezeLimit_fails (freezes : s.reg Obj.MOVE_FREEZES c = 2) :
    ∃ u : State, exec (.moveFreezeLimit c) s = .next u ∧ u.movePhase c = 7 ∧ u.reg Obj.MOVE_FREEZES c = 3 ∧
      (u.lop (s.reg Obj.MOVE_HANDLE c)).st = .failed := by
  have handle : (s.freezeTold c).reg Obj.MOVE_HANDLE c = s.reg Obj.MOVE_HANDLE c := by
    rw [reg_freezeTold s c c (by decide)]
    simp [Obj.MOVE_HANDLE, Obj.MOVE_PHASE, Obj.MOVE_FREEZES]
  have lop := lop_moveFail (s.freezeTold c) c 5 0
  have counted := (moveFail_endsMoves (s.freezeTold c) c 5 0).regs Obj.MOVE_FREEZES c (by decide) (by decide) (by decide)
  rw [handle] at lop
  rw [reg_freezeTold s c c (by decide), if_pos ⟨rfl, rfl⟩, freezes] at counted
  exact ⟨_, exec_moveFreezeLimit_fails hc phase hold late freezes, movePhase_moveFail _ c 5 0, counted, congrArg Lop.st lop⟩

end

theorem exec_moveCommitPoint (clean : s.moveDirty c = 0) (quiet : s.writeInFlight (s.moveRange c).1 (s.moveRange c).2 = false)
    (written : (s.mover c).inflight = 0) : exec (.moveCommitPoint c) s = .next (s.moveCommitted c) :=
  (moveCommitted_keepsCourse s c).runs (f := fun t : State => t.moveCommit c) hc (moveCommit_met phase hold clean quiet written)

theorem moveCommitPoint_commits (clean : s.moveDirty c = 0) (quiet : s.writeInFlight (s.moveRange c).1 (s.moveRange c).2 = false)
    (written : (s.mover c).inflight = 0) :
    ∃ u : State, exec (.moveCommitPoint c) s = .next u ∧ u.movePhase c = 5 ∧ u.reg Obj.RDR_STATE (s.moveRdr c) = 2 ∧
      u.reg Obj.RDR_COMMIT_TIME (s.moveRdr c) = s.now ∧
      u.move.torRdr.get none (s.moveRdr c, 0) = some (s.reg Obj.RDR_SRC (s.moveRdr c), s.reg Obj.RDR_DST (s.moveRdr c),
        s.reg Obj.RDR_SIZE (s.moveRdr c)) ∧
      (u.lop (s.reg Obj.MOVE_HANDLE c)).st = .committed ∧ (u.lop (s.reg Obj.MOVE_HANDLE c)).commit = s.now ∧
      s.SameRegs u [Obj.MOVE_PHASE, Obj.RDR_STATE, Obj.RDR_COMMIT_TIME] := by
  have reg (o i : Nat) := reg_moveCommitted s c o i
  have lop := lop_moveCommitted s c
  refine ⟨_, exec_moveCommitPoint hc phase hold clean quiet written, (reg Obj.MOVE_PHASE c).trans (if_pos ⟨rfl, rfl⟩), ?_, ?_,
    torRdr_moveCommitted s c, congrArg Lop.st lop, congrArg Lop.commit lop, fun o i other _ _ => ?_⟩
  · rw [reg]
    simp [Obj.RDR_STATE, Obj.MOVE_PHASE, Obj.RDR_COMMIT_TIME]
  · rw [reg]
    simp [Obj.MOVE_PHASE, Obj.RDR_COMMIT_TIME]
  · obtain ⟨phase, state, time⟩ : o ≠ Obj.MOVE_PHASE ∧ o ≠ Obj.RDR_STATE ∧ o ≠ Obj.RDR_COMMIT_TIME := by simpa using other
    rw [reg, if_neg (fun at_ => phase at_.1), if_neg (fun at_ => time at_.1), if_neg (fun at_ => state at_.1)]

end

/-! ### The end of a move (R242, R243) -/

theorem exec_redirectFlashWritten (runs : s.coreRuns 3 = true) (phase : s.movePhase c = 5)
    (others : ∀ d < 16, d ≠ c → s.movePhase d ≠ 5) : exec .redirectFlashWritten s = .next (s.inFlash.moveDone c) := by
  obtain ⟨pending, mode, sec⟩ := moveDone_keepsCourse s.inFlash c
  exact steady_eq_next (f := fun t : State => t.flashWritten) (flashWritten_one runs hc phase others) pending mode
    (congrArg SecSt.fuse sec)

theorem redirectFlashWritten_ends (runs : s.coreRuns 3 = true) (phase : s.movePhase c = 5)
    (others : ∀ d < 16, d ≠ c → s.movePhase d ≠ 5) :
    ∃ u : State, exec .redirectFlashWritten s = .next u ∧ u.movePhase c = 0 ∧ u.reg Obj.MOVE_HANDLE c = 0xFFFF ∧
      u.moveRdr c = 0xFF ∧ u.mover c = moveDflt ∧ (u.lop (s.reg Obj.MOVE_HANDLE c)).st = .done ∧
      (u.lop (s.reg Obj.MOVE_HANDLE c)).result = 0 ∧
      (∀ r < 64, s.reg Obj.RDR_STATE r = 2 → u.move.flashRdr.get none (r, 0) =
        some (s.reg Obj.RDR_SRC r, s.reg Obj.RDR_DST r, s.reg Obj.RDR_SIZE r)) := by
  have lop := lop_moveDone s.inFlash c
  have reg (o i : Nat) := reg_channelFreed (s.inFlash.doneTold c) c o i
  refine ⟨_, exec_redirectFlashWritten hc runs phase others, (movePhase_moveDone s.inFlash c c).trans (if_pos rfl),
    (reg Obj.MOVE_HANDLE c).trans (by simp [Obj.MOVE_HANDLE, Obj.MOVE_RDR]), (reg Obj.MOVE_RDR c).trans (if_pos ⟨rfl, rfl⟩),
    mover_setMover_self _ c _, congrArg Lop.st lop, congrArg Lop.result lop, fun r hr active => ?_⟩
  rw [flashRdr_moveDone]
  exact flashRdr_active hr active

theorem exec_moveUndoDone (phase : s.movePhase c = 6) (hold : s.fab.hold = []) :
    exec (.moveUndoDone c) s = .next ((s.undone c).channelFreed c) :=
  ((undone_keepsCourse s c).trans (channelFreed_keepsCourse _ c)).runs (f := fun t : State => t.moveUndo c) hc
    (moveUndo_aborting phase hold)

theorem moveUndoDone_frees (phase : s.movePhase c = 6) (hold : s.fab.hold = []) :
    ∃ u : State, exec (.moveUndoDone c) s = .next u ∧ u.movePhase c = 0 ∧ u.reg Obj.RDR_STATE (s.moveRdr c) = 0 ∧
      u.reg Obj.RDR_SIZE (s.moveRdr c) = 0 ∧ u.reg Obj.MOVE_HANDLE c = 0xFFFF ∧ u.moveDirty c = 0 ∧
      (u.lop (s.reg Obj.MOVE_HANDLE c)).st = .aborted ∧ (u.lop (s.reg Obj.MOVE_HANDLE c)).result = Ab.ABORTED := by
  have lop := (lop_channelFreed (s.undone c) c _).trans (lop_undone s c)
  have reg (o i : Nat) := reg_channelFreed (s.undone c) c o i
  obtain ⟨state, size⟩ := redirect_undone s c
  exact ⟨_, exec_moveUndoDone hc phase hold,
    (reg Obj.MOVE_PHASE c).trans (by simp [Obj.MOVE_PHASE, Obj.MOVE_HANDLE, Obj.MOVE_RDR]), state, size,
    (reg Obj.MOVE_HANDLE c).trans (by simp [Obj.MOVE_HANDLE, Obj.MOVE_RDR]), moveDirty_undone s c,
    congrArg Lop.st lop, congrArg Lop.result lop⟩

theorem exec_moveUndoDone_idle (aborting : s.movePhase c ≠ 6) (failed : s.movePhase c ≠ 7) : exec (.moveUndoDone c) s = .next s :=
  onUnit_eq_next (f := fun t : State => t.moveUndo c) hc (if_neg (by simp [aborting, failed])) rfl rfl rfl

end

/-- Settles O37: the copy of a granule and the error of its bitmap, the two ends of a pass and of a freeze, the commit point, the
redirects in flash, and the undo of a move. -/
theorem regionMoves : Obligations.RegionMoves := by
  unfold Obligations.RegionMoves
  exact ⟨fun s c g setNow hc phase live running due awake next allowed here =>
      granuleCopy_copies hc phase live running due awake next setNow allowed here,
    fun s c g searchBad clearBad setNow hc bad phase live running due awake next =>
      granuleCopy_fails hc phase live running due awake next setNow bad,
    fun s c hc phase live running last written dirty passes => movePassEnd_recopies hc phase live running last written dirty passes,
    fun s c hc phase live running last written few may => movePassEnd_freezes hc phase live running last written few may,
    fun s c hc phase hold freezes late => moveFreezeLimit_recopies hc phase hold late freezes,
    fun s c hc phase hold freezes late => moveFreezeLimit_fails hc phase hold late freezes,
    fun s c hc phase hold clean quiet written => moveCommitPoint_commits hc phase hold clean quiet written,
    fun s c hc runs phase others => redirectFlashWritten_ends hc runs phase others,
    fun s c hc phase hold => moveUndoDone_frees hc phase hold,
    fun s c hc aborting failed => exec_moveUndoDone_idle hc aborting failed⟩

end Sys2Proof.Machine
end
